-- ==== Sys2Proof/Word.lean ====
section
/-! DEFINITION. Words, bytes, identifiers and the plainest arithmetic on them (R4, R5, R7). -/

namespace Sys2Proof

/-- A byte at a host or byte-oriented interface (R5). -/
abbrev Byte := BitVec 8

/-- A bay, 0 to 95 (R7). -/
abbrev BayId := Fin 96

/-- A court, 0 to 15 (R7). -/
abbrev CourtId := Fin 16

/-- A mailbox of a court: 0 and 1 command, 2 event stream, 3 bulk. -/
abbrev MbxId := Fin 4

/-- A region, 0 to 15 (R7). -/
abbrev RegionId := Fin 16

/-- One bit per bay: bit b names bay b. -/
abbrev BayMask := BitVec 96

/-- One field of a message: its width in bits and its value. -/
abbrev Field := Nat × Nat

/-- A count of `w` bits that stays at its greatest value. -/
def satN (w x : Nat) : Nat := min x (2 ^ w - 1)

/-- One more on a saturating count of `w` bits. -/
def bump (w x : Nat) : Nat := satN w (x + 1)

/-- The signed value of the low `w` bits of `x` (two's complement). -/
def sval (w x : Nat) : Int :=
  if x % 2 ^ w < 2 ^ (w - 1) then ((x % 2 ^ w : Nat) : Int) else ((x % 2 ^ w : Nat) : Int) - (2 ^ w : Nat)

/-- The low `w` bits of a signed value (two's complement). -/
def ubits (w : Nat) (x : Int) : Nat := (x % ((2 ^ w : Nat) : Int)).toNat

/-- A value held between two limits. -/
def clampI (lo hi x : Int) : Int := max lo (min hi x)

/-- A signed value saturated to `w` bits. -/
def satI (w : Nat) (x : Int) : Int := clampI (-((2 ^ (w - 1) : Nat) : Int)) (((2 ^ (w - 1) : Nat) : Int) - 1) x

/-- Division rounded to the nearest, halves upward. -/
def rdiv (a : Int) (b : Nat) : Int := (2 * a + b) / (2 * b)

/-- Bits `lo` to `lo + n - 1` of a number. -/
def bitsOf (x lo n : Nat) : Nat := x / 2 ^ lo % 2 ^ n

/-- Bit `i` of a number. -/
def bitOf (x i : Nat) : Bool := x / 2 ^ i % 2 == 1

/-- 1 for true, 0 for false. -/
def b2n (b : Bool) : Nat := if b then 1 else 0

/-- Little-endian value of `n` bytes from byte `off` of a list; bytes beyond its end read as zero. -/
def leGet (l : List Byte) (off : Nat) : Nat → Nat
  | 0 => 0
  | n + 1 => (l.getD off 0).toNat + 256 * leGet l (off + 1) n

/-- The `n` bytes of a number, least significant first (R5). -/
def leBytes (x : Nat) : Nat → List Byte
  | 0 => []
  | n + 1 => BitVec.ofNat 8 x :: leBytes (x / 256) n

/-- The bay a number names, if it names one. -/
def bayOf (n : Nat) : Option BayId := if h : n < 96 then some ⟨n, h⟩ else none

/-- The court a number names, if it names one. -/
def courtOf (n : Nat) : Option CourtId := if h : n < 16 then some ⟨n, h⟩ else none

/-- The region of a bay (R7). -/
def regionOf (b : BayId) : RegionId := ⟨b.val / 6, by omega⟩

/-- Every bay in ascending order. -/
def allBays : List BayId := List.finRange 96

/-- Every court in ascending order. -/
def allCourts : List CourtId := List.finRange 16

/-- Every region in ascending order. -/
def allRegions : List RegionId := List.finRange 16

/-- The bays a mask names, ascending. -/
def baysIn (m : BayMask) : List BayId := allBays.filter fun b => m.getLsbD b.val

/-- The mask of one bay. -/
def bayBit (b : BayId) : BayMask := BitVec.ofNat 96 (2 ^ b.val)

/-- How many bits of a mask are set. -/
def popBays (m : BayMask) : Nat := (baysIn m).length

/-- Replace one element of a vector by a function of itself. -/
def vmod {α : Type} {n : Nat} (v : Vector α n) (i : Fin n) (f : α → α) : Vector α n := v.set i (f v[i])

/-- The value a key has in a list of pairs, or a default. -/
def agetD {α : Type} (l : List (Nat × α)) (k : Nat) (d : α) : α :=
  match l.find? (fun p => p.1 == k) with
  | some p => p.2
  | none => d

/-- Set the value of a key in a list of pairs. -/
def aset {α : Type} (l : List (Nat × α)) (k : Nat) (v : α) : List (Nat × α) :=
  (k, v) :: l.filter (fun p => p.1 != k)

/-- The total number of bits of a list of fields. -/
def fieldBits (fs : List Field) : Nat := (fs.map Prod.fst).sum

/-- Sum of a list of integers. -/
def isum (l : List Int) : Int := l.foldl (· + ·) 0

/-- Integer square root, rounded down. -/
def isqrt (n : Nat) : Nat := go n (n.log2 / 2 + 1) 0
where
  /-- Bit by bit from the highest candidate bit. -/
  go (n : Nat) : Nat → Nat → Nat
    | 0, r => if (r + 1) * (r + 1) ≤ n then r + 1 else r
    | k + 1, r => go n k (if (r + 2 ^ (k + 1)) * (r + 2 ^ (k + 1)) ≤ n then r + 2 ^ (k + 1) else r)

end Sys2Proof
end

