-- ==== Sys2Proof/Operand.lean ====
section
/-! DEFINITION. The operand types of the commands: where a request came from, cells, messages, frames. -/

namespace Sys2Proof

/-- Where a command's request came from: court, command mailbox, the position of its first reserved request field that
is not zero (0 where all are zero, R6, R82), whether its settings are armed at cycle 950 or later (R50), whether
its length is not that of its card (R85), and what its header shows: 0 nothing amiss, 1 a COURT or MBX that differs from the ring (R85), 2 a
reserved field that is not zero, or an HDR_VER or DIR that is not a request's (R75, log 132). -/
structure Origin where
  court : CourtId
  mbx : MbxId
  rsv : Nat
  late : Bool
  badLen : Bool
  hdr : Nat
  deriving DecidableEq, Repr

/-- A logical working cell: a cell of a bay set by its offset (R15), or a site cell (R16). -/
inductive CellId where
  | bay (b : BayId) (off : Fin 10)
  | site (r : RegionId) (k : Fin 4)
  deriving DecidableEq, Repr

/-- How a cell's tick work ended: the cycle of its completion signal (none: not signalled), the STORE_ID and the word address of a
poisoned word that it holds at cycle 999, and how many words it read from its region's queue (R38, R46, R132, R573). -/
structure TickDone where
  cycle : Option Nat
  poison : Option (Nat × Nat)
  reads : Nat
  deriving DecidableEq, Repr

/-- An access of a cell to a CRC unit (R138): configuration, running value, data word. -/
inductive CrcOp where
  | config (unit : Fin 4) (word : Nat)
  | setRun (unit : Fin 4) (run : Nat)
  | data (unit : Fin 4) (word : Nat)
  deriving DecidableEq, Repr

/-- A fabric transfer as it reaches a firewall (R21): header fields, payload words, whether it came from a cell of the
same region, and how many times its check word failed on a link (R142). -/
structure Transfer where
  court : CourtId
  src : RegionId
  dst : RegionId
  cls : Nat
  addr : Nat
  op : Nat
  len : Nat
  mgmt : Bool
  ownCell : Option CellId
  words : List Nat
  linkFails : Nat
  deriving DecidableEq, Repr

/-- A packet offered to a queue (R129, R130): its words, whether its check passes, whether its length agrees with its
header, whether it holds a poisoned word, whether its sender aborts it. -/
structure Packet where
  words : List Nat
  checkOk : Bool
  lenOk : Bool
  poisoned : Bool
  aborted : Bool
  deriving DecidableEq, Repr

/-- What the scrubber finds in a word (R127, R128). -/
inductive ScrubFinding where
  | clean | single | double
  deriving DecidableEq, Repr

/-- A PTP Sync message as taken: master's origin time (TAI ns), the site time of its local arrival (ns), the current UTC
offset (TAI - UTC, seconds) that the master distributes, whether it is valid. -/
structure SyncMsg where
  masterNs : Nat
  arrivalNs : Nat
  utcOffset : Int
  valid : Bool
  deriving DecidableEq, Repr

/-- A tick control block as received (R607), with whether its CRC passes and its arrival cycle. -/
structure Tcb where
  tick : Nat
  epoch : Nat
  state : Nat
  server : Bool
  position : Nat
  safeRun : Bool
  yields : Bool
  rxMask : BayMask
  svcMask : BayMask
  stopSet : BayMask
  chipIn : Nat
  mirrorSeq : Nat
  regionOk : BitVec 16
  digests : List Nat
  crcOk : Bool
  cycle : Nat
  deriving DecidableEq, Repr

/-- A frame on a ring port (R628, R630, R652). -/
inductive RingFrame where
  | claim (id : Nat)
  | announce (id : Nat)
  | check (hops : Nat)
  | bundle (hash op offset : Nat) (data : List Byte)
  | safe (src dst : Nat) (bytes : List Byte)
  | ptp (bytes : List Byte)
  | other (etherType : Nat)
  deriving DecidableEq, Repr

/-- A management answer in CONFIG_RSP (R175). -/
structure MgmtRsp where
  tag : Nat
  status : Nat
  addr : Nat
  data : Nat
  fwNext : Nat
  deriving DecidableEq, Repr

/-- A management request in CONFIG (R175). -/
structure MgmtReq where
  op : Nat
  tag : Nat
  addr : Nat
  data : Nat
  deriving DecidableEq, Repr

/-- An uplink frame as it reaches the intake (R157, R160, R161). `crcOk` says whether its CRC passes, `dropped` whether
the intake queue dropped it (R130); `ctrl` holds, sample by sample, the 16 control channels. -/
structure UpFrame where
  crcOk : Bool
  dropped : Bool
  tick : Nat
  alive : Nat
  ftype : Nat
  hstate : Nat
  stopped : Bool
  localTrip : Bool
  selected : Nat
  dlBad : Nat
  dtClamp : Nat
  legRej : Nat
  appliedTick : Nat
  temp : Int
  dispGen : Nat
  ctrl : List (List Int)
  plc : List Nat
  agc : Nat
  clip : Nat
  metro : List Int
  metroValid : Nat
  switchI : List Nat
  residual : List Int
  insulation : List Int
  earthStatus : Nat
  rfBb : List Nat
  deriving DecidableEq, Repr

/-- The command of one leg (R162): four targets and four edge times. -/
structure LegCmd where
  tgt : List Nat
  edge : List Nat
  deriving DecidableEq, Repr

/-- The whistle of a downlink frame (R163). `crcOk` says whether W_CRC passes. -/
structure Whistle where
  order : Nat
  scope : Nat
  cause : Nat
  epoch : Nat
  node : Nat
  server : Bool
  crcOk : Bool
  deriving DecidableEq, Repr

/-- The DISPLAY section of a downlink frame (R162). -/
structure DispSection where
  line : Nat
  gen : Nat
  flags : Nat
  words : List Nat
  deriving DecidableEq, Repr

/-- The FIRMWARE section of a downlink frame (R162). -/
structure FwSection where
  xfer : Nat
  offset : Nat
  data : List Byte
  deriving DecidableEq, Repr

/-- A downlink frame (R157, R162). `crcOk` says whether its CRC passes, `early` whether its command head arrives before
the governed tick begins (R167). -/
structure DownFrame where
  crcOk : Bool
  early : Bool
  tick : Nat
  alive : Nat
  ftype : Nat
  whistle : Whistle
  legs : List LegCmd
  sw : List Nat
  rearm : Bool
  plcTx : List Nat
  plcCtl : Nat
  pilotMode : Nat
  pilotDuty : Nat
  disp : Option DispSection
  ident : List Nat
  config : Option MgmtReq
  fw : Option FwSection
  deriving DecidableEq, Repr

/-- A pulse output: a ball PULSE0 to PULSE7, or the test LED of a bay (R382, R385). -/
inductive PulsePort where
  | ball (n : Fin 8)
  | led (b : BayId)
  deriving DecidableEq, Repr

/-- A ring port. -/
inductive RingPort where
  | east | west
  deriving DecidableEq, Repr

/-- One evaluation of the pilot as measured from the decimated samples (R188): the sample tick of its last sample, the mean
of the high plateau or steady window and of the low plateau in mV, the spread of each in mV and the number of its samples,
the deviation of the rising edge from the period start and the measured high time in ns. -/
structure PilotMeas where
  tick : Nat
  vHi : Int
  vLo : Int
  spreadHi : Nat
  spreadLo : Nat
  nHi : Nat
  nLo : Nat
  riseNs : Int
  highNs : Int
  deriving DecidableEq, Repr

/-- A Green PHY frame as PLC cell B has it after decoding (R196): the checks, the modulation, the sender, whether it asks for
an acknowledgement, the mean SNR in 0.25 dB, the data it carries. -/
structure PlcRx where
  fcOk : Bool
  robo : Bool
  payloadOk : Bool
  src : Nat
  ack : Bool
  snr : Nat
  data : List Byte
  deriving DecidableEq, Repr

/-- A cipher suite a vehicle offers (R219). -/
inductive TlsSuite where
  | ecdhCbc | ecdheCbc | aes256Gcm | other
  deriving DecidableEq, Repr

/-- A group a vehicle offers (R219). -/
inductive TlsGroup where
  | secp256r1 | secp521r1 | other
  deriving DecidableEq, Repr

/-- A signature scheme a vehicle offers (R219). -/
inductive TlsSig where
  | p256Sha256 | p521Sha512 | ed448 | other
  deriving DecidableEq, Repr

/-- A TLS handshake (R219): the version (12 or 13), what the vehicle offers, and how it ends on the vehicle's side: none for
well, else the alert it sends. -/
structure TlsHello where
  version : Nat
  suites : List TlsSuite
  groups : List TlsGroup
  sigs : List TlsSig
  alert : Option Nat
  deriving DecidableEq, Repr

/-- A decoded V2G request (R217, R220, R224), with the values the session uses. `offers` are the protocols of the vehicle by
the codes of R239, each with its priority, 1 the highest. The authorization of ISO 15118-20 carries the contract chain itself. -/
inductive V2gReq where
  | undecodable
  | tooLong
  | unsupported
  | appProtocol (offers : List (Nat × Nat))
  | sessionSetup (evccid : Nat)
  | serviceDiscovery
  | serviceSelection (service : Nat) (scheduled contract : Bool)
  | paymentDetails (chain emaid : List Byte)
  | authorization (chain emaid proof : List Byte)
  | chargeParameters (iMax iDis vMax : Nat)
  | cableCheck
  | preCharge (target : Nat)
  | powerStart
  | powerStop
  | powerRenegotiate
  | chargeLoop (target : Int) (iMax iDis : Nat)
  | weldingDetection
  | sessionStop
  | certificate (update : Bool) (body : List Byte)
  deriving DecidableEq, Repr

/-- What a background slice brings (R39): nothing; for the PLC cells a received symbol with the number of its samples that
are excised or blanked (R202), a preamble found, a receive gain chosen, symbols built for transmission; a cell's access to a
CRC unit (R138). -/
inductive BgWork where
  | idle
  | symbol (marked : Nat)
  | preamble
  | rxGain (g : Nat)
  | transmit (ticks : List (List Nat))
  | crc (op : CrcOp)
  deriving DecidableEq, Repr

/-- A card that completes selection (R250 to R253): its type, whether it is ISO-DEP, its UID or PUPI, its answer to SELECT by
name with SW 90 00. -/
structure CardFound where
  typeB : Bool
  isoDep : Bool
  uid : List Byte
  app : Option (List Byte)
  deriving DecidableEq, Repr

/-- How a card exchange ends (R249 to R254, R270). -/
inductive CardResult where
  | poll (cards : List CardFound) (error : Bool)
  | presence (answered : Bool)
  | apdu (sw : Nat) (data : List Byte)
  | apduFailed
  | apduTimeout (gone : Bool)
  deriving DecidableEq, Repr

/-- What the safety unit samples in one microsecond (R481): the raw levels of SIN0 to SIN23, ten samples of the encoder lines (of
channel n bit 3n ENCA, bit 3n + 1 ENCB, bit 3n + 2 ENCOK), and the readbacks (bit p SRB, bit 8 + p SRL). -/
structure SafeSample where
  raw : Nat
  enc : List Nat
  rb : Nat
  deriving DecidableEq, Repr

/-- A safe connection (R517, R525): one of the eight of the configuration, or the one to a bay head. -/
inductive SafePort where
  | conn (c : Fin 8)
  | bay (b : BayId)
  deriving DecidableEq, Repr

/-- How a KYT slot is classified (R259). -/
inductive KytSlot where
  | single (handle : Nat)
  | collision
  | empty
  deriving DecidableEq, Repr

/-- What a twin tells the other of itself (R615, R623, R656 to R658): its serial and position, whether it serves, its epoch, its manifest hash
and Myavat major version, whether its safety unit is in RUN, its configuration hash, the court generations in force and burned, whether a
region is in region fault, its self-check (R660), whether it shows READY. -/
structure PeerInfo where
  serial : Nat
  server : Bool
  epoch : Nat
  manifest : Nat
  major : Nat
  safeRun : Bool
  safeHash : Nat
  gens : List Nat
  burned : List Nat
  regionFault : Bool
  selfCheck : Nat
  ready : Bool
  deriving DecidableEq, Repr

/-- An input that the server mirrors to the returner (R608): a mailbox request with the host memory it reads, site time with its
adjustment and the PTP UTC offset, the number of the next random draw, a display frame read for a bay, how the returner has answered a safety
configuration load (R534). -/
inductive MirrorInput where
  | request (court : CourtId) (mbx : MbxId) (bytes : List Byte) (reads : List (List Byte))
  | time (siteEpoch : Nat) (epochSet : Bool) (freqPpb offsetNs : Int) (utcOffset : Option Int)
  | draws (next : Nat)
  | lines (b : BayId) (img : Option (List (List Nat)))
  | loaded (status detail : Nat)
  deriving DecidableEq, Repr

/-- A unit of a cut-in (R625): the bay cells but the meter, the site cells of a region, or a meter cell. -/
inductive CutUnit where
  | bay (b : BayId) | site (r : RegionId) | meter (b : BayId)
  deriving DecidableEq, Repr

/-- What the server sends a returner in a join (R624): a bay table entry, a court with its resources, an event mask, a mailbox's place, a
calibration table, the site's limits, the time configuration, a purpose generation, the site root, a legal configuration, the tick count,
the settings generations, a mailbox's EXPECT_SEQ; in a swap (R658) also the legal working copy, the event controller's settings, a mailbox's indices
and cached responses. -/
inductive JoinItem where
  | entry (b : BayId) (bytes : List Byte)
  | court (c : CourtId) (sup region : Nat) (grant : BayMask)
  | mask (c : CourtId) (mask : BitVec 512)
  | place (c : CourtId) (m : MbxId) (inBase outBase cfg : Nat)
  | cal (b : BayId) (bytes : List Byte) (hash : Nat)
  | ledger (imp exp res peak : Nat) (floor_ : Int) (bmax btime excess : Nat)
  | timeCfg (source domain transport stepUs : Nat)
  | purpose (c : CourtId) (p g : Nat)
  | siteRoot (value : Nat)
  | legal (sliding : Bool) (period sub threshold alg : Nat) (offset : Int) (hash : Nat)
  | tick (n : Nat)
  | gens (site : Nat) (bays : List Nat)
  | expect_ (c : CourtId) (m : MbxId) (seq : Nat)
  | legalCopy (bytes : List Byte)
  | events (en : BitVec 512) (lineEn : Bool) (route : Nat) (holdoff : List Nat)
  | indices (c : CourtId) (m : MbxId) (inProd inCons outProd outCons outSeq : Nat)
  | cached (c : CourtId) (m : MbxId) (seq opcode : Nat) (fields : List Field)
  deriving DecidableEq, Repr

/-- What a start finds (R644): the straps HOSTSEL, HOSTBOOT, TWIN_EN and TWIN_POS, the physical cells that fail their self-test (block 0 to 127, place 0 to
8), the flash slots that cannot be read, whether the scorebook's test of its store fails (R595). -/
structure StartIn where
  hostSel : Fin 4
  hostBoot : Bool
  twinEn : Bool
  twinPos : Fin 2
  failing : List (Nat × Nat)
  readFails : List Nat
  bookBad : Bool
  deriving DecidableEq, Repr

end Sys2Proof
end

