-- ==== Sys2Proof/Syntax.lean ====
section
/-! DEFINITION. The commands of the block: one constructor for each row of spec/opcode_table.json. -/

namespace Sys2Proof

/-- One command or happening of the QN960 (spec/opcode_table.json, in its order). -/
inductive Instr where
  /-- POWER_ON_RESET (R637). -/
  | powerOnReset (input : StartIn)
  /-- PIN_RESET (R637). -/
  | pinReset (input : StartIn)
  /-- SOFT_RESET (R638). -/
  | softReset (input : StartIn)
  /-- WDOG_RESET (R637). -/
  | wdogReset (input : StartIn)
  /-- SELF_CHECK (R648). -/
  | selfCheck
  /-- INTAKE_PUBLISH (R43). -/
  | intakePublish
  /-- UPLINK_FRAME (R170). -/
  | uplinkFrame (b : BayId) (f : UpFrame)
  /-- CELL_TICK_WORK (R38). -/
  | cellTickWork (c : CellId) (d : TickDone) (line : Option (List Nat))
  /-- BACKGROUND_SLICE (R39). -/
  | backgroundSlice (c : CellId) (w : BgWork)
  /-- OUTLET_BUILD (R46). -/
  | outletBuild
  /-- TICK_COMMIT (R46). -/
  | tickCommit
  /-- SETTINGS_EFFECTIVE (R50). -/
  | settingsEffective
  /-- MBX_REQUEST (R85). -/
  | mbxRequest (c : CourtId) (m : MbxId) (bytes : List Byte) (late : Bool) (reads : List (List Byte))
  /-- OUTBOUND_WRITE (R80). -/
  | outboundWrite (c : CourtId) (m : MbxId)
  /-- EVENT_BATCH_WRITE (R88). -/
  | eventBatchWrite (c : CourtId)
  /-- MBX_BELL_INBOUND (R79). -/
  | mbxBellInbound (c : CourtId) (m : MbxId) (index : Nat)
  /-- MBX_BELL_OUTBOUND (R79). -/
  | mbxBellOutbound (c : CourtId) (m : MbxId) (index : Nat)
  /-- MBX_OPEN (R77). -/
  | mbxOpen (m : MbxId)
  /-- MBX_CLOSE (R77). -/
  | mbxClose (m : MbxId)
  /-- BULK_PUT (R89). -/
  | bulkPut (o : Origin) (num off : Nat) (first last : Bool) (data : List Byte)
  /-- FLASH_PUT_DONE (R90). -/
  | flashPutDone (verified : Bool)
  /-- BULK_TRANSFER_EXPIRE (R90). -/
  | bulkTransferExpire (c : CourtId) (num : Nat)
  /-- HOST_READ_FAIL (R102). -/
  | hostReadFail (bit : Fin 3) (served : Fin 4) (c : CourtId)
  /-- PCIE_HOT_RESET (R103). -/
  | pcieHotReset
  /-- PERST_ASSERT (R699). -/
  | perstAssert
  /-- REGISTER_WRITE (R104). -/
  | registerWrite (offset value : Nat)
  /-- READ_CLEAR (R8). -/
  | readClear (offset : Nat)
  /-- TICK_LO_READ (R36). -/
  | tickLoRead
  /-- EVT_ACK (R120). -/
  | evtAck (src count : Nat)
  /-- HOLDOFF_EXPIRE (R119). -/
  | holdoffExpire (g : Fin 32)
  /-- EVT_WAKE_WRITE (R123). -/
  | evtWakeWrite (idx : Fin 32) (value : Nat)
  /-- EVT_WAKE_COMMIT (R123). -/
  | evtWakeCommit
  /-- DEV_WAKE_WRITE (R681). -/
  | devWakeWrite (value : Nat)
  /-- FABRIC_TRANSFER (R27). -/
  | fabricTransfer (t : Transfer)
  /-- QUEUE_PACKET (R129). -/
  | queuePacket (r : Option RegionId) (p : Packet)
  /-- SCRUB (R128). -/
  | scrub (id word : Nat) (f : ScrubFinding)
  /-- PTP_SYNC (R58). -/
  | ptpSync (m : SyncMsg)
  /-- SITE_TIME_STEP (R58). -/
  | siteTimeStep
  /-- TIME_LOCKED (R59). -/
  | timeLocked
  /-- SYNC_TIMEOUT (R59). -/
  | syncTimeout
  /-- TIME_SET_APPLY (R62). -/
  | timeSetApply
  /-- LEGAL_TIME_VALID (R410). -/
  | legalTimeValid
  /-- SIGNAL_DETECT (R171). -/
  | signalDetect (b : BayId)
  /-- BLOCK_LOCK_GAINED (R151). -/
  | blockLockGained (b : BayId)
  /-- BLOCK_LOCK_LOST (R174). -/
  | blockLockLost (b : BayId)
  /-- ALIGNMENT_BLOCK_RX (R153). -/
  | alignmentBlockRx (b : BayId) (pos tick : Nat)
  /-- LOCK_TIMEOUT (R171). -/
  | lockTimeout (b : BayId)
  /-- MEASURE_TIMEOUT (R171). -/
  | measureTimeout (b : BayId)
  /-- DOWN_HOLD_EXPIRE (R171). -/
  | downHoldExpire (b : BayId)
  /-- TRAINING_ANSWER (R172). -/
  | trainingAnswer (b : BayId) (seq roundTrip turnPs : Nat) (crcOk : Bool)
  /-- CONFIG_RESPONSE (R175). -/
  | configResponse (b : BayId) (r : MgmtRsp)
  /-- CONFIG_RETRY_TIMEOUT (R175). -/
  | configRetryTimeout (b : BayId)
  /-- LINK_LOST (R174). -/
  | linkLost (b : BayId)
  /-- HEAD_FW_LOADED (R181). -/
  | headFwLoaded (b : BayId)
  /-- HEAD_FW_TIMEOUT (R181). -/
  | headFwTimeout (b : BayId)
  /-- HEAD_REJECT (R182). -/
  | headReject (b : BayId)
  /-- HEAD_POWER_UP (R168). -/
  | headPowerUp (b : BayId) (fwWord : Nat)
  /-- HEAD_FRAME_APPLY (R167). -/
  | headFrameApply (b : BayId) (t : Nat) (f0 f1 : Option DownFrame) (trips : Nat)
  /-- HEAD_HELD_LIMIT (R167). -/
  | headHeldLimit (b : BayId)
  /-- HEAD_PILOT_HOLD_LIMIT (R186). -/
  | headPilotHoldLimit (b : BayId)
  /-- HEAD_IDENT_HOLD_LIMIT (R247). -/
  | headIdentHoldLimit (b : BayId)
  /-- HEAD_WHISTLE_STOP (R168). -/
  | headWhistleStop (b : BayId) (p : Fin 2) (scope : Nat)
  /-- HEAD_RELEASE (R168). -/
  | headRelease (b : BayId)
  /-- HEAD_CONFIG_REQUEST (R175). -/
  | headConfigRequest (b : BayId) (p : Fin 2) (r : MgmtReq)
  /-- HEAD_PORT_OUT_OF_SERVICE (R617). -/
  | headPortOutOfService (b : BayId) (p : Fin 2) (lost : Bool)
  /-- HEAD_SAFE_FRAME (R526). -/
  | headSafeFrame (b : BayId) (p : Fin 2) (demand ok : Bool)
  /-- PILOT_EVALUATION (R188). -/
  | pilotEvaluation (b : BayId) (m : PilotMeas)
  /-- PP_EVALUATION (R195). -/
  | ppEvaluation (b : BayId) (tick : Nat) (mean : Int)
  /-- PLC_FRAME_RX (R196). -/
  | plcFrameRx (b : BayId) (f : PlcRx)
  /-- SLAC_PARM_REQ (R203). -/
  | slacParmReq (b : BayId) (tick runId mac : Nat)
  /-- START_ATTEN_CHAR (R205). -/
  | startAttenChar (b : BayId) (tick runId : Nat)
  /-- MNBC_SOUND (R205). -/
  | mnbcSound (b : BayId) (tick runId count : Nat) (groups : List Nat)
  /-- SLAC_MATCH_REQ (R207). -/
  | slacMatchReq (b : BayId) (runId : Nat)
  /-- SLAC_VALIDATE (R203). -/
  | slacValidate (b : BayId)
  /-- SLAC_SLOT_ASSIGN (R204). -/
  | slacSlotAssign
  /-- SLAC_DECISION (R206). -/
  | slacDecision (idx : Fin 16)
  /-- SLAC_SLOT_FREE (R204). -/
  | slacSlotFree (idx : Fin 16)
  /-- SLAC_MATCH_TIMEOUT (R208). -/
  | slacMatchTimeout (b : BayId)
  /-- SLAC_ASSIGN_LAPSE (R209). -/
  | slacAssignLapse
  /-- SESSION_PILOT_CHANGE (R224). -/
  | sessionPilotChange (b : BayId)
  /-- SDP_REQUEST (R218). -/
  | sdpRequest (b : BayId) (secure : Bool)
  /-- TLS_HANDSHAKE (R219). -/
  | tlsHandshake (b : BayId) (h : TlsHello)
  /-- V2G_REQUEST (R220). -/
  | v2gRequest (b : BayId) (r : V2gReq)
  /-- CONTACTOR_CONFIRM_TIMEOUT (R224). -/
  | contactorConfirmTimeout (b : BayId)
  /-- WELD_VERDICT_TIMEOUT (R224). -/
  | weldVerdictTimeout (b : BayId)
  /-- MATCHING_TIMEOUT (R225). -/
  | matchingTimeout (b : BayId)
  /-- MATCH_PAUSE_END (R225). -/
  | matchPauseEnd (b : BayId)
  /-- SESSION_TIMEOUT (R231). -/
  | sessionTimeout (b : BayId) (row : Nat)
  /-- AUTH_TIMEOUT (R229). -/
  | authTimeout (b : BayId)
  /-- TOKEN_HOLD_EXPIRE (R229). -/
  | tokenHoldExpire (b : BayId)
  /-- AC_OVERCURRENT (R227). -/
  | acOvercurrent (b : BayId)
  /-- BASIC_PAUSE_TIMEOUT (R228). -/
  | basicPauseTimeout (b : BayId)
  /-- BASIC_PWM_RESTORE (R228). -/
  | basicPwmRestore (b : BayId)
  /-- FAULT_PILOT_TIMER (R223). -/
  | faultPilotTimer (b : BayId)
  /-- TLS_CLOSE_TIMER (R232). -/
  | tlsCloseTimer (b : BayId)
  /-- CARD_POLL (R251). -/
  | cardPoll (b : BayId)
  /-- CARD_EXCHANGE_DONE (R249). -/
  | cardExchangeDone (b : BayId) (r : CardResult)
  /-- CARD_PRESENCE_CHECK (R254). -/
  | cardPresenceCheck (b : BayId)
  /-- CARD_HOLD_EXPIRE (R254). -/
  | cardHoldExpire (b : BayId)
  /-- KYT_INVENTORY (R261). -/
  | kytInventory (b : BayId)
  /-- KYT_SLOT (R259). -/
  | kytSlot (b : BayId) (c : KytSlot)
  /-- KYT_ACK_REPLY (R262). -/
  | kytAckReply (b : BayId) (handle id status blocks : Nat) (rssi : Int) (crcOk : Bool)
  /-- KYT_ACK_TIMEOUT (R262). -/
  | kytAckTimeout (b : BayId)
  /-- KYT_READ_REPLY (R263). -/
  | kytReadReply (b : BayId) (got : Bool) (rstatus : Nat) (data : List Byte) (crcOk : Bool)
  /-- KYT_WRITE_REPLY (R263). -/
  | kytWriteReply (b : BayId) (got : Bool) (rstatus written : Nat) (crcOk : Bool)
  /-- TAG_ENTRY_EXPIRE (R266). -/
  | tagEntryExpire (b : BayId)
  /-- MOD_BOOT_DONE (R286). -/
  | modBootDone (b : BayId)
  /-- GAIN_SET_RETURN (R311). -/
  | gainSetReturn (b : BayId) (l : Fin 4)
  /-- LOOP_TUNE_DONE (R313). -/
  | loopTuneDone (b : BayId)
  /-- SHORT_RETRY (R325). -/
  | shortRetry (b : BayId) (k : Fin 12)
  /-- RETRY_COUNT_RESET (R325). -/
  | retryCountReset (b : BayId) (k : Fin 12)
  /-- OPEN_LOAD_DETECT (R326). -/
  | openLoadDetect (b : BayId) (k : Fin 12)
  /-- UV_RESTART (R328). -/
  | uvRestart (b : BayId)
  /-- FREEWHEEL_VERDICT (R330). -/
  | freewheelVerdict (b : BayId) (k : Fin 12)
  /-- CONTACTOR_LOST (R331). -/
  | contactorLost (b : BayId)
  /-- WELD_BLOCK (R332). -/
  | weldBlock (b : BayId)
  /-- EARTH_TRIP (R355). -/
  | earthTrip (b : BayId)
  /-- RC_TEST_START (R346). -/
  | rcTestStart (b : BayId)
  /-- RC_TEST_END (R346). -/
  | rcTestEnd (b : BayId)
  /-- RC_TEST_OVERDUE (R346). -/
  | rcTestOverdue (b : BayId)
  /-- IMD_HALF_SWITCH (R347). -/
  | imdHalfSwitch (b : BayId)
  /-- IMD_CYCLE_END (R348). -/
  | imdCycleEnd (b : BayId)
  /-- ARC_SPECTRUM (R351). -/
  | arcSpectrum (b : BayId) (power : List Nat) (mag : Nat)
  /-- ARC_SELFTEST (R354). -/
  | arcSelftest (b : BayId) (ok : Bool)
  /-- METER_INDEX (R377). -/
  | meterIndex (b : BayId)
  /-- ENERGY_RECORD (R400). -/
  | energyRecord (b : BayId)
  /-- METER_CELL_TIMEOUT (R378). -/
  | meterCellTimeout (b : BayId)
  /-- PULSE_START (R384). -/
  | pulseStart (p : PulsePort)
  /-- PULSE_END (R383). -/
  | pulseEnd (p : PulsePort)
  /-- S0_PULSE (R386). -/
  | s0Pulse (inp : Fin 8) (inactive active : Nat)
  /-- DEMAND_INTERVAL_END (R405). -/
  | demandIntervalEnd
  /-- TARIFF_SWITCH (R402). -/
  | tariffSwitch
  /-- CALENDAR_ACTIVATE (R404). -/
  | calendarActivate
  /-- SESSION_READING (R407). -/
  | sessionReading (b : BayId)
  /-- MIRROR_SWEEP (R419). -/
  | mirrorSweep
  /-- PFAIL_FALL (R420). -/
  | pfailFall
  /-- FINAL_SWEEP_DONE (R420). -/
  | finalSweepDone
  /-- DISP_FRAME_READ (R452). -/
  | dispFrameRead (b : BayId) (img : Option (List (List Nat)))
  /-- DISP_STRESS_MINUTE (R449). -/
  | dispStressMinute
  /-- DISP_GAIN_DAILY (R450). -/
  | dispGainDaily
  /-- LEDGER_FALLBACK (R470). -/
  | ledgerFallback (b : BayId)
  /-- LEDGER_STALE (R471). -/
  | ledgerStale
  /-- LEDGER_OVER (R472). -/
  | ledgerOver
  /-- SAFETY_STARTUP_DONE (R483). -/
  | safetyStartupDone (ok : Bool) (mon : Nat)
  /-- SAFETY_LOOP (R481). -/
  | safetyLoop (m1 m2 : SafeSample) (ns : Nat)
  /-- DISCREPANCY_TIMEOUT (R491). -/
  | discrepancyTimeout (f : Fin 16) (second : Bool)
  /-- STOP1_EXPIRE (R495). -/
  | stop1Expire (f : Fin 16)
  /-- TWO_HAND_WINDOW_EXPIRE (R498). -/
  | twoHandWindowExpire (f : Fin 16)
  /-- MUTE_LIMIT (R499). -/
  | muteLimit (f : Fin 16)
  /-- RESET_EDGE (R511). -/
  | resetEdge (idx : Fin 24)
  /-- RESET_STUCK (R510). -/
  | resetStuck (idx : Fin 24)
  /-- ENC_FAULT (R501). -/
  | encFault (n : Fin 4)
  /-- ENC_REFERENCE (R502). -/
  | encReference (n : Fin 4)
  /-- PAIR_SOH_ON (R506). -/
  | pairSohOn (p : Fin 8) (srb srl : Bool)
  /-- PAIR_TEST (R507). -/
  | pairTest (p : Fin 8) (first second : Nat)
  /-- MONITOR_FAULT (R482). -/
  | monitorFault (mon : Nat)
  /-- STOP_BUS_TOGGLE_LOST (R484). -/
  | stopBusToggleLost (r : RegionId)
  /-- SAFE_FRAME_SEND (R519). -/
  | safeFrameSend (p : SafePort)
  /-- SAFE_FRAME_RX (R520). -/
  | safeFrameRx (p : SafePort) (bytes : List Byte)
  /-- SAFE_WATCHDOG (R520). -/
  | safeWatchdog (p : SafePort)
  /-- SAFE_CONN_RESTART (R521). -/
  | safeConnRestart (p : SafePort)
  /-- CONFIG_LOCKOUT_END (R532). -/
  | configLockoutEnd
  /-- TRNG_READY (R557). -/
  | trngReady
  /-- TRNG_STARTUP_FAIL (R557). -/
  | trngStartupFail
  /-- TRNG_CONTINUOUS_FAIL (R557). -/
  | trngContinuousFail
  /-- TRNG_RETRY_RESET (R557). -/
  | trngRetryReset
  /-- DRBG_RESEED (R556). -/
  | drbgReseed (predRes : Bool)
  /-- DEBUG_CHALLENGE_EXPIRE (R550). -/
  | debugChallengeExpire
  /-- CELL_FAILURE (R577). -/
  | cellFailure (c : CellId) (cause data0 data1 copy : Nat)
  /-- SPARE_RESUME (R577). -/
  | spareResume (c : CellId)
  /-- DEGRADED_CLEAR (R575). -/
  | degradedClear (g : Nat)
  /-- GUARD_STALE (R576). -/
  | guardStale (b : BayId)
  /-- BLOCK_STORE_LOST (R583). -/
  | blockStoreLost (r : RegionId) (block : Fin 8) (cond : Nat)
  /-- ASSIST_JOB_FAULT (R584). -/
  | assistJobFault (r : RegionId) (block : Fin 8) (assist : Fin 4) (symbol : Option BayId)
  /-- REGION_FAULT (R586). -/
  | regionFault (r : RegionId) (cause : Nat)
  /-- ISLAND_COPY_DONE (R594). -/
  | islandCopyDone
  /-- WATCHDOG_STAGE1 (R587). -/
  | watchdogStage1 (core : Nat) (tj : Int)
  /-- WATCHDOG_STAGE2 (R587). -/
  | watchdogStage2 (core : Nat)
  /-- REFCLK_LOSS (R587). -/
  | refclkLoss
  /-- REFCLK_RETURN (R587). -/
  | refclkReturn
  /-- TEMP_WARNING (R587). -/
  | tempWarning (tj : Int)
  /-- THERMAL_STOP (R587). -/
  | thermalStop (tj : Int)
  /-- TICK_CONTROL_BLOCK (R607). -/
  | tickControlBlock (t : Tcb) (acks : List (Nat × Nat))
  /-- MIRROR_MESSAGE (R611). -/
  | mirrorMessage (seq tick : Nat) (input : MirrorInput)
  /-- MIRROR_ACK_TIMEOUT (R611). -/
  | mirrorAckTimeout
  /-- TWIN_RESEND_TIMEOUT (R613). -/
  | twinResendTimeout (cls seq : Nat)
  /-- TWIN_LINK_UP (R615). -/
  | twinLinkUp (p : PeerInfo)
  /-- HEARTBEAT_CHECK (R619). -/
  | heartbeatCheck (twhbInverted : Bool)
  /-- TAKEOVER (R620). -/
  | takeover
  /-- HANDOVER_APPLY (R621). -/
  | handoverApply
  /-- YIELD_TAKE (R622). -/
  | yieldTake
  /-- JOIN_PHASE_DONE (R624). -/
  | joinPhaseDone (items : List JoinItem)
  /-- CUT_IN (R625). -/
  | cutIn (u : CutUnit)
  /-- JOIN_TIMEOUT (R627). -/
  | joinTimeout
  /-- AUTO_REJOIN (R627). -/
  | autoRejoin
  /-- KICKOFF_WAIT_END (R630). -/
  | kickoffWaitEnd
  /-- RING_CLAIM (R630). -/
  | ringClaim (p : RingPort) (id : Nat)
  /-- RING_MASTER (R630). -/
  | ringMaster
  /-- RING_ANNOUNCE (R630). -/
  | ringAnnounce (p : RingPort) (id : Nat)
  /-- RING_CHECK_SEND (R631). -/
  | ringCheckSend
  /-- RING_CHECK (R631). -/
  | ringCheck (p : RingPort) (hops : Nat)
  /-- RING_CHECK_LOST (R631). -/
  | ringCheckLost
  /-- RING_FRAME_FORWARD (R628). -/
  | ringFrameForward (p : RingPort) (f : RingFrame)
  /-- RING_BUNDLE_FRAME (R652). -/
  | ringBundleFrame (p : RingPort) (hash op offset : Nat) (data : List Byte)
  /-- TRIAL_TIMEOUT (R655). -/
  | trialTimeout
  /-- UPDATE_SWAP_APPLY (R658). -/
  | updateSwapApply (answered : Bool) (items : List JoinItem)
  /-- COURT_RESTART_DONE (R93). -/
  | courtRestartDone (c : CourtId)
  /-- COURT_TEARDOWN_DONE (R94). -/
  | courtTeardownDone (c : CourtId)
  /-- ISLAND_SUPPLY_SWITCH (R667). -/
  | islandSupplySwitch (toVbat : Bool)
  /-- CRYSTAL_STOP (R668). -/
  | crystalStop
  /-- CRYSTAL_RESUME (R668). -/
  | crystalResume
  /-- ISLAND_BROWNOUT (R669). -/
  | islandBrownout
  /-- ISLAND_FRESH_START (R669). -/
  | islandFreshStart
  /-- VBAT_MEASURE (R669). -/
  | vbatMeasure (mv : Nat)
  /-- RTC_SET (R671). -/
  | rtcSet
  /-- TAMPER_INPUT (R672). -/
  | tamperInput (inp : Fin 4) (sec : Nat)
  /-- THEFT_SECOND (R673). -/
  | theftSecond (sec : Nat) (sums : Vector Nat 4)
  /-- WAKE_N_LOW (R677). -/
  | wakeNLow
  /-- RTC_ALARM (R677). -/
  | rtcAlarm (sec : Nat)
  /-- WAKE_SOURCE_OCCURRENCE (R677). -/
  | wakeSourceOccurrence (src : Nat)
  /-- ISLAND_RAILS_READY (R677). -/
  | islandRailsReady (input : StartIn)
  /-- REG_READ (R108). -/
  | regRead (o : Origin) (offset : Nat)
  /-- REG_WRITE (R109). -/
  | regWrite (o : Origin) (offset value : Nat)
  /-- TIME_CONFIG (R61). -/
  | timeConfig (o : Origin) (source domain transport step : Nat)
  /-- TIME_SET (R62). -/
  | timeSet (o : Origin) (siteNs apply : Nat)
  /-- MEM_HEALTH (R136). -/
  | memHealth (o : Origin) (region flags : Nat)
  /-- LOWPOWER_ENTER_QUIET (R676). -/
  | lowpowerEnterQuiet (o : Origin) (state flags wakeAt : Nat)
  /-- LOWPOWER_ENTER_ISLAND (R676). -/
  | lowpowerEnterIsland (o : Origin) (state flags wakeAt : Nat)
  /-- ISLAND_STATUS (R684). -/
  | islandStatus (o : Origin)
  /-- ISLAND_CONFIG (R683). -/
  | islandConfig (o : Origin) (en minMa c0 c1 c2 c3 : Nat)
  /-- MBX_ECHO (R98). -/
  | mbxEcho (o : Origin) (data : List Byte)
  /-- COURT_CREATE (R91). -/
  | courtCreate (o : Origin) (court sup region grant i0 o0 c0 i1 o1 c1 i2 o2 c2 i3 o3 c3 : Nat)
  /-- COURT_RESTART (R92). -/
  | courtRestart (o : Origin) (court : Nat)
  /-- COURT_TEARDOWN (R94). -/
  | courtTeardown (o : Origin) (court flags : Nat)
  /-- COURT_STATUS (R95). -/
  | courtStatus (o : Origin) (court : Nat)
  /-- MBX_PLACE (R96). -/
  | mbxPlace (o : Origin) (court mbx inBase outBase cfg : Nat)
  /-- EVT_MASK (R97). -/
  | evtMask (o : Origin) (mask : BitVec 512)
  /-- BAY_TABLE_BASE (R110). -/
  | bayTableBase (o : Origin) (base : Nat)
  /-- BAY_RELOAD (R113). -/
  | bayReload (o : Origin) (bays : BayMask) (reads : List (List Byte))
  /-- BAY_STATUS (R116). -/
  | bayStatus (o : Origin) (bay : Nat)
  /-- LINK_STATUS (R179). -/
  | linkStatus (o : Origin) (bay : Nat)
  /-- LINK_RETRAIN (R180). -/
  | linkRetrain (o : Origin) (bays : BayMask)
  /-- HEAD_FW_LOAD (R181). -/
  | headFwLoad (o : Origin) (bays : BayMask) (transfer size hash : Nat)
  /-- PILOT_STATUS (R211). -/
  | pilotStatus (o : Origin) (bay : Nat)
  /-- PILOT_UNAVAILABLE (R212). -/
  | pilotUnavailable (o : Origin) (bay set : Nat)
  /-- PLC_STATUS (R213). -/
  | plcStatus (o : Origin) (bay : Nat)
  /-- SLAC_MATRIX (R214). -/
  | slacMatrix (o : Origin)
  /-- SLAC_ASSIGN (R215). -/
  | slacAssign (o : Origin) (mac bay : Nat)
  /-- SESSION_STATUS (R239). -/
  | sessionStatus (o : Origin) (bay : Nat)
  /-- SESSION_AUTH (R240). -/
  | sessionAuth (o : Origin) (bay decision id limit energy : Nat)
  /-- SESSION_STOP (R241). -/
  | sessionStop (o : Origin) (bay id : Nat)
  /-- SESSION_LIMIT (R242). -/
  | sessionLimit (o : Origin) (bay id limit energy : Nat)
  /-- CERT_LOAD (R243). -/
  | certLoad (o : Origin) (type_ protocol transfer keyId : Nat)
  /-- CERT_RESPONSE (R244). -/
  | certResponse (o : Origin) (bay result transfer id : Nat)
  /-- IDENT_STATUS (R269). -/
  | identStatus (o : Origin) (bay : Nat)
  /-- CARD_APDU (R270). -/
  | cardApdu (o : Origin) (bay len : Nat) (apdu : List Byte)
  /-- CARD_RELEASE (R271). -/
  | cardRelease (o : Origin) (bay : Nat)
  /-- TAG_LIST (R272). -/
  | tagList (o : Origin) (bay : Nat)
  /-- TAG_READ (R273). -/
  | tagRead (o : Origin) (bay count addr tag : Nat)
  /-- TAG_WRITE (R274). -/
  | tagWrite (o : Origin) (bay count addr tag : Nat) (data : List Byte)
  /-- MOD_STATUS (R290). -/
  | modStatus (o : Origin) (bay : Nat)
  /-- MOD_PULSE (R291). -/
  | modPulse (o : Origin) (bay leg flags tgt : Nat) (edges : List Nat)
  /-- LOOP_STATUS (R315). -/
  | loopStatus (o : Origin) (bay : Nat)
  /-- LOOP_TUNE (R316). -/
  | loopTune (o : Origin) (bay loop step fcHz maxDev : Nat)
  /-- CHAN_STATUS (R336). -/
  | chanStatus (o : Origin) (bay : Nat)
  /-- CHAN_SET (R337). -/
  | chanSet (o : Origin) (bay mask on : Nat)
  /-- CHAN_RESET (R338). -/
  | chanReset (o : Origin) (bay mask : Nat)
  /-- EARTH_STATUS (R360). -/
  | earthStatus (o : Origin) (bay : Nat)
  /-- EARTH_RESET (R361). -/
  | earthReset (o : Origin) (bay : Nat)
  /-- EARTH_TEST (R362). -/
  | earthTest (o : Origin) (bay : Nat)
  /-- METER_STATUS (R389). -/
  | meterStatus (o : Origin) (bay : Nat)
  /-- METER_READ (R390). -/
  | meterRead (o : Origin) (bay : Nat)
  /-- METER_HARMONICS (R391). -/
  | meterHarmonics (o : Origin) (bay channel : Nat)
  /-- CAL_LOAD (R392). -/
  | calLoad (o : Origin) (bay transfer : Nat)
  /-- PULSE_MAP (R393). -/
  | pulseMap (o : Origin) (ball bay source polarity const width : Nat)
  /-- S0_CONFIG (R394). -/
  | s0Config (o : Origin) (input polarity minMs const : Nat)
  /-- S0_READ (R395). -/
  | s0Read (o : Origin)
  /-- LEGAL_READ (R430). -/
  | legalRead (o : Origin) (meter : Nat)
  /-- LEGAL_SIGN (R431). -/
  | legalSign (o : Origin) (meter reg nonceLen : Nat) (nonce : List Byte)
  /-- TAMPER_READ (R432). -/
  | tamperRead (o : Origin)
  /-- LOG_READ (R433). -/
  | logRead (o : Origin) (fromSeq count flags : Nat)
  /-- LEGAL_STATUS (R434). -/
  | legalStatus (o : Origin)
  /-- CALENDAR_LOAD_ACTIVE (R403). -/
  | calendarLoadActive (o : Origin) (transfer activate : Nat)
  /-- CALENDAR_LOAD_PASSIVE (R403). -/
  | calendarLoadPassive (o : Origin) (transfer activate : Nat)
  /-- LEGAL_CONFIG (R436). -/
  | legalConfig (o : Origin) (transfer : Nat)
  /-- LEGAL_CHECKPOINT (R437). -/
  | legalCheckpoint (o : Origin)
  /-- LEGAL_RESTORE (R424). -/
  | legalRestore (o : Origin) (transfer : Nat)
  /-- DISP_SHOW (R452). -/
  | dispShow (o : Origin) (bay flags gen addr r0 r1 r2 r3 : Nat)
  /-- DISP_STATUS (R453). -/
  | dispStatus (o : Origin) (bay : Nat)
  /-- DISP_STRESS_READ (R454). -/
  | dispStressRead (o : Origin) (bay : Nat)
  /-- DISP_STRESS_LOAD (R455). -/
  | dispStressLoad (o : Origin) (bay transfer : Nat)
  /-- LEDGER_CONFIG (R473). -/
  | ledgerConfig (o : Origin) (imp exp res peak floor_ bmax btime excess : Nat)
  /-- LEDGER_STATUS (R478). -/
  | ledgerStatus (o : Origin)
  /-- LEDGER_BAY (R479). -/
  | ledgerBay (o : Origin) (bay : Nat)
  /-- SITE_BASE (R474). -/
  | siteBase (o : Origin) (base : Nat)
  /-- LEDGER_STORE (R475). -/
  | ledgerStore (o : Origin) (bay chg dis pSet vLow : Nat)
  /-- LEDGER_GRID (R476). -/
  | ledgerGrid (o : Origin) (bay pSet vLink phi : Nat)
  /-- SAFETY_STATUS (R514). -/
  | safetyStatus (o : Origin)
  /-- ENC_READ (R515). -/
  | encRead (o : Origin)
  /-- SAFETY_CONFIG_LOAD (R531). -/
  | safetyConfigLoad (o : Origin) (transfer tail0 tail1 passLen : Nat) (pass : List Byte)
  /-- SAFETY_CONFIG_APPLY (R533). -/
  | safetyConfigApply
  /-- SAFETY_LOG_READ (R537). -/
  | safetyLogRead (o : Origin) (fromSeq : Nat)
  /-- SAFE_CONN_STATUS (R538). -/
  | safeConnStatus (o : Origin)
  /-- SAFETY_COMMISSION (R539). -/
  | safetyCommission (o : Origin) (passLen : Nat) (pass : List Byte)
  /-- FUSE_READ (R560). -/
  | fuseRead (o : Origin)
  /-- FUSE_BURN (R561). -/
  | fuseBurn (o : Origin) (field value : Nat)
  /-- DEBUG_CHALLENGE (R562). -/
  | debugChallenge (o : Origin) (tokenLen : Nat)
  /-- DEBUG_UNLOCK (R550). -/
  | debugUnlock (o : Origin) (token : List Byte) (serial challenge : Nat)
  /-- SITE_ROOT_GENERATE (R546). -/
  | siteRootGenerate (o : Origin) (pos blob : Nat)
  /-- SITE_ROOT_LOAD (R546). -/
  | siteRootLoad (o : Origin) (pos : Nat) (blob : List Byte)
  /-- SITE_ROOT_EXPORT (R563). -/
  | siteRootExport (o : Origin) (pos blob : Nat)
  /-- KEY_PURPOSE_GEN (R564). -/
  | keyPurposeGen (o : Origin) (purpose gen : Nat)
  /-- KEY_CREATE (R565). -/
  | keyCreate (o : Origin) (keyId alg flags : Nat)
  /-- KEY_SIGN (R566). -/
  | keySign (o : Origin) (keyId flags : Nat) (data : List Byte)
  /-- KEY_ECDH (R567). -/
  | keyEcdh (o : Origin) (keyId : Nat) (peer : List Byte)
  /-- KEY_AEAD_SEAL (R568). -/
  | keyAeadSeal (o : Origin) (keyId nonce : Nat) (aad data : List Byte)
  /-- KEY_AEAD_OPEN (R568). -/
  | keyAeadOpen (o : Origin) (keyId nonce : Nat) (aad data : List Byte)
  /-- RNG_READ (R569). -/
  | rngRead (o : Origin) (count flags : Nat)
  /-- ATTEST (R570). -/
  | attest (o : Origin) (nonceLen : Nat) (nonce : List Byte)
  /-- FAULT_STATUS (R598). -/
  | faultStatus (o : Origin)
  /-- CELL_STATUS (R599). -/
  | cellStatus (o : Origin) (region block slot : Nat)
  /-- SCOREBOOK_READ (R600). -/
  | scorebookRead (o : Origin) (source count from_ : Nat)
  /-- SCOREBOOK_RELEASE (R601). -/
  | scorebookRelease (o : Origin) (flags : Nat) (testOk : Bool)
  /-- FAULT_INJECT (R602). -/
  | faultInject (o : Origin) (region block slot kind : Nat)
  /-- TWIN_STATUS (R632). -/
  | twinStatus (o : Origin)
  /-- TWIN_JOIN (R623). -/
  | twinJoin (o : Origin) (apply : Nat)
  /-- TWIN_HANDOVER (R621). -/
  | twinHandover (o : Origin) (apply : Nat)
  /-- TWIN_TAKE (R633). -/
  | twinTake (o : Origin) (apply : Nat)
  /-- TWIN_LEAVE (R633). -/
  | twinLeave (o : Origin) (apply : Nat)
  /-- RING_CONFIG (R634). -/
  | ringConfig (o : Origin) (en prio : Nat)
  /-- RING_STATUS (R635). -/
  | ringStatus (o : Origin)
  /-- SYS_RESET (R659). -/
  | sysReset (o : Origin) (pos : Nat)
  /-- BOOT_STATUS (R660). -/
  | bootStatus (o : Origin) (pos : Nat)
  /-- BOOT_HOST (R661). -/
  | bootHost (o : Origin) (transfer : Nat)
  /-- BUNDLE_WRITE (R651). -/
  | bundleWrite (o : Origin) (pos source flags transfer : Nat)
  /-- BUNDLE_GOLDEN_COPY (R654). -/
  | bundleGoldenCopy (o : Origin) (pos flags transfer : Nat)
  /-- UPDATE_ACTIVATE (R653). -/
  | updateActivate (o : Origin) (pos slot trialS : Nat)
  /-- UPDATE_CONFIRM (R654). -/
  | updateConfirm (o : Origin) (pos hash : Nat)
  /-- UPDATE_SWAP (R658). -/
  | updateSwap (o : Origin) (apply : Nat)
  /-- REQUEST_DATAGRAM (R106). -/
  | requestDatagram (bytes : List Byte) (sender : Nat)
  /-- ARP_ICMP_ECHO (R106). -/
  | arpIcmpEcho (address : Nat)
  /-- PTP_DELAY_RESP (R57). -/
  | ptpDelayResp (origin arrival departure receipt : Nat)
  /-- BUS_MASTER_ENABLE (R103). -/
  | busMasterEnable (on : Bool)
  /-- LOSS_OF_SIGNAL (R174). -/
  | lossOfSignal (b : BayId)
  /-- TAMPER_INPUT_INACTIVE (R672). -/
  | tamperInputInactive (inp : Fin 4)
  /-- TWIN_TRAINING_ANSWER (R605). -/
  | twinTrainingAnswer (roundTrip turnPs : Nat) (crcOk : Bool)
  /-- TWIN_FORWARDED_COMMAND (R656). -/
  | twinForwardedCommand (opcode : Nat) (payload : List Byte) (bulk : Option (Nat × List Byte))
  /-- TWIN_FORWARD_RESULT (R656). -/
  | twinForwardResult (opcode st dt : Nat) (vals : List Nat)
  /-- TWIN_FORWARD_TIMEOUT (R656). -/
  | twinForwardTimeout
  /-- BUNDLE_WRITE_DONE (R651). -/
  | bundleWriteDone (code : Nat)
  /-- FUSE_BURN_DONE (R542). -/
  | fuseBurnDone (verified : Bool)
  deriving DecidableEq, Repr

end Sys2Proof
end

