-- ==== Sys2Proof/Config.lean ====
section
/-! DEFINITION. What the spec leaves open: free values with no body, and the functions of named standards
(hashes, signatures, ciphers) as uninterpreted functions of their inputs. -/

namespace Sys2Proof.Config

/-- A value the spec leaves open, drawn afresh: the argument is the state's counter of drawn values (log 3). -/
opaque freeNat : Nat → Nat

/-- Random bits delivered by the TRNG and its DRBG, by the number of the draw (R556, R557). -/
opaque randomBits : Nat → Nat

/-- SHA-384 of a byte string, uninterpreted (log 4). -/
opaque sha384 : List Byte → Nat

/-- SHA-256 of a byte string, uninterpreted (log 4). -/
opaque sha256 : List Byte → Nat

/-- Whether a signature verifies: algorithm, public key, message, signature (log 4). -/
opaque verifies : Nat → List Byte → List Byte → List Byte → Bool

/-- The signature of a message under a private node, with the draw number of its nonce (log 4). -/
opaque signature : Nat → Nat → List Byte → Nat → Nat

/-- The public key of a private node: algorithm and node value (log 4). -/
opaque publicKey : Nat → Nat → Nat

/-- HKDF-SHA-384 of R543: input key, salt, info, length in bytes (log 4). -/
opaque hkdf : Nat → List Byte → List Byte → Nat → Nat

/-- SERIAL of this part (R541, log 10). -/
opaque partSerial : Nat

/-- DEVICE_ROOT of this part (R541, log 10). -/
opaque partRoot : Nat

/-- MAC_BASE of this part (R541, log 10). -/
opaque partMac : Nat

/-- KFW_HASH0 of this part (R541, log 10). -/
opaque partKfwHash0 : Nat

/-- KFW_HASH1 of this part (R541, log 10). -/
opaque partKfwHash1 : Nat

/-- The payload of a COSE_Sign1 byte string; none where it is not one (log 4). -/
opaque cosePayload : List Byte → Option (List Byte)

/-- The algorithm named in the protected header of a COSE_Sign1 (log 4). -/
opaque coseAlg : List Byte → Int

/-- Whether the signature of a COSE_Sign1 verifies under a public key, with the R555 code where it does not: 0 verifies
(log 4). -/
opaque coseCheck : List Byte → List Byte → Nat

/-- Whether a debug token verifies under the key whose hash is in mask ROM (R550, log 4). -/
opaque debugTokenOk : List Byte → Bool

/-- SERIAL in the map that a debug token carries (R550, log 4). -/
opaque debugTokenSerial : List Byte → Nat

/-- The challenge in the map that a debug token carries (R550, log 4). -/
opaque debugTokenChallenge : List Byte → Nat

/-- ECDH shared value of a private node and a peer point (log 4). -/
opaque ecdh : Nat → Nat → List Byte → Nat

/-- AEAD seal: key, nonce, additional data, plain text to cipher text with tag (log 4). -/
opaque aeadSeal : Nat → Nat → List Byte → List Byte → List Byte

/-- AEAD open: key, nonce, additional data, cipher text with tag; none where the tag fails (log 4). -/
opaque aeadOpen : Nat → Nat → List Byte → List Byte → Option (List Byte)

/-- PBKDF2 of a password and a salt with an iteration count (log 4). -/
opaque pbkdf2 : List Byte → List Byte → Nat → Nat

/-- Cosine of an angle in units of 2^-32 turn, scaled by 2^30 and rounded as the function image rounds it: not stated
by the spec (log 5). -/
opaque cosQ30 : Nat → Int

/-- An output of a filter, transform or estimator whose arithmetic the spec does not fix to the last bit: a number for
the computation, its integer inputs, and the result (log 5). -/
opaque signalProc : Nat → List Int → Int

/-- Check of a certificate chain against trust anchors at a UTC second: 0 verifies, 1 to 8 a rejection of R555, more another
check that fails (log 4). -/
opaque certChain : List (List Byte) → List (List Byte) → Nat → Nat

/-- The public key in a certificate (log 4). -/
opaque certKey : List Byte → Nat

/-- The end of validity of a certificate in UTC seconds (log 4). -/
opaque certNotAfter : List Byte → Nat

/-- The number of a V2G message of a protocol in SESSION_PROTOCOL (R245, log 44). -/
opaque v2gOpcode : Nat → Nat → Nat

/-- The number of a response code of a protocol in SESSION_PROTOCOL (R245, log 44). -/
opaque v2gCode : Nat → Nat → Nat

/-- Whether ENCA leading ENCB counts upward before INVERT_DIR: the spec does not say (R501, log 86). -/
opaque encForward : Bool

/-- A word of a bay head's register block that its maker fixes, by bay and address (R176, log 101). -/
opaque headWord : Nat → Nat → Nat

/-- SHA-384 of the mask-ROM loader (R646). -/
opaque romHash : Nat

/-- SHA-384 of Myavat-L in mask ROM (R646). -/
opaque legalRomHash : Nat

/-- IMAGE_ID of a function: offsets 0 to 9 of a bay set, 10 to 13 the site cells (R15, R16, R642, log 117). -/
opaque imageId : Nat → Nat

/-- The bundle in the golden slot of a part as delivered (R640, log 9). -/
opaque goldenBundle : List Byte

end Sys2Proof.Config
end

