-- ==== Sys2Proof/Machine/StateCore.lean ====
section
/-! DEFINITION. State of the chip-wide parts: time, courts and mailboxes, host port, event controller,
architecture status, memory health (spec files 01 to 05). -/

namespace Sys2Proof.Machine

/-- An event record (R88): source, KIND, DATA and the tick the event concerns (R54). -/
structure Ev where
  source : Nat
  kind : Nat
  data : Nat
  tick : Nat
  deriving DecidableEq, Repr

/-- Time state codes (R60). -/
inductive TimeState where
  | free | locking | locked | holdover | twin
  deriving DecidableEq, Repr

/-- The code of a time state (R60). -/
def TimeState.code : TimeState → Nat
  | .free => 0 | .locking => 1 | .locked => 2 | .holdover => 3 | .twin => 4

/-- The time configuration of R61. -/
structure TimeCfg where
  source : Nat
  domain : Nat
  transport : Nat
  stepLimitUs : Nat
  deriving DecidableEq, Repr

/-- A site time setting waiting for its tick (R62). -/
structure TimeSetWait where
  siteNs : Nat
  applyTick : Nat
  origin : Origin
  deriving DecidableEq, Repr

/-- The tick count and site time (R34 to R63). `freqNext` is a frequency adjustment that takes force at the next tick boundary, `ptpUtcOffset` the
UTC offset that a PTP source has given. -/
structure Clock where
  tick : Nat
  tickHi : Nat
  freqPpb : Int
  state : TimeState
  source : Nat
  epochSet : Bool
  stepped : Bool
  offsetNs : Int
  siteEpoch : Nat
  cfg : TimeCfg
  cfgSet : Bool
  beyond : Nat
  within : Nat
  pathDelayNs : Int
  lastSync : Nat
  timeSet : List TimeSetWait
  ptpUtcOffset : Option Int
  freqNext : Option Int
  cellRuns : Bool
  deriving DecidableEq, Repr

/-- The clock at POR (R35, R36, R60). -/
def Clock.reset : Clock :=
  { tick := 0, tickHi := 0, freqPpb := 0, state := .free, source := 0, epochSet := false, stepped := false,
    offsetNs := 0, siteEpoch := 0, cfg := ⟨0, 0, 0, 1000⟩, cfgSet := false, beyond := 0, within := 0,
    pathDelayNs := 0, lastSync := 0, timeSet := [], ptpUtcOffset := none, freqNext := none, cellRuns := true }

/-- Court states (R69, codes of R78). -/
inductive CourtState where
  | absent | active | restarting | tearingDown
  deriving DecidableEq, Repr

/-- The code of a court state (R78). -/
def CourtState.code : CourtState → Nat
  | .absent => 0 | .active => 1 | .restarting => 2 | .tearingDown => 3

/-- An outbound message that is complete but not yet written into a slot or datagram (R75, R80). -/
structure OutMsg where
  opcode : Nat
  seq : Nat
  first : Bool
  last : Bool
  bulkRef : Bool
  fields : List Field
  tick : Nat
  deriving DecidableEq, Repr

/-- A request that Myavat has taken and not yet answered (R72), with the layout of its response. `via` says how it came: 0 from its own mailbox, 1
mirrored (R611), 2 forwarded by the other twin (R656). -/
structure Running where
  opcode : Nat
  seq : Nat
  taken : Nat
  layout : List Nat
  via : Nat
  deriving DecidableEq, Repr

/-- One mailbox: its registers (R77), response cache (R84), the request in execution and its unsent messages. -/
structure Mailbox where
  inBase : Nat
  outBase : Nat
  en : Bool
  slotUnits : Nat
  inLog2 : Nat
  outLog2 : Nat
  inProd : Nat
  inCons : Nat
  outProd : Nat
  outCons : Nat
  crcErr : Bool
  bellErr : Bool
  evtLost : Bool
  crcCount : Nat
  expectSeq : Nat
  outSeq : Nat
  cache : List (Nat × OutMsg)
  running : Option Running
  out : List OutMsg
  held : List (List Byte)
  replyTo : Option Nat
  lastOut : Option OutMsg
  deriving DecidableEq, Repr

/-- A closed mailbox at its reset values (R77). -/
def Mailbox.reset : Mailbox :=
  { inBase := 0, outBase := 0, en := false, slotUnits := 2, inLog2 := 2, outLog2 := 2, inProd := 0, inCons := 0,
    outProd := 0, outCons := 0, crcErr := false, bellErr := false, evtLost := false, crcCount := 0, expectSeq := 1,
    outSeq := 0, cache := [], running := none, out := [], held := [], replyTo := none, lastOut := none }

/-- An inbound bulk transfer that is held (R89, R90). -/
structure InXfer where
  number : Nat
  data : List Byte
  closed : Bool
  closedAt : Nat
  writing : Bool
  forDisplay : Bool
  deriving DecidableEq, Repr

/-- An outbound bulk transfer not yet wholly written (R89). -/
structure OutXfer where
  number : Nat
  messages : Nat
  deriving DecidableEq, Repr

/-- One court: its state, resources, event mask, mailboxes, event stream and transfers (R66 to R97). `next` is the state it enters at the next tick
boundary, `placeNext` the placements of MBX_PLACE that take force there (mailbox, IN_BASE, OUT_BASE, CFG), `moveBy` the request of its restart or teardown, `destroy` DESTROY_KEYS, `burnBad` that the burn of its generation was not verified. -/
structure Court where
  state : CourtState
  restarts : Nat
  supKw : Nat
  regionWords : Nat
  grant : BayMask
  mask : BitVec 512
  maskNext : Option (BitVec 512)
  placeNext : List (MbxId × Nat × Nat × Nat)
  mbx : Vector Mailbox 4
  records : List Ev
  lost : Nat
  inXfers : List InXfer
  outXfers : List OutXfer
  nextOut : Nat
  next : Option CourtState
  moveBy : Option Origin
  destroy : Bool
  burnBad : Bool
  deriving DecidableEq, Repr

/-- A court that is ABSENT (R69). -/
def Court.absent : Court :=
  { state := .absent, restarts := 0, supKw := 0, regionWords := 0, grant := 0, mask := 0, maskNext := none, placeNext := [],
    mbx := Vector.replicate 4 Mailbox.reset, records := [], lost := 0, inXfers := [], outXfers := [], nextOut := 1,
    next := none, moveBy := none, destroy := false, burnBad := false }

/-- A court that is ACTIVE from every start: 0, 1 or 2 with its windows (R66, R67); its mask is set by `startMasks`. -/
def Court.fixed (c : CourtId) : Court :=
  { Court.absent with state := .active, supKw := if c.val = 0 then 32 else if c.val = 1 then 24 else 16,
                      regionWords := if c.val = 0 then 1024 else 512 }

/-- The courts at a start (R66). -/
def startCourts : Vector Court 16 := Vector.ofFn fun c => if c.val < 3 then Court.fixed c else Court.absent

/-- The site's limits (R473). -/
structure LedgerCfg where
  importLimit : Nat
  exportLimit : Nat
  reserve : Nat
  peak : Nat
  floor_ : Int
  baseMax : Nat
  baseTimeout : Nat
  overMs : Nat
  deriving DecidableEq, Repr

/-- A settings command with its values (R49, R50). -/
inductive Setting where
  | calLoad (court : CourtId) (bay transfer : Nat)
  | pulseMap (ball bay source polarity const width : Nat)
  | s0Config (input polarity minMs const : Nat)
  | pilotUnavailable (bay set : Nat)
  | sessionAuth (bay decision id limit energy : Nat)
  | sessionStop (bay id : Nat)
  | sessionLimit (bay id limit energy : Nat)
  | ledgerConfig (cfg : LedgerCfg)
  | ringConfig (en : Bool) (prio : Nat)
  | timeConfig (cfg : TimeCfg)
  | bayReload (entries : List (Nat × List Byte))
  | courtCreate (court : CourtId) (sup region : Nat) (grant : BayMask) (places : List (Nat × Nat × Nat))
  deriving DecidableEq, Repr

/-- A settings change that Myavat has armed (R50): its tick, its request, and the generations it moves.
`same` marks a command whose values equal those that would be in force without it. -/
structure Armed where
  tick : Nat
  origin : Origin
  cmd : Setting
  bays : BayMask
  site : Bool
  same : Bool
  deriving DecidableEq, Repr

/-- Settings generations (R49). `hist` holds, newest first, what a bay's generation was before a tick: bay, generation,
the tick at which it ended. -/
structure Gens where
  site : Nat
  siteTick : Nat
  bay : Vector Nat 96
  bayTick : Vector Nat 96
  hist : List (Nat × Nat × Nat)
  deriving DecidableEq, Repr

/-- Generation 0 everywhere: not configured since the last start (R49). -/
def Gens.reset : Gens :=
  { site := 0, siteTick := 0, bay := Vector.replicate 96 0, bayTick := Vector.replicate 96 0,
    hist := [] }

/-- Which host port HOSTSEL selects (R100). -/
inductive HostPort where
  | pcie | eth10g | sgmii | stopped
  deriving DecidableEq, Repr

/-- The code of a host port in DEV (R105). -/
def HostPort.code : HostPort → Nat
  | .pcie => 0 | .eth10g => 1 | .sgmii => 2 | .stopped => 3

/-- The host port and the DEV window (R100 to R106, R681). -/
structure HostIf where
  port : HostPort
  ready : Bool
  myMajor : Nat
  myMinor : Nat
  myBuild : Nat
  rdTimeout : Bool
  rdRefused : Bool
  rdPoison : Bool
  dmaErrCount : Nat
  busMaster : Bool
  msixMask : Bool
  msixPending : Bool
  msixAddr : Nat
  msixData : Nat
  msixSent : Nat
  lastRead : Nat
  echoes : Nat
  bayBase : Nat
  bayBaseSet : Bool
  lpState : Nat
  deriving DecidableEq, Repr

/-- The host port at POR with HOSTSEL 0b00; READY as R647 leaves it once Myavat runs (log 8). -/
def HostIf.reset : HostIf :=
  { port := .pcie, ready := true, myMajor := 3, myMinor := 0, myBuild := 0, rdTimeout := false, rdRefused := false,
    rdPoison := false, dmaErrCount := 0, busMaster := false, msixMask := true, msixPending := false, msixAddr := 0,
    msixData := 0, msixSent := 0, lastRead := 0, echoes := 0, bayBase := 0, bayBaseSet := false, lpState := 0 }

/-- One EVT_WAKE entry (R122, R123). -/
structure WakeEntry where
  source : Nat
  valid : Bool
  deriving DecidableEq, Repr

/-- The event controller (R118 to R123). `fresh` are the happenings of the tick in progress: the commit releases them to the counters and the event
streams (R47, R118). -/
structure EvtCtl where
  fresh : List Ev
  pend : BitVec 512
  count : Vector Nat 512
  sat : BitVec 512
  en : BitVec 512
  lineEn : Bool
  route : Nat
  holdoff : Vector Nat 32
  holdUntil : Vector (Option Nat) 32
  lineWas : Bool
  wake : Vector WakeEntry 32
  wakeWrites : List (Nat × WakeEntry)
  deriving DecidableEq, Repr

/-- The event controller at POR (R122). -/
def EvtCtl.reset : EvtCtl :=
  { fresh := [], pend := 0, count := Vector.replicate 512 0, sat := 0, en := 0, lineEn := false, route := 0,
    holdoff := Vector.replicate 32 0, holdUntil := Vector.replicate 32 none, lineWas := false,
    wake := Vector.replicate 32 ⟨0, false⟩, wakeWrites := [] }

/-- A firewall window entry (R27). -/
structure FwEntry where
  base : Nat
  limit : Nat
  courts : BitVec 16
  read : Bool
  write : Bool
  mgmt : Bool
  deriving DecidableEq, Repr

/-- A queue of R124 to R132: size exponent, memory, pointers, last delivered word, sticky flag. -/
structure Queue where
  k : Nat
  words : List (Nat × Nat)
  w : Nat
  r : Nat
  lastWord : Nat
  underrun : Bool
  deriving DecidableEq, Repr

/-- An empty queue of 2^k words. -/
def Queue.reset (k : Nat) : Queue := { k := k, words := [], w := 0, r := 0, lastWord := 0, underrun := false }

/-- The three queue counts of R133. -/
structure QCount where
  rewinds : Nat
  overflows : Nat
  underruns : Nat
  deriving DecidableEq, Repr

/-- One region: its status register (R31), firewall (R27), queue and queue counts (R133). -/
structure Region where
  spareUsed : BitVec 8
  blockFail : BitVec 8
  regionFail : Bool
  failCause : Nat
  fwViol : Bool
  fwCount : Nat
  fw : List FwEntry
  queue : Queue
  qcount : QCount
  deriving DecidableEq, Repr

/-- The windows that every region has from a start: courts 0, 1 and 2 in the dynamic exchange area (R67, R68; the
places are the model's, log 12). -/
def Region.startFw : List FwEntry :=
  [⟨0xE000, 0xE3FF, 0x0001#16, true, true, false⟩, ⟨0xE400, 0xE5FF, 0x0002#16, true, true, false⟩,
   ⟨0xE600, 0xE7FF, 0x0004#16, true, true, false⟩]

/-- A region at a start (R31, R133). -/
def Region.reset : Region :=
  { spareUsed := 0, blockFail := 0, regionFail := false, failCause := 0, fwViol := false, fwCount := 0,
    fw := Region.startFw, queue := Queue.reset 4, qcount := ⟨0, 0, 0⟩ }

/-- Error counts of one store (R133). -/
structure StoreHealth where
  corrected : Nat
  uncorrected : Nat
  lastWord : Nat
  deriving DecidableEq, Repr

/-- One CRC unit of a block (R138, R140). -/
structure CrcUnit where
  poly : Nat
  reflect : Bool
  xorOut : Bool
  bytes : Nat
  run : Nat
  user : Option Nat
  deriving DecidableEq, Repr

/-- A CRC unit at its reset values (R138). -/
def CrcUnit.reset : CrcUnit := { poly := 0, reflect := false, xorOut := false, bytes := 9, run := 0, user := none }

/-- Memories and their health: the region address spaces of R22 as bytes, counts by STORE_ID, CRC units by number,
port queues; the sequence numbers of the fabric's flows (R21) and the last response that a transfer brought its originator: OP and data words. -/
structure MemState where
  cells : List Host.Cell
  health : List (Nat × StoreHealth)
  crc : List (Nat × CrcUnit)
  portQueue : Queue
  portCount : QCount
  hashKey : Nat
  fwLock2 : Bool
  flows : List (Nat × Nat)
  response : Option (Nat × List Nat)
  deriving DecidableEq, Repr

/-- Memories at a start; the routing key of R24 is set by the start that drew it (log 3). -/
def MemState.reset : MemState :=
  { cells := [], health := [], crc := [], portQueue := Queue.reset 8, portCount := ⟨0, 0, 0⟩, hashKey := 0,
    fwLock2 := false, flows := [], response := none }

end Sys2Proof.Machine
end

