-- ==== Sys2Proof/Machine/StateEarth.lean ====
section
/-! DEFINITION. State of the earth cell of a bay (spec file 13). -/

namespace Sys2Proof.Machine

/-- A residual-current test under way (R346): when the winding was commanded on, I_DC before and at the end of the on time in nA,
whether its conditions have held so far. -/
structure RcTest where
  start : Nat
  before : Int
  after : Int
  good : Bool
  deriving DecidableEq, Repr

/-- The sums of one half of an insulation cycle (R347): over each 50,000 tk half of the window, the number of ticks and the
sums of U_P, U_N and U_DC. -/
structure ImdHalf where
  n1 : Nat
  n2 : Nat
  p1 : Int
  p2 : Int
  n : Int
  dc : Int
  deriving DecidableEq, Repr

/-- An empty half. -/
def ImdHalf.zero : ImdHalf := ⟨0, 0, 0, 0, 0, 0⟩

/-- An insulation cycle (R347): its start, whether it was admitted throughout, whether the read-back held, the two halves. -/
structure ImdCycle where
  t : Nat
  admitted : Bool
  readback : Bool
  a : ImdHalf
  b : ImdHalf
  deriving DecidableEq, Repr

/-- An EARTH_TEST that waits for its results (R362): each 0 while open. -/
structure EarthTestWait where
  origin : Origin
  rc : Option Nat
  arc : Option Nat
  deriving DecidableEq, Repr

/-- The earth cell (R340 to R363). `ms` and `fs` hold, newest first, the sums of 16 samples of the latest published ticks and the
filter's outputs for them; I_DC and I_AC are in nA; `rows` are the counters D1 to D3 and A1 to A3; `line` holds the causes newly
decided, for which the trip line is raised; `cleared` marks by bit the recorded or counted causes that were released. The *Since
fields hold the tick since when a condition of R356 has held. `cable` is the result for the session: 0 none, 1 pending, 2 VALID,
3 WARNING, 4 FAULT. `imdLast` is a cycle that is over and not judged. `base` are the baselines of the counted bins in 2^-16 code
squared; `seen` is what R353 watches for changes. -/
structure Earth where
  ms : List Int
  fs : List Int
  iDc : Int
  iAc : Nat
  rows : Vector Nat 6
  satRun : Nat
  rcBad : Nat
  imdBad : Nat
  arcBad : Nat
  missRun : Nat
  goodRun : Nat
  trip : Nat
  counted : Nat
  cleared : Nat
  line : List Nat
  dcSince : Option Nat
  acSince : Option Nat
  rcSince : Option Nat
  arcSince : Option Nat
  insOk : Bool
  imdOk : Bool
  test : Option RcTest
  testDue : Bool
  rcResult : Nat
  rise : Int
  lastVerdict : Nat
  overdueAt : Nat
  contactorOn : Option Nat
  cycle : Option ImdCycle
  imdLast : Option ImdCycle
  grade : Nat
  above : Bool
  below : Bool
  rf : Nat
  rp : Nat
  rn : Nat
  uDc : Int
  lastInvalid : Nat
  wasValid : Bool
  faultRun : Nat
  badResults : Nat
  lastResult : Nat
  cable : Nat
  cableRun : Nat
  base : List Nat
  hot : Nat
  ratio : Nat
  settle : Nat
  quietSince : Option Nat
  lastTest : Nat
  arcTestDue : Bool
  arcTestAt : Nat
  wait : Option EarthTestWait
  rcTrips : Nat
  insValid : Nat
  insInvalid : Nat
  arcTrips : Nat
  arcTests : Nat
  wants : Nat
  idleAt : Nat
  seen : Nat
  deriving DecidableEq, Repr

/-- The earth cell at a start: both tests are due at the first opportunity (R346, R354). -/
def Earth.reset : Earth :=
  { ms := [], fs := [], iDc := 0, iAc := 0, rows := Vector.replicate 6 0, satRun := 0, rcBad := 0, imdBad := 0,
    arcBad := 0, missRun := 0, goodRun := 0, trip := 0, counted := 0, cleared := 0, line := [], dcSince := none,
    acSince := none, rcSince := none, arcSince := none, insOk := false, imdOk := false, test := none, testDue := true,
    rcResult := 0, rise := 0, lastVerdict := 0, overdueAt := 0, contactorOn := none, cycle := none, imdLast := none,
    grade := 0, above := false, below := false, rf := 0, rp := 0, rn := 0, uDc := 0, lastInvalid := 0, wasValid := false,
    faultRun := 0, badResults := 0, lastResult := 0, cable := 0, cableRun := 0, base := [], hot := 0, ratio := 0,
    settle := 0, quietSince := none, lastTest := 0, arcTestDue := true, arcTestAt := 0, wait := none, rcTrips := 0,
    insValid := 0, insInvalid := 0, arcTrips := 0, arcTests := 0, wants := 0, idleAt := 0, seen := 0 }

end Sys2Proof.Machine
end

