-- ==== Sys2Proof/Machine/StateLedger.lean ====
section
/-! DEFINITION. State of the site power ledger (spec file 17). -/

namespace Sys2Proof.Machine

/-- What the ledger keeps of one bay: the summary of its shard (role, power, demand, room for vehicle discharge), the
outputs its shard commits (R465), and at the loop cell the run of ticks without outputs (R470). -/
structure LedgerBay where
  role : Nat
  p : Int
  d : Int
  room : Int
  limit : Nat
  expLimit : Nat
  pRef : Int
  cap : Int
  portEn : Bool
  vLow : Nat
  vLink : Nat
  phi : Int
  outTick : Nat
  deriving DecidableEq, Repr

/-- A bay the ledger has not dealt with yet: limits 0, port enable off (R466). -/
def LedgerBay.reset : LedgerBay :=
  { role := 0, p := 0, d := 0, room := 0, limit := 0, expLimit := 0, pRef := 0, cap := 0,
    portEn := false, vLow := 0, vLink := 0, phi := 0, outTick := 0 }

/-- What the loop cell keeps of the ledger's outputs (R470). -/
structure LedgerTaken where
  miss : Nat
  raised : Bool
  fallback : Bool
  deriving DecidableEq, Repr

/-- The values of LEDGER_STORE (R475). -/
structure LedgerStore where
  chg : Nat
  dis : Nat
  pSet : Int
  vLow : Nat
  tick : Nat
  stale : Bool
  deriving DecidableEq, Repr

/-- The values of LEDGER_GRID (R476). -/
structure LedgerGrid where
  pSet : Int
  vLink : Nat
  phi : Int
  tick : Nat
  stale : Bool
  deriving DecidableEq, Repr

/-- What the allocation gives one port: its role in it, grant, export grant, dispatch, curtailment cap. -/
structure Grant where
  role : Nat
  g : Int
  exp_ : Int
  disp : Int
  cap : Int
  deriving DecidableEq, Repr

/-- No grant. -/
def Grant.zero : Grant := ⟨0, 0, 0, 0, 0⟩

/-- What the root publishes of one allocation (R461, R478). -/
structure LedgerSite where
  pSite : Int
  pPlan : Int
  budget : Int
  pvOut : Int
  store : Int
  bpt : Int
  baseUsed : Int
  unserved : BitVec 96
  curtailing : Bool
  deriving DecidableEq, Repr

/-- Nothing allocated. -/
def LedgerSite.zero : LedgerSite := ⟨0, 0, 0, 0, 0, 0, 0, 0, false⟩

/-- The site statistics of R478. -/
structure LedgerAcc where
  max_ : Int
  sum : Int
  n : Nat
  excess : Nat
  curtailed : Nat
  gen : Nat
  first : Nat
  last : Nat
  deriving DecidableEq, Repr

/-- The ledger (R457 to R480); the *Next fields hold operating values that take effect at the next tick boundary. -/
structure Ledger where
  cfg : Option LedgerCfg
  base : Option (Int × Nat)
  baseNext : Option (Int × Nat)
  baseStale : Bool
  root : Nat
  grants : Vector Grant 96
  grantsCk : Vector Grant 96
  site : LedgerSite
  acc : LedgerAcc
  overSince : Option Nat
  overRaised : Bool
  expSince : Option Nat
  expRaised : Bool
  unservedAt : Option Nat
  unservedRaised : BitVec 96
  store : Vector (Option LedgerStore) 96
  grid : Vector (Option LedgerGrid) 96
  storeNext : List (BayId × LedgerStore)
  gridNext : List (BayId × LedgerGrid)
  deriving DecidableEq, Repr

/-- The ledger at a start: not configured, every grant 0 (R466). -/
def Ledger.reset : Ledger :=
  { cfg := none, base := none, baseNext := none, baseStale := true, root := 0, grants := Vector.replicate 96 Grant.zero,
    grantsCk := Vector.replicate 96 Grant.zero, site := LedgerSite.zero, acc := ⟨0, 0, 0, 0, 0, 0, 0, 0⟩,
    overSince := none, overRaised := false, expSince := none, expRaised := false, unservedAt := none,
    unservedRaised := 0, store := Vector.replicate 96 none, grid := Vector.replicate 96 none,
    storeNext := [], gridNext := [] }

end Sys2Proof.Machine
end

