-- ==== Sys2Proof/Machine/StateLegal.lean ====
section
/-! DEFINITION. State of the legal court and of the meter cells (spec files 14 and 15). -/

namespace Sys2Proof.Machine

/-- A maximum demand (R399, R418): watts, SPLIT, UTC second of the interval end. -/
structure MaxDemand where
  w : Nat
  split : Bool
  utc : Nat
  deriving DecidableEq, Repr

/-- A time in a legal register: UTC second, tick field, whether the time was not valid (R418 words 32, 33). -/
structure LegalStamp where
  utc : Nat
  tis : Nat
  unset : Bool
  deriving DecidableEq, Repr

/-- The registers of one meter block (R399, R418). -/
structure LegalMeter where
  energy : Vector Nat 8
  impT : Vector Nat 8
  expT : Vector Nat 8
  mdImp : MaxDemand
  mdExp : MaxDemand
  calId : Nat
  sessionId : Nat
  flags : Nat
  ses : Vector Nat 4
  start : LegalStamp
  stop : LegalStamp
  deriving DecidableEq, Repr

/-- A meter block of zeros (R422). -/
def LegalMeter.zero : LegalMeter :=
  { energy := Vector.replicate 8 0, impT := Vector.replicate 8 0, expT := Vector.replicate 8 0, mdImp := ⟨0, false, 0⟩,
    mdExp := ⟨0, false, 0⟩, calId := 0, sessionId := 0, flags := 0, ses := Vector.replicate 4 0, start := ⟨0, 0, false⟩,
    stop := ⟨0, 0, false⟩ }

/-- One kind of the tamper record (R411). -/
structure Tamper where
  count : Nat
  first : Nat
  last : Nat
  deriving DecidableEq, Repr

/-- One entry of the legal log (R413). -/
structure LogEntry where
  seq : Nat
  utc : Nat
  tis : Nat
  kind : Nat
  late : Bool
  split : Bool
  rtc : Bool
  bay : Nat
  data : Nat
  deriving DecidableEq, Repr

/-- The legal configuration in force (R425). -/
structure LegalCfg where
  sliding : Bool
  period : Nat
  sub : Nat
  threshold : Nat
  signAlg : Nat
  utcOffset : Int
  deriving DecidableEq, Repr

/-- The default legal configuration (R425). -/
def LegalCfg.default : LegalCfg :=
  { sliding := true, period := 15, sub := 1, threshold := 10, signAlg := 0, utcOffset := 37 }

/-- What the legal area of the island store mirrors (R416 to R418). The log holds the newest entry first. -/
structure LegalRegs where
  meters : Vector LegalMeter 97
  tamper : Vector Tamper 16
  lastSession : Nat
  logNext : Nat
  logAck : Nat
  readingSeq : Nat
  cfgHash : Nat
  activeHash : Nat
  passiveHash : Nat
  passiveAt : Nat
  cfg : LegalCfg
  restored : BitVec 97
  unrestored : BitVec 97
  restoreOpen : Bool
  cfgSet : Bool
  log : List LogEntry
  deriving DecidableEq, Repr

/-- The legal area initialised to zero, with the default configuration in force (R422). -/
def LegalRegs.zero : LegalRegs :=
  { meters := Vector.replicate 97 LegalMeter.zero, tamper := Vector.replicate 16 ⟨0, 0, 0⟩, lastSession := 0,
    logNext := 0, logAck := 0, readingSeq := 0, cfgHash := 0, activeHash := 0, passiveHash := 0, passiveAt := 0,
    cfg := LegalCfg.default, restored := 0, unrestored := 0, restoreOpen := false, cfgSet := false, log := [] }

/-- The mirror in the island store (R417): MARK, the last completed sweep and whether it was a final one (R420), the mirrored
registers, and whether a word of the area is uncorrectable. -/
structure Mirrored where
  mark : Bool
  bad : Bool
  tick : Nat
  utc : Nat
  tis : Nat
  unset : Bool
  final : Bool
  regs : LegalRegs
  deriving DecidableEq, Repr

/-- A log entry that waits for valid legal time (R415); `given` is a UTC second, tick field, LATE_TIME and RTC flag it
carries of its own. -/
structure WaitLog where
  tick : Nat
  kind : Nat
  bay : Nat
  data : Nat
  given : Option (Nat × Nat × Bool × Bool)
  deriving DecidableEq, Repr

/-- A demand sub-interval (R405): first tick, end tick once ended, UTC second of its end, SPLIT, whether it counts
together with its predecessor (R409), and the energies of the meters in it (meter, import, export). -/
structure SubInterval where
  first : Nat
  last : Option Nat
  utc : Nat
  split : Bool
  joins : Bool
  energy : List (Nat × Nat × Nat)
  deriving DecidableEq, Repr

/-- A session reading that is due (R407). -/
structure DueReading where
  bay : BayId
  stop : Bool
  tick : Nat
  deriving DecidableEq, Repr

/-- Where a legal second began: the first tick it holds for, the second, and the tick at which it would have begun. -/
structure SecMark where
  tick : Nat
  sec : Nat
  start : Int
  deriving DecidableEq, Repr

/-- The legal court beside its mirrored registers. `bases` holds legal time minus 1,000 ns a tick, newest first, with the
tick from which each value holds. -/
structure Legal where
  regs : LegalRegs
  mirror : Mirrored
  valid : Bool
  bases : List (Nat × Int)
  secs : List SecMark
  corr : Int
  active : Option (List Byte)
  passive : Option (List Byte × Nat)
  previous : Option (List Byte)
  activeFrom : Nat
  tariff : Option Nat
  tariffSplit : Bool
  gap : Nat
  subs : List SubInterval
  formed : BitVec 97
  subEnd : Option Nat
  waiting : List WaitLog
  tamperRaised : Vector (Option Nat) 16
  tamperLogged : List (Nat × Nat × Nat)
  tamperWait : List (Nat × Nat × Bool)
  wrapRaised : Option Nat
  stopped : Bool
  finalCopy : Option (Nat × LegalRegs)
  due : List DueReading
  sesStart : Vector Nat 96
  sesStop : Vector Nat 96
  sesSince : BitVec 96
  calSince : BitVec 97
  lastRecord : Vector Nat 96
  outOfCal : BitVec 96
  cellLate : BitVec 96
  islandLost : Bool
  onceValid : Bool
  activeSeen : Bool
  loadedSince : Bool
  timeValidAt : Nat
  cfgNext : Option (Nat × LegalCfg × Nat)
  restoreNext : Option (Nat × LegalRegs)
  deriving DecidableEq, Repr

/-- A mirror initialised to zero with MARK valid. -/
def Mirrored.zero : Mirrored :=
  { mark := true, bad := false, tick := 0, utc := 0, tis := 0, unset := true, final := false, regs := LegalRegs.zero }

/-- The legal court before the start has read the mirror. -/
def Legal.reset : Legal :=
  { regs := LegalRegs.zero, mirror := Mirrored.zero, valid := false, bases := [], secs := [], corr := 0, active := none,
    passive := none, previous := none, activeFrom := 0, tariff := none, tariffSplit := false, gap := 0, subs := [], formed := 0, subEnd := none, waiting := [],
    tamperRaised := Vector.replicate 16 none, tamperLogged := [], tamperWait := [], wrapRaised := none, stopped := false,
    finalCopy := none, due := [], sesStart := Vector.replicate 96 0, sesStop := Vector.replicate 96 0, sesSince := 0, calSince := 0,
    lastRecord := Vector.replicate 96 0, outOfCal := 0, cellLate := 0, islandLost := false, onceValid := false,
    activeSeen := false, loadedSince := false, timeValidAt := 0, cfgNext := none, restoreNext := none }

/-- An energy record (R376). -/
structure EnergyRec where
  stamp : Nat
  flags : Nat
  state : Nat
  whImp : Nat
  whExp : Nat
  varh : List Nat
  vahImp : Nat
  vahExp : Nat
  gen : Nat
  deriving DecidableEq, Repr

/-- Meter states (R378). -/
inductive MeterSt where
  | off | notVerified | counting | suspended
  deriving DecidableEq, Repr

/-- The code of a meter state (R378). -/
def MeterSt.code : MeterSt → Nat
  | .off => 0 | .notVerified => 1 | .counting => 2 | .suspended => 3

/-- The metrology samples of one index (R365, R366): the eight channels, VALID bits, TEMP in 0.01 degrees. -/
structure MetroSample where
  index : Nat
  ch : List Int
  valid : Nat
  temp : Int
  deriving DecidableEq, Repr

/-- The sums of the metering window in progress (R371, R372). -/
structure MeterWin where
  first : Nat
  n : Nat
  sq : Vector Int 8
  lin : Vector Int 8
  absI : Vector Int 8
  prod : Vector Int 3
  transfer : Int
  tempSum : Int
  tempN : Nat
  flags : Nat
  tracked : Bool
  crossings : Nat
  deriving DecidableEq, Repr

/-- A window that has no index yet. -/
def MeterWin.empty (first : Nat) : MeterWin :=
  { first := first, n := 0, sq := Vector.replicate 8 0, lin := Vector.replicate 8 0, absI := Vector.replicate 8 0,
    prod := Vector.replicate 3 0, transfer := 0, tempSum := 0, tempN := 0, flags := 0, tracked := false, crossings := 0 }

/-- The readings of the last closed window (R372, R390). -/
structure MeterReading where
  first : Nat
  last : Nat
  gen : Nat
  flags : Nat
  freq : Nat
  mag : List Int
  angle : List Int
  thd : List Nat
  power : List Int
  transfer : Int
  pf : Int
  deriving DecidableEq, Repr

/-- A harmonic result of one channel (R391). -/
structure Harmonics where
  ch : Nat
  last : Nat
  gen : Nat
  h1 : Nat
  hs : List Nat
  deriving DecidableEq, Repr

/-- A pulse source on a ball or a test LED (R382, R383). `acc` counts energy in 2^-32 mWh times the
constant, so that a pulse is due every 10^6 * 2^32. -/
structure PulseOut where
  on : Bool
  bay : Nat
  export_ : Bool
  activeLow : Bool
  const : Nat
  width : Nat
  acc : Int
  queue : List Nat
  level : Bool
  until_ : Nat
  gapUntil : Nat
  late : Nat
  overrate : Nat
  overSince : Nat
  raisedAt : Option Nat
  deriving DecidableEq, Repr

/-- A pulse output with no source. -/
def PulseOut.reset : PulseOut :=
  { on := false, bay := 0xFF, export_ := false, activeLow := false, const := 1, width := 10, acc := 0, queue := [],
    level := false, until_ := 0, gapUntil := 0, late := 0, overrate := 0, overSince := 0, raisedAt := none }

/-- The persistent state of a meter cell (R380), with what it reports. -/
structure MeterCell where
  next : Nat
  last : Option MetroSample
  miss : Nat
  present : Nat
  lost : Bool
  lostFirst : Nat
  accImp : Int
  accExp : Int
  import_ : Bool
  varh : Vector Nat 4
  vah : Vector Nat 2
  track : Int
  trackValid : Bool
  win : MeterWin
  delay : Vector Int 8
  gain : Vector Nat 8
  tempIdx : Int
  iIdx : Int
  outT : Bool
  outI : Bool
  rotation : Nat
  reading : Option MeterReading
  harmonics : List Harmonics
  subst : Nat
  lostN : Nat
  replayed : Nat
  windows : Nat
  substSecond : Nat
  substRaised : Option Nat
  resumedAt : Option Nat
  st : MeterSt
  reason : Nat
  genSeen : Nat
  led : PulseOut
  records : List EnergyRec
  p16 : List Int
  deriving DecidableEq, Repr


/-- A meter cell at a start. -/
def MeterCell.reset : MeterCell :=
  { next := 0, last := none, miss := 0, present := 0, lost := false, lostFirst := 0, accImp := 0, accExp := 0,
    import_ := true, varh := Vector.replicate 4 0, vah := Vector.replicate 2 0, track := 0, trackValid := false,
    win := MeterWin.empty 0, delay := Vector.replicate 8 0, gain := Vector.replicate 8 0, tempIdx := 0, iIdx := 0,
    outT := false, outI := false, rotation := 0, reading := none, harmonics := [], subst := 0, lostN := 0,
    replayed := 0, windows := 0, substSecond := 0, substRaised := none, resumedAt := none, st := .off, reason := 0,
    genSeen := 0, led := PulseOut.reset, records := [], p16 := [] }

/-- A calibration table in force (R367): its payload and its hash. -/
structure CalTable where
  bytes : List Byte
  hash : Nat
  deriving DecidableEq, Repr

/-- One S0 pulse input (R386, R394). -/
structure S0Input where
  set : Bool
  activeLow : Bool
  minMs : Nat
  const : Nat
  count : Nat
  short : Nat
  lastTick : Nat
  deriving DecidableEq, Repr

/-- An S0 input at a start (R386). -/
def S0Input.reset : S0Input :=
  { set := false, activeLow := false, minMs := 2, const := 1, count := 0, short := 0, lastTick := 0 }

/-- The pulse balls and the S0 inputs of the site. -/
structure Pulses where
  balls : Vector PulseOut 8
  s0 : Vector S0Input 8
  deriving DecidableEq, Repr

/-- Pulse outputs and inputs at a start. -/
def Pulses.reset : Pulses := { balls := Vector.replicate 8 PulseOut.reset, s0 := Vector.replicate 8 S0Input.reset }

end Sys2Proof.Machine
end

