-- ==== Sys2Proof/Machine/StatePort.lean ====
section
/-! DEFINITION. State of the cells of a bay's output group (offsets 0 to 5 and 8): pilot, Green PHY, session,
identification, modulator planning, loops, switch channels, display (spec files 07 to 12 and 16). -/

namespace Sys2Proof.Machine

/-- A line state or proximity class that is being confirmed (R191, R195): its code, the run so far, its first tick. -/
structure Cand where
  code : Nat
  run : Nat
  first : Nat
  deriving DecidableEq, Repr

/-- The pilot and proximity measurement of a bay (R188 to R195). `st` has the codes of R211. `hist` holds the pilot
outputs as they act at the bay head, newest first: tick, PILOT_MODE, PILOT_DUTY (R185). -/
structure Pilot where
  st : Nat
  cand : Option Cand
  bad : Nat
  badFirst : Nat
  vHi : Int
  vLo : Int
  lastHi : Int
  diode : Bool
  diodeRun : Nat
  edgeRun : Nat
  steadyRun : Nat
  genFault : Bool
  diodeNew : Bool
  mode : Nat
  duty : Nat
  hist : List (Nat × Nat × Nat)
  pp : Nat
  ppCand : Option Cand
  ppOhm : Nat
  lastEval : Nat
  discarded : Nat
  invalid : Nat
  diodeFaults : Nat
  genFaults : Nat
  deriving DecidableEq, Repr

/-- A pilot that is not enabled (R211, log 32). -/
def Pilot.reset : Pilot :=
  { st := 7, cand := none, bad := 0, badFirst := 0, vHi := 0, vLo := 0, lastHi := 0, diode := false, diodeRun := 0,
    edgeRun := 0, steadyRun := 0, genFault := false, diodeNew := false, mode := 0, duty := 0, hist := [], pp := 0,
    ppCand := none, ppOhm := 0, lastEval := 0, discarded := 0, invalid := 0, diodeFaults := 0, genFaults := 0 }

/-- An accumulating statistic (R52): sum, number of values, generation, first and last sample tick. -/
structure Accum where
  sum : Int
  n : Nat
  gen : Nat
  first : Nat
  last : Nat
  deriving DecidableEq, Repr

/-- A statistic that has not begun. -/
def Accum.reset : Accum := ⟨0, 0, 0, 0, 0⟩

/-- The received samples of one tick while PLC cell A cleans them (R199 to R201): marks of excised and of blanked
samples, whether the tick is uncertain, and the clip count. -/
structure PlcTick where
  tick : Nat
  samples : List Int
  excised : List Nat
  uncertain : Bool
  clip : Nat
  deriving DecidableEq, Repr

/-- What PLC cell B sends (R196, R203, R207). -/
inductive PlcMsg where
  | sack | slacParmCnf (runId : Nat) | attenCharInd (runId : Nat) (entry : Nat) | slacMatchCnf (nmk nid : Nat)
  | validateCnf
  deriving DecidableEq, Repr

/-- Green PHY of a bay (R196 to R209). `counts` are the ten counts of R213 in their order. -/
structure Plc where
  slot : Option Nat
  mac : Nat
  attenAt : Option Nat
  matched : Bool
  nmk : Option Nat
  nid : Option Nat
  counts : Vector Nat 10
  snr : Accum
  gain : Accum
  prev : Option PlcTick
  carry : List Nat
  squares : List Int
  lastStatus : Option Nat
  rxGain : Nat
  receiving : Bool
  tx : List (List Nat)
  txNow : List Nat
  secIndex : Nat
  secSymbols : Nat
  secErased : Nat
  noSlotAt : Option Nat
  waitParm : Option (Nat × Nat)
  sent : Option PlcMsg
  released : List Int
  handed : List Byte
  txTicks : List Nat
  deriving DecidableEq, Repr

/-- Green PHY at a start. -/
def Plc.reset : Plc :=
  { slot := none, mac := 0, attenAt := none, matched := false, nmk := none, nid := none,
    counts := Vector.replicate 10 0, snr := Accum.reset, gain := Accum.reset, prev := none, carry := [], squares := [],
    lastStatus := none, rxGain := 0, receiving := false, tx := [], txNow := [], secIndex := 0, secSymbols := 0, secErased := 0,
    noSlotAt := none, waitParm := none, sent := none, released := [], handed := [], txTicks := [] }

/-- Session states (R222). -/
inductive SessSt where
  | idle | connected | matching | setup | authorising | parameters | cableCheck | precharge | energised | stopping
  | weldCheck | ended | fault | unavailable
  deriving DecidableEq, Repr

/-- The code of a session state (R222). -/
def SessSt.code : SessSt → Nat
  | .idle => 0 | .connected => 1 | .matching => 2 | .setup => 3 | .authorising => 4 | .parameters => 5 | .cableCheck => 6
  | .precharge => 7 | .energised => 8 | .stopping => 9 | .weldCheck => 10 | .ended => 11 | .fault => 12
  | .unavailable => 13

/-- Whether a session is idle (R222). -/
def SessSt.isIdle : SessSt → Bool
  | .idle | .ended | .fault | .unavailable => true
  | _ => false

/-- A token (R229, R239): its kind, its bytes, the tick in which it was taken. -/
structure Token where
  kind : Nat
  bytes : List Byte
  tick : Nat
  deriving DecidableEq, Repr

/-- A certificate request of a vehicle that waits for the host (R244): installation or update, and its tick. -/
structure CertWait where
  update : Bool
  tick : Nat
  deriving DecidableEq, Repr

/-- The answer last given to a vehicle: a number for the message, the response code, and the values it carries. -/
structure V2gAnswer where
  msg : Nat
  code : Nat
  vals : List Int
  deriving DecidableEq, Repr

/-- The session of a bay (R217 to R245). `cfg` is the copy of the session sub-block taken at CONNECTED (R237). The
timers of the timeout table hold the tick from which they run. `contract` says that Plug & Charge was selected, `chain` is the
contract chain that verified, `challenge` the value the vehicle signs; `sdp` counts the answers to SDP requests. -/
structure Session where
  st : SessSt
  entered : Nat
  proto : Nat
  service : Nat
  scheduled : Bool
  reason : Nat
  further : Nat
  reasons : Nat
  id : Nat
  v2gId : Nat
  pilot : Nat
  cfg : List Byte
  hostLimit : Nat
  energyLimit : Nat
  vehMax : Option Nat
  vehDis : Option Nat
  vehVolt : Nat
  vehTarget : Nat
  vehCurrent : Int
  iEff : Nat
  iExp : Nat
  iOwn : Nat
  token : Option Token
  auth : Nat
  authFrom : Nat
  spareTokens : Nat
  heldToken : Option Token
  evccid : Nat
  openLoad : Nat
  startTick : Nat
  stopTick : Nat
  startImp : Nat
  setupFrom : Option Nat
  seqFrom : Option Nat
  readyFrom : Option Nat
  basicFrom : Option Nat
  tries : Nat
  matchFrom : Nat
  pauseUntil : Option Nat
  closing : Option (Nat × SessSt)
  renego : Bool
  sticky : Bool
  tcp : Bool
  tls : Nat
  tlsAlert : Option (Nat × Bool)
  closeAt : Option Nat
  cert : Option CertWait
  certAnswer : Option (Nat × List Byte)
  overSince : Option Nat
  basicPause : Bool
  pauseOpened : Bool
  faultHigh : Bool
  endAt : Nat
  started : Bool
  okSince : Option Nat
  target : Nat
  targetAt : Option Nat
  renegoDue : Bool
  answer : Option V2gAnswer
  sdp : Nat
  contract : Bool
  chain : List Byte
  challenge : Nat
  setupAt : Nat
  deriving DecidableEq, Repr

/-- A bay with no vehicle (R222). -/
def Session.reset : Session :=
  { st := .idle, entered := 0, proto := 0, service := 0, scheduled := false, reason := 0, further := 0, reasons := 0, id := 0,
    v2gId := 0, pilot := 7, cfg := [], hostLimit := 0, energyLimit := 0, vehMax := none, vehDis := none, vehVolt := 0,
    vehTarget := 0, vehCurrent := 0, iEff := 0, iExp := 0, iOwn := 0, token := none, auth := 0, authFrom := 0, spareTokens := 0,
    heldToken := none, evccid := 0, openLoad := 0, startTick := 0, stopTick := 0, startImp := 0, setupFrom := none,
    seqFrom := none, readyFrom := none, basicFrom := none, tries := 0, matchFrom := 0, pauseUntil := none,
    closing := none, renego := false, sticky := false, tcp := false, tls := 0, tlsAlert := none, closeAt := none,
    cert := none, certAnswer := none, overSince := none, basicPause := false, pauseOpened := false, faultHigh := false, endAt := 0,
    started := false, okSince := none,
    target := 0, targetAt := none, renegoDue := false, answer := none, sdp := 0, contract := false,
    chain := [], challenge := 0, setupAt := 0 }

/-- A card that the reader holds (R254): the CARD code of R269, its UID or PUPI, and the ticks that bound the hold. -/
structure CardHeld where
  code : Nat
  uid : List Byte
  since : Nat
  lastCheck : Nat
  deriving DecidableEq, Repr

/-- A card exchange in progress (R249). -/
inductive CardOp where
  | poll | presence | apdu (origin : Origin) (data : List Byte)
  deriving DecidableEq, Repr

/-- An entry of the tag list (R266). `seen` counts the latest consecutive inventories with an acknowledgement at
-40 dBFS or more, `absent` those without one since it was a token (R267). -/
structure TagEntry where
  id : Nat
  status : Nat
  blocks : Nat
  rssi : Int
  reads : Nat
  last : Nat
  ackRound : Option Nat
  seen : Nat
  absent : Nat
  offered : Bool
  lowRaised : Bool
  deriving DecidableEq, Repr

/-- A queued TAG_READ or TAG_WRITE (R273, R274). `inventories` counts those finished since it was taken. -/
structure TagCmd where
  origin : Origin
  write : Bool
  count : Nat
  addr : Nat
  tag : Nat
  data : List Byte
  from_ : Nat
  inventories : Nat
  deriving DecidableEq, Repr

/-- A running inventory (R254 to R262): the Q of its round, the next slot, the handles kept, whether the inventory had a
single or a collision in the round, the ACK phase with the handle addressed, the tag that is open. -/
structure Inventory where
  q : Nat
  next : Nat
  kept : List Nat
  busy : Bool
  ackPhase : Bool
  openTag : Option Nat
  frameAt : Nat
  deriving DecidableEq, Repr

/-- Identification of a bay (R246 to R275). `opNext` is a card exchange that waits for a KYT frame or reply window to end (R249);
`waitApdu` and `waitRelease` are commands with the tick from which they take effect; `lastToken` is the tag that is the token of the
running or last session and `lastAbsent` the run of inventories without it (R267). `counts` are the eleven counts of R269 in their order. -/
structure Ident where
  cardCode : Nat
  card : Option CardHeld
  gone : List (List Byte × Nat)
  lastPoll : Nat
  op : Option CardOp
  opNext : Option CardOp
  waitApdu : List (Origin × List Byte × Nat)
  waitRelease : List (Origin × Nat)
  tags : List TagEntry
  cmds : List TagCmd
  acc : Nat
  round : Nat
  inv : Option Inventory
  lastInv : Nat
  started : Bool
  ackedNow : List Nat
  lastToken : Nat
  lastAbsent : Nat
  counts : Vector Nat 11
  hfField : Bool
  uhfField : Bool
  sel : Nat
  env : List Nat
  depth : Nat
  rfLast : Option (List Nat)
  rfRun : Nat
  deriving DecidableEq, Repr

/-- Identification at a start: ACC is 80 at the first inventory (R260). -/
def Ident.reset : Ident :=
  { cardCode := 0, card := none, gone := [], lastPoll := 0, op := none, opNext := none, waitApdu := [],
    waitRelease := [],
    tags := [], cmds := [], acc := 80, round := 0, inv := none, lastInv := 0, started := false, ackedNow := [],
    lastToken := 0, lastAbsent := 0, counts := Vector.replicate 11 0, hfField := false, uhfField := false, sel := 0, env := [],
    depth := 10, rfLast := none, rfRun := 0 }

/-- Modulator states (R286). -/
inductive ModSt where
  | off | boot | run | tripped
  deriving DecidableEq, Repr

/-- The code of a modulator state (R286). -/
def ModSt.code : ModSt → Nat
  | .off => 0 | .boot => 1 | .run => 2 | .tripped => 3

/-- The demand of one leg (R277). -/
structure LegDemand where
  d0 : Nat
  kc : Int
  x0 : Int
  ch : Nat
  xsel : Nat
  run : Bool
  deriving DecidableEq, Repr

/-- A leg that is held off. -/
def LegDemand.off : LegDemand := ⟨0, 0, 0, 0, 0, false⟩

/-- The plan of one leg (R279 to R281): the edges still to come at absolute instants in units, with their targets, the
state the plan leaves the leg in, and DROPPED. -/
structure LegPlan where
  edges : List (Nat × Nat)
  st : Nat
  dropped : Nat
  edgesSent : Nat
  deriving DecidableEq, Repr

/-- An edge report (R288): governed tick, legs held off by the interlock, entries (EDGE_T, leg, high-side, turn-on). -/
structure EdgeReport where
  tick : Nat
  subst : Nat
  entries : List (Nat × Nat × Bool × Bool)
  deriving DecidableEq, Repr

/-- A MOD_PULSE that waits to be staged (R291). -/
structure PulseCmd where
  origin : Origin
  leg : Nat
  expect_ : Bool
  cmd : LegCmd
  from_ : Nat
  deriving DecidableEq, Repr

/-- The modulator planning cell (R276 to R292). `idle` holds, newest first, the leg
and governed tick of the latest ticks in which a leg dropped a pulse or did not run. -/
structure Mod where
  st : ModSt
  bootLeft : Nat
  firstPeriod : Nat
  plans : Vector LegPlan 8
  staged : List LegCmd
  stagedFor : Nat
  rearm : Bool
  reports : List EdgeReport
  pulse : List PulseCmd
  pulseOut : Option PulseCmd
  idle : List (Nat × Nat)
  lastFrame : Option UpFrame
  deriving DecidableEq, Repr

/-- A leg command with no edge (R165). -/
def LegCmd.none : LegCmd := ⟨[0, 0, 0, 0], [0xFFFF, 0xFFFF, 0xFFFF, 0xFFFF]⟩

/-- The planner at a start. -/
def Mod.reset : Mod :=
  { st := .off, bootLeft := 0, firstPeriod := 0, plans := Vector.replicate 8 ⟨[], 0, 0, 0⟩,
    staged := List.replicate 8 LegCmd.none, stagedFor := 0, rearm := false, reports := [], pulse := [],
    pulseOut := none, idle := [], lastFrame := none }

/-- One current loop (R298, R299, R308, R311). `integ` is s24.16. `win` holds the latest compute ticks of the frozen
check, newest first: whether the tick qualifies, its samples, delta squared. -/
structure CurLoop where
  integ : Int
  ref : Int
  meas : Int
  d0 : Nat
  fixed : Bool
  underRun : Nat
  ticksFixed : Nat
  errSq : Int
  overRun : Nat
  win : List (Bool × List Int × Nat)
  deriving DecidableEq, Repr

/-- A current loop at a start: without a tuned set it uses the fixed one (R311). -/
def CurLoop.reset : CurLoop :=
  { integ := 0, ref := 0, meas := 0, d0 := 0, fixed := true, underRun := 0, ticksFixed := 0, errSq := 0, overRun := 0,
    win := [] }

/-- A tuning under way (R312): request, loop, first tick, duties, start mean, tick means of the step in progress and of
those done, sums. -/
structure Tuning where
  origin : Origin
  loop : Nat
  step : Nat
  fcHz : Nat
  maxDev : Nat
  start : Nat
  dHold : Nat
  startMean : Int
  means : List Int
  linkSum : Int
  curSum : Int
  abort : Nat
  deriving DecidableEq, Repr

/-- The loop cells (R293 to R317). `total` is the limited total reference and `ramp` the fraction of its slew in 1/1,000 mA; `vSum`
and `vN` gather the fed-back voltage for the next voltage-loop step, `pvSum`, `piSum` and `pN` voltage and current for the next
power-loop step; `mode` is what the voltage loop last did; `meanRing` holds the tick means of the loop currents in mA of the latest
1,024 ticks, newest first; `theta` and `gridF` are in 2^-32 turn and 2^-32 turn a tick; `acc` counts the ticks of the error
statistic. -/
structure Loops where
  trip : Nat
  tripLoop : Nat
  tripMore : Nat
  record : List LegDemand
  recordTick : Nat
  total : Int
  ramp : Nat
  cur : Vector CurLoop 4
  missRun : Nat
  heldSince : Nat
  heldRaised : Option Nat
  iV : Int
  integV : Int
  vRef : Int
  vFrac : Nat
  vSum : Int
  vN : Nat
  vMean : Int
  pvSum : Int
  piSum : Int
  pN : Nat
  pvMean : Int
  piMean : Int
  pLast : Int
  pRef : Int
  pMeas : Int
  mpptDir : Int
  integP : Int
  iP : Int
  theta : Int
  gridF : Int
  acc : Accum
  meanRing : List (List Int)
  voutTick : Int
  vlinkTick : Int
  active : Bool
  holds : Nat
  trips : Nat
  frozenWindows : Nat
  tune : Option Tuning
  mode : Nat
  power : Int
  deriving DecidableEq, Repr

/-- The loops at a start. -/
def Loops.reset : Loops :=
  { trip := 0, tripLoop := 0xFF, tripMore := 0, record := List.replicate 8 LegDemand.off, recordTick := 0, total := 0,
    ramp := 0, cur := Vector.replicate 4 CurLoop.reset, missRun := 0, heldSince := 0, heldRaised := none, iV := 0, integV := 0,
    vRef := 0, vFrac := 0, vSum := 0, vN := 0, vMean := 0, pvSum := 0, piSum := 0, pN := 0, pvMean := 0, piMean := 0,
    pLast := 0, pRef := 0, pMeas := 0, mpptDir := 1, integP := 0, iP := 0, theta := 0, gridF := 0, acc := Accum.reset,
    meanRing := [], voutTick := 0, vlinkTick := 0, active := false, holds := 0, trips := 0, frozenWindows := 0,
    tune := none, mode := 0, power := 0 }

/-- A free-wheel window (R330): the tick of the turn-off, i0, missing ticks, the currents at t + 64 and t + 20,064 where they were
seen, the first tick below FW_MA. -/
structure FreeWheel where
  t : Nat
  i0 : Nat
  missing : Nat
  at64 : Option Nat
  atEnd : Option Nat
  below : Option Nat
  deriving DecidableEq, Repr

/-- Why a channel is in SHORT_WAIT or LATCHED (R323, R325). -/
inductive ChanFault where
  | none | shortWait (since : Nat) | latched
  deriving DecidableEq, Repr

/-- One switch channel (R318 to R338). `was` holds what was staged in the latest ticks, newest first; `blocked` holds a contactor
channel off until it is commanded anew; `clearSeen` says that a latch shown has been dealt with. -/
structure Chan where
  want : Bool
  st : Nat
  a : Int
  thermal : Bool
  fault : ChanFault
  retries : Nat
  onClean : Nat
  shorts : Nat
  hflag : Nat
  iMa : Nat
  openRun : Nat
  openFlag : Bool
  openClear : Nat
  fw : Option FreeWheel
  noFw : Bool
  onSince : Option Nat
  holdRun : Nat
  failRun : Nat
  was : List Bool
  resetLatch : Bool
  clearSeen : Bool
  blocked : Bool
  byte : Nat
  deriving DecidableEq, Repr

/-- A channel after a start: want OFF (R322). -/
def Chan.reset : Chan :=
  { want := false, st := 0, a := 0, thermal := false, fault := .none, retries := 0, onClean := 0, shorts := 0, hflag := 0,
    iMa := 0, openRun := 0, openFlag := false, openClear := 0, fw := none, noFw := false, onSince := none, holdRun := 0,
    failRun := 0, was := [], resetLatch := false, clearSeen := false, blocked := false, byte := 0 }

/-- A block of the weld check (R332): its last sample tick, sums over its ticks of both channels, the number of samples, sums of
squared tick means and their number. -/
structure WeldBlk where
  last : Nat
  sumIn : Int
  sumOut : Int
  n : Nat
  sqIn : Int
  sqOut : Int
  ticks : Nat
  deriving DecidableEq, Repr

/-- A weld check in progress (R332): the tick of the turn-off, the block in progress, blocks that are over and not judged, and
those judged that mode 2 still needs, newest first; `judged` counts the blocks judged. -/
structure WeldCheck where
  t : Nat
  cur : WeldBlk
  ready : List WeldBlk
  old : List WeldBlk
  judged : Nat
  deriving DecidableEq, Repr

/-- The switch channels of a bay (R318 to R339). `waiting` holds commands to come: tick, mask, and the new wants, or 2^16 for a
reset; `lost` is the channels that failed R331. -/
structure Chans where
  ch : Vector Chan 12
  uvRun : Nat
  uvOff : Bool
  uvOkSince : Option Nat
  vaux : Int
  closed : Bool
  closeCmd : Option Nat
  closeMs : Nat
  weld : Option WeldCheck
  weldLast : Nat
  untested : Nat
  latchCleared : Nat
  feedOff : Bool
  feedOnAt : Option Nat
  lost : Nat
  waiting : List (Nat × Nat × Nat)
  deriving DecidableEq, Repr

/-- Switch channels at a start. -/
def Chans.reset : Chans :=
  { ch := Vector.replicate 12 Chan.reset, uvRun := 0, uvOff := false, uvOkSince := none, vaux := 0, closed := false,
    closeCmd := none, closeMs := 0, weld := none, weldLast := 0, untested := 0, latchCleared := 0, feedOff := false,
    feedOnAt := none, lost := 0, waiting := [] }

/-- A frame as Myavat has read it (R441 to R443, R449): generation, the hashes of its compensated lines, the means of its tiles, the
tile gains it is compensated with, the display's size. -/
structure DispFrame where
  gen : Nat
  hashes : List Nat
  tiles : List Nat
  gains : List Nat
  width : Nat
  height : Nat
  deriving DecidableEq, Repr

/-- A request of DISP_SHOW (R452). -/
structure DispJob where
  origin : Origin
  force : Bool
  gen : Nat
  addr : Nat
  blink : List Nat
  deriving DecidableEq, Repr

/-- A transfer to the bay head (R443 to R446): the request, the frame, what it is based on, the tick from which it opens, the lines
still to send, the governed tick that carried LAST. -/
structure DispXfer where
  job : DispJob
  frame : DispFrame
  full : Bool
  base : Nat
  from_ : Nat
  opened : Bool
  left : List Nat
  lastAt : Option Nat
  resends : Nat
  deriving DecidableEq, Repr

/-- The display of a bay at the QN960 (R440 to R456). `read` is a frame that is being read, `held` the generation last reported, `base`
the frame of which hashes are held, `forceNext` that the next transfer is full. -/
structure Disp where
  read : Option DispJob
  xfer : Option DispXfer
  held : Nat
  base : Option DispFrame
  forceNext : Bool
  section_ : Option DispSection
  transfers : Nat
  fulls : Nat
  linesSent : Nat
  fails : Nat
  stress : List Nat
  gains : List Nat
  loaded : Bool
  deriving DecidableEq, Repr

/-- A display at a start: stress counters 0 and full drive (R449). -/
def Disp.reset : Disp :=
  { read := none, xfer := none, held := 0, base := none, forceNext := false, section_ := none,
    transfers := 0, fulls := 0, linesSent := 0, fails := 0, stress := List.replicate 600 0,
    gains := List.replicate 600 65536, loaded := false }

/-- The state of the cells of a bay's output group (R45). -/
structure Grp where
  pilot : Pilot
  plc : Plc
  session : Session
  ident : Ident
  mod : Mod
  loops : Loops
  chans : Chans
  disp : Disp
  deriving DecidableEq, Repr

/-- An output group at a start. -/
def Grp.reset : Grp :=
  { pilot := Pilot.reset, plc := Plc.reset, session := Session.reset, ident := Ident.reset, mod := Mod.reset,
    loops := Loops.reset, chans := Chans.reset, disp := Disp.reset }

/-- What the interlock keeps of one leg (R282): state, and the instants at which each switch last turned off relative to
the tick that follows the last governed one. -/
structure LegHist where
  st : Nat
  offHi : Int
  offLo : Int
  deriving DecidableEq, Repr

/-- A leg that has been off for long. -/
def LegHist.reset : LegHist := ⟨0, -262144, -262144⟩

/-- The interlock of a bay, outlet hardware (R282 to R285). `sent` are the commands of the last data frame, `built` those
of the frame being built, which governs tick `builtFor`, `result` the reject codes of its legs. -/
structure Ilk where
  hist : Vector LegHist 8
  sent : List LegCmd
  built : List LegCmd
  rejected : Nat
  stamps : List Nat
  trip : Bool
  lastCode : Nat
  lastReject : Nat
  edges : Vector Nat 8
  rejects : Vector Nat 8
  trips : Nat
  testRejects : Nat
  result : List Nat
  builtFor : Nat
  deriving DecidableEq, Repr

/-- The interlock at a start: every leg off. -/
def Ilk.reset : Ilk :=
  { hist := Vector.replicate 8 LegHist.reset, sent := List.replicate 8 LegCmd.none,
    built := List.replicate 8 LegCmd.none, rejected := 0, stamps := [], trip := false, lastCode := 0, lastReject := 0,
    edges := Vector.replicate 8 0, rejects := Vector.replicate 8 0, trips := 0, testRejects := 0, result := [], builtFor := 0 }

/-- The guard cell of a bay (R158, R285, R310, R576): ALIVE, its stop line for trips and for staleness, for each offset the
number of consecutive compute ticks without freshness and whether UNDERRUN caused it. -/
structure Guard where
  alive : Nat
  tripStop : Bool
  staleStop : Bool
  stale : Vector Nat 9
  staleOff : Nat
  deriving DecidableEq, Repr

/-- The guard at a start. -/
def Guard.reset : Guard :=
  { alive := 0, tripStop := false, staleStop := false, stale := Vector.replicate 9 0, staleOff := 0xFF }

/-- One slot of the attenuation matrix (R204, R205): RunID, vehicle, state of R214, bay, window, and for each bay the sum
over all groups and sounds and the number of sounds. -/
structure SlacSlot where
  runId : Nat
  mac : Nat
  st : Nat
  bay : Nat
  first : Option Nat
  close : Option Nat
  sums : Vector (Nat × Nat) 96
  deriving DecidableEq, Repr

/-- A free slot. -/
def SlacSlot.free : SlacSlot :=
  { runId := 0, mac := 0, st := 0, bay := 0xFF, first := none, close := none, sums := Vector.replicate 96 (0, 0) }

/-- A RunID that has been heard and has no slot yet (R204). -/
structure SlacHeard where
  runId : Nat
  mac : Nat
  tick : Nat
  bays : BayMask
  deriving DecidableEq, Repr

/-- An assignment (R209, R215). -/
structure SlacAssign where
  mac : Nat
  bay : Nat
  court : CourtId
  expires : Nat
  deriving DecidableEq, Repr

/-- Bay matching, the same in every region (R204 to R215). -/
structure Slac where
  slots : Vector SlacSlot 16
  heard : List SlacHeard
  assigns : List SlacAssign
  deriving DecidableEq, Repr

/-- Bay matching at a start. -/
def Slac.reset : Slac := { slots := Vector.replicate 16 SlacSlot.free, heard := [], assigns := [] }

/-- A set of certificates that a court has loaded (R221, R243): TYPE, PROTOCOL, the DER certificates, the key. -/
structure CertSet where
  court : CourtId
  type_ : Nat
  protocol : Nat
  certs : List (List Byte)
  keyId : Nat
  from_ : Nat
  deriving DecidableEq, Repr

end Sys2Proof.Machine
end

