-- ==== Sys2Proof/Machine/StateBay.lean ====
section
/-! DEFINITION. State of one bay. -/

namespace Sys2Proof.Machine

/-- Lane states (R171). -/
inductive LinkSt where
  | down | lock | measure | identify | configure | ready | service | mismatch
  deriving DecidableEq, Repr

/-- The code of a lane state (R171). -/
def LinkSt.code : LinkSt → Nat
  | .down => 0 | .lock => 1 | .measure => 2 | .identify => 3 | .configure => 4 | .ready => 5 | .service => 6
  | .mismatch => 7

/-- A management request in flight (R175): the request, the tick it was last sent, how often it was repeated. -/
structure MgmtOut where
  req : MgmtReq
  sentAt : Nat
  repeats : Nat
  deriving DecidableEq, Repr

/-- A firmware delivery to a bay head (R178, R181): the next offset to send, and when RESTART was acknowledged. -/
structure FwSend where
  next : Nat
  restartAt : Option Nat
  deriving DecidableEq, Repr

/-- Counts of one lane (R170, R179). -/
structure LinkCounts where
  missing : Nat
  crcFail : Nat
  late : Nat
  duplicate : Nat
  tickErr : Nat
  aliveStall : Nat
  overflows : Nat
  retrains : Nat
  deriving DecidableEq, Repr

/-- One bay lane (R171 to R182). `retrain` marks a LINK_RETRAIN that takes effect at the next tick boundary. -/
structure Link where
  st : LinkSt
  enteredAt : Nat
  holdUntil : Nat
  retrain : Bool
  signal : Bool
  blockLock : Bool
  alignNext : Option Nat
  alignCount : Nat
  exchanges : List (Nat × Nat)
  queue : List (Nat × Nat × Nat)
  req : Option MgmtOut
  tag : Nat
  headId : Nat
  linkVer : Nat
  legs : Nat
  swCh : Nat
  metroCh : Nat
  ctrlCh : Nat
  caps : Nat
  fwVer : Nat
  fwHash : Nat
  txLat : Nat
  rxLat : Nat
  dtMin : Nat
  safeId : Nat
  epochSeen : Nat
  dUp : Nat
  dDown : Nat
  dtWritten : Nat
  dtOld : Nat
  stopWritten : Nat
  lastStatus : Nat
  lastAlive : Option Nat
  accepted : List Nat
  held : Option UpFrame
  frame : Option UpFrame
  missRun : Nat
  counts : LinkCounts
  status : Option (Bool × Nat × Nat)
  rejLeg : Nat
  rejDt : Nat
  rejAt : Option Nat
  fw : Option FwSend
  sent : Option DownFrame
  deriving DecidableEq, Repr

/-- A lane at a start: DOWN, free to leave it (R171). -/
def Link.reset : Link :=
  { st := .down, enteredAt := 0, holdUntil := 0, retrain := false, signal := false, blockLock := false, alignNext := none, alignCount := 0,
    exchanges := [], queue := [], req := none, tag := 0, headId := 0, linkVer := 0, legs := 0, swCh := 0, metroCh := 0,
    ctrlCh := 0, caps := 0, fwVer := 0, fwHash := 0, txLat := 0, rxLat := 0, dtMin := 0, safeId := 0, epochSeen := 0, dUp := 0,
    dDown := 0, dtWritten := 2000000, dtOld := 2000000, stopWritten := 0xFFF, lastStatus := 0, lastAlive := none,
    accepted := [], held := none, frame := none, missRun := 0, counts := ⟨0, 0, 0, 0, 0, 0, 0, 0⟩, status := none,
    rejLeg := 0, rejDt := 0, rejAt := none, fw := none, sent := none }

/-- A delivery of bay head firmware under way (R181): its request, transfer, image, hash, the bays still to load, and
what has failed (bay, status). -/
structure FwLoad where
  origin : Origin
  transfer : Nat
  image : List Byte
  hash : Nat
  bays : BayMask
  failed : Option (Nat × Nat)
  deriving DecidableEq, Repr

/-- One bay: its entry in force, its lane, the output group as computed and as committed, the lone cells likewise, the
interlock, metrology samples kept by the intake (R12), the calibration table in force, events held until the commit. -/
structure Bay where
  entry : Option (List Byte)
  unavail : Bool
  safeHold : Bool
  link : Link
  grp : Grp
  grpCk : Grp
  ilk : Ilk
  earth : Earth
  earthCk : Earth
  guard : Guard
  guardCk : Guard
  orders : List (Nat × Nat)
  live : Vector Nat 9
  seen : Option (Bool × Bool)
  busScope : Nat
  earthLatch : Bool
  earthFree : Bool
  outOfService : Bool
  led : LedgerBay
  ledCk : LedgerBay
  taken : LedgerTaken
  metro : List MetroSample
  meter : MeterCell
  meterCk : MeterCell
  cal : Option CalTable
  staged : List (Nat × Ev)
  deriving DecidableEq, Repr

/-- A bay at a start: no entry in force (R116). `orders` are the stop scope and cause of the latest frames sent, newest
first, scope 0 for RUN. `live` is what each offset 0 to 8 committed in the last tick: 0 nothing, 1 a fresh
liveness word, 2 one with STALE set by UNDERRUN (R576). `seen` is what the cells see of lane service and of the other twin's stop on a pair in step. `safeHold` is the safe state of a bay whose court has restarted (R93). `busScope` is the stop that the safety unit drives on the stop bus (R483), `earthLatch` its latched earth
trip (R355) and `earthFree` an EARTH_RESET that releases it at the next tick boundary (R361). -/
def Bay.reset : Bay :=
  { entry := none, unavail := false, safeHold := false, link := Link.reset, grp := Grp.reset, grpCk := Grp.reset, ilk := Ilk.reset,
    earth := Earth.reset, earthCk := Earth.reset, guard := Guard.reset, guardCk := Guard.reset, orders := [], live := Vector.replicate 9 1, seen := none,
    busScope := 7, earthLatch := false, earthFree := false, outOfService := false, led := LedgerBay.reset, ledCk := LedgerBay.reset,
    taken := ⟨0, false, false⟩,
    metro := [], meter := MeterCell.reset, meterCk := MeterCell.reset, cal := none, staged := [] }

/-- Whether the lane serves, as the cells see it: on a pair in step the server's SVC_MASK says so (R610). -/
def Bay.serving (b : Bay) : Bool :=
  match b.seen with
  | some (svc, _) => svc
  | none => b.link.st == .service

/-- Whether a safety unit stops the bay, as the cells see it: on a pair in step the other unit's stop counts too (R610). -/
def Bay.stopSeen (b : Bay) : Bool :=
  b.busScope != 0 || match b.seen with
    | some (_, stop) => stop
    | none => false

/-- The session of a bay. -/
abbrev Bay.session (b : Bay) : Session := b.grp.session

/-- The switch channels of a bay. -/
abbrev Bay.chans (b : Bay) : Chans := b.grp.chans

/-- The pilot of a bay. -/
abbrev Bay.pilot (b : Bay) : Pilot := b.grp.pilot

/-- Green PHY of a bay. -/
abbrev Bay.plc (b : Bay) : Plc := b.grp.plc

/-- Identification of a bay. -/
abbrev Bay.ident (b : Bay) : Ident := b.grp.ident

end Sys2Proof.Machine
end

