-- ==== Sys2Proof/Machine/StateFault.lean ====
section
/-! DEFINITION. State of faults, takeovers and the scorebook (spec file 21). -/

namespace Sys2Proof.Machine

/-- A scorebook record (R591). -/
structure SbRec where
  tick : Nat
  level : Nat
  code : Nat
  region : Nat
  block : Nat
  slot : Nat
  phys : Nat
  bay : Nat
  court : Nat
  store : Nat
  data0 : Nat
  data1 : Nat
  deriving DecidableEq, Repr

/-- A last-word register (R596). -/
structure LastWord where
  tick : Nat
  code : Nat
  region : Nat
  block : Nat
  slot : Nat
  data : Nat
  deriving DecidableEq, Repr

/-- The records written of one code and one cell in a second (R590): code, cell (1024 for none), when the second began, records written,
records left out since the last one written. -/
structure SbRate where
  code : Nat
  cell : Nat
  from_ : Nat
  n : Nat
  left : Nat
  deriving DecidableEq, Repr

/-- The scorebook (R590 to R597): the records, newest first, SB_NEXT, SB_FROZEN, SB_FAIL, the freeze tick, the last-word registers. -/
structure Scorebook where
  recs : List SbRec
  next : Nat
  frozen : Bool
  failed : Bool
  freezeTick : Nat
  lw : Vector LastWord 8
  lwNext : Nat
  lwCount : Nat
  rates : List SbRate
  deriving DecidableEq, Repr

/-- An empty scorebook. -/
def Scorebook.reset : Scorebook :=
  { recs := [], next := 0, frozen := false, failed := false, freezeTick := 0, lw := Vector.replicate 8 ⟨0, 0, 0, 0, 0, 0⟩, lwNext := 0,
    lwCount := 0, rates := [] }

/-- The island copy of the scorebook (R594): whether MARK is valid, the header, the records, oldest first; `busy` is a copy under way: its
freeze tick, its first record, its records. -/
structure IslandCopy where
  mark : Bool
  tick : Nat
  first : Nat
  freezes : Nat
  recs : List SbRec
  busy : Option (Nat × Nat × List SbRec)
  deriving DecidableEq, Repr

/-- No island copy. -/
def IslandCopy.none : IslandCopy := { mark := false, tick := 0, first := 0, freezes := 0, recs := [], busy := Option.none }

/-- What is kept of one working cell (R599): 0 running, 2 covered by the spare, 3 uncovered, 4 retired at start; its counts; the ticks of
its failure and of its resumption. -/
structure CellRec where
  st : Nat
  overruns : Nat
  poison : Nat
  lockups : Nat
  traps : Nat
  corrected : Nat
  failTick : Nat
  resumeTick : Nat
  deriving DecidableEq, Repr

/-- A cell at a start. -/
def CellRec.reset : CellRec := ⟨0, 0, 0, 0, 0, 0, 0, 0⟩

/-- What is kept of one block (R577 to R584): the spare (0 free, 1 covering, 2 failed), the slot it covers, whether the block store is lost,
the assists that have failed (bit k for the code k of BLOCK_FAULT), and the job faults: code and tick. -/
structure BlockRec where
  spare : Nat
  slot : Nat
  lost : Bool
  assists : Nat
  jobs : List (Nat × Nat)
  deriving DecidableEq, Repr

/-- A block at a start. -/
def BlockRec.reset : BlockRec := ⟨0, 0, false, 0, []⟩

/-- A takeover under way (R577): the cell, its failure tick, the cause of CELL_FAULT, whether its checkpoint is poisoned (R580). -/
structure Takeover where
  cell : CellId
  failTick : Nat
  cause : Nat
  badCkpt : Bool
  deriving DecidableEq, Repr

/-- How a cell's tick work of the tick in progress ended (R38, R46): its completion cycle (0: not signalled), whether it holds an uncorrectable
error (its STORE_ID and word), whether it read an empty queue (R132). -/
structure CellMark where
  cell : CellId
  cycle : Nat
  poison : Option (Nat × Nat)
  under : Bool
  deriving DecidableEq, Repr

/-- Faults since the start (R572 to R603). `cells` by 64 · region + region slot and `blocks` by 8 · region + block list what is not at its
start value. `overruns` are the overruns of the last 1,000 tk: group (bay, or 96 + region for site cells) and compute tick; `degraded` the
groups that are DEGRADED, each with the tick of its last overrun. `counts` are the nine counts of R598 in their order. `fatal` marks a
fatal event since the start; `marks` are those of the tick in progress, `late` the cells that had not signalled at the commit of a tick (R574),
`inject` the failures asked for by FAULT_INJECT: cell, kind and tick. -/
structure Faults where
  cells : List (Nat × CellRec)
  blocks : List (Nat × BlockRec)
  takeovers : List Takeover
  overruns : List (Nat × Nat)
  degraded : List (Nat × Nat)
  counts : Vector Nat 9
  tjMax : Int
  warnAt : Option Nat
  fatal : Bool
  marks : List CellMark
  late : List (CellId × Nat)
  inject : List (CellId × Nat × Nat)
  resetAt : Option Nat
  clockLost : Bool
  lastReset : Nat
  retired : Nat
  book : Scorebook
  copy : IslandCopy
  deriving DecidableEq, Repr

/-- No fault since the start. -/
def Faults.reset : Faults :=
  { cells := [], blocks := [], takeovers := [], overruns := [], degraded := [], counts := Vector.replicate 9 0, tjMax := 0, warnAt := none,
    fatal := false, marks := [], late := [], inject := [], resetAt := none, clockLost := false, lastReset := 0, retired := 0, book := Scorebook.reset,
    copy := IslandCopy.none }

end Sys2Proof.Machine
end

