-- ==== Sys2Proof/Machine/StateSafety.lean ====
section
/-! DEFINITION. State of the safety unit, its connections and its change log (spec files 18 and 19). -/

namespace Sys2Proof.Machine

/-- A safety input (R487 to R490, R509, R510). `run` counts the samples that a new level has held; `roseAt` and `voidAt` are the times in
us of the last rise and of the end of a pulse that was void; `void` marks a pulse that is none, `edge` a reset edge and `rise` a
rise that have not acted yet; `kind` is the fault of R489. The other fields gather the test checks of the pulse and of the period. -/
structure SafeIn where
  raw : Bool
  filt : Bool
  run : Nat
  roseAt : Option Nat
  voidAt : Option Nat
  void : Bool
  stuck : Bool
  edge : Bool
  rise : Bool
  kind : Nat
  pre : Bool
  zero : Bool
  one : Bool
  post : Bool
  failS : Bool
  failC : Bool
  prevS : Bool
  prevC : Bool
  good : Nat
  deriving DecidableEq, Repr

/-- An input at a start. -/
def SafeIn.reset : SafeIn :=
  { raw := false, filt := false, run := 0, roseAt := none, voidAt := none, void := false, stuck := false, edge := false,
    rise := false, kind := 0, pre := false, zero := false, one := false, post := false, failS := false, failC := false,
    prevS := false, prevC := false, good := 0 }

/-- A dual pair of inputs (R491): since when the two differ, DISCREPANCY, and how far its clearing has come. -/
structure SafeDual where
  differ : Option Nat
  fault : Bool
  zeroSeen : Bool
  firstOne : Option Nat
  deriving DecidableEq, Repr

/-- A dual pair at a start. -/
def SafeDual.reset : SafeDual := ⟨none, false, false, none⟩

/-- A safety function (R494): its state and cause, the input or pair concerned, when STOPPING or MUTED began, the two-hand window, the
rises of the muting inputs, the furthest position (R503), the last verdict of R503 (0 no demand, else its cause), whether P_REQ is 0 for a
cause of its own (R519), the two dual pairs. -/
structure SafeFn where
  st : Nat
  cause : Nat
  inp : Nat
  since : Nat
  hand : Option Nat
  riseC : Option Nat
  riseD : Option Nat
  far : Int
  lim : Nat
  own : Bool
  d1 : SafeDual
  d2 : SafeDual
  deriving DecidableEq, Repr

/-- A function before a configuration is accepted. -/
def SafeFn.reset : SafeFn :=
  { st := 0, cause := 0, inp := 0xFF, since := 0, hand := none, riseC := none, riseD := none, far := 0, lim := 0, own := false,
    d1 := SafeDual.reset, d2 := SafeDual.reset }

/-- An encoder channel (R501, R502): `hist` holds the position at each microsecond, newest first; `bad` is a fault not yet raised;
`stamps` the times of the illegal transitions of the last second. -/
structure SafeEnc where
  pos : Int
  ab : Option Nat
  ok : Bool
  valid : Bool
  refd : Bool
  hist : List Int
  bad : Nat
  illegal : Nat
  lastIllegal : Nat
  stamps : List Nat
  deriving DecidableEq, Repr

/-- An encoder channel at a start: VALID and not referenced (log 88). -/
def SafeEnc.reset : SafeEnc :=
  { pos := 0, ab := none, ok := false, valid := true, refd := false, hist := [], bad := 0, illegal := 0, lastIllegal := 0,
    stamps := [] }

/-- An output pair (R505 to R508): its switches, when SOL turned on and when the command last changed, mismatches in a row, the fault
kind, whether an off test has passed since the fault, the last test. -/
structure SafePair where
  sol : Bool
  soh : Bool
  solAt : Nat
  changedAt : Nat
  mism : Nat
  kind : Nat
  passed : Bool
  testAt : Nat
  deriving DecidableEq, Repr

/-- An output pair at a start: both switches off. -/
def SafePair.reset : SafePair :=
  { sol := false, soh := false, solAt := 0, changedAt := 0, mism := 0, kind := 0, passed := false, testAt := 0 }

/-- A safe connection (R517 to R521): state (0 DOWN, 1 STARTING, 2 OK, 3 FAULT), when it was entered, the next SEQ, the last frame sent
and when, the STAMPs sent since STARTING began, what was last accepted, discards in a row, counted frames, the peer's DEMAND and STATE,
stretched demand bits, the order of the last failure, the eight counts of R538 in their order. -/
structure SafeConn where
  st : Nat
  since : Nat
  seq : Nat
  sent : List Byte
  sentAt : Nat
  stamps : List Nat
  lastSeq : Option Nat
  lastEcho : Option Nat
  lastStamp : Nat
  lastAt : Nat
  bad : Nat
  good : Nat
  demand : Nat
  peer : Nat
  stretch : Vector Nat 16
  lastFail : Nat
  counts : Vector Nat 8
  deriving DecidableEq, Repr

/-- A connection that is DOWN (R521). -/
def SafeConn.reset : SafeConn :=
  { st := 0, since := 0, seq := 0, sent := [], sentAt := 0, stamps := [], lastSeq := none, lastEcho := none, lastStamp := 0,
    lastAt := 0, bad := 0, good := 0, demand := 0, peer := 0, stretch := Vector.replicate 16 0, lastFail := 0,
    counts := Vector.replicate 8 0 }

/-- An accepted configuration that waits for its tick boundary (R533), the request to answer, its log kind, whether the returner has still to
accept it (R534). -/
structure SafeLoad where
  origin : Option Origin
  payload : List Byte
  kind : Nat
  prev : Nat
  tick : Nat
  waits : Bool
  deriving DecidableEq, Repr

/-- The safety unit (R481 to R540). `st` has the codes of R483; `us` counts the microseconds of the SAFE domain; `cfg` is the payload of
the configuration in force; `toggleLost` marks the outlets that see no toggle edge; `headStop` are the bay stops of R527 that are
latched; `words` are the words of a bay head's frame as they are read (R525). -/
structure Safety where
  st : Nat
  mon : Nat
  us : Nat
  cfg : Option (List Byte)
  ins : Vector SafeIn 24
  fns : Vector SafeFn 16
  encs : Vector SafeEnc 4
  pairs : Vector SafePair 8
  conns : Vector SafeConn 8
  bayConns : Vector SafeConn 96
  headStop : BitVec 96
  words : Vector (List Nat) 96
  toggleLost : BitVec 16
  loopMax : Nat
  demands : Nat
  shortResets : Nat
  ecc : Nat
  testFails : Nat
  log : List (List Byte)
  nextSeq : Nat
  lastHash : Nat
  lockUntil : Option Nat
  fails : Nat
  load : Option SafeLoad
  commission : Option Origin
  deriving DecidableEq, Repr

/-- The safety unit at a start (R483). -/
def Safety.reset : Safety :=
  { st := 0, mon := 0, us := 0, cfg := none, ins := Vector.replicate 24 SafeIn.reset, fns := Vector.replicate 16 SafeFn.reset,
    encs := Vector.replicate 4 SafeEnc.reset, pairs := Vector.replicate 8 SafePair.reset,
    conns := Vector.replicate 8 SafeConn.reset, bayConns := Vector.replicate 96 SafeConn.reset, headStop := 0,
    words := Vector.replicate 96 [], toggleLost := 0, loopMax := 0, demands := 0, shortResets := 0, ecc := 0, testFails := 0,
    log := [], nextSeq := 1, lastHash := 0, lockUntil := none, fails := 0, load := none, commission := none }

end Sys2Proof.Machine
end

