-- ==== Sys2Proof/Machine/StateHead.lean ====
section
/-! DEFINITION. State of a bay head: ports, stops, legs, switch channels, pilot, identification fields, display, firmware, register
block (spec file 06, with 07, 09, 12, 16, 19 and 22). -/

namespace Sys2Proof.Machine

/-- A leg at a bay head: the switch that is on (0 none, 1 low side, 2 high side), when each last turned off, a turn-on that the dead time
delays (switch and instant). Instants are in units of 1/1,024 ps. -/
structure HeadLeg where
  out : Nat
  lowOff : Option Nat
  highOff : Option Nat
  wait : Option (Nat × Nat)
  deriving DecidableEq, Repr

/-- A leg at power-up: both off. -/
def HeadLeg.reset : HeadLeg := { out := 0, lowOff := none, highOff := none, wait := none }

/-- A switch channel at a bay head (R318, R319). -/
structure HeadChan where
  on : Bool
  ilim : Nat
  latched : Bool
  deriving DecidableEq, Repr

/-- One port of a bay head: in SERVICE, ticks without a recognised frame (R617), its answer in CONFIG_RSP (R175), SAFE_PEER, the words
written and read of the safe frames, a complete frame that waits for its checks, its connection (R525, R526). -/
structure HeadPort where
  inService : Bool
  noFrame : Nat
  answer : Option MgmtRsp
  peer : Nat
  dl : List Nat
  dlDone : Option (List Byte)
  ul : List Byte
  ulLatch : List Byte
  conn : SafeConn
  deriving DecidableEq, Repr

/-- A port at power-up. -/
def HeadPort.reset : HeadPort :=
  { inService := false, noFrame := 0, answer := none, peer := 0, dl := [0, 0, 0, 0], dlDone := none, ul := List.replicate 32 0,
    ulLatch := List.replicate 32 0, conn := SafeConn.reset }

/-- An image at a bay head's display: its generation, its lines, its blink rectangles (R445, R448). -/
structure HeadImage where
  gen : Nat
  lines : List (Nat × List Nat)
  rects : List Nat
  deriving DecidableEq, Repr

/-- A display transfer that is open (R445). -/
structure HeadXfer where
  image : HeadImage
  broken : Bool
  deriving DecidableEq, Repr

/-- A bay head. `scope` is the scope of the stop it holds; `ready` a frame that may release it (R168); `cmd` the commands of the last
fresh frame; `safeStop` says that the stop is held for want of a safe connection (R526); `stretch` how many further frames carry its
demand; `pilotNext` a duty that waits for the next period; `present` an image that is presented from the next tick; `fwWord` word 0x0002. -/
structure Head where
  tick : Nat
  stopped : Bool
  localTrip : Bool
  scope : Nat
  selected : Nat
  dlBad : Nat
  dtClamp : Nat
  legRej : Nat
  appliedTick : Nat
  epoch : Nat
  lastAlive : Option Nat
  freshRun : Nat
  heldRun : Nat
  ready : Option DownFrame
  cmd : Option DownFrame
  legs : Vector HeadLeg 8
  chans : Vector HeadChan 12
  pilotMode : Nat
  pilotDuty : Nat
  pilotNext : Option Nat
  rxGain : Nat
  hfField : Bool
  uhfField : Bool
  env : Nat
  sel : Nat
  depth : Nat
  channel : Nat
  power : Nat
  idGain : Nat
  front : HeadImage
  present : Option HeadImage
  back : Option HeadXfer
  fwXfer : Nat
  fwData : List Byte
  fwWord : Nat
  dtSet : Nat
  stopMask : Nat
  delay : Nat
  restart : Bool
  safeStop : Bool
  demanding : Bool
  stretch : Nat
  ports : Vector HeadPort 2
  deriving DecidableEq, Repr

/-- A bay head at its own power-up: stopped, legs and channels off, pilot at steady -12 V, both fields off, registers at their Reset values
(R168, R176). -/
def Head.reset (fwWord : Nat) : Head :=
  { tick := 0, stopped := true, localTrip := true, scope := 7, selected := 0, dlBad := 0, dtClamp := 0, legRej := 0, appliedTick := 0,
    epoch := 0, lastAlive := none, freshRun := 0, heldRun := 0, ready := none, cmd := none, legs := Vector.replicate 8 HeadLeg.reset,
    chans := Vector.replicate 12 ⟨false, 0, false⟩, pilotMode := 0, pilotDuty := 0, pilotNext := none, rxGain := 0, hfField := false,
    uhfField := false, env := 0, sel := 0, depth := 0, channel := 0, power := 0, idGain := 0, front := ⟨0, [], []⟩, present := none,
    back := none, fwXfer := 0, fwData := [], fwWord := fwWord, dtSet := 2000000, stopMask := 0xFFF, delay := 0, restart := false,
    safeStop := false, demanding := false, stretch := 0, ports := Vector.replicate 2 HeadPort.reset }

end Sys2Proof.Machine
end

