-- ==== Sys2Proof/Machine/Bundle.lean ====
section
/-! DEFINITION. Bundles and their manifests as byte strings, and the checks that verify one (R642, R643). -/

namespace Sys2Proof.Machine

/-- The COSE_Sign1 of a bundle (R642). -/
def bundleCose (img : List Byte) : List Byte := (img.drop 4).take (leGet img 0 4)

/-- The manifest of a bundle (R642). -/
def bundleManifest (img : List Byte) : List Byte := (Config.cosePayload (bundleCose img)).getD []

/-- The manifest hash of a bundle (R642). -/
def manifestHash (img : List Byte) : Nat := Config.sha384 (bundleManifest img)

/-- The component entries of a manifest. -/
def manifestParts (m : List Byte) : List (List Byte) :=
  (List.range (leGet m 3 1)).map fun i => (m.drop (136 + 64 * i)).take 64

/-- KEY of a manifest. -/
def manifestKey (m : List Byte) : List Byte := (m.drop 32).take 97

/-- The bytes of a component. -/
def partBytes (img p : List Byte) : List Byte := (img.drop (leGet p 4 4)).take (leGet p 8 4)

/-- Check 1 of R643: length, FORMAT, COMPONENTS, TOTAL_LEN, reserved bytes, and REVOKE. -/
def formatOk (img m : List Byte) : Bool :=
  4 + leGet img 0 4 ≤ img.length && leGet m 0 1 == 1 && 1 ≤ leGet m 3 1 && leGet m 3 1 ≤ 56 && m.length == 136 + 64 * leGet m 3 1 &&
  4096 ≤ leGet m 24 4 && leGet m 24 4 ≤ 6291456 && leGet m 24 4 ≤ img.length && leGet m 11 5 == 0 && leGet m 28 4 == 0 && leGet m 129 7 == 0 &&
  leGet m 10 1 < 4 && !bitOf (leGet m 10 1) (leGet m 2 1) &&
  (manifestParts m).all fun p => leGet p 1 1 == 0 && leGet p 12 4 == 0

/-- Whether two components overlap. -/
def partsApart (p q : List Byte) : Bool :=
  leGet p 4 4 + leGet p 8 4 ≤ leGet q 4 4 || leGet q 4 4 + leGet q 8 4 ≤ leGet p 4 4

/-- No two of a list of components overlap. -/
def partsDisjoint : List (List Byte) → Bool
  | [] => true
  | p :: t => t.all (partsApart p) && partsDisjoint t

/-- Check 6 of R643; OFFSET as R642 states. -/
def componentsOk (img m : List Byte) : Bool :=
  let ps := manifestParts m
  let ofType := fun (n : Nat) => (ps.filter fun p => leGet p 0 1 == n).length
  (ps.all fun p => 4096 ≤ leGet p 4 4 && leGet p 4 4 % 4096 == 0 && leGet p 4 4 + leGet p 8 4 ≤ leGet m 24 4 &&
    leGet p 16 48 == Config.sha384 (partBytes img p)) &&
  partsDisjoint ps && ofType 1 == 1 && ofType 3 == 1 &&
  (List.range 14).all fun f => ps.any fun p => leGet p 0 1 == 2 && leGet p 2 2 == Config.imageId f

/-- The first check of R643 that a bundle fails, 0 where it is verified. `h0` and `h1` are KFW_HASH0 and KFW_HASH1, `revoked` the bits of
KFW_REVOKE, `svn` the burned bits of FW_SVN, `readOk` whether it could be read. -/
def bundleFail (h0 h1 revoked svn : Nat) (readOk : Bool) (img : List Byte) : Nat :=
  let m := bundleManifest img
  let h := if leGet m 2 1 = 0 then h0 else if leGet m 2 1 = 1 then h1 else 0
  if !readOk then 7
  else if !formatOk img m then 1
  else if h = 0 ∨ Config.sha384 (manifestKey m) ≠ h ∨ bitOf revoked (leGet m 2 1) then 2
  else if Config.coseAlg (bundleCose img) ≠ -35 ∨ Config.coseCheck (bundleCose img) (manifestKey m) ≠ 0 then 3
  else if leGet m 1 1 ≠ 0xB1 then 4
  else if leGet m 8 1 < svn then 5
  else if !componentsOk img m then 6
  else 0

/-- The measurements of a booted bundle with those of the mask ROM, by kind (R646); TYPE 2 images in the order of the manifest. -/
def measuresOf (img : List Byte) : List (Nat × Nat) :=
  let ps := manifestParts (bundleManifest img)
  let ofType := fun (n : Nat) => (ps.filter fun p => leGet p 0 1 == n).map fun p => leGet p 16 48
  [(1, Config.romHash), (2, manifestHash img)] ++ (ofType 1).map (fun h => (3, h)) ++ (ofType 2).map (fun h => (4, h)) ++
    (ofType 3).map (fun h => (5, h)) ++ [(6, Config.legalRomHash)]

end Sys2Proof.Machine
end

