-- ==== Sys2Proof/Machine/StateSite.lean ====
section
/-! DEFINITION. State of the site-wide units: twin and ring (22), boot and update (23), island (24). -/

namespace Sys2Proof.Machine

/-- Pair states (R614). -/
inductive PairState where
  | unpaired | alone | paired | joining | inStep
  deriving DecidableEq, Repr

/-- The code of a pair state (R614). -/
def PairState.code : PairState → Nat
  | .unpaired => 0 | .alone => 1 | .paired => 2 | .joining => 3 | .inStep => 4

/-- A transfer on the twin link that awaits its acknowledgement (R613). -/
structure TwinXfer where
  cls : Nat
  seq : Nat
  sentAt : Nat
  tries : Nat
  deriving DecidableEq, Repr

/-- A mirrored input that waits for its acknowledgement (R611). -/
structure Mirror where
  seq : Nat
  tick : Nat
  input : MirrorInput
  acked : Bool
  sentAt : Nat
  deriving DecidableEq, Repr

/-- A command forwarded to the returner (R656). -/
structure Forward where
  origin : Origin
  opcode : Nat
  layout : List Nat
  sentAt : Nat
  limit : Nat
  deriving DecidableEq, Repr

/-- What takes effect at the next tick boundary (R615, R622, R633): a join, a leave, a TAKE, the yield of a server in region fault, or going
on alone without the returner (R611). -/
inductive TwinDo where
  | join | leave | take | yield | alone
  deriving DecidableEq, Repr

/-- The twin pair as this QN960 sees it (R604 to R636). `peer` is what is known of the other twin; `sent` the control block
it has last sent, `armAt` the tick for which a mirrored
input is being armed; `results` the answers to forwarded commands that it has sent; `todo` what the next tick boundary brings; `missAt` the last tick in which the heartbeat was missing, plus 1; `cuts`
the units being cut in with their tick J; `recut` the regions whose cut-ins are to be repeated (R612). -/
structure Twin where
  en : Bool
  pos : Nat
  st : PairState
  server : Bool
  epoch : Nat
  twinEpoch : Nat
  linkUp : Bool
  linkBarred : Bool
  training : Nat
  delaySum : Nat
  delayPs : Nat
  twhbOut : Bool
  block : Option Tcb
  sent : Option Tcb
  blockTick : Nat
  missBlocks : Nat
  missTwhb : Nat
  digests : List Nat
  mirrorSeq : Nat
  mirrors : List Mirror
  peer : Option PeerInfo
  armAt : Option Nat
  todo : List (TwinDo × Option Origin)
  epochNext : Nat
  missAt : Nat
  cuts : List (CutUnit × Nat)
  cutDone : List CutUnit
  recut : List Nat
  yieldSet : Bool
  barred : Bool
  handover : Option (Nat × Option Origin)
  joinPhase : Nat
  joinStart : Nat
  joinOrigin : Option Origin
  leftAt : Option Nat
  lastReason : Nat
  lastRegion : Nat
  mismatchTicks : List (Nat × Nat)
  forwards : List Forward
  results : List OutMsg
  xfers : List TwinXfer
  sendSeq : Nat
  swapAt : Option (Nat × Origin)
  holdLanes : Bool
  hbMissed : Nat
  rxDisagree : Nat
  digestMismatches : Nat
  mirrorsSent : Nat
  resends : Nat
  takeovers : Nat
  joins : Nat
  lastTakeoverTick : Nat
  deriving DecidableEq, Repr

/-- An unpaired QN960 with TWIN_EN 0: it holds the serve (R604, R615). -/
def Twin.reset : Twin :=
  { en := false, pos := 0, st := .unpaired, server := true, epoch := 1, twinEpoch := 0, linkUp := false,
    linkBarred := false, training := 0, delaySum := 0, delayPs := 0, twhbOut := false, block := none, sent := none, blockTick := 0,
    missBlocks := 0, missTwhb := 0, digests := List.replicate 16 0, mirrorSeq := 0, mirrors := [], peer := none, armAt := none,
    todo := [], epochNext := 0, missAt := 0, cuts := [], cutDone := [], recut := [], yieldSet := false,
    barred := false, handover := none, joinPhase := 0, joinStart := 0, joinOrigin := none, leftAt := none, lastReason := 0, lastRegion := 0xFF, mismatchTicks := [], forwards := [], results := [], xfers := [],
    sendSeq := 0, swapAt := none, holdLanes := false, hbMissed := 0, rxDisagree := 0, digestMismatches := 0,
    mirrorsSent := 0, resends := 0, takeovers := 0, joins := 0, lastTakeoverTick := 0 }

/-- Ring states (R635). -/
inductive RingState where
  | disabled | kickoff | openRing | closed
  deriving DecidableEq, Repr

/-- The code of a ring state (R635). -/
def RingState.code : RingState → Nat
  | .disabled => 0 | .kickoff => 1 | .openRing => 2 | .closed => 3

/-- The site ring at this node (R628 to R635). `sent` holds the frames sent by the last ring step with their ports. -/
structure Ring where
  en : Bool
  prio : Nat
  st : RingState
  master : Bool
  position : Nat
  eastUp : Bool
  westUp : Bool
  masterId : Nat
  best : Nat
  waitUntil : Option Nat
  claimedAt : Option Nat
  lastCheck : Nat
  lastSent : Nat
  outstanding : Nat
  nodes : Nat
  sent : List (RingPort × RingFrame)
  bundleRx : Option (Nat × List Byte)
  bundleTx : Option (Nat × Nat × Nat)
  kickoffs : Nat
  checksLost : Nat
  forwarded : Nat
  dropped : Nat
  deriving DecidableEq, Repr

/-- The ring after a start: disabled until RING_CONFIG (R634). -/
def Ring.reset : Ring :=
  { en := false, prio := 0, st := .disabled, master := false, position := 0, eastUp := false, westUp := false,
    masterId := 0, best := 0, waitUntil := none, claimedAt := none, lastCheck := 0, lastSent := 0, outstanding := 0,
    nodes := 0, sent := [], bundleRx := none, bundleTx := none, kickoffs := 0, checksLost := 0, forwarded := 0,
    dropped := 0 }

/-- Slot states of the boot record (R641). -/
inductive SlotState where
  | empty | staged | trial | confirmed | bad
  deriving DecidableEq, Repr

/-- The code of a slot state (R641). -/
def SlotState.code : SlotState → Nat
  | .empty => 0 | .staged => 1 | .trial => 2 | .confirmed => 3 | .bad => 4

/-- One slot of the boot record (R641). -/
structure SlotRec where
  st : SlotState
  attempts : Nat
  trialS : Nat
  svn : Nat
  hash : Nat
  deriving DecidableEq, Repr

/-- A boot record (R641). -/
structure BootRec where
  seq : Nat
  active : Nat
  slots : Vector SlotRec 3
  deriving DecidableEq, Repr

/-- A flash slot write in progress (R651). -/
structure SlotWrite where
  origin : Option Origin
  slot : Fin 3
  image : List Byte
  forward : Bool
  golden : Bool
  deriving DecidableEq, Repr

/-- A SOFT reset that is being prepared (R638): since when, whether it follows UPDATE_ACTIVATE or a fallback (R657), the request to answer, and the
tick of the reset once R638 is complete. -/
structure SoftWait where
  at_ : Nat
  trial : Bool
  origin : Option Origin
  due : Option Nat
  deriving DecidableEq, Repr

/-- Flash, boot and update (R637 to R666). `copies` holds the two copies of the boot record, each absent where its MARK
or CRC is wrong. `running` is the slot that runs, where `fromHost` is not set; `bootFails` the slots that failed at the boot with their codes; `loader`
the physical cells that failed their self-test: block and place; `resetHeld` that REFCLK is back after a loss (R587); `entering` a low-power entry under
way (R676): its state, its request and since when it waits, and once it is answered no request and the tick at which the clocks stop. -/
structure Boot where
  copies : Vector (Option BootRec) 2
  images : Vector (List Byte) 3
  running : Nat
  fromHost : Bool
  hostImage : List Byte
  selfCheck : Nat
  trialEnd : Option Nat
  trialRun : Bool
  lastFail : Vector Nat 3
  bootFails : List (Nat × Nat)
  measures : List (Nat × Nat)
  write : Option SlotWrite
  softWait : Option SoftWait
  loader : List (Nat × Nat)
  resetHeld : Bool
  entering : Option (Nat × Option Origin × Nat)
  deriving DecidableEq, Repr

/-- An empty slot. -/
def SlotRec.empty : SlotRec := { st := .empty, attempts := 0, trialS := 0, svn := 0, hash := 0 }

/-- A part as delivered: golden confirmed and running, A and B empty, no boot record (log 9). -/
def Boot.reset : Boot :=
  { copies := #v[none, none], images := #v[Config.goldenBundle, [], []], running := 0, fromHost := false, hostImage := [],
    selfCheck := 0, trialEnd := none, trialRun := false, lastFail := Vector.replicate 3 0, bootFails := [],
    measures := measuresOf Config.goldenBundle, write := none, softWait := none, loader := [], resetHeld := false,
    entering := none }

/-- One record of the island's queue (R675). -/
structure IslRec where
  kind : Nat
  rtcSec : Nat
  rtcValid : Bool
  data : Nat
  deriving DecidableEq, Repr

/-- The island (R667 to R685). `onRc` says that the ISL domain runs from the RC oscillator, `lowPower` the state the QN960 is in: 0 none, 1 QUIET,
2 ISLAND. -/
structure Island where
  running : Bool
  rtcValid : Bool
  xtalFail : Bool
  onRc : Bool
  onVbat : Bool
  fresh : Bool
  tampLevel : BitVec 4
  wakeCause : Nat
  wakeSource : Nat
  vbatMv : Nat
  vbatLow : Bool
  rtcSec : Nat
  rtcFrac : Nat
  queue : List IslRec
  qLost : Nat
  wakeAt : Nat
  theftEn : Bool
  theftMinMa : Nat
  ctLsbUa : Vector Nat 4
  theftAcc : Vector Nat 4
  watchOpen : Bool
  wake : Vector WakeEntry 32
  pwrReq : Bool
  lowPower : Nat
  deriving DecidableEq, Repr

/-- An island that has just started on VBAT or VIO33 (R680). -/
def Island.reset : Island :=
  { running := true, rtcValid := false, xtalFail := false, onRc := false, onVbat := false, fresh := true, tampLevel := 0,
    wakeCause := 0, wakeSource := 0, vbatMv := 0, vbatLow := false, rtcSec := 0, rtcFrac := 0, queue := [], qLost := 0,
    wakeAt := 0, theftEn := false, theftMinMa := 0, ctLsbUa := Vector.replicate 4 0,
    theftAcc := Vector.replicate 4 0, watchOpen := false, wake := Vector.replicate 32 ⟨0, false⟩, pwrReq := true,
    lowPower := 0 }

/-- The fuse bank (R541). -/
structure Fuses where
  serial : Nat
  deviceRoot : Nat
  macBase : Nat
  lifecycle : BitVec 64
  fwSvn : BitVec 64
  kfwHash0 : Nat
  kfwHash1 : Nat
  calKeyHash : Nat
  safeKeyHash : Nat
  courtGen : Vector (BitVec 16) 16
  deriving DecidableEq, Repr

/-- A part as Kerale delivers it: its identity and root are the part's own, nothing else is burned (R541, log 10). -/
def Fuses.reset : Fuses :=
  { serial := Config.partSerial, deviceRoot := Config.partRoot, macBase := Config.partMac, lifecycle := 0, fwSvn := 0,
    kfwHash0 := Config.partKfwHash0, kfwHash1 := Config.partKfwHash1, calKeyHash := 0, safeKeyHash := 0,
    courtGen := Vector.replicate 16 0 }

/-- What a burn writes (R542). -/
inductive BurnField where
  | calKey (hash : Nat)
  | safeKey (hash : Nat)
  | debugDisable
  | courtGen (c : CourtId)
  | safeCommissioned
  | teardownGen (c : CourtId)
  | joinGen (c : CourtId)
  | fwSvn (count : Nat)
  | kfwRevoke (k : Nat)
  deriving DecidableEq, Repr

/-- A burn that is waiting or being carried out (R542). -/
structure Burn where
  field : BurnField
  origin : Option Origin
  deriving DecidableEq, Repr

/-- TRNG states (R557, codes of R569). -/
inductive TrngState where
  | warming | ready | retrying | latched
  deriving DecidableEq, Repr

/-- The code of a TRNG state (R569). -/
def TrngState.code : TrngState → Nat
  | .warming => 0 | .ready => 1 | .retrying => 2 | .latched => 3

/-- A key node that a court created (R544, R565). -/
structure KeyNode where
  court : CourtId
  keyId : Nat
  alg : Nat
  publish : Bool
  deriving DecidableEq, Repr

/-- A declared purpose generation with the tick from which it is in force (R549). -/
structure PurposeGen where
  court : CourtId
  purpose : Nat
  gen : Nat
  tick : Nat
  deriving DecidableEq, Repr

/-- Fuses, key tree, debug state and random numbers (R541 to R571). -/
structure Keys where
  fuses : Fuses
  burns : List Burn
  genInForce : Vector Nat 16
  purposes : List PurposeGen
  nodes : List KeyNode
  siteRoot : Option Nat
  siteRootFrom : Nat
  debugState : Bool
  unlockHeld : Bool
  challenges : List (Nat × Nat)
  trng : TrngState
  retries : Nat
  fails : Nat
  lastFail : Nat
  seeded : Bool
  drbgBytes : Nat
  reseedTick : Nat
  rejects : Vector (Nat × Nat × Nat) 16
  deriving DecidableEq, Repr

/-- Keys at a start: no node, no site root, TRNG WARMING (R557, R559). -/
def Keys.reset : Keys :=
  { fuses := Fuses.reset, burns := [], genInForce := Vector.replicate 16 0, purposes := [], nodes := [],
    siteRoot := none, siteRootFrom := 0, debugState := false, unlockHeld := false, challenges := [], trng := .warming,
    retries := 0, fails := 0, lastFail := 0, seeded := false, drbgBytes := 0, reseedTick := 0,
    rejects := Vector.replicate 16 (0, 0, 0) }

end Sys2Proof.Machine
end

