-- ==== Sys2Proof/Machine/State.lean ====
section
/-! DEFINITION. The whole state of the QN960 with its bay heads, the reasons a step can stop, and the state after reset. -/

namespace Sys2Proof.Machine

/-- Why the block can stop with a fault. It has no constructor: the spec gives every command an effect, and what it calls an error (a refused
access, an overrun, a region fault, a fatal event) is itself a change of State. -/
inductive Fault where
  deriving DecidableEq, Repr

/-- Why the model can give a command no meaning. -/
inductive Refusal where
  /-- Raised by an arm of `exec` whose command has no meaning yet; safe, since it answers no state. No arm raises it. -/
  | notModelled (mnemonic : String)
  deriving DecidableEq, Repr

/-- The state of one QN960 with its 96 bay heads: time and settings generations, armed settings, courts with mailboxes, host port, event controller,
regions and memory, bays with their cells, bay heads, the SLAC matching table, ledger, certificates, the safety unit with the output pairs it
closes and whether a configuration has been accepted since the start, the place of Myavat's round (R72), the legal court, pulse ports, a head
firmware load, twin, ring, boot, island, keys and faults. `free` counts the free values drawn (log 3) and `pending` are the commands that wait, the
first to be taken first; both are the model's own. -/
structure State where
  clock : Clock
  gens : Gens
  armed : List Armed
  courts : Vector Court 16
  host : HostIf
  evt : EvtCtl
  regions : Vector Region 16
  mem : MemState
  bays : Vector Bay 96
  heads : Vector Head 96
  slac : Slac
  ledger : Ledger
  certs : List CertSet
  safety : Safety
  safePairs : BitVec 8
  safeAccepted : Bool
  roundPos : Nat
  legal : Legal
  pulses : Pulses
  fwLoad : Option FwLoad
  twin : Twin
  ring : Ring
  boot : Boot
  island : Island
  keys : Keys
  faults : Faults
  free : Nat
  pending : List Instr
  deriving DecidableEq, Repr

/-- The event masks that courts 0, 1 and 2 have from a start: every source within their rights (R71, R97). -/
def startMask (c : CourtId) : BitVec 512 :=
  if c.val = 0 then BitVec.allOnes 512
  else if c.val = 1 then BitVec.ofNat 512 (2 ^ 288 - 2 ^ 192 + 2 ^ 385 + 2 ^ 401 + 2 ^ 417 + 2 ^ 468 + 2 ^ 469)
  else if c.val = 2 then BitVec.ofNat 512 (2 ^ 192 - 2 ^ 96 + 2 ^ 386 + 2 ^ 402 + 2 ^ 418 + 2 ^ 512 - 2 ^ 448)
  else 0

/-- The state after reset: a part as delivered, unpaired, on PCI Express, whose start has ended with Myavat running (log 8). -/
def State.reset : State :=
  { clock := Clock.reset, gens := Gens.reset, armed := [],
    courts := Vector.ofFn fun c => { startCourts[c] with mask := startMask c },
    host := HostIf.reset, evt := EvtCtl.reset, regions := Vector.replicate 16 Region.reset, mem := MemState.reset,
    bays := Vector.replicate 96 Bay.reset, heads := Vector.replicate 96 (Head.reset 0), slac := Slac.reset, ledger := Ledger.reset, certs := [],
    safety := Safety.reset, safePairs := 0, safeAccepted := false, roundPos := 0, legal := Legal.reset, pulses := Pulses.reset, fwLoad := none,
    twin := Twin.reset, ring := Ring.reset, boot := Boot.reset, island := { Island.reset with fresh := false }, keys := Keys.reset,
    faults := Faults.reset, free := 0, pending := [] }

end Sys2Proof.Machine
end

