-- ==== Sys2Proof/Machine/Flags.lean ====
section
/-! DEFINITION. Status codes of responses and their precedence (R85, R86), and the flags of the event controller:
ripe groups and the request line (R118 to R121). -/

namespace Sys2Proof.Machine

/-- STATUS codes (R86). -/
abbrev stOK : Nat := 0x00
/-- Not started; send again. -/
abbrev stBUSY : Nat := 0x01
/-- Opcode unknown or wrong mailbox. -/
abbrev stBAD_OPCODE : Nat := 0x02
/-- Length wrong. -/
abbrev stBAD_LEN : Nat := 0x03
/-- Court lacks the right. -/
abbrev stNOT_PERMITTED : Nat := 0x04
/-- Target in wrong state. -/
abbrev stBAD_STATE : Nat := 0x05
/-- Field out of range. -/
abbrev stRANGE : Nat := 0x06
/-- Repeat of an executed request. -/
abbrev stDUP : Nat := 0x07
/-- Random source not yet ready. -/
abbrev stWARMING : Nat := 0x08
/-- Started and failed. -/
abbrev stFAIL : Nat := 0x09
/-- Cryptographic check failed. -/
abbrev stREJECTED_CRYPTO : Nat := 0x0A
/-- Sequence number not the expected one. -/
abbrev stSEQ_GAP : Nat := 0x0B
/-- An outside party did not answer in time. -/
abbrev stTIMEOUT : Nat := 0x0C
/-- Resources exhausted. -/
abbrev stNO_RESOURCE : Nat := 0x0D
/-- Refused by the legal court. -/
abbrev stLEGAL_LOCK : Nat := 0x0E
/-- Refused by the safety court. -/
abbrev stSAFETY_LOCK : Nat := 0x0F

/-- The place of a status in the order of checks of R85; statuses outside that list come last. -/
def precedence (st : Nat) : Nat :=
  if st = stBAD_OPCODE then 1 else if st = stNOT_PERMITTED then 2 else if st = stBAD_LEN then 3
  else if st = stRANGE then 4 else if st = stBAD_STATE then 5 else if st = stLEGAL_LOCK then 6
  else if st = stSAFETY_LOCK then 7 else if st = stREJECTED_CRYPTO then 8 else if st = stNO_RESOURCE then 9
  else if st = stBUSY then 10 else 11

/-- Whether a status means that the command was executed, wholly or in part (R86). -/
def executedStatus (st : Nat) : Bool := st == stOK || st == stFAIL || st == stTIMEOUT

/-- One check of a request: nothing, or the status and DETAIL it would be refused with. -/
abbrev Chk := Option (Nat × Nat)

/-- Refuse with a status and DETAIL unless a condition holds. -/
def need (ok : Bool) (st dt : Nat) : Chk := if ok then none else some (st, dt)

/-- Whether one refusal comes before another: by R85, then by the lower DETAIL (the earlier field, R82). -/
def refusesFirst (a b : Nat × Nat) : Bool :=
  precedence a.1 < precedence b.1 || (precedence a.1 == precedence b.1 && a.2 < b.2)

/-- The refusal that R85 puts first among the checks that fail. -/
def firstRefusal : List Chk → Chk
  | [] => none
  | none :: l => firstRefusal l
  | some a :: l =>
    match firstRefusal l with
    | none => some a
    | some b => if refusesFirst b a then some b else some a

/-- The sources of group `g` that are pending and enabled, as 16 bits (R119). -/
def groupBits (e : EvtCtl) (g : Fin 32) : BitVec 16 := ((e.pend &&& e.en) >>> (16 * g.val)).truncate 16

/-- Whether group `g` is ripe (R119). -/
def ripe (e : EvtCtl) (g : Fin 32) : Bool := e.holdUntil[g].isNone && groupBits e g != 0

/-- Whether any group is ripe. -/
def anyRipe (e : EvtCtl) : Bool := (List.finRange 32).any (ripe e)

/-- Whether the request line is active (R121). -/
def lineActive (e : EvtCtl) : Bool := e.lineEn && anyRipe e

/-- The highest source of a 16-bit group mask, from bit `n` down. -/
def highBit (b : BitVec 16) : Nat → Option Nat
  | 0 => none
  | n + 1 => if b.getLsbD n then some n else highBit b n

/-- The highest ripe source (R120). -/
def topSource (e : EvtCtl) : Option Nat :=
  (List.finRange 32).reverse.findSome? fun g =>
    if ripe e g then (highBit (groupBits e g) 16).map (fun i => 16 * g.val + i) else none

end Sys2Proof.Machine
end

