-- ==== Sys2Proof/Machine/Ops.lean ====
section
/-! DEFINITION. The named operations that the meanings share: access to courts, mailboxes, bays and memory, drawing a
free value, raising an event, sending bulk data, taking a request, answering it, and arming a settings change. -/

namespace Sys2Proof.Machine

/-- What a meaning answers. -/
abbrev Out := Host.Outcome State Fault Refusal

/-- Change one court. -/
def State.onCourt (s : State) (c : CourtId) (f : Court → Court) : State := { s with courts := vmod s.courts c f }

/-- Change one mailbox. -/
def State.onMbx (s : State) (c : CourtId) (m : MbxId) (f : Mailbox → Mailbox) : State :=
  s.onCourt c fun k => { k with mbx := vmod k.mbx m f }

/-- One mailbox. -/
def State.mbox (s : State) (c : CourtId) (m : MbxId) : Mailbox := s.courts[c].mbx[m]

/-- Change one bay. -/
def State.onBay (s : State) (b : BayId) (f : Bay → Bay) : State := { s with bays := vmod s.bays b f }

/-- Change one region. -/
def State.onRegion (s : State) (r : RegionId) (f : Region → Region) : State := { s with regions := vmod s.regions r f }

/-- The tick in progress. -/
def State.now (s : State) : Nat := s.clock.tick

/-- Whether this QN960 is a returner: paired and not holding the serve (R615). -/
def State.isReturner (s : State) : Bool := s.twin.en && !s.twin.server

/-- Whether the pair is in step (R614). -/
def State.inStep (s : State) : Bool := s.twin.st == .inStep

/-- Use up one draw of a free value. -/
def State.drawn (s : State) : State := { s with free := s.free + 1 }

/-- The value of the next draw, unconstrained (log 3). -/
def State.draw (s : State) : Nat := Config.freeNat s.free

/-- Random bits of the next draw, `w` bits wide. -/
def State.random (s : State) (w : Nat) : Nat := Config.randomBits s.free % 2 ^ w

/- Bay table entry in force (R111). -/

/-- An unsigned little-endian field of the entry in force; zero where no entry is in force. -/
def Bay.ent (b : Bay) (off n : Nat) : Nat :=
  match b.entry with
  | some e => leGet e off n
  | none => 0

/-- A signed little-endian field of the entry in force. -/
def Bay.entS (b : Bay) (off n : Nat) : Int := sval (8 * n) (b.ent off n)

/-- KIND in force; a bay with no entry is UNUSED (R14). -/
def Bay.kind (b : Bay) : Nat := b.ent 1 1

/-- ENABLE of the entry in force. -/
def Bay.enabled (b : Bay) : Bool := bitOf (b.ent 3 1) 0

/-- Whether the bay is in use: an entry in force with ENABLE 1 and a KIND other than UNUSED (R111). -/
def Bay.inUse (b : Bay) : Bool := b.enabled && b.kind != 0

/-- The court that owns a bay: the court its entry in force names, else court 0 (R15, R67). -/
def State.owner (s : State) (b : BayId) : Nat := s.bays[b].ent 2 1

/-- CONTACTOR_MASK of the entry in force (R238). -/
def Bay.contactorMask (b : Bay) : Nat := b.ent 134 2 % 2 ^ 12

/-- Whether any main contactor channel is in state ON. -/
def Bay.contactorOn (b : Bay) : Bool :=
  (List.finRange 12).any fun k => bitOf b.contactorMask k.val && b.grp.chans.ch[k].st == 2

/-- Whether a court owns a bay. -/
def State.owns (s : State) (c : CourtId) (b : BayId) : Bool := s.owner b == c.val

/-- The bays a court owns: those whose entry in force names it; a bay with no entry in force counts for no court in
OWNED (R67, R78). -/
def State.ownedMask (s : State) (c : CourtId) : BayMask :=
  allBays.foldl (fun m b => if s.bays[b].entry.isSome && s.owns c b then m ||| bayBit b else m) 0

/- Rights over event sources (R71). -/

/-- The bays a source of a bay group concerns: one bay, or the three of a shared source (R275, R456). -/
def sourceBays (src : Nat) : List BayId :=
  let one := fun n => match bayOf n with
    | some b => [b]
    | none => []
  if src < 96 then one src
  else if src < 192 then one (src - 96)
  else if src < 288 then one (src - 192)
  else if src < 320 then (one (3 * (src - 288))) ++ one (3 * (src - 288) + 1) ++ one (3 * (src - 288) + 2)
  else if src < 352 then (one (3 * (src - 320))) ++ one (3 * (src - 320) + 1) ++ one (3 * (src - 320) + 2)
  else []

/-- Whether a court may enable a source in its event mask (R71). -/
def mayEnable (s : State) (c : CourtId) (src : Nat) : Bool :=
  if c.val = 0 then src < 512
  else if c.val = 1 then (192 ≤ src && src < 288) || src == 385 || src == 401 || src == 417 || src == 468 || src == 469
  else if c.val = 2 then
    (96 ≤ src && src < 192) || src == 386 || src == 402 || src == 418 || (448 ≤ src && src < 480) ||
    (480 ≤ src && src < 512)
  else if src < 352 then (sourceBays src).any (s.owns c)
  else src == 384 + c.val || src == 400 + c.val || src == 416 + c.val

/-- Every source a court may enable, as a mask of 512 bits. -/
def rightsMask (s : State) (c : CourtId) : BitVec 512 :=
  (List.range 512).foldl (fun m i => if mayEnable s c i then m ||| BitVec.ofNat 512 (2 ^ i) else m) 0

/- The event controller and the event streams. -/

/-- One occurrence of a source in the event controller (R118). -/
def EvtCtl.occur (e : EvtCtl) (src : Nat) : EvtCtl :=
  if h : src < 512 then
    let i : Fin 512 := ⟨src, h⟩
    let m := BitVec.ofNat 512 (2 ^ src)
    if e.count[i] < 255 then { e with count := e.count.set i (e.count[i] + 1), pend := e.pend ||| m }
    else { e with sat := e.sat ||| m, pend := e.pend ||| m }
  else e

/-- Bring the request line up to date: over MSI-X a message is sent when the request becomes active, and again after an
acknowledgement that leaves it active; masking defers it to the pending bit (R121). -/
def State.settleLine (s : State) (acked : Bool) : State :=
  let a := lineActive s.evt
  let send := s.evt.route == 1 && s.host.port == .pcie && a && (!s.evt.lineWas || acked)
  let h := if send then
      if s.host.msixMask then { s.host with msixPending := true } else { s.host with msixSent := s.host.msixSent + 1 }
    else s.host
  { s with host := h, evt := { s.evt with lineWas := a } }

/-- Put a record into the event stream of one court (R88). -/
def Court.record (k : Court) (e : Ev) : Court :=
  if k.mbx[(2 : Fin 4)].en && k.mask.getLsbD e.source then
    if k.records.length < 255 then { k with records := k.records ++ [e] }
    else { k with lost := bump 32 k.lost, mbx := vmod k.mbx 2 fun m => { m with evtLost := true } }
  else k

/-- Raise an event: it is released at the commit of the tick in progress (R47, R118). -/
def State.raise (s : State) (e : Ev) : State := { s with evt := { s.evt with fresh := s.evt.fresh ++ [e] } }

/-- The commit releases an event: an occurrence in the controller, and a record in every stream that may and does enable its source (R88, R118). -/
def State.releaseEvent (s : State) (e : Ev) : State :=
  let courts := allCourts.foldl (fun v c => if mayEnable s c e.source then vmod v c (·.record e) else v) s.courts
  { s with courts := courts, evt := s.evt.occur e.source }

/-- Every event of the tick is released, all occurrences together (R118). -/
def State.releaseEvents (s : State) : State :=
  (s.evt.fresh.foldl State.releaseEvent { s with evt := { s.evt with fresh := [] } }).settleLine false

/-- Raise an event stamped with the tick in progress. -/
def State.raiseNow (s : State) (src kind data : Nat) : State := s.raise ⟨src, kind, data % 2 ^ 32, s.now⟩

/-- Raise a list of events in order. -/
def State.raiseAll (s : State) (es : List Ev) : State := es.foldl State.raise s

/- Memory of the regions (R22), held as bytes; an unlisted byte reads as zero (log 11). -/

/-- What an unlisted byte reads as (log 11). -/
def memDefault : Byte := 0

/-- Read one byte. -/
def memGet (m : List Host.Cell) (a : Nat) : Byte :=
  match m with
  | [] => memDefault
  | (k, v) :: t => if a = k then v else if a < k then memDefault else memGet t a

/-- Write one byte, keeping addresses rising and leaving out bytes that read as unlisted ones do. -/
def memSet (m : List Host.Cell) (a : Nat) (x : Byte) : List Host.Cell :=
  match m with
  | [] => if x = memDefault then [] else [(a, x)]
  | (k, v) :: t =>
    if a < k then (if x = memDefault then (k, v) :: t else (a, x) :: (k, v) :: t)
    else if a = k then (if x = memDefault then t else (a, x) :: t)
    else (k, v) :: memSet t a x

/-- The canonical form from a lower bound on: addresses strictly rising, no listed byte equal to an unlisted one. -/
def memWfFrom (lo : Nat) : List Host.Cell → Bool
  | [] => true
  | (k, v) :: t => decide (lo ≤ k) && (v != memDefault) && memWfFrom (k + 1) t

/-- The canonical form of the memory. -/
def Memory.wf (m : List Host.Cell) : Bool := memWfFrom 0 m

/-- Write bytes from an address on. -/
def memWriteBytes (m : List Host.Cell) (a : Nat) : List Byte → List Host.Cell
  | [] => m
  | x :: t => memWriteBytes (memSet m a x) (a + 1) t

/-- The byte address of byte 0 of a word of a region (nine bytes to a word, R5). -/
def wordAddr (r : RegionId) (w : Nat) : Nat := 9 * (r.val * 2 ^ 20 + w)

/-- Read a 72-bit word of a region. -/
def memWord (m : List Host.Cell) (r : RegionId) (w : Nat) : Nat :=
  (List.range 9).foldr (fun i acc => (memGet m (wordAddr r w + i)).toNat + 256 * acc) 0

/-- Write a 72-bit word of a region. -/
def memPutWord (m : List Host.Cell) (r : RegionId) (w x : Nat) : List Host.Cell :=
  memWriteBytes m (wordAddr r w) (leBytes x 9)

/-- Write words from a word address on. -/
def memPutWords (m : List Host.Cell) (r : RegionId) (w : Nat) : List Nat → List Host.Cell
  | [] => m
  | x :: t => memPutWords (memPutWord m r w x) r (w + 1) t

/-- Whether a word address of a region is mapped (R22). -/
def mappedWord (w : Nat) : Bool :=
  w ≤ 0x0FFFF || (0x10000 ≤ w && w ≤ 0x2FFFF) || (0x40000 ≤ w && w ≤ 0x63FFF)

/-- Whether a word address lies in a local store (R22). -/
def localWord (w : Nat) : Bool := 0x40000 ≤ w && w ≤ 0x63FFF

/- CRC computation (R76, R137). -/

/-- One bit step of a CRC register, reflected or not. -/
def crcBit (w poly : Nat) (refl : Bool) (c : Nat) : Nat :=
  if refl then (if c % 2 == 1 then (c / 2) ^^^ poly else c / 2)
  else (if c / 2 ^ (w - 1) % 2 == 1 then (2 * c % 2 ^ w) ^^^ poly else 2 * c % 2 ^ w)

/-- One byte into a CRC register. For a reflected CRC the polynomial is given bit-reversed. -/
def crcByte (w poly : Nat) (refl : Bool) (c : Nat) (b : Byte) : Nat :=
  let c0 := if refl then c ^^^ b.toNat else c ^^^ (b.toNat * 2 ^ (w - 8))
  (List.range 8).foldl (fun x _ => crcBit w poly refl x) c0

/-- The bits of a number in reverse order. -/
def revBits (w x : Nat) : Nat := (List.range w).foldl (fun a i => 2 * a + x / 2 ^ i % 2) 0

/-- CRC-32C of a byte string (R76). -/
def crc32c (l : List Byte) : Nat :=
  (l.foldl (crcByte 32 0x82F63B78 true) 0xFFFFFFFF) ^^^ 0xFFFFFFFF

/-- The safety CRC of safe frames (R518), reflected polynomial of 0xF4ACFB13. -/
def crcSafe (l : List Byte) : Nat :=
  (l.foldl (crcByte 32 (revBits 32 0xF4ACFB13) true) 0xFFFFFFFF) ^^^ 0xFFFFFFFF

/-- The polynomial, width of each CRC preset (R137). -/
def crcPreset : Nat → Option (Nat × Nat)
  | 0 => some (8, 0x07)
  | 1 => some (16, 0x1021)
  | 2 => some (32, 0x04C11DB7)
  | 3 => some (32, 0x1EDC6F41)
  | 4 => some (64, 0x42F0E1EBA9EA3693)
  | _ => none

/-- A CRC unit after it takes the bytes of one data word (R138, R139). -/
def CrcUnit.feed (u : CrcUnit) (word : Nat) : CrcUnit :=
  match crcPreset u.poly with
  | none => u
  | some (w, p) =>
    let poly := if u.reflect then revBits w p else p
    { u with run := ((leBytes word 9).take u.bytes).foldl (crcByte w poly u.reflect) u.run }

/-- CRC_FINAL: the running value with XOR_OUT applied (R138). -/
def CrcUnit.final (u : CrcUnit) : Nat :=
  match crcPreset u.poly with
  | none => u.run
  | some (w, _) => if u.xorOut then u.run ^^^ (2 ^ w - 1) else u.run

/- Fields and bytes of messages. -/

/-- The value of a list of fields packed from the least significant bit (R5). -/
def packFields : List Field → Nat
  | [] => 0
  | (w, v) :: t => v % 2 ^ w + 2 ^ w * packFields t

/-- The bytes of a list of fields. -/
def fieldBytes (fs : List Field) : List Byte := leBytes (packFields fs) ((fieldBits fs + 7) / 8)

/-- The bytes of a list of fields as byte fields of a message. -/
def bytesAsFields (l : List Byte) : List Field := l.map fun b => (8, b.toNat)

/- Outbound messages. -/

/-- Add a complete message to the unsent messages of a mailbox (R80). -/
def State.post (s : State) (c : CourtId) (m : MbxId) (msg : OutMsg) : State :=
  s.onMbx c m fun x => { x with out := x.out ++ [msg] }

/-- Data bytes that one BULK_OUT message of a mailbox carries (R74, R89). -/
def bulkChunk (m : Mailbox) : Nat := min 4072 (64 * m.slotUnits - 28)

/-- Cut a byte string into pieces of `n` bytes. -/
def chunks (n : Nat) : Nat → List Byte → List (List Byte)
  | 0, _ => []
  | k + 1, l => if l.isEmpty then [] else l.take n :: chunks n k (l.drop n)

/-- Whether a court can open another outbound transfer (R89). -/
def State.bulkFree (s : State) (c : CourtId) : Bool := s.courts[c].outXfers.length < 4

/-- The BULK_OUT messages of a transfer. -/
def bulkMessages (num now : Nat) (total : Nat) : Nat → List (List Byte) → List OutMsg
  | _, [] => []
  | off, p :: t =>
    { opcode := 0x0291, seq := 0, first := off == 0, last := off + p.length == total, bulkRef := false,
      fields := [(16, num), (16, 0), (32, off)] ++ bytesAsFields p, tick := now } ::
    bulkMessages num now total (off + p.length) t

/-- Open an outbound transfer with its data and put its messages on the bulk mailbox; the transfer number is
`courts[c].nextOut` and the number of messages is `bulkCount` (R82, R89). A returner that executes a mirrored request sends none. -/
def State.sendBulk (s : State) (c : CourtId) (data : List Byte) : State :=
  let k := s.courts[c]
  let quiet := s.isReturner && s.twin.armAt.isSome
  let ps := chunks (bulkChunk k.mbx[(3 : Fin 4)]) data.length data
  let msgs := bulkMessages k.nextOut s.now data.length 0 ps
  s.onCourt c fun k => { k with
    outXfers := if quiet then k.outXfers else k.outXfers ++ [⟨k.nextOut, msgs.length⟩],
    nextOut := k.nextOut % 65535 + 1,
    mbx := vmod k.mbx 3 fun m => { m with out := if quiet then m.out else m.out ++ msgs } }

/-- How many BULK_OUT messages a transfer of `n` bytes takes. -/
def State.bulkCount (s : State) (c : CourtId) (n : Nat) : Nat :=
  let q := bulkChunk s.courts[c].mbx[(3 : Fin 4)]
  (n + q - 1) / q

/-- Discard the bytes of a consumed inbound transfer (R90). -/
def State.consumeXfer (s : State) (c : CourtId) (num : Nat) : State :=
  s.onCourt c fun k => { k with inXfers := k.inXfers.filter (·.number != num) }

/-- A closed inbound transfer of a court, by number (R90). -/
def State.xfer? (s : State) (c : CourtId) (num : Nat) : Option InXfer :=
  s.courts[c].inXfers.find? fun x => x.number == num && x.closed

/-- The bytes of a closed inbound transfer; none where it is not held. -/
def State.xferData (s : State) (c : CourtId) (num : Nat) : List Byte :=
  match s.xfer? c num with
  | some x => x.data
  | none => []

/- Requests and responses. -/

/-- Whether a mailbox holds so many unsent messages that no further request is taken from it (R80, R81). -/
def State.outFull (s : State) (c : CourtId) (m : MbxId) : Bool :=
  let x := s.mbox c m
  if s.host.port == .pcie then
    (x.outProd + 2 ^ (x.outLog2 + 1) - x.outCons) % 2 ^ (x.outLog2 + 1) == 2 ^ x.outLog2
  else x.out.length ≥ 8

/-- Whether a mailbox is open. Over host Ethernet court 0 has no register to set EN with, and its mailboxes are open
(log 14). -/
def State.mbxOpen (s : State) (c : CourtId) (m : MbxId) : Bool :=
  (s.mbox c m).en || (c.val == 0 && s.host.port != .pcie)

/-- Whether the mask-ROM loader serves the host: READY with MYAVAT_MAJOR 0 (R645). -/
def State.inLoader (s : State) : Bool := s.host.myMajor == 0

/-- Whether a request can be taken from a mailbox: READY is 1, the court is ACTIVE, the mailbox is open, no earlier
request of it is in execution and its outbound path is not full (R69, R72, R80); the loader serves court 0's mailboxes 0
and 3 only (R645). What the other twin has taken or forwarded meets no port of this one (R611, R656); a forwarded command stands at mailbox 2
of court 0, which takes no request of its own (R72). -/
def State.canTake (s : State) (c : CourtId) (m : MbxId) : Bool :=
  if s.twin.armAt.isSome then s.courts[c].state == .active && (s.mbox c m).running.isNone
  else m.val != 2 && s.host.ready && (!s.inLoader || (c.val == 0 && (m.val == 0 || m.val == 3))) && s.courts[c].state == .active &&
  s.mbxOpen c m && (s.mbox c m).running.isNone && !s.outFull c m

/-- The status and read commands, which a returner executes on its own mailboxes (R611, log 15). -/
def readOpcodes : List Nat :=
  [0x0101, 0x0130, 0x0141, 0x0200, 0x0204, 0x0303, 0x0310, 0x0401, 0x0410, 0x0420, 0x0501, 0x0601, 0x0610, 0x0701,
   0x0710, 0x0801, 0x0901, 0x0A01, 0x0A02, 0x0A03, 0x0A22, 0x0B01, 0x0B03, 0x0B04, 0x0B05, 0x0C02, 0x0C10, 0x0D02,
   0x0D03, 0x0E01, 0x0E02, 0x0E11, 0x0E12, 0x0F01, 0x1001, 0x1002, 0x1010, 0x1101, 0x1111, 0x1202]

/-- The checks that hold for every command: the loader knows three opcodes only (R645), and a returner executes only
status and read commands, SAFETY_CONFIG_LOAD while it is not in step, and TWIN_CONTROL, whose own checks follow
(R611). -/
def modeChecks (s : State) (opcode : Nat) : List Chk :=
  [need (!s.inLoader || [0x0290, 0x1202, 0x1203].contains opcode) stBAD_OPCODE 0,
   need (!s.isReturner || s.twin.armAt.isSome || s.inLoader || readOpcodes.contains opcode || (opcode == 0x0E10 && !s.inStep) ||
     opcode == 0x1102) stBAD_STATE 0]

/-- Take a request: it consumes its sequence number and is in execution (R83); a forwarded command has none. -/
def State.take (s : State) (c : CourtId) (m : MbxId) (opcode : Nat) (layout : List Nat) : State :=
  s.onMbx c m fun x => { x with
    running := some ⟨opcode, x.expectSeq, s.now, layout, if m.val = 2 then 2 else if s.twin.armAt.isSome then 1 else 0⟩,
    expectSeq := if m.val = 2 then x.expectSeq else (x.expectSeq + 1) % 2 ^ 32 }

/-- The response message of a request (R75, R82): a BAD_OPCODE response holds the status word alone. -/
def responseMsg (opcode seq st dt : Nat) (bulk : Bool) (fs : List Field) (now : Nat) : OutMsg :=
  { opcode := opcode, seq := seq, first := false, last := false, bulkRef := bulk,
    fields := [(8, st), (8, st), (16, dt)] ++ (if st = stBAD_OPCODE then [] else fs), tick := now }

/-- Answer the request in execution on a mailbox: the response is cached and waits to be written (R80, R84). A mailbox
that was reset in the meantime has no request in execution and sends none (R93). A returner writes no response to a mirrored request (R87), and the
answer to a forwarded command goes to the other twin (R656). -/
def State.answer (s : State) (c : CourtId) (m : MbxId) (st dt : Nat) (bulk : Bool) (fs : List Field) : State :=
  match (s.mbox c m).running with
  | none => s
  | some r =>
    let msg := responseMsg r.opcode r.seq st dt bulk fs s.now
    if r.via = 2 then
      { s.onMbx c m fun x => { x with running := none } with twin := { s.twin with results := (s.twin.results ++ [msg]) } }
    else s.onMbx c m fun x => { x with
      running := none, cache := ((r.seq, msg) :: x.cache).take 64,
      out := if r.via = 1 && s.isReturner then x.out else x.out ++ [msg] }

/-- Leave a mirrored request to the other twin (R656): it consumes its sequence number and is not answered here. -/
def State.leaveTo (s : State) (o : Origin) : State := s.onMbx o.court o.mbx fun x => { x with running := none }

/-- Whether a request is a mirrored one at the returner. -/
def State.mirrored (s : State) (o : Origin) : Bool := s.isReturner && s.twin.armAt.isSome && o.mbx.val != 2

/-- The zero fields of a refused response in the full layout of its card (R82). -/
def zeroFields (layout : List Nat) : List Field := layout.map fun w => (w, 0)

/-- Fields of a response from its layout and values. -/
def withValues (layout vals : List Nat) : List Field := layout.zip vals

/-- The court check of a card's Court row (R85, R82: DETAIL 0). -/
def permit (o : Origin) (cs : List Nat) : Chk := need (cs.contains o.court.val) stNOT_PERMITTED 0

/-- The court check of a card open to some courts for any bay and to a tenant for the bays it owns; the BAY field stands
at position `pos` (R70, R82, R85). -/
def bayPermit (o : Origin) (any : List Nat) (pos bay : Nat) (s : State) : Chk :=
  if any.contains o.court.val then none
  else if o.court.val < 3 then some (stNOT_PERMITTED, 0)
  else need (match bayOf bay with
    | some b => s.owns o.court b
    | none => false) stNOT_PERMITTED pos

/-- The court check of a card open to the bay's owning court only; the BAY field stands at position `pos` (R70, R82, R85). -/
def ownPermit (o : Origin) (pos bay : Nat) (s : State) : Chk :=
  if o.court.val = 1 ∨ o.court.val = 2 then some (stNOT_PERMITTED, 0)
  else match bayOf bay with
    | some b => need (s.owns o.court b) stNOT_PERMITTED pos
    | none => need (o.court.val == 0) stNOT_PERMITTED pos

/-- What a function gives for the bay a number names, or a default. -/
def atBay {α : Type} (n : Nat) (d : α) (f : BayId → α) : α :=
  match bayOf n with
  | some b => f b
  | none => d

/-- Refuse the request in execution with the zero fields of its card (R82). -/
def State.refuse (s : State) (o : Origin) (st dt : Nat) (layout : List Nat) : State :=
  s.answer o.court o.mbx st dt false (zeroFields layout)

/-- Answer the request in execution OK with values of its layout. -/
def State.ok (s : State) (o : Origin) (layout vals : List Nat) : State :=
  s.answer o.court o.mbx stOK 0 false (withValues layout vals)

/-- A range check of the request field at a position (R82). -/
def rng (pos : Nat) (ok : Bool) : Chk := need ok stRANGE pos

/-- The checks of the header, of the length and of the reserved request fields (R6, R75, R82, R85). -/
def reserved (o : Origin) : Chk :=
  if o.hdr = 1 then some (stNOT_PERMITTED, 0)
  else if o.badLen then some (stBAD_LEN, 0)
  else if o.hdr = 2 then some (stRANGE, 0)
  else need (o.rsv == 0) stRANGE o.rsv

/-- A request of a card: take it, refuse it by the first check that fails, or run its body and answer OK with the
values the body gives. `layout` is the widths of the response fields after the status word. -/
def card (o : Origin) (opcode : Nat) (layout : List Nat) (checks : State → List Chk)
    (body : State → State × List Nat) (s : State) : State :=
  if s.canTake o.court o.mbx then
    let t := s.take o.court o.mbx opcode layout
    match firstRefusal (reserved o :: (modeChecks t opcode ++ checks t)) with
    | some (st, dt) => t.answer o.court o.mbx st dt false (zeroFields layout)
    | none => let r := body t; r.1.answer o.court o.mbx stOK 0 false (withValues layout r.2)
  else s

/-- A request whose response comes later: its body leaves the request in execution (R72, R87). -/
def cardLater (o : Origin) (opcode : Nat) (layout : List Nat) (checks : State → List Chk)
    (body : State → State) (s : State) : State :=
  if s.canTake o.court o.mbx then
    let t := s.take o.court o.mbx opcode layout
    match firstRefusal (reserved o :: (modeChecks t opcode ++ checks t)) with
    | some (st, dt) => t.answer o.court o.mbx st dt false (zeroFields layout)
    | none => body t
  else s

/-- A request whose body answers by itself, with any status and fields. -/
def cardOwn (o : Origin) (opcode : Nat) (layout : List Nat) (checks : State → List Chk)
    (body : State → State) (s : State) : State := cardLater o opcode layout checks body s

/-- A request whose result goes out as a bulk transfer: the body gives the response values that stand before the transfer
number and message count, those that stand after them, and the data bytes (R82). -/
def cardBulk (o : Origin) (opcode : Nat) (layout : List Nat) (checks : State → List Chk)
    (body : State → State × List Nat × List Nat × List Byte) (s : State) : State :=
  if s.canTake o.court o.mbx then
    let t := s.take o.court o.mbx opcode layout
    match firstRefusal (reserved o :: need (t.bulkFree o.court) stNO_RESOURCE 0 :: (modeChecks t opcode ++ checks t)) with
    | some (st, dt) => t.answer o.court o.mbx st dt false (zeroFields layout)
    | none =>
      let r := body t
      let num := r.1.courts[o.court].nextOut
      let data := r.2.2.2
      let cnt := r.1.bulkCount o.court data.length
      if data.isEmpty then r.1.answer o.court o.mbx stOK 0 false (withValues layout (r.2.1 ++ [0, 0] ++ r.2.2.1))
      else (r.1.sendBulk o.court data).answer o.court o.mbx stOK 0 true
        (withValues layout (r.2.1 ++ [num, cnt] ++ r.2.2.1))
  else s

/- Settings (R49, R50, R73). -/

/-- The first tick, from a base on, at which no armed change that `clash` names takes effect (R73). -/
def freeTick (armed : List Armed) (clash : Setting → Bool) : Nat → Nat → Nat
  | 0, t => t
  | n + 1, t => if armed.any (fun a => a.tick == t && !a.same && clash a.cmd) then freeTick armed clash n (t + 1) else t

/-- Insert an armed change behind those of the same or an earlier tick. -/
def insertArmed (a : Armed) : List Armed → List Armed
  | [] => [a]
  | x :: t => if a.tick < x.tick then a :: x :: t else x :: insertArmed a t

/-- The tick from which settings armed now take effect (R50); a mirrored input names its tick (R611). -/
def armBase (o : Origin) (s : State) : Nat :=
  match s.twin.armAt with
  | some t => max t (s.now + 1)
  | none => s.now + (if o.late then 2 else 1)

/-- Arm a settings change (R50): one whose values equal those in force without it moves nothing and meets nothing;
another takes effect at the first tick at which it meets no earlier change of the same setting (R73). -/
def State.arm (s : State) (o : Origin) (cmd : Setting) (bays : BayMask) (site same : Bool) (clash : Setting → Bool) :
    State :=
  let t := if same then armBase o s else freeTick s.armed clash s.armed.length (armBase o s)
  { s with armed := insertArmed ⟨t, o, cmd, bays, site, same⟩ s.armed }

/-- The values of the last accepted command that `pick` recognises, armed or else in force (R50). -/
def State.planned {α : Type} (s : State) (pick : Setting → Option α) (inForce : α) : α :=
  match s.armed.reverse.findSome? (fun a => pick a.cmd) with
  | some v => v
  | none => inForce

/-- The generation after one more change (R49). -/
def nextGen (g : Nat) : Nat := if g = 0xFFFFFFFF then 1 else g + 1

/-- Move the generation of the site, once for a tick (R50). -/
def State.bumpSite (s : State) : State :=
  if s.gens.site ≠ 0 ∧ s.gens.siteTick = s.now then s
  else { s with gens := { s.gens with site := nextGen s.gens.site, siteTick := s.now } }

/-- Move the generations of the bays of a mask, each once for a tick (R50). -/
def State.bumpBays (s : State) (m : BayMask) : State :=
  { s with gens := (baysIn m).foldl (fun (g : Gens) b =>
      if g.bay[b] ≠ 0 ∧ g.bayTick[b] = s.now then g
      else { g with
        bay := vmod g.bay b nextGen, bayTick := g.bayTick.set b s.now,
        hist := (b.val, g.bay[b], s.now) :: g.hist.filter fun x => s.now < x.2.2 + 8192 }) s.gens }

/-- The generation of a bay in force at a compute tick. -/
def Gens.at_ (g : Gens) (b : BayId) (n : Nat) : Nat :=
  match (g.hist.filter fun x => x.1 == b.val && n < x.2.2).getLast? with
  | some x => x.2.1
  | none => g.bay[b]

/-- A free value some draws ahead, and using up several draws. -/
def State.drawAt (s : State) (i : Nat) : Nat := Config.freeNat (s.free + i)

/-- Use up `n` draws. -/
def State.drawnN (s : State) (n : Nat) : State := { s with free := s.free + n }

/-- Hold an event of a bay's cell until its commit (R46): `off` is the offset of the cell, 0 for the output group. -/
def State.stage (s : State) (b : BayId) (off : Nat) (e : Ev) : State :=
  s.onBay b fun y => { y with staged := y.staged ++ [(off, e)] }

/-- A request that its body answers, with a say over the state where it is refused. -/
def cardFull (o : Origin) (opcode : Nat) (layout : List Nat) (checks : State → List Chk)
    (onRefuse : Nat → State → State) (body : State → State) (s : State) : State :=
  if s.canTake o.court o.mbx then
    let t := s.take o.court o.mbx opcode layout
    match firstRefusal (reserved o :: (modeChecks t opcode ++ checks t)) with
    | some (st, dt) => (onRefuse st t).refuse o st dt layout
    | none => body t
  else s

end Sys2Proof.Machine
end

