-- ==== Sys2Proof/Machine/Keys.lean ====
section
/-! DEFINITION. Fuses, the key tree, debug state, random numbers and the key commands (spec file 20). -/

namespace Sys2Proof.Machine

/-- ASCII bytes of a label. -/
def ascii (t : String) : List Byte := t.toList.map fun c => BitVec.ofNat 8 c.toNat

/-- Bits burned in a COURT_GEN field (R548). -/
def burnedBits (g : BitVec 16) : Nat := ((List.range 16).filter g.getLsbD).length

/-- The count of a thermometer code of 64 bits (R541). -/
def thermometer (g : BitVec 64) : Nat := ((List.range 64).filter g.getLsbD).length

/-- The device root in use: DEVICE_ROOT, or the test root in debug state (R543, R550). -/
def Keys.deviceRoot (k : Keys) : Nat :=
  if k.debugState then Config.sha256 (ascii "KMS-QN960 test root") else k.fuses.deviceRoot

/-- SERIAL as 8 bytes. -/
def Keys.serialBytes (k : Keys) : List Byte := leBytes k.fuses.serial 8

/-- A device branch (R543). -/
def Keys.branch (k : Keys) (n : Nat) : Nat :=
  Config.hkdf k.deviceRoot k.serialBytes (ascii "QN960 device" ++ [BitVec.ofNat 8 n]) 48

/-- The court node: present for courts 1 and 2 always, for the others once a site root is in force (R543, R547). -/
def Keys.courtNode (k : Keys) (now : Nat) (c : CourtId) : Option Nat :=
  let info := ascii "QN960 court" ++ [BitVec.ofNat 8 c.val, BitVec.ofNat 8 k.genInForce[c]]
  if c.val == 1 || c.val == 2 then some (Config.hkdf k.deviceRoot k.serialBytes info 48)
  else match k.siteRoot with
    | some r => if k.siteRootFrom ≤ now then some (Config.hkdf r k.serialBytes info 48) else none
    | none => none

/-- The purpose generation in force (R549). -/
def Keys.purposeGen (k : Keys) (now : Nat) (c : CourtId) (p : Nat) : Nat :=
  ((k.purposes.filter fun x => x.court == c && x.purpose == p && x.tick ≤ now).map (·.gen)).foldl max 0

/-- The highest purpose generation declared, in force or from the next boundary. -/
def Keys.purposeLast (k : Keys) (c : CourtId) (p : Nat) : Nat :=
  ((k.purposes.filter fun x => x.court == c && x.purpose == p).map (·.gen)).foldl max 0

/-- Bytes of material of an algorithm (R544). -/
def algLen (alg : Nat) : Nat :=
  match alg with
  | 1 => 48 | 2 => 64 | 3 => 82 | 4 => 32 | 5 => 57 | 6 => 48 | 7 => 64 | 8 => 82 | 9 => 16 | 10 => 32 | _ => 0

/-- Bytes of a public key (R544). -/
def pubLen (alg : Nat) : Nat :=
  match alg with
  | 1 => 65 | 2 => 97 | 3 => 133 | 4 => 32 | 5 => 57 | 6 => 65 | 7 => 97 | 8 => 133 | _ => 0

/-- Bytes of a signature (R566). -/
def sigLen (alg : Nat) : Nat :=
  match alg with
  | 1 => 64 | 2 => 96 | 3 => 132 | 4 => 64 | 5 => 114 | _ => 0

/-- Digest length of an ECDSA algorithm in bytes (R566). -/
def digestLen (alg : Nat) : Nat :=
  match alg with
  | 1 => 32 | 2 => 48 | 3 => 64 | _ => 0

/-- The secret of a key node (R543). -/
def Keys.secret (k : Keys) (now : Nat) (c : CourtId) (keyId alg : Nat) : Option Nat :=
  (k.courtNode now c).map fun n =>
    let p := keyId / 2 ^ 24
    let pur := Config.hkdf n [] (ascii "QN960 purpose" ++ [BitVec.ofNat 8 p] ++ leBytes (k.purposeGen now c p) 4) 48
    Config.hkdf pur [] (ascii "QN960 key" ++ leBytes keyId 4 ++ [BitVec.ofNat 8 alg]) (algLen alg)

/-- A key node of a court. -/
def Keys.node? (k : Keys) (c : CourtId) (keyId : Nat) : Option KeyNode :=
  k.nodes.find? fun n => n.court == c && n.keyId == keyId

/-- Purposes from 2 on that a court declared or holds keys of. -/
def Keys.purposesOf (k : Keys) (c : CourtId) : List Nat :=
  let a : List Nat := (k.purposes.filter fun (x : PurposeGen) => x.court == c).map (·.purpose)
  let b : List Nat := (k.nodes.filter fun (n : KeyNode) => n.court == c).map fun n => n.keyId / 2 ^ 24
  (a ++ b).eraseDups

/-- Nodes that courts' purposes and keys take (R545). -/
def Keys.nodesUsed (k : Keys) : Nat :=
  k.nodes.length + (allCourts.map fun c => (k.purposesOf c).length).sum

/-- Nodes left for courts (R545). -/
def nodeLimit : Nat := 231

/-- How many bits of COURT_GEN a court has burned, queued burns of the field included. -/
def State.courtBurned (s : State) (c : CourtId) : Nat :=
  burnedBits s.keys.fuses.courtGen[c] +
    (s.keys.burns.filter fun b => b.field == .courtGen c || b.field == .teardownGen c || b.field == .joinGen c).length

/-- Whether a tenant court is retired: all its 16 bits are burned (R548). -/
def State.retired (s : State) (c : CourtId) : Bool := burnedBits s.keys.fuses.courtGen[c] == 16

/-- The generation COURT_STATUS reports (R95, R548). -/
def State.reportedGen (s : State) (c : CourtId) : Nat := min 15 s.keys.genInForce[c]

/-- Put a burn behind the others (R542). -/
def State.queueBurn (s : State) (f : BurnField) (o : Option Origin) : State :=
  { s with keys := { s.keys with burns := s.keys.burns ++ [⟨f, o⟩] } }

/-- The fuse bank after a burn. -/
def Fuses.burned (f : Fuses) : BurnField → Fuses
  | .calKey h => { f with calKeyHash := h }
  | .safeKey h => { f with safeKeyHash := h }
  | .debugDisable => { f with lifecycle := f.lifecycle ||| 1#64 }
  | .safeCommissioned => { f with lifecycle := f.lifecycle ||| 2#64 }
  | .courtGen c => { f with courtGen := vmod f.courtGen c fun g => g ||| BitVec.ofNat 16 (2 ^ burnedBits g) }
  | .teardownGen c => { f with courtGen := vmod f.courtGen c fun g => g ||| BitVec.ofNat 16 (2 ^ burnedBits g) }
  | .joinGen c => { f with courtGen := vmod f.courtGen c fun g => g ||| BitVec.ofNat 16 (2 ^ burnedBits g) }
  | .fwSvn n => { f with fwSvn := f.fwSvn ||| BitVec.ofNat 64 (2 ^ n - 1) }
  | .kfwRevoke k => { f with lifecycle := f.lifecycle ||| BitVec.ofNat 64 (2 ^ (2 + k)) }

/-- DEBUG_DISABLE. -/
def Fuses.debugDisable (f : Fuses) : Bool := f.lifecycle.getLsbD 0

/-- SAFE_COMMISSIONED. -/
def Fuses.commissioned (f : Fuses) : Bool := f.lifecycle.getLsbD 1

/-- KFW_REVOKE of a key slot. -/
def Fuses.revoked (f : Fuses) (k : Nat) : Bool := f.lifecycle.getLsbD (2 + k)

/-- The FIELD code that FUSE_BURNED carries; FW_SVN and KFW_REVOKE have none in the spec (R571, log 19). -/
def burnCode (f : BurnField) (free : Nat) : Nat :=
  match f with
  | .calKey _ => 0 | .safeKey _ => 1 | .debugDisable => 2 | .courtGen _ => 3 | .safeCommissioned => 4
  | .teardownGen _ => 5 | .joinGen _ => 5 | .fwSvn _ => free % 256 | .kfwRevoke _ => free % 256

/-- Carry out the burn at the head of the queue: the field changes, tenants' generations at once and those of courts 0
to 2 at the next start, and the events of R571 are raised. -/
def State.burnOne (s : State) (b : Burn) (verified : Bool) : State :=
  let fz := s.keys.fuses.burned b.field
  let gens := match b.field with
    | .teardownGen c => s.keys.genInForce.set c (burnedBits fz.courtGen[c])
    | .joinGen c => if 3 ≤ c.val then s.keys.genInForce.set c (burnedBits fz.courtGen[c]) else s.keys.genInForce
    | _ => s.keys.genInForce
  let unlock := s.keys.unlockHeld && b.field != .debugDisable
  let t := { s with keys := { s.keys with fuses := fz, genInForce := gens, unlockHeld := unlock,
                                          burns := s.keys.burns.drop 1 } }
  let t := match b.field with
    | .courtGen c => t.raiseNow (416 + c.val) 0x0F03 (burnedBits fz.courtGen[c])
    | .teardownGen c => t.raiseNow (416 + c.val) 0x0F03 (burnedBits fz.courtGen[c])
    | .joinGen c => t.raiseNow (416 + c.val) 0x0F03 (burnedBits fz.courtGen[c])
    | _ => t
  (t.raiseNow 433 0x0F11 (burnCode b.field s.draw + 2 ^ 8 * b2n verified)).drawn

/-- Count a rejected public input of a court; CRYPTO_REJECT is raised at most once a second (R555, R571). -/
def State.cryptoReject (s : State) (c : CourtId) (code : Nat) : State :=
  let r := s.keys.rejects[c]
  let n := r.2.1 + 1
  let due := r.1 == 0 || r.2.2 + 1000000 ≤ s.now
  let t := { s with keys := { s.keys with
    rejects := s.keys.rejects.set c (r.1 + 1, if due then 0 else n, if due then s.now else r.2.2) } }
  if due then t.raiseNow (416 + c.val) 0x0F02 (code + 2 ^ 16 * min n 0xFFFF) else t

/-- The status with which a request for random numbers is turned away (R557). -/
def State.rngChk (s : State) : Chk :=
  match s.keys.trng with
  | .ready => none
  | .latched => some (stFAIL, 0)
  | .warming => some (stWARMING, 0)
  | .retrying => some (stWARMING, 0)

/-- Draw `n` bytes from the DRBG: the count of its output since the reseed grows (R556). -/
def State.drbg (s : State) (n : Nat) : State :=
  { s.drawn with keys := { s.keys with drbgBytes := s.keys.drbgBytes + n } }

/-- A change of the TRNG's state (R557, R571). -/
def State.setTrng (s : State) (st : TrngState) (retries : Nat) : State :=
  ({ s with keys := { s.keys with trng := st, retries := retries } }).raiseNow 432 0x0F10 (st.code + 2 ^ 8 * min retries 3)

/-- TRNG_READY: the start-up tests pass and the DRBG is seeded (R557). -/
def execTrngReady (s : State) : Out :=
  .next (if s.keys.trng == .warming || s.keys.trng == .retrying then
      { (s.setTrng .ready s.keys.retries) with keys :=
          { s.keys with trng := .ready, seeded := true, drbgBytes := 0, reseedTick := s.now } }
    else s)

/-- TRNG_STARTUP_FAIL: a failed start-up test is a retry; the fourth failure after three retries latches (R557). -/
def execTrngStartupFail (s : State) : Out :=
  .next (if s.keys.trng == .warming || s.keys.trng == .retrying then
      let t := { s with keys := { s.keys with lastFail := s.now, seeded := false } }
      if s.keys.retries ≥ 3 then t.setTrng .latched s.keys.retries else t.setTrng .retrying (s.keys.retries + 1)
    else s)

/-- The opcodes whose requests wait for the DRBG. -/
def drbgOpcodes : List Nat := [0x0F03, 0x0F10, 0x0F20, 0x0F22, 0x0F30, 0x0F40, 0x0612, 0x0B02, 0x0B20, 0x0B04]

/-- Answer FAIL every request in execution that waits for the DRBG (R557). -/
def State.failDrbgWaiters (s : State) : State :=
  allCourts.foldl (fun s c => ([0, 1] : List (Fin 4)).foldl (fun s m =>
    match (s.mbox c m).running with
    | some r => if drbgOpcodes.contains r.opcode then s.answer c m stFAIL 0 false (zeroFields r.layout) else s
    | none => s) s) s

/-- TRNG_CONTINUOUS_FAIL: output stops, the DRBG state is erased, waiting requests are answered FAIL (R557). -/
def execTrngContinuousFail (s : State) : Out :=
  .next (if s.keys.trng == .ready then
      let t := { s with keys := { s.keys with fails := bump 32 s.keys.fails, lastFail := s.now, seeded := false } }
      (if s.keys.retries ≥ 3 then t.setTrng .latched s.keys.retries
       else t.setTrng .retrying (s.keys.retries + 1)).failDrbgWaiters
    else s)

/-- TRNG_RETRY_RESET: 1 h without a failure returns the retry count to 0 (R557). -/
def execTrngRetryReset (s : State) : Out :=
  .next (if s.keys.trng == .ready && s.keys.lastFail + 3600000000 ≤ s.now then
      { s with keys := { s.keys with retries := 0 } }
    else s)

/-- DRBG_RESEED: after 1 MiB of output, after 1 s, or for a request with PRED_RES (R556). -/
def execDrbgReseed (predRes : Bool) (s : State) : Out :=
  .next (if s.keys.trng == .ready &&
      (predRes || 1048576 ≤ s.keys.drbgBytes || s.keys.reseedTick + 1000000 ≤ s.now) then
      { s with keys := { s.keys with drbgBytes := 0, reseedTick := s.now } }
    else s)

/-- DEBUG_CHALLENGE_EXPIRE: a challenge lapses 600 s after it was issued (R550). -/
def execDebugChallengeExpire (s : State) : Out :=
  .next { s with keys := { s.keys with challenges := s.keys.challenges.filter fun c => s.now < c.2 + 600000000 } }

/-- FUSE_READ (R560). -/
def cardFuseRead (o : Origin) (s : State) : State :=
  card o 0x0F01 [64, 48, 16, 64, 64, 384, 384, 384, 384, 256] (fun _ => [permit o [0, 1, 2]])
    (fun t =>
      let f := t.keys.fuses
      (t, [f.serial, f.macBase, 0, f.lifecycle.toNat, f.fwSvn.toNat, f.kfwHash0, f.kfwHash1, f.calKeyHash,
           f.safeKeyHash, (List.finRange 16).foldr (fun c a => f.courtGen[c].toNat + 2 ^ 16 * a) 0]))
    s

/-- The command FUSE_READ (R560). -/
def execFuseRead (o : Origin) (s : State) : Out := .next (cardFuseRead o s)

/-- Whether a field that burns once is already set or about to be. -/
def State.burnSet (s : State) (field : Nat) : Bool :=
  match field with
  | 0 => s.keys.fuses.calKeyHash != 0 || s.keys.burns.any fun b => burnCode b.field 9 == 0
  | 1 => s.keys.fuses.safeKeyHash != 0 || s.keys.burns.any fun b => burnCode b.field 9 == 1
  | 2 => s.keys.fuses.debugDisable || s.keys.burns.any fun b => burnCode b.field 9 == 2
  | _ => false

/-- FUSE_BURN (R542, R561): the burn waits its turn, and the response follows it. -/
def cardFuseBurn (o : Origin) (field value : Nat) (s : State) : State :=
  cardLater o 0x0F02 [8, 24]
    (fun t => [permit o [0, 1, 2],
      need (match field with
        | 0 => o.court.val ≤ 1 | 1 => o.court.val == 2 | 2 => o.court.val == 0 | 3 => o.court.val ≤ 2 | _ => true)
        stNOT_PERMITTED 1,
      rng 1 (field ≤ 3),
      rng 3 (if field ≤ 1 then value != 0 else value == 0),
      need (!t.burnSet field) stBAD_STATE 0,
      need (field != 3 || t.courtBurned o.court < 15) stBAD_STATE 0])
    (fun t => t.queueBurn (match field with
      | 0 => .calKey value | 1 => .safeKey value | 2 => .debugDisable | _ => .courtGen o.court) (some o))
    s

/-- The command FUSE_BURN (R561). -/
def execFuseBurn (o : Origin) (field value : Nat) (s : State) : Out := .next (cardFuseBurn o field value s)

/-- DEBUG_CTRL OP 0: a challenge is issued (R550, R562). -/
def cardDebugChallenge (o : Origin) (tokenLen : Nat) (s : State) : State :=
  card o 0x0F03 [256]
    (fun t => [permit o [0], rng 3 (tokenLen == 0), need (!t.keys.fuses.debugDisable) stBAD_STATE 0, t.rngChk])
    (fun t =>
      let c := t.random 256
      let u := t.drbg 32
      ({ u with keys := { u.keys with challenges := u.keys.challenges ++ [(c, t.now)] } }, [c]))
    s

/-- The command DEBUG_CTRL OP 0 (R562). -/
def execDebugChallenge (o : Origin) (tokenLen : Nat) (s : State) : Out := .next (cardDebugChallenge o tokenLen s)

/-- DEBUG_CTRL OP 1: an unlock token over SERIAL and a live challenge is accepted for the next SOFT or WDOG start; the
challenge serves once (R550, R562). `serial` and `challenge` are the values of the token's map. -/
def cardDebugUnlock (o : Origin) (token : List Byte) (serial challenge : Nat) (s : State) : State :=
  card o 0x0F03 [256]
    (fun t =>
      let live := t.keys.challenges.filter fun c => t.now < c.2 + 600000000
      [permit o [0], rng 3 (1 ≤ token.length && token.length ≤ 1024),
       need (!t.keys.fuses.debugDisable) stBAD_STATE 0, need (!live.isEmpty) stBAD_STATE 0,
       need (Config.debugTokenOk token) stREJECTED_CRYPTO 0,
       need (serial == t.keys.fuses.serial && live.any (·.1 == challenge)) stREJECTED_CRYPTO 0])
    (fun t =>
      let u := { t with keys := { t.keys with
        unlockHeld := true, challenges := t.keys.challenges.filter (·.1 != challenge) } }
      (u.raiseNow 434 0x0F12 (1 + 2 * b2n u.keys.debugState), [0]))
    s

/-- The command DEBUG_CTRL OP 1 (R562). -/
def execDebugUnlock (o : Origin) (token : List Byte) (serial challenge : Nat) (s : State) : Out :=
  .next (cardDebugUnlock o token serial challenge s)

/- The site root (R546, R547). -/

/-- ROOT_ID of a site root: 16 bytes (R546). -/
def rootId (r : Nat) : Nat := Config.hkdf r [] (ascii "QN960 site id") 48 % 2 ^ 128

/-- Bytes 0 to 31 of a blob: FORMAT, SERIAL, ROOT_ID (R546). -/
def blobHead (serial r : Nat) : List Byte :=
  leBytes 1 1 ++ leBytes 0 7 ++ leBytes serial 8 ++ leBytes (rootId r) 16

/-- A blob of the site root, sealed under the seal key with a nonce (R546). -/
def Keys.blob (k : Keys) (r nonce : Nat) : List Byte :=
  let head := blobHead k.fuses.serial r
  head ++ leBytes nonce 12 ++
    (Config.aeadSeal (k.branch 1) nonce head (leBytes r 32)).take 48 ++ leBytes 0 4

/-- Put a site root in force from the next tick boundary (R563, R571). -/
def State.holdRoot (s : State) (r : Nat) : State :=
  ({ s with keys := { s.keys with siteRoot := some r, siteRootFrom := s.now + 1 } }).raiseNow 435 0x0F13
    (1 + 2 ^ 8 * (rootId r % 2 ^ 24))

/-- SITE_ROOT GENERATE (R546, R563). -/
def cardSiteRootGenerate (o : Origin) (pos blob : Nat) (s : State) : State :=
  card o 0x0F10 [128, 768]
    (fun t => [permit o [0], rng 2 (pos == 0), rng 4 (blob == 0), need t.keys.siteRoot.isNone stBAD_STATE 0, t.rngChk])
    (fun t =>
      let r := t.random 256
      let u := (t.drbg 32)
      let nonce := u.random 96
      let v := (u.drbg 12).holdRoot r
      (v, [rootId r, leGet (v.keys.blob r nonce) 0 96]))
    s

/-- The command SITE_ROOT GENERATE (R563). -/
def execSiteRootGenerate (o : Origin) (pos blob : Nat) (s : State) : Out := .next (cardSiteRootGenerate o pos blob s)

/-- The site root a blob holds, or the reason it does not open: 0 a foreign serial, 8 a tag that fails (R546, R563). -/
def Keys.openBlob (k : Keys) (blob : List Byte) : Except Nat Nat :=
  if leGet blob 0 1 != 1 || leGet blob 8 8 != k.fuses.serial then .error 0
  else match Config.aeadOpen (k.branch 1) (leGet blob 32 12) (blob.take 32) ((blob.drop 44).take 48) with
    | some m => .ok (leGet m 0 32)
    | none => .error 8

/-- SITE_ROOT LOAD (R546, R563): a refused blob counts as a rejected input where its tag fails (R555). -/
def cardSiteRootLoad (o : Origin) (pos : Nat) (blob : List Byte) (s : State) : State :=
  cardOwn o 0x0F10 [128, 768]
    (fun t => [permit o [0], rng 2 (pos == 0), need t.keys.siteRoot.isNone stBAD_STATE 0])
    (fun t => match t.keys.openBlob blob with
      | .ok r => (t.holdRoot r).answer o.court o.mbx stOK 0 false (withValues [128, 768] [rootId r, 0])
      | .error d =>
        (if d == 8 then t.cryptoReject o.court 8 else t).answer o.court o.mbx stREJECTED_CRYPTO d false
          (zeroFields [128, 768]))
    s

/-- The command SITE_ROOT LOAD (R563). -/
def execSiteRootLoad (o : Origin) (pos : Nat) (blob : List Byte) (s : State) : Out :=
  .next (cardSiteRootLoad o pos blob s)

/-- SITE_ROOT EXPORT (R563): a blob sealed by this QN960, or by the returner that POS names, which carries it out over
the twin link within 100 ms. -/
def cardSiteRootExport (o : Origin) (pos blob : Nat) (s : State) : State :=
  cardLater o 0x0F10 [128, 768]
    (fun t => [permit o [0], rng 2 (pos ≤ 1), rng 4 (blob == 0), need t.keys.siteRoot.isSome stBAD_STATE 0,
      need (pos == (if t.twin.en then t.twin.pos else 0) || (t.twin.en && t.twin.linkUp)) stBAD_STATE 0, t.rngChk])
    (fun t =>
      if t.mirrored o then t.leaveTo o
      else if pos == (if t.twin.en then t.twin.pos else 0) then
        match t.keys.siteRoot with
        | some r =>
          let nonce := t.random 96
          (t.drbg 12).answer o.court o.mbx stOK 0 false
            (withValues [128, 768] [rootId r, leGet (t.keys.blob r nonce) 0 96])
        | none => t
      else { t with twin := { t.twin with forwards := t.twin.forwards ++ [⟨o, 0x0F10, [128, 768], t.now, 0⟩] } })
    s

/-- The command SITE_ROOT EXPORT (R563). -/
def execSiteRootExport (o : Origin) (pos blob : Nat) (s : State) : Out := .next (cardSiteRootExport o pos blob s)

/- Purpose generations and keys of courts. -/

/-- KEY_PURPOSE_GEN (R549, R564): a higher generation is in force from the next tick boundary. -/
def cardKeyPurposeGen (o : Origin) (purpose gen : Nat) (s : State) : State :=
  card o 0x0F11 [32, 64]
    (fun t => [rng 1 (2 ≤ purpose && purpose ≤ 255), need (t.keys.courtNode t.now o.court).isSome stBAD_STATE 0,
      need (t.keys.purposeLast o.court purpose ≤ gen) stBAD_STATE 0,
      need ((t.keys.purposesOf o.court).contains purpose || t.keys.nodesUsed < nodeLimit) stNO_RESOURCE 0])
    (fun t =>
      if gen == t.keys.purposeLast o.court purpose && (t.keys.purposes.any fun x => x.court == o.court && x.purpose == purpose)
      then (t, [gen, t.now + 1])
      else
        let u := { t with keys := { t.keys with purposes := t.keys.purposes ++ [⟨o.court, purpose, gen, t.now + 1⟩] } }
        ((if gen == t.keys.purposeLast o.court purpose then u
          else u.raise ⟨416 + o.court.val, 0x0F01, (purpose + 2 ^ 8 * (gen % 2 ^ 24)) % 2 ^ 32, t.now + 1⟩),
         [gen, t.now + 1]))
    s

/-- The command KEY_PURPOSE_GEN (R564). -/
def execKeyPurposeGen (o : Origin) (purpose gen : Nat) (s : State) : Out := .next (cardKeyPurposeGen o purpose gen s)

/-- The public key bytes of a node of a court, in force now. -/
def State.pubKey (s : State) (c : CourtId) (keyId alg : Nat) : List Byte :=
  match s.keys.secret s.now c keyId alg with
  | some m => leBytes (Config.publicKey alg m) (pubLen alg)
  | none => []

/-- KEY_CREATE (R544, R565): the same KEY_ID with the same ALG gives the same node and key. -/
def cardKeyCreate (o : Origin) (keyId alg flags : Nat) (s : State) : State :=
  cardOwn o 0x0F12 [16, 16]
    (fun t => [rng 1 (2 ≤ keyId / 2 ^ 24), rng 2 (1 ≤ alg && alg ≤ 10), rng 3 (flags < 2),
      need (t.keys.courtNode t.now o.court).isSome stBAD_STATE 0,
      need (match t.keys.node? o.court keyId with
        | some n => n.alg == alg
        | none => true) stBAD_STATE 0,
      need ((t.keys.node? o.court keyId).isSome ||
        t.keys.nodesUsed + (if (t.keys.purposesOf o.court).contains (keyId / 2 ^ 24) then 1 else 2) ≤ nodeLimit)
        stNO_RESOURCE 0])
    (fun t =>
      let u := if (t.keys.node? o.court keyId).isSome then t
        else { t with keys := { t.keys with nodes := t.keys.nodes ++ [⟨o.court, keyId, alg, bitOf flags 0⟩] } }
      u.answer o.court o.mbx stOK 0 false
        ([(16, pubLen alg), (16, 0)] ++ bytesAsFields (u.pubKey o.court keyId alg)))
    s

/-- The command KEY_CREATE (R565). -/
def execKeyCreate (o : Origin) (keyId alg flags : Nat) (s : State) : Out := .next (cardKeyCreate o keyId alg flags s)

/-- The algorithm of a node, 0 where the court holds none. -/
def State.nodeAlg (s : State) (c : CourtId) (keyId : Nat) : Nat :=
  match s.keys.node? c keyId with
  | some n => n.alg
  | none => 0

/-- Whether a node's secret can be used now: the node exists and its court node is present (R547). -/
def State.nodeUsable (s : State) (c : CourtId) (keyId : Nat) : Bool :=
  (s.keys.node? c keyId).isSome && (s.keys.courtNode s.now c).isSome

/-- The signature of data under a node, with the draw of its nonce. -/
def State.signWith (s : State) (c : CourtId) (keyId alg : Nat) (data : List Byte) : List Byte :=
  match s.keys.secret s.now c keyId alg with
  | some m => leBytes (Config.signature alg m data s.free) (sigLen alg)
  | none => []

/-- KEY_SIGN (R554, R566): ECDSA waits for the DRBG, EdDSA does not. -/
def cardKeySign (o : Origin) (keyId flags : Nat) (data : List Byte) (s : State) : State :=
  cardOwn o 0x0F20 [16, 16]
    (fun t =>
      let alg := t.nodeAlg o.court keyId
      let pre := bitOf flags 0
      [need (keyId / 2 ^ 24 != 1) stNOT_PERMITTED 1,
       rng 2 (flags < 2 && (!pre || alg ≤ 3)),
       rng 4 (1 ≤ data.length && data.length ≤ 4000 && (!pre || alg == 0 || 3 < alg || data.length == digestLen alg)),
       need (t.nodeUsable o.court keyId && 1 ≤ alg && alg ≤ 5) stBAD_STATE 0,
       if 1 ≤ alg && alg ≤ 3 then t.rngChk else none])
    (fun t =>
      let alg := t.nodeAlg o.court keyId
      let sig := t.signWith o.court keyId alg data
      (if alg ≤ 3 then t.drbg 32 else t.drawn).answer o.court o.mbx stOK 0 false
        ([(16, sigLen alg), (16, 0)] ++ bytesAsFields sig))
    s

/-- The command KEY_SIGN (R566). -/
def execKeySign (o : Origin) (keyId flags : Nat) (data : List Byte) (s : State) : Out :=
  .next (cardKeySign o keyId flags data s)

/-- The prime of an ECDH curve, its coefficient b and its field length in bytes (FIPS 186-5, log 4). -/
def curveOf (alg : Nat) : Nat × Nat × Nat :=
  match alg with
  | 6 => (2 ^ 256 - 2 ^ 224 + 2 ^ 192 + 2 ^ 96 - 1,
      0x5ac635d8aa3a93e7b3ebbd55769886bc651d06b0cc53b0f63bce3c3e27d2604b, 32)
  | 7 => (2 ^ 384 - 2 ^ 128 - 2 ^ 96 + 2 ^ 32 - 1,
      0xb3312fa7e23ee7e4988e056be3f82d19181d9c6efe8141120314088f5013875ac656398d8a2ed19d2a85c8edd3ec2aef, 48)
  | _ => (2 ^ 521 - 1,
      0x0051953eb9618e1c9a1f929a21a0b68540eea2da725b99b315f3b8b489918ef109e156193951ec7e937b1652c0bd3bb1bf073573df883d2c34f1ef451fd46b503f00, 66)

/-- A big-endian number. -/
def beGet (l : List Byte) : Nat := l.foldl (fun a b => 256 * a + b.toNat) 0

/-- The R555 code of a SEC1 point on the curve of an algorithm: 0 accepted. -/
def pointCode (alg : Nat) (pt : List Byte) : Nat :=
  let c := curveOf alg
  let n := c.2.2
  let x := beGet ((pt.drop 1).take n)
  let y := beGet ((pt.drop (1 + n)).take n)
  if pt.length != 1 + 2 * n || leGet pt 0 1 != 4 then 1
  else if x ≥ c.1 || y ≥ c.1 then 2
  else if (y * y) % c.1 != (x * x * x + (c.1 - 3) * x + c.2.1) % c.1 then 3
  else 0

/-- KEY_ECDH (R555, R567). -/
def cardKeyEcdh (o : Origin) (keyId : Nat) (peer : List Byte) (s : State) : State :=
  cardOwn o 0x0F21 [8, 24]
    (fun t => [need (t.nodeUsable o.court keyId && 6 ≤ t.nodeAlg o.court keyId && t.nodeAlg o.court keyId ≤ 8)
      stBAD_STATE 0])
    (fun t =>
      let alg := t.nodeAlg o.court keyId
      let code := pointCode alg peer
      if code != 0 then
        (t.cryptoReject o.court code).answer o.court o.mbx stREJECTED_CRYPTO code false [(8, code), (24, 0)]
      else match t.keys.secret t.now o.court keyId alg with
        | some m => t.answer o.court o.mbx stOK 0 false
            ([(8, 0), (24, 0)] ++ bytesAsFields (leBytes (Config.ecdh alg m peer) (curveOf alg).2.2))
        | none => t.answer o.court o.mbx stBAD_STATE 0 false (zeroFields [8, 24]))
    s

/-- The command KEY_ECDH (R567). -/
def execKeyEcdh (o : Origin) (keyId : Nat) (peer : List Byte) (s : State) : Out := .next (cardKeyEcdh o keyId peer s)

/-- KEY_AEAD seal (R568). -/
def cardKeyAeadSeal (o : Origin) (keyId nonce : Nat) (aad data : List Byte) (s : State) : State :=
  cardOwn o 0x0F22 [8, 8, 16, 96]
    (fun t => [rng 4 (aad.length ≤ 256), rng 5 (1 ≤ data.length && data.length ≤ 400), rng 7 (nonce == 0),
      need (t.nodeUsable o.court keyId && 9 ≤ t.nodeAlg o.court keyId && t.nodeAlg o.court keyId ≤ 10) stBAD_STATE 0,
      t.rngChk])
    (fun t =>
      let alg := t.nodeAlg o.court keyId
      let n := t.random 96
      match t.keys.secret t.now o.court keyId alg with
      | some m =>
        let out := (Config.aeadSeal m n aad data).take (data.length + 16)
        (t.drbg 12).answer o.court o.mbx stOK 0 false
          ([(8, 0), (8, 0), (16, data.length + 16), (96, n)] ++ bytesAsFields out)
      | none => t.answer o.court o.mbx stBAD_STATE 0 false (zeroFields [8, 8, 16, 96]))
    s

/-- The command KEY_AEAD seal (R568). -/
def execKeyAeadSeal (o : Origin) (keyId nonce : Nat) (aad data : List Byte) (s : State) : Out :=
  .next (cardKeyAeadSeal o keyId nonce aad data s)

/-- KEY_AEAD open (R555, R568). -/
def cardKeyAeadOpen (o : Origin) (keyId nonce : Nat) (aad data : List Byte) (s : State) : State :=
  cardOwn o 0x0F22 [8, 8, 16, 96]
    (fun t => [rng 4 (aad.length ≤ 256), rng 5 (17 ≤ data.length && data.length ≤ 416),
      need (t.nodeUsable o.court keyId && 9 ≤ t.nodeAlg o.court keyId && t.nodeAlg o.court keyId ≤ 10) stBAD_STATE 0])
    (fun t =>
      let alg := t.nodeAlg o.court keyId
      match t.keys.secret t.now o.court keyId alg with
      | some m => match Config.aeadOpen m nonce aad data with
        | some p => t.answer o.court o.mbx stOK 0 false
            ([(8, 0), (8, 0), (16, p.length), (96, 0)] ++ bytesAsFields p)
        | none => (t.cryptoReject o.court 8).answer o.court o.mbx stREJECTED_CRYPTO 8 false
            (withValues [8, 8, 16, 96] [8, 0, 0, 0])
      | none => t.answer o.court o.mbx stBAD_STATE 0 false (zeroFields [8, 8, 16, 96]))
    s

/-- The command KEY_AEAD open (R568). -/
def execKeyAeadOpen (o : Origin) (keyId nonce : Nat) (aad data : List Byte) (s : State) : Out :=
  .next (cardKeyAeadOpen o keyId nonce aad data s)

/-- RNG_READ (R556, R569): COUNT 0 reports the state only; PRED_RES reseeds first. -/
def cardRngRead (o : Origin) (count flags : Nat) (s : State) : State :=
  cardOwn o 0x0F30 [8, 8, 16, 32]
    (fun t => [rng 1 (count ≤ 256), rng 2 (flags < 2), if count == 0 then none else t.rngChk])
    (fun t =>
      let lead := withValues [8, 8, 16, 32] [t.keys.trng.code, t.keys.retries, 0, t.keys.fails]
      if count == 0 then t.answer o.court o.mbx stOK 0 false lead
      else
        let t1 := if bitOf flags 0 then { t with keys := { t.keys with drbgBytes := 0, reseedTick := t.now } } else t
        (t1.drbg count).answer o.court o.mbx stOK 0 false
          (lead ++ bytesAsFields (leBytes (t.random (8 * count)) count)))
    s

/-- The command RNG_READ (R569). -/
def execRngRead (o : Origin) (count flags : Nat) (s : State) : Out := .next (cardRngRead o count flags s)

end Sys2Proof.Machine
end

