-- ==== Sys2Proof/Machine/LegalTime.lean ====
section
/-! DEFINITION. The legal court's time, log, tamper record, calendars and demand windows (spec file 15). -/

namespace Sys2Proof.Machine

/-- Change the legal court's state. -/
def State.onLegal (s : State) (f : Legal → Legal) : State := { s with legal := f s.legal }

/-- Change the mirrored registers' working copy. -/
def State.onRegs (s : State) (f : LegalRegs → LegalRegs) : State := s.onLegal fun l => { l with regs := f l.regs }

/-- Nanoseconds in a second. -/
abbrev nsPerS : Int := 1000000000

/-- OFFSET = TAI - UTC in seconds (R63, R408): from PTP when the source is PTP and has given it, else from the legal configuration. -/
def State.utcOffset (s : State) : Int :=
  if s.clock.cfg.source = 0 then s.legal.regs.cfg.utcOffset else s.clock.ptpUtcOffset.getD s.legal.regs.cfg.utcOffset

/-- Legal time less 1,000 ns a tick, as it stands now (R408). -/
def State.legalBase (s : State) : Int := (s.clock.siteEpoch : Int) - s.utcOffset * nsPerS + s.legal.corr

/-- The base in force at a tick; earlier ticks of the start take the first one, with C = 0 (R410). -/
def baseAt : List (Nat × Int) → Nat → Int
  | [], _ => 0
  | [b], _ => b.2
  | b :: l, n => if b.1 ≤ n then b.2 else baseAt l n

/-- Legal UTC in nanoseconds at a tick (R408). -/
def Legal.ns (l : Legal) (n : Nat) : Int := baseAt l.bases n + 1000 * (n : Int)

/-- Legal UTC second at a tick. -/
def Legal.utc (l : Legal) (n : Nat) : Nat := (l.ns n / nsPerS).toNat

/-- The tick field at a tick (R63, R64): ticks since the start of the legal second. -/
def Legal.tis (l : Legal) (n : Nat) : Nat :=
  match l.secs.find? fun m => m.tick ≤ n && m.sec == l.utc n with
  | some m => ((n : Int) - m.start).toNat
  | none => (l.ns n % nsPerS / 1000).toNat

/-- Note the base in force from a tick on, and keep what ticks back to 4,096 tk need. -/
def Legal.rebase (l : Legal) (n : Nat) (base : Int) : Legal :=
  let old := l.bases.takeWhile fun b => n < b.1 + 4096
  let rest := (l.bases.drop old.length).take 1
  { l with bases := (n, base) :: (old.filter (·.1 != n) ++ rest) }

/-- Note where the legal second of tick `n` began. -/
def Legal.markSecond (l : Legal) (n : Nat) : Legal :=
  let sec := l.utc n
  match l.secs with
  | m :: _ =>
    if m.sec == sec then l
    else
      let start : Int := if sec == m.sec + 1 then n else (n : Int) - l.ns n % nsPerS / 1000
      { l with secs := (⟨n, sec, start⟩ :: l.secs).take 3 }
  | [] => { l with secs := [⟨n, sec, (n : Int) - l.ns n % nsPerS / 1000⟩] }

/- The legal log (R413 to R415). -/

/-- Whether an entry made now lies at or in a split interval (R413). -/
def Legal.inSplit (l : Legal) : Bool :=
  l.tariffSplit || match l.subs with
    | x :: _ => x.last.isNone && x.split
    | [] => false

/-- Append an entry with SEQ rising by 1, into the working copy and, as entries are written as they are made, into the
mirror (R413, R419). -/
def Legal.append (l : Legal) (utc tis kind : Nat) (late rtc : Bool) (bay data : Nat) : Legal :=
  let e : LogEntry := ⟨l.regs.logNext, utc, tis, kind, late, l.inSplit, rtc, bay, data % 2 ^ 64⟩
  let r := { l.regs with log := (e :: l.regs.log).take 4096, logNext := (l.regs.logNext + 1) % 2 ^ 32 }
  { l with regs := r, mirror := { l.mirror with regs := { l.mirror.regs with log := r.log, logNext := r.logNext } } }

/-- LOG_WRAP, at most once per second, when the newest entry overwrote one not acknowledged (R415). -/
def State.wrapCheck (s : State) : State :=
  let l := s.legal
  let excess := l.regs.logNext - 4096 - l.regs.logAck
  let free := match l.wrapRaised with
    | some t => decide (t + 1000000 ≤ s.now)
    | none => true
  if 0 < excess && free then
    (s.onLegal fun l => { l with wrapRaised := some s.now }).raiseNow 385 0x0B13 excess
  else s

/-- Log a happening of a tick (R415): before legal time is valid it waits, up to 64 entries, and beyond that it is written
with time 0. -/
def State.log (s : State) (tick kind bay data : Nat) (given : Option (Nat × Nat × Bool × Bool)) : State :=
  let l := s.legal
  if l.valid then
    let r := match given with
      | some g => l.append g.1 g.2.1 kind g.2.2.1 g.2.2.2 bay data
      | none => l.append (l.utc tick) (l.tis tick) kind (tick < l.timeValidAt) false bay data
    ({ s with legal := r }).wrapCheck
  else if l.waiting.length < 64 then
    { s with legal := { l with waiting := l.waiting ++ [⟨tick, kind, bay, data, given⟩] } }
  else ({ s with legal := l.append 0 0 kind false false bay data }).wrapCheck

/- The tamper record (R411, R412). -/

/-- The earlier of two times of which 0 means none. -/
def firstTime (a b : Nat) : Nat := if a = 0 then b else if b = 0 then a else min a b

/-- Record an occurrence of a tamper kind for a bay (0xFF the site) with its detail and, for one the island recorded, the
RTC second. -/
def State.tamper (s : State) (kind : Fin 16) (bay detail : Nat) (rtc : Option Nat) : State :=
  let l := s.legal
  let t := l.regs.tamper[kind]
  let utc := match rtc with
    | some u => u
    | none => if l.valid then l.utc s.now else 0
  let t' : Tamper := { count := bump 32 t.count, first := if t.count = 0 then utc else t.first, last := utc }
  let wait := if rtc.isNone && !l.valid then [(kind.val, s.now, t.count == 0)] else []
  let recent := l.tamperLogged.any fun x => x.1 == kind.val && x.2.1 == bay && s.now < x.2.2 + 60000000
  let quiet : Bool := match l.tamperRaised[kind] with
    | some x => s.now < x + 1000000
    | none => false
  let s1 := s.onLegal fun l => { l with
    regs := { l.regs with tamper := l.regs.tamper.set kind t' }, tamperWait := l.tamperWait ++ wait }
  let s2 := if recent then s1 else
    (s1.log s.now 0x04 bay (kind.val + 2 ^ 8 * detail) (rtc.map fun u => (u, 0, false, true))).onLegal fun l => { l with
      tamperLogged := (kind.val, bay, s.now) :: l.tamperLogged.filter fun x => !(x.1 == kind.val && x.2.1 == bay) }
  let s3 := (s2.onLegal fun l => { l with tamperRaised := l.tamperRaised.set kind (some s.now) }).raiseNow 385 0x0B10
    (kind.val + 2 ^ 8 * bay)
  cond quiet s2 s3

/- Tariff calendars (R402). -/

/-- Days in the year's months, with February's 29th. -/
def monthLen (leap : Bool) (m : Nat) : Nat :=
  if m = 2 then (if leap then 29 else 28) else if m = 4 ∨ m = 6 ∨ m = 9 ∨ m = 11 then 30 else 31

/-- Whether a year of the Gregorian calendar is a leap year. -/
def leapYear (y : Nat) : Bool := y % 4 == 0 && (y % 100 != 0 || y % 400 == 0)

/-- The civil date (year, month, day) of a day number counted from 1970-01-01: the era of 400 years from 0000-03-01. -/
def civilDate (day : Int) : Nat × Nat × Nat :=
  let z := (day + 719468).toNat
  let doe := z % 146097
  let yoe := (doe - doe / 1460 + doe / 36524 - doe / 146096) / 365
  let doy := doe - (365 * yoe + yoe / 4 - yoe / 100)
  let mp := (5 * doy + 2) / 153
  let m := if mp < 10 then mp + 3 else mp - 9
  (yoe + 400 * (z / 146097) + (if m ≤ 2 then 1 else 0), m, doy - (153 * mp + 2) / 5 + 1)

/-- Local minutes since 1970 at a UTC second: the offset of the last zone entry at or before it (R402 step 1). -/
def calLocalMin (cal : List Byte) (utc : Nat) : Int :=
  let zs := (List.range (leGet cal 4 1)).filter fun z => leGet cal (512 + 8 * z) 5 ≤ utc
  let z := zs.getLastD 0
  ((utc / 60 : Nat) : Int) + sval 16 (leGet cal (512 + 8 * z + 5) 2)

/-- The day profile for a local day (R402 steps 2 and 3). -/
def calProfile (cal : List Byte) (day : Int) : Nat :=
  let (y, m, d) := civilDate day
  let special := fun year => (List.range (leGet cal 3 1)).find? fun j =>
    leGet cal (320 + 6 * j) 1 == d && leGet cal (321 + 6 * j) 1 == m && leGet cal (322 + 6 * j) 2 == year
  match special y, special 0 with
  | some j, _ => leGet cal (324 + 6 * j) 1
  | none, some j => leGet cal (324 + 6 * j) 1
  | none, none =>
    let key := fun i => let w := leGet cal (272 + 12 * i) 2; 32 * (w / 32 % 16) + w % 32
    let seasons := List.range (leGet cal 2 1)
    let later := fun (a b : Nat) => if key a < key b then b else a
    let past := seasons.filter fun i => key i ≤ 32 * m + d
    let i := match (if past.isEmpty then seasons else past) with
      | [] => 0
      | a :: l => l.foldl later a
    leGet cal (274 + 12 * i + ((day + 3) % 7).toNat) 1

/-- The tariff in force at a legal UTC second under a calendar (R402 step 4). -/
def tariffAt (cal : List Byte) (utc : Nat) : Nat :=
  let lm := calLocalMin cal utc
  let p := calProfile cal (lm / 1440)
  let pts := ((List.range 8).map fun k => leGet cal (16 + 16 * p + 2 * k) 2).filter fun w =>
    w != 0xFFFF && ((w % 2048 : Nat) : Int) ≤ lm % 1440
  pts.getLastD 0 / 8192

/-- The calendar in force at a tick. -/
def Legal.calAt (l : Legal) (n : Nat) : Option (List Byte) := if l.activeFrom ≤ n then l.active else l.previous

/-- The tariff in force at a tick: none without valid legal time or an active calendar (R400). -/
def Legal.tariffAt (l : Legal) (n : Nat) : Option Nat :=
  if l.valid && l.timeValidAt ≤ n then (l.calAt n).map fun c => Machine.tariffAt c (l.utc n) else none

/-- Whether a list of numbers rises strictly. -/
def rising : List Nat → Bool
  | a :: b :: t => decide (a < b) && rising (b :: t)
  | _ => true

/-- Whether the 640 bytes of a calendar keep R402. -/
def calendarOk (c : List Byte) : Bool :=
  let days := leGet c 1 1
  let seasons := leGet c 2 1
  let specials := leGet c 3 1
  let zones := leGet c 4 1
  let zero := fun (lo hi : Nat) => (List.range (hi - lo)).all fun k => leGet c (lo + k) 1 == 0
  leGet c 0 1 == 1 && 1 ≤ days && days ≤ 16 && 1 ≤ seasons && seasons ≤ 4 && specials ≤ 32 && 1 ≤ zones && zones ≤ 16 &&
  zero 5 8 &&
  (List.range 16).all (fun d =>
    let ps := (List.range 8).map fun k => leGet c (16 + 16 * d + 2 * k) 2
    let used := ps.takeWhile (· != 0xFFFF)
    if d < days then
      used.all (fun w => w % 2048 < 1440 && w / 2048 % 4 == 0) && rising (used.map (· % 2048)) &&
      (used.headD 1) % 2048 == 0 && (ps.drop used.length).all (· == 0xFFFF)
    else zero (16 + 16 * d) (32 + 16 * d)) &&
  (List.range 4).all (fun i =>
    let w := leGet c (272 + 12 * i) 2
    if i < seasons then
      1 ≤ w % 32 && 1 ≤ w / 32 && w / 32 ≤ 12 && (List.range 7).all (fun k => leGet c (274 + 12 * i + k) 1 < days) &&
      zero (281 + 12 * i) (284 + 12 * i)
    else zero (272 + 12 * i) (284 + 12 * i)) &&
  (List.range 32).all (fun j =>
    if j < specials then
      1 ≤ leGet c (320 + 6 * j) 1 && leGet c (320 + 6 * j) 1 ≤ 31 && 1 ≤ leGet c (321 + 6 * j) 1 &&
      leGet c (321 + 6 * j) 1 ≤ 12 && leGet c (324 + 6 * j) 1 < days && zero (325 + 6 * j) (326 + 6 * j)
    else zero (320 + 6 * j) (326 + 6 * j)) &&
  rising ((List.range zones).map fun z => leGet c (512 + 8 * z) 5) && leGet c 512 5 == 0 &&
  (List.range 16).all fun z =>
    let off := sval 16 (leGet c (517 + 8 * z) 2)
    if z < zones then decide (-840 ≤ off) && decide (off ≤ 840) && zero (519 + 8 * z) (520 + 8 * z)
    else zero (512 + 8 * z) (520 + 8 * z)

/-- The first 8 bytes of a hash as a number. -/
def hash8 (h : Nat) : Nat := h % 2 ^ 64

/-- Make a calendar the active one from a tick on: its hash becomes the mirrored active hash (R403, R404). -/
def Legal.activate (l : Legal) (cal : Option (List Byte)) (hash n : Nat) : Legal :=
  { l with previous := l.active, active := cal, activeFrom := n, activeSeen := l.activeSeen || cal.isSome,
           regs := { l.regs with activeHash := hash } }

/- Demand (R405). -/

/-- Add the energies of a meter to the sub-interval that holds a stamp. -/
def addEnergy (m imp exp stamp : Nat) : List SubInterval → List SubInterval
  | [] => []
  | x :: l =>
    if x.first ≤ stamp && (match x.last with | some e => decide (stamp < e) | none => true) then
      let old := match x.energy.find? (fun e => e.1 == m) with
        | some e => e.2
        | none => (0, 0)
      { x with energy := (m, old.1 + imp, old.2 + exp) :: x.energy.filter (·.1 != m) } :: l
    else x :: addEnergy m imp exp stamp l

/-- Collect the newest ended sub-intervals that make `k` units; the parts of a split one count together (R409). -/
def takeUnits : Nat → List SubInterval → Option (List SubInterval)
  | 0, _ => some []
  | _ + 1, [] => none
  | k + 1, x :: l =>
    if x.last.isNone then takeUnits (k + 1) l
    else (takeUnits (if x.joins then k + 1 else k) l).map (x :: ·)

/-- The demand of a window for a meter: watts import and export, SPLIT, the ticks it spans (R405). -/
def windowDemand (m : Nat) (w : List SubInterval) : Nat × Nat × Bool × Nat :=
  let d := (w.map fun x => x.last.getD x.first - x.first).sum
  let imp := (w.map fun x => ((x.energy.filter (·.1 == m)).map (·.2.1)).sum).sum
  let exp := (w.map fun x => ((x.energy.filter (·.1 == m)).map (·.2.2)).sum).sum
  (imp * 3600000 / d, exp * 3600000 / d, w.any (·.split), d)

/-- Compare a demand with a maximum (R405). -/
def MaxDemand.against (md : MaxDemand) (w : Nat) (split : Bool) (utc : Nat) : MaxDemand :=
  if md.w < satN 29 w then ⟨satN 29 w, split, utc⟩ else md

/-- Change one meter block. -/
def LegalRegs.onMeter (r : LegalRegs) (m : Fin 97) (f : LegalMeter → LegalMeter) : LegalRegs :=
  { r with meters := vmod r.meters m f }

/-- Form the demand of one meter for the sub-interval that ended last, once (R405). -/
def State.formDemand (s : State) (m : Fin 97) : State :=
  let l := s.legal
  if l.formed.getLsbD m.val || l.subEnd.isNone then s
  else
    let s1 := s.onLegal fun l => { l with formed := l.formed ||| BitVec.ofNat 97 (2 ^ m.val) }
    match takeUnits (l.regs.cfg.period / l.regs.cfg.sub) l.subs with
    | none => s1
    | some w =>
      let (imp, exp, split, d) := windowDemand m.val w
      if d < l.regs.cfg.period * 30000000 then s1
      else
        let utc := (w.headD ⟨0, none, 0, false, false, []⟩).utc
        let old := l.regs.meters[m]
        let s2 := s1.onRegs fun r => r.onMeter m fun x => { x with
          mdImp := x.mdImp.against imp split utc, mdExp := x.mdExp.against exp split utc }
        let ev := fun (s : State) (dir w : Nat) =>
          if m.val < 96 then s.raise ⟨192 + m.val, 0x0B02, dir + 2 ^ 8 * satN 24 (w / 100), l.subEnd.getD s.now⟩ else s
        let s3 := if old.mdImp.w < satN 29 imp then ev s2 0 imp else s2
        if old.mdExp.w < satN 29 exp then ev s3 1 exp else s3

/-- The end of the sub-interval that holds a UTC second: the next multiple of 60 SUB seconds (R405). -/
def subBoundary (cfg : LegalCfg) (utc : Nat) : Nat := (utc / (60 * cfg.sub) + 1) * (60 * cfg.sub)

/-- End the open sub-interval at a tick. -/
def endOpen (n : Nat) (split : Bool) : List SubInterval → List SubInterval
  | x :: l => if x.last.isNone then { x with last := some n, split := x.split || split } :: l else x :: l
  | [] => []

/-- Close the sub-interval in progress at a large step or a change of the demand fields, and open a SPLIT one that counts
together with it (R409, R426). -/
def Legal.splitSub (l : Legal) (n : Nat) : Legal :=
  match l.subs with
  | x :: _ =>
    if x.last.isNone then
      { l with subs := ⟨n, none, subBoundary l.regs.cfg (l.utc n), true, true, []⟩ :: endOpen n true l.subs }
    else l
  | [] => l

/-- At a tick whose legal time reaches a boundary the sub-interval in progress ends and the next begins; the first one
begins at the first boundary after legal time became valid (R405). -/
def Legal.subTick (l : Legal) (n : Nat) : Legal :=
  let utc := l.utc n
  let opened := fun (x : List SubInterval) => (⟨n, none, subBoundary l.regs.cfg utc, false, false, []⟩ :: x).take 256
  match l.subs with
  | x :: _ =>
    if x.last.isNone && x.utc ≤ utc then
      { l with subs := opened (endOpen n false l.subs), formed := 0, subEnd := some n }
    else l
  | [] => if utc % (60 * l.regs.cfg.sub) = 0 && l.timeValidAt < n then { l with subs := opened [] } else l

/- Clock steps (R408, R409). -/

/-- A large step within an open session sets the session's SPLIT (R407). -/
def LegalMeter.splitSession (m : LegalMeter) : LegalMeter :=
  if bitOf m.flags 0 then { m with flags := m.flags ||| 128 } else m

/-- The change `d` of SITE_EPOCH - OFFSET at the boundary of tick `n`: slewed, or a large step (R408, R409). The clock
already holds the new SITE_EPOCH. -/
def State.legalShift (s : State) (d : Int) (n : Nat) : State :=
  let l := s.legal
  if !l.valid || d = 0 then s
  else
    let c := l.corr
    let ms := fun (x : Int) => ubits 31 (satI 31 (x / 1000000))
    if 1000000000 * l.regs.cfg.threshold < (c - d).natAbs then
      let s1 := s.onLegal fun l => { l with corr := 0 }
      let s2 := s1.onLegal fun l => (l.rebase n s1.legalBase).markSecond n
      let s3 := s2.log n 0x03 0xFF (ubits 64 (d - c)) none
      let s4 := s3.tamper 3 0xFF 0 none
      let s5 := s4.onLegal fun l => { l.splitSub n with tariffSplit := l.active.isSome, tariff := l.tariffAt n }
      let s5 := s5.onRegs fun r => { r with meters := r.meters.map LegalMeter.splitSession }
      s5.raise ⟨385, 0x0B11, 1 + 2 * ms (d - c), n⟩
    else
      let s1 := s.onLegal fun l => { l with corr := c - d }
      (s1.onLegal fun l => l.rebase n s1.legalBase).raise ⟨385, 0x0B11, 2 * ms d, n⟩

/-- The legal court at the boundary of a new tick: the slew of 1 ns a tick (R408), the second in progress, and the demand
boundaries. -/
def State.legalTick (s : State) : State :=
  let n := s.now
  if !s.legal.valid then s
  else
    let c := s.legal.corr
    let s1 := if c ≠ 0 ∧ n % 1000 < 499 then
        let t := s.onLegal fun l => { l with corr := if 0 < c then c - 1 else c + 1 }
        t.onLegal fun l => l.rebase n t.legalBase
      else s
    s1.onLegal fun l => (l.markSecond n).subTick n

/-- The reading tick at the tick in progress (R401). -/
def State.readingTick (s : State) : Nat := 16 * ((s.now - 243) / 16)

/-- A legal stamp of a tick. -/
def Legal.stamp (l : Legal) (n : Nat) : LegalStamp :=
  if l.valid then ⟨l.utc n, l.tis n, false⟩ else ⟨0, 0, true⟩

end Sys2Proof.Machine
end

