-- ==== Sys2Proof/Machine/Legal.lean ====
section
/-! DEFINITION. The legal court: counting, sessions, mirror and the legal commands (spec file 15), and the state of a
meter (R368, R378), on which counting depends. -/

namespace Sys2Proof.Machine

/- Meter state (R368, R378). -/

/-- A byte field of a calibration table in force; 0 without one. -/
def Bay.calGet (b : Bay) (off n : Nat) : Nat :=
  match b.cal with
  | some t => leGet t.bytes off n
  | none => 0

/-- The channels a table corrects, ascending (R367). -/
def calChannels (mask : Nat) : List (Fin 8) := (List.finRange 8).filter fun c => bitOf mask c.val

/-- The position of a channel's entries in a table, by its place among the channels. -/
def calPlace (mask : Nat) (c : Fin 8) : Nat := ((calChannels mask).filter (·.val < c.val)).length

/-- DELAY of an entry of a table (R367). -/
def calDelay (b : List Byte) (place t i : Nat) : Int := sval 16 (leGet b (136 + 288 * place + 36 * t + 6 * i) 2)

/-- GAIN of an entry of a table (R367). -/
def calGain (b : List Byte) (place t i : Nat) : Nat := leGet b (138 + 288 * place + 36 * t + 6 * i) 4

/-- Whether an entry of a table is not calibrated (R367, R368). -/
def calIncomplete (b : List Byte) : Bool :=
  (List.range (calChannels (leGet b 2 1)).length).any fun p =>
    (List.range 8).any fun t => (List.range 6).any fun i => calGain b p t i == 0

/-- The KINDs a mode is allowed for (R364). -/
def modeKinds : Nat → List Nat
  | 1 => [2]
  | 2 => [2, 5]
  | 3 => [1, 3, 4]
  | _ => []

/-- Whether the bay's meter is OFF: METRO_EN 0 or KIND UNUSED (R364, R378). -/
def Bay.meterOff (b : Bay) : Bool := !bitOf (b.ent 416 1) 0 || b.kind == 0

/-- The first condition of R368 that fails; 0 where the table is usable for counting. -/
def State.unverified (s : State) (b : Bay) : Nat :=
  match b.cal with
  | none => 1
  | some t =>
    if bitOf (leGet t.bytes 129 1) 0 then 2
    else if calIncomplete t.bytes then 3
    else if leGet t.bytes 4 8 != b.link.headId then 4
    else if hash8 t.hash != b.ent 424 8 then 5
    else if !((modeKinds (leGet t.bytes 1 1)).contains b.kind &&
        (calChannels (leGet t.bytes 2 1)).all (·.val < b.link.metroCh)) then 6
    else if s.keys.debugState then 7
    else 0

/-- The meter state and reason that a bay's conditions give, with the precedence of R378. -/
def State.meterWant (s : State) (b : BayId) : MeterSt × Nat :=
  let y := s.bays[b]
  if y.meterOff then (.off, 0)
  else if s.unverified y ≠ 0 then (.notVerified, s.unverified y)
  else if !y.serving then (.suspended, 16)
  else if y.meter.lost then (.suspended, 17)
  else if s.legal.cellLate.getLsbD b.val then (.suspended, 18)
  else (.counting, 0)

/-- Bring a meter's state up to date, raising METER_STATE on a change, and HEAD_CHANGE when it enters NOT_VERIFIED with
HEAD_MISMATCH (R378, R396, R411). -/
def State.meterRefresh (s : State) (b : BayId) : State :=
  let m := s.bays[b].meter
  let w := s.meterWant b
  if m.st = w.1 ∧ m.reason = w.2 then s
  else
    let s1 := s.onBay b fun y => { y with meter := { y.meter with st := w.1, reason := w.2 },
                                          meterCk := { y.meterCk with st := w.1, reason := w.2 } }
    let s2 := if m.st = w.1 then s1
      else s1.raiseNow (192 + b.val) 0x0A01 (w.1.code + 2 ^ 4 * m.st.code + 2 ^ 8 * w.2)
    if w = (.notVerified, 4) then s2.tamper 10 b.val 0 none else s2

/- Counting (R400) and sessions (R406, R407). -/

/-- The meter number of a bay. -/
def meterOf (b : BayId) : Fin 97 := ⟨b.val, by omega⟩

/-- The site meter (R399). -/
def siteMeter : Fin 97 := 96

/-- A counter of 72 bits after an increment (R399). -/
def add72 (x d : Nat) : Nat := satN 72 (x + d)

/-- Take a session reading (R407), with SESSION_STARTED or SESSION_ENDED (R245). -/
def State.takeReading (s : State) (d : DueReading) : State :=
  let m := meterOf d.bay
  let l := s.legal
  let at_ := l.stamp d.tick
  let s1 := s.onLegal fun l => { l with
    due := l.due.filter (· != d),
    sesStart := if d.stop then l.sesStart else l.sesStart.set d.bay d.tick,
    sesStop := if d.stop then l.sesStop.set d.bay d.tick else l.sesStop }
  let s2 := s1.onRegs fun r => r.onMeter m fun x =>
    if d.stop then
      { x with ses := (x.ses.set 2 x.energy[0]).set 3 x.energy[1], stop := at_, flags := (x.flags ||| 4) &&& 0xFE }
    else { x with ses := (x.ses.set 0 x.energy[0]).set 1 x.energy[1], start := at_, flags := x.flags ||| 3 }
  let x := s2.legal.regs.meters[m]
  let s3 := if d.stop then s2.log d.tick 0x07 d.bay.val x.sessionId none else s2
  let wh := satN 24 ((x.ses[2] - x.ses[0]) / 1000)
  let e : Ev := if d.stop then ⟨d.bay.val, 0x0504, s.bays[d.bay].session.reason % 256 + 2 ^ 8 * wh, d.tick⟩
    else ⟨d.bay.val, 0x0503, x.sessionId % 2 ^ 32, d.tick⟩
  (s3.raise ⟨192 + d.bay.val, 0x0B01, b2n d.stop + 2 ^ 8 * x.flags, d.tick⟩).raise e

/-- Take, in order, the readings of a bay that are due for a record's stamp. -/
def State.takeDue (s : State) (b : BayId) (ready : DueReading → Bool) : State :=
  (s.legal.due.filter fun d => d.bay == b && ready d).foldl State.takeReading s

/-- The session flags that a record gives (R407). -/
def recordFlags (r : EnergyRec) : Nat :=
  (if r.state ≠ 2 then 8 else 0) + (if bitOf r.flags 1 then 16 else 0) + (if bitOf r.flags 0 then 32 else 0)

/-- Add a record's increments to one meter (R400). -/
def LegalMeter.count (x : LegalMeter) (r : EnergyRec) (t : Option Nat) : LegalMeter :=
  let e := x.energy
  let v := r.varh
  let e' := #v[add72 e[0] r.whImp, add72 e[1] r.whExp, add72 e[2] (v.getD 0 0), add72 e[3] (v.getD 1 0),
    add72 e[4] (v.getD 2 0), add72 e[5] (v.getD 3 0), add72 e[6] r.vahImp, add72 e[7] r.vahExp]
  match t with
  | none => { x with energy := e' }
  | some k =>
    let i := Fin.ofNat 8 k
    { x with energy := e', impT := vmod x.impT i (add72 · r.whImp), expT := vmod x.expT i (add72 · r.whExp) }

/-- Count a record whose STATE is COUNTING (R400): the bay's meter, the site meter, tariffs and demand. -/
def State.countRecord (s : State) (b : BayId) (r : EnergyRec) : State :=
  let l := s.legal
  let t := l.tariffAt r.stamp
  let s0 := match l.subEnd with
    | some e => if e ≤ r.stamp then (s.formDemand (meterOf b)).formDemand siteMeter else s
    | none => s
  let s1 := s0.onRegs fun g => (g.onMeter (meterOf b) (·.count r t)).onMeter siteMeter (·.count r t)
  let s2 := s1.onLegal fun l => { l with
    subs := addEnergy 96 r.whImp r.whExp r.stamp (addEnergy b.val r.whImp r.whExp r.stamp l.subs),
    gap := if t.isNone then l.gap + r.whImp else 0 }
  if t.isSome && l.gap != 0 then s2.log r.stamp 0x08 0xFF l.gap none else s2

/-- Take one energy record of a bay (R400, R407): due session readings first, the session's flags, then counting. The
first record received clears the reason CELL (R378). -/
def State.takeRecord (s : State) (b : BayId) (r : EnergyRec) : State :=
  let s1 := s.takeDue b fun d => d.tick ≤ r.stamp
  let s2 := s1.onLegal fun l => { l with
    lastRecord := l.lastRecord.set b s.now,
    cellLate := l.cellLate &&& ~~~(BitVec.ofNat 96 (2 ^ b.val)) }
  let s3 := s2.onRegs fun g => g.onMeter (meterOf b) fun x =>
    if bitOf x.flags 0 && s.legal.sesStart[b] ≤ r.stamp then { x with flags := x.flags ||| recordFlags r } else x
  let s4 := if r.state = 2 then
      (s3.countRecord b r).onLegal fun l => { l with
        outOfCal := if bitOf r.flags 1 then l.outOfCal ||| BitVec.ofNat 96 (2 ^ b.val)
          else l.outOfCal &&& ~~~(BitVec.ofNat 96 (2 ^ b.val)) }
    else s3
  s4.meterRefresh b

/-- ENERGY_RECORD (R400): the record at the front of those the meter cell has committed, while counting is not stopped
(R420). -/
def execEnergyRecord (b : BayId) (s : State) : Out :=
  .next (match s.bays[b].meterCk.records with
    | r :: l =>
      if s.legal.stopped then s
      else
        (s.onBay b fun y => { y with meterCk := { y.meterCk with records := l },
                                     meter := { y.meter with records := y.meter.records.drop 1 } }).takeRecord b r
    | [] => s)

/-- SESSION_READING (R407): the readings of a bay whose tick lies 259 tk back. -/
def execSessionReading (b : BayId) (s : State) : Out :=
  .next (if s.legal.stopped then s else s.takeDue b fun d => d.tick + 259 ≤ s.now)

/-- DEMAND_INTERVAL_END (R405): at compute tick B + 259 the demands that no record has formed yet are formed. -/
def execDemandIntervalEnd (s : State) : Out :=
  .next (match s.legal.subEnd with
    | some e => if e + 259 ≤ s.now ∧ !s.legal.stopped then (List.finRange 97).foldl State.formDemand s else s
    | none => s)

/-- Lost indices of a bay: the session's GAP flag, the METER_GAP entry and tamper (R407, R411, R414). -/
def State.meterGap (s : State) (b : BayId) (first n : Nat) : State :=
  let s1 := s.onRegs fun g => g.onMeter (meterOf b) fun x =>
    if bitOf x.flags 0 then { x with flags := x.flags ||| 64 } else x
  (s1.log first 0x06 b.val n none).tamper 9 b.val n none

/-- At CONNECTED a session gets its ID, and the bay's session words begin anew (R406, R407). -/
def State.openSession (s : State) (b : BayId) : State :=
  let l := s.legal
  let fresh := l.islandLost && !l.onceValid
  let id := if fresh then 2 ^ 63 + s.random 63
    else if l.valid then max (l.regs.lastSession + 1) (l.utc s.now * 2 ^ 20) else l.regs.lastSession + 1
  let s1 := if fresh then s.drawn else s
  let s2 := s1.onRegs fun g => (g.onMeter (meterOf b) fun x => { x with
      sessionId := id % 2 ^ 64, flags := 0, ses := Vector.replicate 4 0, start := ⟨0, 0, false⟩, stop := ⟨0, 0, false⟩ })
  (s2.onRegs fun g => { g with lastSession := if fresh then g.lastSession else id % 2 ^ 64 }).onLegal fun l => { l with
    sesSince := l.sesSince ||| BitVec.ofNat 96 (2 ^ b.val), due := l.due.filter (·.bay != b) }

/-- Ask for a session reading at a tick (R235, R407). -/
def State.dueReading (s : State) (b : BayId) (stop : Bool) (tick : Nat) : State :=
  s.onLegal fun l => { l with due := l.due ++ [⟨b, stop, tick⟩] }

/- Time, tariffs and calendars. -/

/-- Give the times of happenings before validity their values (R410). -/
def Legal.fillTimes (l : Legal) : Legal :=
  let r := l.tamperWait.foldl (fun (r : LegalRegs) w =>
    { r with tamper := vmod r.tamper (Fin.ofNat 16 w.1) fun t => { t with
        first := if w.2.2 then l.utc w.2.1 else t.first, last := l.utc w.2.1 } }) l.regs
  let fill := fun (r : LegalRegs) (b : BayId) => r.onMeter (meterOf b) fun x => { x with
    start := if x.start.unset && bitOf x.flags 1 then l.stamp l.sesStart[b] else x.start,
    stop := if x.stop.unset && bitOf x.flags 2 then l.stamp l.sesStop[b] else x.stop }
  { l with regs := allBays.foldl (fun r b => if l.sesSince.getLsbD b.val then fill r b else r) r, tamperWait := [] }

/-- CAL_ACTIVATED: the log entry and the event of an activation (R404). -/
def State.calActivated (s : State) (hash tick : Nat) : State :=
  (s.log tick 0x09 0xFF (hash8 hash) none).raise ⟨385, 0x0B14, hash % 2 ^ 32, tick⟩

/-- LEGAL_TIME_VALID (R410, R404): once EPOCH_SET is 1. -/
def execLegalTimeValid (s : State) : Out :=
  .next (if s.legal.valid || !s.clock.epochSet then s
    else
      let n := s.now
      let s1 := s.onLegal fun l => { l with valid := true, onceValid := true, timeValidAt := n, corr := 0 }
      let s2 := s1.onLegal fun l => (({ l with bases := [], secs := [] }).rebase n s1.legalBase).markSecond n
      let s3 := s2.legal.waiting.foldl (fun t w => t.log w.tick w.kind w.bay w.data w.given)
        (s2.onLegal fun l => { l with waiting := [] })
      let s4 := (s3.onLegal Legal.fillTimes).log n 0x02 0xFF s.clock.siteEpoch none
      let s5 := s4.raiseNow 385 0x0B12 1
      let r := s5.legal.regs
      if r.passiveHash ≠ 0 ∧ r.passiveAt ≤ s5.legal.utc n then
        (s5.onRegs fun r => { r with activeHash := r.passiveHash, passiveHash := 0, passiveAt := 0 }).calActivated
          r.passiveHash n
      else s5)

/-- TARIFF_SWITCH (R402): the tariff in force changes and a new interval begins. -/
def execTariffSwitch (s : State) : Out :=
  .next (s.onLegal fun l =>
    if l.tariffAt s.now = l.tariff then l else { l with tariff := l.tariffAt s.now, tariffSplit := false })

/-- CALENDAR_ACTIVATE (R404): at the first tick whose legal time is at or after ACTIVATE. -/
def execCalendarActivate (s : State) : Out :=
  .next (match s.legal.passive with
    | some (cal, at_) =>
      if s.legal.valid && at_ ≤ s.legal.utc s.now then
        let h := s.legal.regs.passiveHash
        (s.onLegal fun l => { (l.activate (some cal) h s.now) with
          passive := none,
          regs := { l.regs with activeHash := h, passiveHash := 0, passiveAt := 0 } }).calActivated h s.now
      else s
    | none => s)

/- Mirror and outages (R416 to R422). -/

/-- A completed sweep of registers as they stood at a tick. -/
def Legal.sweep (l : Legal) (tick : Nat) (r : LegalRegs) : Legal :=
  let at_ := l.stamp tick
  { l with mirror := { l.mirror with
      mark := true, bad := false, tick := tick, utc := at_.utc, tis := at_.tis, unset := at_.unset, final := false,
      regs := { r with log := l.mirror.regs.log, logNext := l.mirror.regs.logNext } } }

/-- MIRROR_SWEEP (R419): at a tick divisible by 1,000 the working copy reaches the island whole, through the journal. -/
def execMirrorSweep (s : State) : Out :=
  .next (if s.now % 1000 = 0 then s.onLegal fun l => l.sweep s.readingTick l.regs else s)

/-- PFAIL_FALL (R420): counting stops and the registers of the fall await their final sweep. -/
def execPfailFall (s : State) : Out :=
  .next (s.onLegal fun l => { l with stopped := true, finalCopy := some (s.readingTick, l.regs) })

/-- FINAL_SWEEP_DONE (R420): the sweep is complete, and counting resumes where it stopped. -/
def execFinalSweepDone (s : State) : Out :=
  .next (s.onLegal fun l => match l.finalCopy with
    | some (t, r) =>
      let l1 := l.sweep t r
      { l1 with finalCopy := none, stopped := false, mirror := { l1.mirror with final := true } }
    | none => l)

/-- RESTORE_NEEDED and an initialised area (R422). -/
def State.initLegal (s : State) : State :=
  let l := s.legal
  let s1 := s.onLegal fun l => { l with
    regs := { LegalRegs.zero with unrestored := BitVec.allOnes 97, restoreOpen := true },
    mirror := { Mirrored.zero with regs := { LegalRegs.zero with unrestored := BitVec.allOnes 97, restoreOpen := true } },
    islandLost := true }
  let s2 := if l.mirror.bad then s1.tamper 15 0xFF 0 none else s1
  ((s2.log s.now 0x0D 0xFF 0 none).tamper 8 0xFF 0 none).raiseNow 385 0x0B15 1

/-- What the legal court does at a start (R419, R421, R422): it continues from the mirror, or initialises it; a start on
the test root is tamper kind 6 (R411). `keep` is the mirror that the island store held. -/
def State.startLegal (s : State) (keep : Mirrored) : State :=
  let s0 := { s with legal := { Legal.reset with mirror := keep } }
  let s1 := if keep.mark && !keep.bad then
      let a := s0.onLegal fun l => { l with regs := keep.regs }
      let b := a.tamper 4 0xFF 0 (some keep.utc)
      b.log s.now 0x01 0xFF keep.tick (some (keep.utc, keep.tis, !keep.final, false))
    else s0.initLegal
  if s1.keys.debugState then s1.tamper 6 0xFF 0 none else s1

/-- An uncorrectable word found in the legal area while the QN960 runs is rewritten from the working copy and recorded
(R422). -/
def State.mirrorFault (s : State) : State := s.tamper 15 0xFF 0 none

/-- The words of a meter block (R418). -/
def LegalMeter.words (x : LegalMeter) : List Nat :=
  let md := fun (d : MaxDemand) => d.w + 2 ^ 29 * b2n d.split + 2 ^ 32 * (d.utc % 2 ^ 40)
  let st := fun (d : LegalStamp) => d.utc % 2 ^ 40 + 2 ^ 40 * (d.tis % 2 ^ 20) + 2 ^ 60 * b2n d.unset
  x.energy.toList ++ x.impT.toList ++ x.expT.toList ++ [md x.mdImp, md x.mdExp, x.calId, x.sessionId + 2 ^ 64 * x.flags] ++
    x.ses.toList ++ [st x.start, st x.stop]

/-- The six words of a hash (R417). -/
def hashWords (h : Nat) : List Nat := (List.range 6).map fun i => bitsOf h (64 * i) 64

/-- The words 0x0000 to 0x0D21 of the legal area as the last sweep wrote them (R416 to R418, R423). -/
def Mirrored.words (m : Mirrored) : List Nat :=
  let r := m.regs
  let mask := fun (b : BitVec 97) => [b.toNat % 2 ^ 64, b.toNat / 2 ^ 64]
  [0x4C1E * b2n m.mark + 2 ^ 16, m.tick, m.utc % 2 ^ 40 + 2 ^ 40 * (m.tis % 2 ^ 20) + 2 ^ 60 * b2n m.unset, r.lastSession,
   r.logNext + 2 ^ 32 * r.logAck, r.readingSeq] ++
  hashWords r.cfgHash ++ hashWords r.activeHash ++ hashWords r.passiveHash ++
  [r.passiveAt % 2 ^ 40,
   b2n r.cfg.sliding + 2 ^ 8 * r.cfg.period + 2 ^ 16 * r.cfg.sub + 2 ^ 24 * r.cfg.threshold + 2 ^ 32 * r.cfg.signAlg +
     2 ^ 48 * ubits 16 r.cfg.utcOffset] ++
  mask r.restored ++ mask r.unrestored ++ [b2n r.restoreOpen + 2 * b2n r.cfgSet, 0] ++
  (r.tamper.toList.map fun t => [t.count + 2 ^ 32 * (t.first % 2 ^ 40), t.last % 2 ^ 40]).flatten ++
  (r.meters.toList.map LegalMeter.words).flatten

/- CBOR and COSE (R428). -/

/-- Bytes of a number, most significant first. -/
def beBytes (x n : Nat) : List Byte := (leBytes x n).reverse

/-- A CBOR head in core deterministic encoding. -/
def cborHead (major n : Nat) : List Byte :=
  if n < 24 then [BitVec.ofNat 8 (32 * major + n)]
  else if n < 2 ^ 8 then BitVec.ofNat 8 (32 * major + 24) :: beBytes n 1
  else if n < 2 ^ 16 then BitVec.ofNat 8 (32 * major + 25) :: beBytes n 2
  else if n < 2 ^ 32 then BitVec.ofNat 8 (32 * major + 26) :: beBytes n 4
  else BitVec.ofNat 8 (32 * major + 27) :: beBytes n 8

/-- A CBOR byte string. -/
def cborBytes (b : List Byte) : List Byte := cborHead 2 b.length ++ b

/-- A CBOR unsigned integer, as a bignum above 64 bits. -/
def cborUint (n : Nat) : List Byte :=
  if n < 2 ^ 64 then cborHead 0 n else cborHead 6 2 ++ cborBytes (beBytes n (n.log2 / 8 + 1))

/-- A CBOR text string. -/
def cborText (t : String) : List Byte := cborHead 3 (ascii t).length ++ ascii t

/-- A CBOR map of integer keys, given in ascending order. -/
def cborMap (kv : List (Nat × List Byte)) : List Byte :=
  cborHead 5 kv.length ++ (kv.map fun p => cborHead 0 p.1 ++ p.2).flatten

/-- The protected header: alg and kid (R428, R552). `negAlg` is -1 - alg. -/
def coseHeader (negAlg : Nat) (kid : List Byte) : List Byte :=
  cborHead 5 2 ++ cborHead 0 1 ++ cborHead 1 negAlg ++ cborHead 0 4 ++ cborBytes kid

/-- The bytes a COSE_Sign1 signature covers (RFC 9052). -/
def coseToSign (header payload : List Byte) : List Byte :=
  cborHead 4 4 ++ cborText "Signature1" ++ cborBytes header ++ cborBytes [] ++ cborBytes payload

/-- A tagged COSE_Sign1. -/
def coseSign1 (header payload sig : List Byte) : List Byte :=
  cborHead 6 18 ++ cborHead 4 4 ++ cborBytes header ++ cborHead 5 0 ++ cborBytes payload ++ cborBytes sig

/-- KEY_ID of the legal reading key (R545). -/
abbrev legalKeyId : Nat := 0x01000000

/-- ALG of the legal reading key (R545). -/
def State.legalAlg (s : State) : Nat := if s.legal.regs.cfg.signAlg = 0 then 1 else 4

/-- A COSE_Sign1 under the legal reading key (R428). -/
def State.legalSign1 (s : State) (payload : List Byte) : List Byte :=
  let alg := s.legalAlg
  let kid := leBytes (Config.sha256 (s.pubKey 1 legalKeyId alg)) 8
  let h := coseHeader (if alg = 1 then 6 else 7) kid
  coseSign1 h payload (s.signWith 1 legalKeyId alg (coseToSign h payload))

/-- After a legal signature: ES256 has used the DRBG, Ed25519 has not (R554). -/
def State.legalSigned (s : State) : State := if s.legalAlg = 1 then s.drbg 32 else s

/-- The check for WARMING of a legal signature: ES256 waits for the DRBG (R554, R557). -/
def State.legalRng (s : State) : Chk := if s.legalAlg = 1 then s.rngChk else none

/- Readings (R427 to R429). -/

/-- The kind of register a code names for a meter: 0 none, 1 energy, 2 tariff, 3 demand, 4 session (R399). -/
def regClass (m reg : Nat) : Nat :=
  if 1 ≤ reg ∧ reg ≤ 8 then 1 else if 0x10 ≤ reg ∧ reg ≤ 0x1F then 2 else if reg = 0x20 ∨ reg = 0x21 then 3
  else if 0x30 ≤ reg ∧ reg ≤ 0x33 ∧ m < 96 then 4 else 0

/-- The value of a register. -/
def LegalMeter.value (x : LegalMeter) (reg : Nat) : Nat :=
  if reg ≤ 8 then x.energy.toList.getD (reg - 1) 0
  else if reg ≤ 0x17 then x.impT.toList.getD (reg - 0x10) 0
  else if reg ≤ 0x1F then x.expT.toList.getD (reg - 0x18) 0
  else if reg = 0x20 then x.mdImp.w
  else if reg = 0x21 then x.mdExp.w
  else x.ses.toList.getD (reg - 0x30) 0

/-- Whether the meter of a bay is not COUNTING; the site meter has no state. -/
def State.notCounting (s : State) (m : Fin 97) : Bool := atBay m.val false fun b => s.bays[b].meterCk.st != .counting

/-- The STATUS of a reading (R427). -/
def State.readingStatus (s : State) (m : Fin 97) (reg : Nat) : Nat :=
  let l := s.legal
  let x := l.regs.meters[m]
  let c := regClass m.val reg
  let ses := c == 4
  let f := fun i => ses && bitOf x.flags i
  let unset := if ses then (if reg < 0x32 then x.start.unset else x.stop.unset) else !l.valid
  let split := if c == 2 then l.tariffSplit else if c == 3 then (if reg = 0x20 then x.mdImp.split else x.mdExp.split)
    else f 7
  b2n unset + 2 * b2n (l.corr != 0) + 4 * b2n split + 8 * b2n (l.regs.restored.getLsbD m.val) +
    16 * b2n (l.regs.unrestored.getLsbD m.val) + 32 * b2n (if ses then f 3 else s.notCounting m) +
    64 * b2n (if ses then f 4 else atBay m.val false fun b => l.outOfCal.getLsbD b.val) + 128 * b2n s.keys.debugState +
    256 * b2n (c == 2 && l.active.isNone) + 512 * b2n (f 5) + 1024 * b2n (f 6) + 2048 * b2n (f 0)

/-- LEGAL_READ (R430). The STATE of the site meter, which has none, is a free value. -/
def cardLegalRead (o : Origin) (meter : Nat) (s : State) : State :=
  let layout := [16, 8, 8, 64, 64, 32] ++ List.replicate 34 72
  card o 0x0B01 layout
    (fun t => [if o.court.val < 2 then none else bayPermit o [] 1 meter t, rng 1 (meter < 97)])
    (fun t =>
      let m : Fin 97 := Fin.ofNat 97 meter
      let l := t.legal
      let n := t.readingTick
      let at_ := l.stamp n
      let st := atBay meter (t.draw % 256) fun b => t.bays[b].meterCk.st.code
      (if meter = 96 then t.drawn else t,
        [t.readingStatus m 1, st, 0, n, at_.utc, at_.tis] ++ l.regs.meters[m].words))
    s

/-- The command LEGAL_READ (R430). -/
def execLegalRead (o : Origin) (meter : Nat) (s : State) : Out := .next (cardLegalRead o meter s)

/-- Keys of a signed statement that hold for every one: serial, time, image version, tick (R428). -/
def State.legalKeys (s : State) (utc tis tick : Nat) : List (Nat × List Byte) :=
  [(1, cborBytes s.keys.serialBytes), (5, cborUint utc), (6, cborUint tis), (9, cborText "L1.4"), (12, cborUint tick)]

/-- The map of a signed reading (R428, R429). -/
def State.readingMap (s : State) (m : Fin 97) (reg : Nat) (nonce : List Byte) : List Byte :=
  let l := s.legal
  let x := l.regs.meters[m]
  let ses := regClass m.val reg == 4
  let tick := if ses then atBay m.val 0 fun b => if reg < 0x32 then l.sesStart[b] else l.sesStop[b] else s.readingTick
  let at_ := if ses then (if reg < 0x32 then x.start else x.stop) else l.stamp tick
  let opt := fun (c : Bool) (k : Nat) (v : List Byte) => if c then [(k, v)] else []
  let calHash := atBay m.val none fun b => s.bays[b].cal.map (·.hash)
  cborMap (
    [(1, cborBytes s.keys.serialBytes), (2, cborUint m.val), (3, cborUint reg), (4, cborUint (x.value reg)),
     (5, cborUint at_.utc), (6, cborUint at_.tis), (7, cborUint (s.readingStatus m reg))] ++
    opt (m.val < 96 && (ses || bitOf x.flags 0)) 8 (cborUint x.sessionId) ++ [(9, cborText "L1.4")] ++
    opt calHash.isSome 10 (cborBytes (leBytes (calHash.getD 0) 48)) ++
    [(11, cborUint (l.regs.readingSeq + 1)), (12, cborUint tick)] ++ opt (!nonce.isEmpty) 13 (cborBytes nonce) ++
    opt (regClass m.val reg == 3) 14 (cborUint (if reg = 0x20 then x.mdImp.utc else x.mdExp.utc)) ++
    opt (m.val < 96) 15 (cborUint (atBay m.val 0 fun b => s.gens.bay[b])))

/-- LEGAL_SIGN (R431). `nonce` is the NONCE field's 32 bytes. -/
def cardLegalSign (o : Origin) (meter reg nonceLen : Nat) (nonce : List Byte) (s : State) : State :=
  cardOwn o 0x0B02 [16, 16]
    (fun t =>
      let m : Fin 97 := Fin.ofNat 97 meter
      let x := t.legal.regs.meters[m]
      [bayPermit o [0] 1 meter t,
       rng 5 ((nonce.drop nonceLen).all (· == 0)),
       rng 1 (meter < 97), rng 2 (regClass meter reg != 0), rng 3 (nonceLen ≤ 32),
       need (regClass meter reg != 4 || bitOf x.flags (if reg < 0x32 then 1 else 2)) stBAD_STATE 0,
       t.legalRng])
    (fun t =>
      let m : Fin 97 := Fin.ofNat 97 meter
      let u := t.onRegs fun r => { r with
        readingSeq := r.readingSeq + 1, restored := r.restored &&& ~~~(BitVec.ofNat 97 (2 ^ m.val)) }
      let c := t.legalSign1 (t.readingMap m reg (nonce.take nonceLen))
      u.legalSigned.answer o.court o.mbx stOK 0 false ([(16, c.length), (16, 0)] ++ bytesAsFields c))
    s

/-- The command LEGAL_SIGN (R431). -/
def execLegalSign (o : Origin) (meter reg nonceLen : Nat) (nonce : List Byte) (s : State) : Out :=
  .next (cardLegalSign o meter reg nonceLen nonce s)

/-- TAMPER_READ (R432). -/
def cardTamperRead (o : Origin) (s : State) : State :=
  card o 0x0B03 ((List.replicate 16 [32, 64, 64]).flatten) (fun _ => [permit o [0, 1]])
    (fun t => (t, (t.legal.regs.tamper.toList.map fun x => [x.count, x.first, x.last]).flatten)) s

/-- The command TAMPER_READ (R432). -/
def execTamperRead (o : Origin) (s : State) : Out := .next (cardTamperRead o s)

/-- The bytes of a log entry as LOG_READ delivers them (R433). -/
def LogEntry.bytes (e : LogEntry) : List Byte :=
  leBytes e.seq 4 ++ leBytes e.kind 1 ++ leBytes e.bay 1 ++
    leBytes (b2n e.late + 2 * b2n e.split + 4 * b2n e.rtc) 1 ++ leBytes 0 1 ++ leBytes e.utc 8 ++ leBytes e.tis 4 ++
    leBytes e.data 8

/-- The entries held from a SEQ on, oldest first. -/
def LegalRegs.logFrom (r : LegalRegs) (seq n : Nat) : List LogEntry :=
  ((r.log.filter fun e => seq ≤ e.seq).reverse).take n

/-- LOG_READ (R433). -/
def cardLogRead (o : Origin) (fromSeq count flags : Nat) (s : State) : State :=
  cardBulk o 0x0B04 [16, 16, 16, 16]
    (fun t => [permit o [0, 1], rng 1 (t.legal.regs.log.any (·.seq == fromSeq)), rng 2 (1 ≤ count && count ≤ 4096),
       rng 3 (flags < 4), if bitOf flags 0 then t.legalRng else none])
    (fun t =>
      let es := t.legal.regs.logFrom fromSeq count
      let raw := (es.map LogEntry.bytes).flatten
      let at_ := t.legal.stamp t.readingTick
      let data := if bitOf flags 0 then
          t.legalSign1 (cborMap (t.legalKeys at_.utc at_.tis t.readingTick ++ [(30, cborUint fromSeq), (31, cborBytes raw)]))
        else raw
      let u := if bitOf flags 0 then t.legalSigned else t
      (if bitOf flags 1 then u.onRegs fun r => { r with logAck := fromSeq + es.length } else u, [], [es.length, 0], data))
    s

/-- The command LOG_READ (R433). -/
def execLogRead (o : Origin) (fromSeq count flags : Nat) (s : State) : Out := .next (cardLogRead o fromSeq count flags s)

/-- LEGAL_STATUS (R434). -/
def cardLegalStatus (o : Origin) (s : State) : State :=
  card o 0x0B05 [8, 8, 8, 8, 64, 32, 64, 64, 32, 32, 32, 8, 8, 8, 8, 8, 8, 16, 384, 384, 384, 64, 64]
    (fun _ => [])
    (fun t =>
      let l := t.legal
      let r := l.regs
      let at_ := l.stamp t.now
      (t, [b2n l.valid, b2n r.restoreOpen, b2n l.active.isSome + 2 * b2n l.passive.isSome, 0, at_.utc, at_.tis,
        ubits 64 l.corr, t.readingTick, r.logNext, r.logAck, r.logNext - 4096, b2n r.cfg.sliding, r.cfg.period, r.cfg.sub,
        r.cfg.threshold, r.cfg.signAlg, 0, ubits 16 r.cfg.utcOffset, r.cfgHash, r.activeHash, r.passiveHash, r.passiveAt,
        l.mirror.tick]))
    s

/-- The command LEGAL_STATUS (R434). -/
def execLegalStatus (o : Origin) (s : State) : Out := .next (cardLegalStatus o s)

/-- The checks that the two targets of CALENDAR_LOAD share (R435). -/
def calendarChecks (o : Origin) (transfer : Nat) (t : State) : List Chk :=
  let d := t.xferData o.court transfer
  [permit o [0], need (t.xfer? o.court transfer).isSome stBAD_STATE 0,
   need ((t.xfer? o.court transfer).isNone || d.length == 640) stBAD_LEN 0,
   need (d.length != 640 || calendarOk d) stRANGE 0, need t.legal.valid stBAD_STATE 0]

/-- CALENDAR_LOAD of the active calendar (R403, R435). -/
def cardCalendarLoadActive (o : Origin) (transfer activate : Nat) (s : State) : State :=
  card o 0x0B10 [384, 64]
    (fun t =>
      let h := Config.sha384 (t.xferData o.court transfer)
      let r := t.legal.regs
      calendarChecks o transfer t ++ [rng 4 (activate == 0),
        need (!t.legal.activeSeen && (r.activeHash == 0 || r.activeHash == h)) stLEGAL_LOCK 0])
    (fun t =>
      let d := t.xferData o.court transfer
      let h := Config.sha384 d
      let new := t.legal.regs.activeHash == 0
      let u := (t.consumeXfer o.court transfer).onLegal fun l =>
        { (l.activate (some d) h (t.now + 1)) with loadedSince := true }
      (if new then u.log (t.now + 1) 0x09 0xFF (hash8 h) none else u, [h, t.now + 1]))
    s

/-- The command CALENDAR_LOAD with TARGET 0 (R435). -/
def execCalendarLoadActive (o : Origin) (transfer activate : Nat) (s : State) : Out :=
  .next (cardCalendarLoadActive o transfer activate s)

/-- CALENDAR_LOAD of the passive calendar (R403, R435). -/
def cardCalendarLoadPassive (o : Origin) (transfer activate : Nat) (s : State) : State :=
  card o 0x0B10 [384, 64]
    (fun t => calendarChecks o transfer t ++
      [need (!t.legal.valid || t.legal.utc t.now + 60 ≤ activate) stRANGE 4])
    (fun t =>
      let d := t.xferData o.court transfer
      let h := Config.sha384 d
      let r := t.legal.regs
      let u := (t.consumeXfer o.court transfer).onLegal fun l => { l with
        passive := some (d, activate), loadedSince := true,
        regs := { l.regs with passiveHash := h, passiveAt := activate } }
      (if r.passiveHash = h ∧ r.passiveAt = activate then u
        else u.log t.now 0x0A 0xFF (activate % 2 ^ 40 + 2 ^ 40 * (h % 2 ^ 24)) none, [h, t.now + 1]))
    s

/-- The command CALENDAR_LOAD with TARGET 1 (R435). -/
def execCalendarLoadPassive (o : Origin) (transfer activate : Nat) (s : State) : Out :=
  .next (cardCalendarLoadPassive o transfer activate s)

/- Legal configuration (R425, R426). -/

/-- The configuration that a payload holds; none where a field lies outside R425. -/
def parseLegalCfg (p : List Byte) : Option LegalCfg :=
  let per := leGet p 2 1
  let sub := leGet p 3 1
  let off := sval 16 (leGet p 6 2)
  let zero := fun (lo hi : Nat) => (List.range (hi - lo)).all fun k => leGet p (lo + k) 1 == 0
  if p.length == 96 && leGet p 0 1 == 1 && leGet p 1 1 ≤ 1 && 1 ≤ per && per ≤ 60 && 60 % per == 0 && 1 ≤ sub &&
      sub ≤ per && per % sub == 0 && (leGet p 1 1 == 1 || sub == per) && 1 ≤ leGet p 4 1 && leGet p 4 1 ≤ 60 &&
      leGet p 5 1 ≤ 1 && decide (0 ≤ off) && decide (off ≤ 100) && zero 8 16 && leGet p 81 1 ≤ 1 && zero 82 96 then
    some ⟨leGet p 1 1 == 1, per, sub, leGet p 4 1, leGet p 5 1, off⟩
  else none

/-- How a COSE_Sign1 fares whose payload holds KEY and KEY_ALG, checked against the fused calibration key hash (R367):
the R555 code, 0 where the algorithm or key hash is what fails; none where it passes. -/
def State.calKeyCheck (s : State) (cose key : List Byte) (alg : Nat) : Option Nat :=
  if Config.coseAlg cose != (if alg = 0 then -7 else -8) || Config.sha384 key != s.keys.fuses.calKeyHash then some 0
  else
    let c := Config.coseCheck cose (if alg = 0 then key else key.take 32)
    if c = 0 then none else some c

/-- Put a configuration in force (R426): a change of the demand fields splits the sub-interval in progress, a change of
the UTC offset is a clock step. -/
def State.applyLegalCfg (s : State) (c : LegalCfg) (hash : Nat) : State :=
  let old := s.legal.regs.cfg
  let off := s.utcOffset
  let s1 := s.onRegs fun r => { r with cfg := c, cfgHash := hash, cfgSet := true }
  let s2 := if old.sliding = c.sliding ∧ old.period = c.period ∧ old.sub = c.sub then s1
    else s1.onLegal fun l => l.splitSub s.now
  s2.legalShift ((off - s2.utcOffset) * nsPerS) s.now

/-- LEGAL_CONFIG (R426, R436). -/
def cardLegalConfig (o : Origin) (transfer : Nat) (s : State) : State :=
  let layout := [384, 64]
  cardOwn o 0x0B11 layout
    (fun t =>
      let d := t.xferData o.court transfer
      [permit o [0, 1], need (t.xfer? o.court transfer).isSome stBAD_STATE 0,
       need ((t.xfer? o.court transfer).isNone || ((Config.cosePayload d).bind parseLegalCfg).isSome) stRANGE 0])
    (fun t =>
      let d := t.xferData o.court transfer
      let p := (Config.cosePayload d).getD []
      let c := (parseLegalCfg p).getD LegalCfg.default
      match t.calKeyCheck d ((p.drop 16).take 65) (leGet p 81 1) with
      | some code =>
        let u := t.tamper 11 0xFF 0 none
        (if code = 0 then u else u.cryptoReject o.court code).refuse o stREJECTED_CRYPTO code layout
      | none =>
        let h := Config.sha384 p
        let u := t.consumeXfer o.court transfer
        (if h = t.legal.regs.cfgHash then u
          else (u.onLegal fun l => { l with cfgNext := some (t.now + 1, c, h) }).log (t.now + 1) 0x0B 0xFF (hash8 h)
            none).ok o layout [h, t.now + 1])
    s

/-- The command LEGAL_CONFIG (R436). -/
def execLegalConfig (o : Origin) (transfer : Nat) (s : State) : Out := .next (cardLegalConfig o transfer s)

/- Checkpoint and restore (R423, R424). -/

/-- The bytes of key 20 of a checkpoint. -/
def Mirrored.bytes (m : Mirrored) : List Byte := (m.words.map fun w => leBytes w 9).flatten

/-- LEGAL_CHECKPOINT (R423, R437). -/
def cardLegalCheckpoint (o : Origin) (s : State) : State :=
  if s.canTake o.court o.mbx then
    let t := s.take o.court o.mbx 0x0B20 [16, 16, 64]
    match firstRefusal (reserved o :: need (t.bulkFree o.court) stNO_RESOURCE 0 ::
        (modeChecks t 0x0B20 ++ [permit o [0, 1], t.legalRng])) with
    | some (st, dt) => t.refuse o st dt [16, 16, 64]
    | none =>
      let m := t.legal.mirror
      let data := t.legalSign1 (cborMap (t.legalKeys m.utc m.tis m.tick ++ [(20, cborBytes m.bytes)]))
      let u := t.legalSigned
      (u.sendBulk o.court data).answer o.court o.mbx stOK 0 true
        (withValues [16, 16, 64] [u.courts[o.court].nextOut, u.bulkCount o.court data.length, m.tick])
  else s

/-- The command LEGAL_CHECKPOINT (R437). -/
def execLegalCheckpoint (o : Origin) (s : State) : Out := .next (cardLegalCheckpoint o s)

/-- A CBOR head: major type, value, rest. -/
def cborRead (b : List Byte) : Option (Nat × Nat × List Byte) :=
  match b with
  | [] => none
  | x :: t =>
    let n := x.toNat % 32
    let be := fun k => (leGet ((t.take k).reverse) 0 k)
    if n < 24 then some (x.toNat / 32, n, t)
    else if n = 24 then some (x.toNat / 32, be 1, t.drop 1)
    else if n = 25 then some (x.toNat / 32, be 2, t.drop 2)
    else if n = 26 then some (x.toNat / 32, be 4, t.drop 4)
    else if n = 27 then some (x.toNat / 32, be 8, t.drop 8)
    else none

/-- The entries of a map of integer keys whose values are integers or strings: key, number (or length), bytes. -/
def cborEntries : Nat → List Byte → List (Nat × Nat × List Byte)
  | 0, _ => []
  | k + 1, b =>
    match cborRead b with
    | some (0, key, r) =>
      match cborRead r with
      | some (0, v, r2) => (key, v, []) :: cborEntries k r2
      | some (2, n, r2) => (key, n, r2.take n) :: cborEntries k (r2.drop n)
      | some (3, n, r2) => (key, n, r2.take n) :: cborEntries k (r2.drop n)
      | _ => []
    | _ => []

/-- Serial, UTC and words of a checkpoint's payload (R423). -/
def parseCheckpoint (p : List Byte) : Option (Nat × Nat × List Byte) :=
  match cborRead p with
  | some (5, n, r) =>
    let es := cborEntries n r
    let find := fun k => es.find? fun e => e.1 == k
    match find 1, find 5, find 20 with
    | some (_, 8, ser), some (_, utc, _), some (_, 30258, ws) => some (leGet ser 0 8, utc, ws)
    | _, _, _ => none
  | _ => none

/-- The registers that the words of a checkpoint hold, as far as R424 merges them. -/
def regsOfWords (ws : List Byte) : LegalRegs :=
  let w := fun i => leGet ws (9 * i) 9
  let hash := fun i => (List.range 6).foldr (fun k acc => w (i + k) % 2 ^ 64 + 2 ^ 64 * acc) 0
  let md := fun i => (⟨bitsOf (w i) 0 29, bitOf (w i) 29, bitsOf (w i) 32 40⟩ : MaxDemand)
  let st := fun i => (⟨bitsOf (w i) 0 40, bitsOf (w i) 40 20, bitOf (w i) 60⟩ : LegalStamp)
  let meter := fun (m : Fin 97) =>
    let a := 0x40 + 34 * m.val
    ({ energy := Vector.ofFn fun i : Fin 8 => w (a + i.val), impT := Vector.ofFn fun i : Fin 8 => w (a + 8 + i.val),
       expT := Vector.ofFn fun i : Fin 8 => w (a + 16 + i.val), mdImp := md (a + 24), mdExp := md (a + 25),
       calId := w (a + 26) % 2 ^ 64, sessionId := w (a + 27) % 2 ^ 64, flags := bitsOf (w (a + 27)) 64 8,
       ses := Vector.ofFn fun i : Fin 4 => w (a + 28 + i.val), start := st (a + 32), stop := st (a + 33) } : LegalMeter)
  let c := w 0x19
  { LegalRegs.zero with
    meters := Vector.ofFn meter,
    tamper := Vector.ofFn fun k : Fin 16 =>
      ⟨bitsOf (w (0x20 + 2 * k.val)) 0 32, bitsOf (w (0x20 + 2 * k.val)) 32 40, bitsOf (w (0x21 + 2 * k.val)) 0 40⟩,
    lastSession := w 3 % 2 ^ 64, readingSeq := w 5 % 2 ^ 64, cfgHash := hash 6, activeHash := hash 12,
    passiveHash := hash 18, passiveAt := w 0x18 % 2 ^ 40,
    cfg := ⟨bitOf c 0, bitsOf c 8 8, bitsOf c 16 8, bitsOf c 24 8, bitsOf c 32 1, sval 16 (bitsOf c 48 16)⟩,
    cfgSet := bitOf (w 0x1E) 1 }

/-- The larger demand; at equal demand the earlier (R424). -/
def MaxDemand.larger (a b : MaxDemand) : MaxDemand :=
  if a.w < b.w then b else if b.w < a.w then a else if firstTime a.utc b.utc = a.utc then a else b

/-- The merge of a checkpoint's meter into a meter (R424). -/
def LegalMeter.merge (x c : LegalMeter) (unrestored session cal : Bool) : LegalMeter :=
  let add := fun {n : Nat} (a b : Vector Nat n) => if unrestored then Vector.zipWith add72 a b else a
  let y := { x with
    energy := add x.energy c.energy, impT := add x.impT c.impT, expT := add x.expT c.expT,
    mdImp := x.mdImp.larger c.mdImp, mdExp := x.mdExp.larger c.mdExp, calId := if cal then x.calId else c.calId }
  if session then y
  else { y with sessionId := c.sessionId, flags := c.flags, ses := c.ses, start := c.start, stop := c.stop }

/-- The merge of a checkpoint into the registers (R424). -/
def Legal.merge (l : Legal) (c : LegalRegs) : LegalRegs :=
  let r := l.regs
  { r with
    meters := Vector.ofFn fun m : Fin 97 => r.meters[m].merge c.meters[m] (r.unrestored.getLsbD m.val)
      (l.sesSince.getLsbD m.val) (l.calSince.getLsbD m.val),
    tamper := Vector.ofFn fun k : Fin 16 =>
      ⟨satN 32 (r.tamper[k].count + c.tamper[k].count), firstTime r.tamper[k].first c.tamper[k].first,
        max r.tamper[k].last c.tamper[k].last⟩,
    lastSession := max r.lastSession c.lastSession, readingSeq := max r.readingSeq c.readingSeq,
    activeHash := if l.loadedSince then r.activeHash else c.activeHash,
    passiveHash := if l.loadedSince then r.passiveHash else c.passiveHash,
    passiveAt := if l.loadedSince then r.passiveAt else c.passiveAt,
    restored := r.restored ||| r.unrestored, unrestored := 0, restoreOpen := false }

/-- The merge at its tick boundary, with the checkpoint's legal configuration unless one was set since the start, the
tamper record and RESTORE_NEEDED 0 (R424). -/
def State.applyRestore (s : State) (c : LegalRegs) : State :=
  let set := s.legal.regs.cfgSet
  let s1 := s.onLegal fun l => { l with regs := l.merge c }
  let s2 := if set || !c.cfgSet then s1 else s1.applyLegalCfg c.cfg c.cfgHash
  (s2.tamper 5 0xFF 0 none).raiseNow 385 0x0B15 0

/-- LEGAL_RESTORE (R424, R438). -/
def cardLegalRestore (o : Origin) (transfer : Nat) (s : State) : State :=
  let layout := [64, 64]
  cardOwn o 0x0B21 layout
    (fun t =>
      let d := t.xferData o.court transfer
      let cp := (Config.cosePayload d).bind parseCheckpoint
      let fits := match cp with
        | some (ser, utc, ws) => ser == t.keys.fuses.serial && bitsOf (leGet ws 0 9) 16 8 == 1 &&
            (!t.legal.valid || utc ≤ t.legal.utc t.now)
        | none => false
      [permit o [0, 1], need (t.legal.regs.restoreOpen && t.legal.restoreNext.isNone && t.legal.valid) stBAD_STATE 0,
       need (t.xfer? o.court transfer).isSome stBAD_STATE 0, need ((t.xfer? o.court transfer).isNone || fits) stRANGE 0,
       let c := Config.coseCheck d (t.pubKey 1 legalKeyId t.legalAlg)
       need (c == 0) stREJECTED_CRYPTO c])
    (fun t =>
      match (Config.cosePayload (t.xferData o.court transfer)).bind parseCheckpoint with
      | some (_, utc, ws) =>
        let u := ((t.consumeXfer o.court transfer).onLegal fun l => { l with
          restoreNext := some (t.now + 1, regsOfWords ws) }).log (t.now + 1) 0x0C 0xFF utc none
        u.ok o layout [utc, t.now + 1]
      | none => t.refuse o stRANGE 0 layout)
    s

/-- The command LEGAL_RESTORE (R438). -/
def execLegalRestore (o : Origin) (transfer : Nat) (s : State) : Out := .next (cardLegalRestore o transfer s)

/-- What the legal court brings about at a tick boundary: a configuration or a merge whose tick has come, then time. -/
def State.legalBoundary (s : State) : State :=
  let s1 := match s.legal.cfgNext with
    | some (t, c, h) =>
      if t ≤ s.now then (s.onLegal fun l => { l with cfgNext := none }).applyLegalCfg c h else s
    | none => s
  let s2 := match s1.legal.restoreNext with
    | some (t, r) => if t ≤ s.now then (s1.onLegal fun l => { l with restoreNext := none }).applyRestore r else s1
    | none => s1
  s2.legalTick

end Sys2Proof.Machine
end

