-- ==== Sys2Proof/Machine/Mailbox.lean ====
section
/-! DEFINITION. Mailboxes: bells, opening and closing, outbound messages, the event stream, bulk transfers, and the
mailbox commands of spec file 03. -/

namespace Sys2Proof.Machine

/-- Reset of a mailbox's indices, EXPECT_SEQ, cache and messages; its place stays (R77, R93, R96). -/
def Mailbox.clear (m : Mailbox) : Mailbox :=
  { m with inProd := 0, inCons := 0, outProd := 0, outCons := 0, expectSeq := 1, outSeq := 0, cache := [],
           running := none, out := [], held := [] }

/-- How far an index lies ahead of another, modulo twice the ring size (R125). -/
def ahead (k a b : Nat) : Nat := (a % 2 ^ (k + 1) + 2 ^ (k + 1) - b % 2 ^ (k + 1)) % 2 ^ (k + 1)

/-- Why a bell is ignored with BELL_ERR, as the case of R713: 0 closed, 1 too far ahead, 2 backwards, 3 RING 0 on
mailbox 2 (R79). -/
def bellCase (m : Mailbox) (isOpen : Bool) (mbx : Nat) (ring : Bool) (index : Nat) : Option Nat :=
  if !isOpen then some 0
  else if ring then
    if ahead m.outLog2 m.outProd index > 2 ^ m.outLog2 then some 1
    else if ahead m.outLog2 index m.outCons > ahead m.outLog2 m.outProd m.outCons then some 2
    else none
  else if mbx == 2 then some 3
  else if ahead m.inLog2 index m.inCons > 2 ^ m.inLog2 then some 1
  else if ahead m.inLog2 index m.inCons < ahead m.inLog2 m.inProd m.inCons then some 2
  else none

/-- A write of MBX_BELL (R79): it acts only while READY is 1 and over PCI Express (R81, R149); while the court is not
ACTIVE it is ignored without BELL_ERR (R69). -/
def ringBell (c : CourtId) (m : MbxId) (ring : Bool) (index : Nat) (s : State) : State :=
  if s.host.ready && s.host.port == .pcie && s.courts[c].state == .active then
    match bellCase (s.mbox c m) (s.mbxOpen c m) m.val ring index with
    | some k =>
      (s.onMbx c m fun x => { x with bellErr := true }).raiseNow (384 + c.val) 0x0203
        (m.val + 4 * b2n ring + 8 * k + 2 ^ 16 * (index % 2 ^ 13))
    | none =>
      s.onMbx c m fun x =>
        if ring then { x with outCons := index % 2 ^ (x.outLog2 + 1) }
        else { x with inProd := index % 2 ^ (x.inLog2 + 1) }
  else s

/-- MBX_BELL with RING 0 (R79). -/
def execMbxBellInbound (c : CourtId) (m : MbxId) (index : Nat) (s : State) : Out := .next (ringBell c m false index s)

/-- MBX_BELL with RING 1 (R79). -/
def execMbxBellOutbound (c : CourtId) (m : MbxId) (index : Nat) (s : State) : Out := .next (ringBell c m true index s)

/-- A write that sets EN in court 0's page opens the mailbox with EXPECT_SEQ 1; an open mailbox stays as it is (R77). -/
def execMbxOpen (m : MbxId) (s : State) : Out :=
  .next (if s.host.ready && s.host.port == .pcie && !(s.mbox 0 m).en then
      s.onMbx 0 m fun x => { x.clear with en := true }
    else s)

/-- Closing a mailbox: messages, indices, EXPECT_SEQ and cache go, and a closed event stream keeps no records
(R77, R88). -/
def State.closeMbx (s : State) (c : CourtId) (m : MbxId) : State :=
  let t := s.onMbx c m fun x => { x.clear with en := false }
  if m.val == 2 then t.onCourt c fun k => { k with records := [], lost := 0 }
  else if m.val == 3 then t.onCourt c fun k => { k with outXfers := [] }
  else t

/-- A write that clears EN in court 0's page (R77). -/
def execMbxClose (m : MbxId) (s : State) : Out :=
  .next (if s.host.ready && s.host.port == .pcie then s.closeMbx 0 m else s)

/-- Whether a mailbox has a place for one more outbound message: a free slot while the QN960 may access host memory, or
over host Ethernet a known address (R80, R81, R103, R106). -/
def State.outSlotFree (s : State) (c : CourtId) (m : MbxId) : Bool :=
  let x := s.mbox c m
  s.host.ready && s.mbxOpen c m &&
  (if s.host.port == .pcie then s.host.busMaster && ahead x.outLog2 x.outProd x.outCons < 2 ^ x.outLog2
   else x.replyTo.isSome)

/-- The outbound index after one more message; over host Ethernet there is none. -/
def State.nextProd (s : State) (x : Mailbox) : Nat :=
  if s.host.port == .pcie then (x.outProd + 1) % 2 ^ (x.outLog2 + 1) else x.outProd

/-- Book a written message of an outbound transfer: a transfer with no message left is closed (R89). -/
def bookOut (num : Nat) : List OutXfer → List OutXfer
  | [] => []
  | x :: t => if x.number == num then (if x.messages ≤ 1 then t else { x with messages := x.messages - 1 } :: t)
              else x :: bookOut num t

/-- OUTBOUND_WRITE: the first unsent response or bulk message is written whole, OUT_PROD advances, and event source
384 + c is raised (R80, R713). -/
def execOutboundWrite (c : CourtId) (m : MbxId) (s : State) : Out :=
  .next (match (s.mbox c m).out with
    | [] => s
    | msg :: rest =>
      if m.val != 2 && s.outSlotFree c m then
        let isBulk := msg.opcode == 0x0291
        let sent := if isBulk then { msg with seq := (s.mbox c m).outSeq } else msg
        let t := s.onMbx c m fun x => { x with
          out := rest, outProd := s.nextProd x, lastOut := some sent,
          outSeq := if isBulk then (x.outSeq + 1) % 2 ^ 32 else x.outSeq }
        let t := if isBulk then
            t.onCourt c fun k => { k with outXfers := bookOut ((msg.fields.headD (16, 0)).2) k.outXfers }
          else t
        t.raiseNow (384 + c.val) 0x0204
          (m.val + if s.host.port == .pcie then 2 ^ 16 * (t.mbox c m).outProd else 0)
      else s)

/-- The fields of one event record (R88). -/
def Ev.fields (e : Ev) : List Field := [(16, e.source), (16, e.kind), (32, e.data), (64, e.tick)]

/-- EVENT_BATCH_WRITE: the waiting records go into a free slot in order, at most as many as it holds and 255; after a
discard the message begins with the record of the number discarded, whose TICK the spec does not give (R88, log 16). -/
def execEventBatchWrite (c : CourtId) (s : State) : Out :=
  let k := s.courts[c]
  let x := k.mbx[(2 : Fin 4)]
  .next (if s.outSlotFree c 2 && !(k.records.isEmpty && k.lost == 0) then
      let cap := min 255 ((64 * x.slotUnits - 20) / 16)
      let mark : List Ev := if k.lost == 0 then [] else [⟨0xFFFF, 0xFFFF, k.lost, s.draw % 2 ^ 64⟩]
      let recs := mark ++ k.records.take (cap - mark.length)
      let msg : OutMsg := { opcode := 0x0280, seq := x.outSeq, first := false, last := false, bulkRef := false,
                            fields := recs.flatMap Ev.fields, tick := s.now }
      let t := s.onCourt c fun k => { k with records := k.records.drop (cap - mark.length), lost := 0 }
      (t.onMbx c 2 fun x => { x with outProd := s.nextProd x, outSeq := (x.outSeq + 1) % 2 ^ 32,
                                     lastOut := some msg }).drawn
    else s)

/- Bulk transfers (R89, R90). -/

/-- Words that a transfer of `n` bytes takes in the bulk pool. -/
def poolWords (n : Nat) : Nat := (n + 8) / 9

/-- Whether a transfer number of a court names a flash transfer (R90). -/
def isFlashXfer (c : CourtId) (num : Nat) : Bool := c.val == 0 && 0xFF00 ≤ num

/-- Words of the bulk pool: 208 Kw less the window of every tenant (R90). -/
def State.poolSize (s : State) : Nat := 1024 * (208 - ((allCourts.filter fun c => 3 ≤ c.val).map fun c => s.courts[c].supKw).sum)

/-- Words of the bulk pool that held transfers take. -/
def State.poolUsed (s : State) : Nat :=
  (allCourts.map fun c =>
    ((s.courts[c].inXfers.filter fun x => !isFlashXfer c x.number).map fun x => poolWords x.data.length).sum).sum

/-- Whether a flash transfer is held (R90). -/
def State.flashHeld (s : State) : Bool := s.courts[(0 : Fin 16)].inXfers.any fun x => isFlashXfer 0 x.number

/-- The acknowledgement fields of a BULK_PUT: the transfer and the byte count received so far (R89, log 17). -/
def bulkAck (num count : Nat) : List Field := [(16, num), (16, 0), (32, count)]

/-- The transfer a BULK_PUT names, if the court holds one under its number. -/
def State.heldXfer (s : State) (c : CourtId) (num : Nat) : Option InXfer :=
  s.courts[c].inXfers.find? fun x => x.number == num

/-- Whether the bytes of a BULK_PUT fit where the transfer is held (R90, R645). -/
def State.bulkFits (s : State) (c : CourtId) (num old n : Nat) : Bool :=
  if s.inLoader then old + n ≤ 6291456
  else if isFlashXfer c num then old + n ≤ 7340032
  else s.poolUsed - poolWords old + poolWords (old + n) ≤ s.poolSize

/-- The checks of a BULK_PUT (R89, R90). In the loader a FIRST discards the transfer held (R645). -/
def bulkChecks (c : CourtId) (num off : Nat) (first : Bool) (n : Nat) (s : State) : List Chk :=
  let held := s.heldXfer c num
  let openX := match held with
    | some x => !x.closed
    | none => false
  [need (1 ≤ n && n ≤ 4072) stBAD_LEN 0,
   rng 1 (1 ≤ num && num ≤ 65535 && (c.val == 0 || num < 0xFF00)),
   rng 3 (if first then off == 0 else (match held with
     | some x => x.closed || off == x.data.length
     | none => true)),
   need (if first then held.isNone || s.inLoader else openX) stBAD_STATE 0,
   need (!first || s.inLoader || s.courts[c].inXfers.length < 4) stNO_RESOURCE 0,
   need (!first || s.inLoader || !isFlashXfer c num || !s.flashHeld) stNO_RESOURCE 0]

/-- BULK_PUT (R89, R90): it opens, extends or closes a transfer. Bytes that do not fit discard the transfer with
NO_RESOURCE; bytes of a flash transfer are acknowledged once they are written and read back. -/
def bulkPut (o : Origin) (num off : Nat) (first last : Bool) (data : List Byte) (s : State) : State :=
  let c := o.court
  if s.canTake c 3 then
    let t := s.take c 3 0x0290 [16, 16, 32]
    let got := match t.heldXfer c num with
      | some x => x.data.length
      | none => 0
    match firstRefusal (reserved o :: (modeChecks t 0x0290 ++ bulkChecks c num off first data.length t)) with
    | some (st, dt) => t.answer c 3 st dt false (bulkAck num got)
    | none =>
      let t := if first && t.inLoader then t.onCourt c fun k => { k with inXfers := [] } else t
      let old := if first then [] else (match t.heldXfer c num with
        | some x => x.data
        | none => [])
      if !t.bulkFits c num old.length data.length then
        (t.consumeXfer c num).answer c 3 stNO_RESOURCE 0 false (bulkAck num 0)
      else
        let x : InXfer := { number := num, data := old ++ data, closed := last, closedAt := t.now,
                            writing := isFlashXfer c num && !t.inLoader, forDisplay := false }
        let t := t.onCourt c fun k => { k with inXfers := k.inXfers.filter (·.number != num) ++ [x] }
        if x.writing then t else t.answer c 3 stOK 0 false (bulkAck num x.data.length)
  else s

/-- The command BULK_PUT (R89). -/
def execBulkPut (o : Origin) (num off : Nat) (first last : Bool) (data : List Byte) (s : State) : Out :=
  .next (bulkPut o num off first last data s)

/-- FLASH_PUT_DONE: the bytes of a flash transfer are written and read back, and its BULK_PUT is acknowledged; a failed
read-back discards the transfer (R90). -/
def execFlashPutDone (verified : Bool) (s : State) : Out :=
  .next (match s.courts[(0 : Fin 16)].inXfers.find? (·.writing) with
    | none => s
    | some x =>
      if verified then
        (s.onCourt 0 fun k => { k with inXfers := k.inXfers.map fun y => if y.writing then { y with writing := false } else y }).answer
          0 3 stOK 0 false (bulkAck x.number x.data.length)
      else (s.consumeXfer 0 x.number).answer 0 3 stFAIL 0 false (bulkAck x.number 0))

/-- BULK_TRANSFER_EXPIRE: a transfer closed for 60 s without being named by an executed command is discarded; one that
DISP_SHOW named is held until its generation ends (R90). -/
def execBulkTransferExpire (c : CourtId) (num : Nat) (s : State) : Out :=
  .next (match s.xfer? c num with
    | some x => if !x.writing && !x.forDisplay && x.closedAt + 60000000 ≤ s.now then s.consumeXfer c num else s
    | none => s)

/-- REQUEST_DATAGRAM: over host Ethernet a mailbox message is held, up to 8 for each mailbox, or dropped and counted; a
valid one sets the address that responses go to (R106). -/
def execRequestDatagram (bytes : List Byte) (sender : Nat) (s : State) : Out :=
  let b0 := leGet bytes 0 1
  let len := leGet bytes 10 2
  let ok := bytes.length == 20 + len && leGet bytes (16 + len) 4 == crc32c (bytes.take (16 + len))
  .next (match courtOf (b0 % 16) with
    | none => s
    | some c =>
      let m : MbxId := ⟨b0 / 16 % 4, by omega⟩
      if s.host.ready && s.host.port != .pcie && s.mbxOpen c m then
        let t := if ok then s.onMbx c m fun x => { x with replyTo := some sender } else s
        if m.val == 2 then t
        else if (s.mbox c m).held.length < 8 then t.onMbx c m fun x => { x with held := x.held ++ [bytes] }
        else t.onMbx c m fun x => { x with crcCount := bump 8 x.crcCount }
      else s)

/-- ARP_ICMP_ECHO: the QN960 node answers an ARP request or an ICMP echo request for 169.254.96.1 (R106). -/
def execArpIcmpEcho (address : Nat) (s : State) : Out :=
  .next (if s.host.port != .pcie && s.host.port != .stopped && address == 0xA9FE6001 then
      { s with host := { s.host with echoes := s.host.echoes + 1 } }
    else s)

/-- MBX_ECHO: the payload comes back unchanged (R98). -/
def cardMbxEcho (o : Origin) (data : List Byte) (s : State) : State :=
  if s.canTake o.court o.mbx then
    let t := s.take o.court o.mbx 0x0200 []
    match firstRefusal (reserved o :: need (data.length ≤ 444) stBAD_LEN 0 :: modeChecks t 0x0200) with
    | some (st, dt) => t.answer o.court o.mbx st dt false []
    | none => t.answer o.court o.mbx stOK 0 false (bytesAsFields data)
  else s

/-- The command MBX_ECHO (R98). -/
def execMbxEcho (o : Origin) (data : List Byte) (s : State) : Out := .next (cardMbxEcho o data s)

/-- Whether a CFG word is within R77 for a mailbox. -/
def cfgOk (m cfg : Nat) : Bool :=
  let u := bitsOf cfg 1 7
  let ki := bitsOf cfg 8 4
  let ko := bitsOf cfg 12 4
  2 ≤ u && u ≤ 65 && (m == 2 || (2 ≤ ki && ki ≤ 12)) && 2 ≤ ko && ko ≤ 12 && cfg / 2 ^ 16 == 0

/-- A mailbox placed by its ring bases and CFG, with indices, EXPECT_SEQ and cache reset (R77, R96). -/
def Mailbox.placed (m : Mailbox) (inBase outBase cfg : Nat) : Mailbox :=
  { m.clear with inBase := inBase, outBase := outBase, en := bitOf cfg 0, slotUnits := bitsOf cfg 1 7,
                 inLog2 := bitsOf cfg 8 4, outLog2 := bitsOf cfg 12 4 }

/-- A placement of MBX_PLACE takes force: the mailbox is closed, then placed (R96). -/
def State.placeMbx (s : State) (c : CourtId) (p : MbxId × Nat × Nat × Nat) : State :=
  (s.closeMbx c p.1).onMbx c p.1 fun x => x.placed p.2.1 p.2.2.1 p.2.2.2

/-- The placements of a court that take force at a tick boundary (R96). -/
def State.placeBoundary (s : State) : State :=
  allCourts.foldl (fun t c => (s.courts[c].placeNext.foldl (fun u p => u.placeMbx c p) t).onCourt c fun k => { k with placeNext := [] }) s

/-- MBX_PLACE (R96): from the next tick boundary. -/
def cardMbxPlace (o : Origin) (court mbx inBase outBase cfg : Nat) (s : State) : State :=
  card o 0x0205 []
    (fun t => [permit o [0], rng 1 (1 ≤ court && court ≤ 15), rng 2 (mbx ≤ 3), rng 4 (inBase % 64 == 0),
      rng 5 (outBase % 64 == 0), rng 6 (cfgOk mbx cfg),
      need (match courtOf court with
        | some c => t.courts[c].state != .absent
        | none => true) stBAD_STATE 0])
    (fun t => match courtOf court with
      | none => (t, [])
      | some c =>
        let m : MbxId := ⟨mbx % 4, by omega⟩
        (t.onCourt c fun k => { k with placeNext := k.placeNext ++ [(m, inBase, outBase, cfg)] }, []))
    s

/-- The command MBX_PLACE (R96). -/
def execMbxPlace (o : Origin) (court mbx inBase outBase cfg : Nat) (s : State) : Out :=
  .next (cardMbxPlace o court mbx inBase outBase cfg s)

/-- EVT_MASK replaces the issuing court's event mask from the next tick boundary (R71, R97). -/
def cardEvtMask (o : Origin) (mask : BitVec 512) (s : State) : State :=
  card o 0x0206 [512]
    (fun t => [need (mask &&& ~~~ (rightsMask t o.court) == 0) stNOT_PERMITTED 1])
    (fun t => (t.onCourt o.court fun k => { k with maskNext := some mask }, [mask.toNat]))
    s

/-- The command EVT_MASK (R97). -/
def execEvtMask (o : Origin) (mask : BitVec 512) (s : State) : Out := .next (cardEvtMask o mask s)

/-- The status word of a mailbox at +0x20 (R77). -/
def State.mbxStat (s : State) (c : CourtId) (m : MbxId) : Nat :=
  let x := s.mbox c m
  b2n x.crcErr + 2 * b2n x.bellErr + 4 * b2n (s.outFull c m) + 8 * b2n x.evtLost + 2 ^ 8 * x.crcCount

/-- COURT_STATUS reports a court and clears the CRC_COUNT of its mailboxes (R95). `keyGen` is the court key generation
in force. -/
def courtReport (o : Origin) (court : Nat) (keyGen : Nat) (s : State) : State :=
  card o 0x0204 [8, 8, 16, 96, 96, 16, 16, 8, 24, 32, 32, 32, 32, 32, 32, 32]
    (fun _ => [rng 1 (court < 16), need (o.court.val == 0 || o.court.val == court) stNOT_PERMITTED 1])
    (fun t => match courtOf court with
      | none => (t, [])
      | some c =>
        let k := t.courts[c]
        let own := t.ownedMask c
        let vals := [k.state.code, popBays own, k.restarts, k.grant.toNat, own.toNat, k.supKw, k.regionWords, keyGen, 0,
          (t.mbox c 0).expectSeq, (t.mbox c 1).expectSeq, (t.mbox c 3).expectSeq,
          t.mbxStat c 0, t.mbxStat c 1, t.mbxStat c 2, t.mbxStat c 3]
        (t.onCourt c fun k => { k with mbx := k.mbx.map fun x => { x with crcCount := 0 } }, vals))
    s

end Sys2Proof.Machine
end

