-- ==== Sys2Proof/Machine/Port.lean ====
section
/-! DEFINITION. Operations that the functions of a bay share: access to the parts of its output group, the fields of its
entry, the stop causes that its frames carry. -/

namespace Sys2Proof.Machine

/-- Change the output group of a bay as it is being computed. -/
def State.onGrp (s : State) (b : BayId) (f : Grp → Grp) : State := s.onBay b fun y => { y with grp := f y.grp }

/-- Change the output group of a bay between ticks, as a command of Myavat does: as computed and as committed. -/
def State.onGrpBoth (s : State) (b : BayId) (f : Grp → Grp) : State :=
  s.onBay b fun y => { y with grp := f y.grp, grpCk := f y.grpCk }

/-- Change the pilot of a bay. -/
def State.onPilot (s : State) (b : BayId) (f : Pilot → Pilot) : State := s.onGrp b fun g => { g with pilot := f g.pilot }

/-- Change Green PHY of a bay. -/
def State.onPlc (s : State) (b : BayId) (f : Plc → Plc) : State := s.onGrp b fun g => { g with plc := f g.plc }

/-- Change the session of a bay. -/
def State.onSess (s : State) (b : BayId) (f : Session → Session) : State :=
  s.onGrp b fun g => { g with session := f g.session }

/-- Change the identification of a bay. -/
def State.onIdent (s : State) (b : BayId) (f : Ident → Ident) : State := s.onGrp b fun g => { g with ident := f g.ident }

/-- Change the modulator planning of a bay. -/
def State.onMod (s : State) (b : BayId) (f : Mod → Mod) : State := s.onGrp b fun g => { g with mod := f g.mod }

/-- Change the loops of a bay. -/
def State.onLoops (s : State) (b : BayId) (f : Loops → Loops) : State := s.onGrp b fun g => { g with loops := f g.loops }

/-- Change the switch channels of a bay. -/
def State.onChans (s : State) (b : BayId) (f : Chans → Chans) : State := s.onGrp b fun g => { g with chans := f g.chans }

/-- Change the display of a bay. -/
def State.onDisp (s : State) (b : BayId) (f : Disp → Disp) : State := s.onGrp b fun g => { g with disp := f g.disp }

/-- Change the interlock of a bay. -/
def State.onIlk (s : State) (b : BayId) (f : Ilk → Ilk) : State := s.onBay b fun y => { y with ilk := f y.ilk }

/-- Change the earth cell of a bay. -/
def State.onEarth (s : State) (b : BayId) (f : Earth → Earth) : State := s.onBay b fun y => { y with earth := f y.earth }

/-- Change the guard cell of a bay. -/
def State.onGuard (s : State) (b : BayId) (f : Guard → Guard) : State := s.onBay b fun y => { y with guard := f y.guard }

/-- Whether a bay in use is of KIND EV_DC or EV_AC. -/
def Bay.isEv (y : Bay) : Bool := y.inUse && !y.safeHold && (y.kind == 1 || y.kind == 2)

/-- Whether a bay in use has a converter: KIND EV_DC, PV, STORAGE or GRID (R293). -/
def Bay.hasConverter (y : Bay) : Bool := y.inUse && !y.safeHold && (y.kind == 1 || y.kind == 3 || y.kind == 4 || y.kind == 5)

/-- A flag of the pilot and PLC sub-block (R210): 0 PILOT_EN, 1 PP_EN, 2 PLC_EN, 3 XBAY_EN. -/
def Bay.pilotFlag (y : Bay) (i : Nat) : Bool := y.isEv && bitOf (y.ent 64 1) i

/-- Half the width of a voltage band (R190), mV. -/
def Bay.halfW (y : Bay) : Int := y.ent 66 2

/-- A field of the session sub-block as the running session holds it (R237). -/
def Bay.ses (y : Bay) (off n : Nat) : Nat := leGet y.session.cfg (off - 128) n

/-- PROTOCOLS of the running session (R238). -/
def Bay.protocols (y : Bay) : Nat := y.ses 128 1 % 8

/-- SERVICES of the running session (R238). -/
def Bay.services (y : Bay) : Nat := y.ses 129 1 % 32

/-- The 64-bit tick count at which sample tick data of the tick in progress was taken (R43). -/
def State.sampleTick (s : State) : Nat := s.now - 2

/-- The samples of a control channel in a frame. -/
def UpFrame.chan (f : UpFrame) (ch : Nat) : List Int := f.ctrl.map fun x => x.getD ch 0

/-- A mean as R297 forms it: the sum divided by the number, truncated towards minus infinity; 0 of nothing. -/
def imean (l : List Int) : Int := if l.isEmpty then 0 else isum l / (l.length : Int)

/-- The latest published STATUS of a bay shows STOPPED 1; a bay head that has not reported counts as stopped (R168). -/
def Bay.headStopped (y : Bay) : Bool :=
  match y.link.status with
  | some (st, _, _) => st
  | none => true

/-- The stop causes of a bay as its next frame leaves: scope and CAUSE of each (R163, R164). -/
def State.stopCauses (s : State) (b : BayId) : List (Nat × Nat) :=
  let y := s.bays[b]
  (if y.busScope = 0 then [] else [(y.busScope, 1)]) ++
  (if y.guard.tripStop then [(1, 2)] else []) ++
  (if y.guard.staleStop then [(3, 2)] else []) ++
  (if y.earthLatch then [(3, 3)] else []) ++
  (if s.regions[regionOf b].regionFail then [(7, 4)] else []) ++
  (if y.link.st ≠ .service ∨ y.outOfService then [(7, 5)] else [])

/-- The stop a frame carries: the scopes of all causes together, the lowest-numbered CAUSE (R164). -/
def mergeStops : List (Nat × Nat) → Option (Nat × Nat)
  | [] => none
  | (sc, c) :: t =>
    match mergeStops t with
    | none => some (sc, c)
    | some (sc', c') => some (sc ||| sc', min c c')

/-- The stop of a bay's next frame, if any (R164). -/
def State.stopOf (s : State) (b : BayId) : Option (Nat × Nat) := mergeStops (s.stopCauses b)

/-- Count one more on one of the Green PHY counts of R213. -/
def Plc.count (x : Plc) (i : Fin 10) (n : Nat) : Plc := { x with counts := vmod x.counts i fun c => satN 32 (c + n) }

/-- Count one more on one of the identification counts of R269. -/
def Ident.count (x : Ident) (i : Fin 11) : Ident := { x with counts := vmod x.counts i (bump 32 ·) }

/-- Add a value to an accumulating statistic, which begins anew when the generation has changed (R52). -/
def Accum.add (a : Accum) (v : Int) (gen tick : Nat) : Accum :=
  if a.n = 0 ∨ a.gen ≠ gen then ⟨v, 1, gen, tick, tick⟩ else { a with sum := a.sum + v, n := a.n + 1, last := tick }

end Sys2Proof.Machine
end

