-- ==== Sys2Proof/Machine/Session.lean ====
section
/-! DEFINITION. The session state machine (spec file 08): states and their outputs, stop causes, limits, authorisation,
readings, and the end of a match (R208). -/

namespace Sys2Proof.Machine

/- Matching: the end of a resolution or match (R208). -/

/-- Free a slot of the attenuation matrix (R204). -/
def State.freeSlot (s : State) (i : Nat) : State :=
  if h : i < 16 then { s with slac := { s.slac with slots := s.slac.slots.set i SlacSlot.free } } else s

/-- Free a slot that is resolved to a bay. -/
def State.freeSlotOf (s : State) (i : Nat) (b : BayId) : State :=
  if h : i < 16 then (if s.slac.slots[i].bay = b.val then s.freeSlot i else s) else s

/-- A bay is resolved or matched (R210). -/
def Bay.taken_ (y : Bay) : Bool := y.plc.slot.isSome || y.plc.matched

/-- A resolution or match ends: the network and its NMK are cleared, and SLAC_ENDED is raised (R208, R216). -/
def State.slacEnd (s : State) (b : BayId) (reason : Nat) : State :=
  let p := s.bays[b].plc
  if p.slot.isSome || p.matched then
    let s1 := s.onPlc b fun x => { x with slot := none, mac := 0, attenAt := none, matched := false, nmk := none, nid := none }
    let s2 := match p.slot with
      | some i => s1.freeSlotOf i b
      | none => s1
    s2.stage b 1 ⟨b.val, 0x0413, reason, s.now⟩
  else s

/- Outputs of a state (R223). -/

/-- Whether digital communication is enabled for the session and it does not run as basic charging. -/
def Bay.hlc (y : Bay) : Bool := y.protocols != 0 && y.session.proto != 4

/-- Whether the session commands the main contactors closed (R223, R224, R228). -/
def Session.contactors (x : Session) : Bool :=
  match x.st with
  | .cableCheck | .precharge | .energised | .stopping => !x.pauseOpened
  | .parameters => x.closing.isSome || x.renego
  | _ => false

/-- The converter mode of a DC session (R223): 0 off, 1 cable check, 2 precharge, 3 run, 4 ramp to zero. -/
def Session.converter (x : Session) : Nat :=
  match x.st with
  | .cableCheck => 1
  | .precharge => 2
  | .energised => 3
  | .stopping => 4
  | _ => 0

/-- PILOT_DUTY of a current limit, which cannot be encoded below 6,000 mA (R187). -/
def dutyOf (i : Nat) : Option Nat :=
  if i < 6000 then none
  else if i < 52500 then some (min (i / 6) 8500)
  else if i ≤ 80000 then some (i / 25 + 6400)
  else some 9600

/-- The pilot of basic charging: PWM for the limit, or steady +12 V where it cannot be signalled or is paused (R223, R228). -/
def Session.basicPilot (x : Session) : Nat × Nat :=
  if x.basicPause then (1, 0)
  else match dutyOf x.iEff with
    | some d => (2, d)
    | none => (1, 0)

/-- PILOT_MODE and PILOT_DUTY that the session commands (R184, R223). -/
def Bay.pilotOut (y : Bay) : Nat × Nat :=
  let x := y.session
  if !y.pilotFlag 0 then (0, 0)
  else match x.st with
    | .idle | .ended => (1, 0)
    | .connected => if y.hlc then (2, 500) else (1, 0)
    | .matching => if x.pauseUntil.isSome then (1, 0) else (2, 500)
    | .setup | .authorising | .cableCheck | .precharge => (2, 500)
    | .parameters | .energised | .stopping => if y.hlc then (2, 500) else x.basicPilot
    | .weldCheck => if y.hlc then (2, 500) else (1, 0)
    | .fault => if x.faultHigh then (1, 0) else (0, 0)
    | .unavailable => (0, 0)

/-- The measured output current of a bay in mA: of a DC bay the sum over its current loops, of an AC bay the meter's current
index (R370, log 36). -/
def Bay.iMeas (y : Bay) : Int :=
  if y.kind = 2 then y.meterCk.iIdx
  else isum ((List.range (y.ent 256 1)).map fun l => if h : l < 4 then (y.grpCk.loops.cur[l]).meas else 0)

/-- The measured port voltage in mV. -/
def Bay.vMeas (y : Bay) : Int := y.grpCk.loops.voutTick * (y.ent 270 4 : Int) / 1000

/-- Current at or above CONTACTOR_OPEN_MA (R232). -/
def Bay.underLoad (y : Bay) : Bool := (y.ent 136 4 : Int) ≤ (y.iMeas.natAbs : Int)

/-- A released trip of the modulator, the loops and the guard (R285, R310, R576). -/
def State.clearTrips (s : State) (b : BayId) : State :=
  s.onBay b fun y =>
    let fix := fun (g : Grp) => { g with
      loops := if g.loops.trip = 0 then g.loops else { g.loops with
        trip := 0, tripLoop := 0xFF, tripMore := 0, integV := 0, integP := 0, cur := g.loops.cur.map fun c => { c with integ := 0 } } }
    { y with
             grp := fix y.grp, grpCk := fix y.grpCk, ilk := { y.ilk with trip := false, stamps := [] },
             guard := { y.guard with tripStop := false, staleStop := false },
             guardCk := { y.guardCk with tripStop := false, staleStop := false } }

/-- Whether a session has recorded a reason and is on its way out or ended. -/
def Session.ending (x : Session) : Bool := x.reason != 0

/-- What entering ENDED or FAULT does: the stop reading or SESSION_ENDED, the end of the match and of the host limit, the two
seconds to the close of TLS (R208, R232, R235, R242, R245). -/
def State.sessOver (s : State) (b : BayId) : State :=
  let x := s.bays[b].session
  let s1 := s.onSess b fun x => { x with
    hostLimit := 0, energyLimit := 0, closing := none, renego := false, basicPause := false,
    pauseUntil := none, overSince := none, cert := none, setupFrom := none, seqFrom := none, readyFrom := none, basicFrom := none,
    closeAt := if x.tcp then some (s.now + 2000000) else none }
  let s2 := s1.slacEnd b 3
  if x.started ∧ x.stopTick = 0 then
    (s2.onSess b fun x => { x with stopTick := s.now }).dueReading b true s.now
  else if x.started then s2
  else s2.stage b 2 ⟨b.val, 0x0504, x.reason, s.now⟩

/-- A session goes to a state: SESSION_STATE, an opening under load, the readings, and what the state's entry does (R222 to
R224, R232, R235, R245). -/
def State.sessTo (s : State) (b : BayId) (st : SessSt) : State :=
  let y := s.bays[b]
  let x := y.session
  if x.st = st then s
  else
    let begins := !x.started && st == .energised
    let keep := if st = .parameters then x.closing else none
    let start := if begins then s.now else x.startTick
    let s1 := s.onSess b fun x => { x with
      st := st, entered := s.now, faultHigh := false, closing := keep, pauseOpened := false,
      started := x.started || begins, startTick := start,
      setupAt := if st = .setup then s.now else x.setupAt }
    let opened := x.contactors && !(s1.bays[b].session.contactors) && y.underLoad
    let s2 := cond opened
      ((s1.onSess b fun x => { x with openLoad := bump 32 x.openLoad }).stage b 2
        ⟨96 + b.val, 0x0523, satN 32 y.iMeas.natAbs, s.now⟩) s1
    let s3 := s2.stage b 2 ⟨b.val, 0x0501, st.code + 2 ^ 8 * x.st.code + 2 ^ 16 * x.reason, s.now⟩
    match st with
    | .energised => if x.started then s3 else s3.dueReading b false s.now
    | .ended | .fault => s3.sessOver b
    | .idle => s3.clearTrips b
    | _ => s3

/- Stop causes (R231, R232). -/

/-- Reasons of kind F (R231). -/
def faultReason (r : Nat) : Bool := (1 ≤ r && r ≤ 7) || r == 0x0B || r == 0x0C

/-- The state in which a reason that is not of kind F leaves a session (R231, R232). -/
def Bay.endState (y : Bay) (reason : Nat) : SessSt :=
  if !y.session.contactors then .ended
  else if reason = 0x08 ∨ !y.underLoad then .weldCheck
  else .stopping

/-- A stop cause takes effect (R231): of several in one compute tick the lowest is recorded and the others are counted; a later
reason is counted, and one of kind F still ends in FAULT (log 35). -/
def State.sessEnd (s : State) (b : BayId) (reason : Nat) : State :=
  let y := s.bays[b]
  let x := y.session
  let known := bitOf x.reasons reason
  let s0 := s.onSess b fun x => { x with reasons := x.reasons ||| 2 ^ reason }
  if x.st = .idle ∨ x.st = .unavailable ∨ known then s
  else if x.st = .fault then
    if x.endAt = s.now then
      s0.onSess b fun x => { x with
        further := x.further + 1, reason := min x.reason reason, sticky := x.sticky || reason == 4 || reason == 5 }
    else s
  else
    let first := x.reason == 0
    let replace := first || (x.endAt == s.now && reason < x.reason) || faultReason reason
    let s1 := s0.onSess b fun x => { x with
      reason := if replace then reason else x.reason,
      further := if first then x.further else x.further + 1,
      endAt := if replace then s.now else x.endAt,
      renego := false,
      tcp := x.tcp && !(reason == 5 || reason == 6 || reason == 8),
      sticky := x.sticky || reason == 4 || reason == 5 || (reason == 6 && y.pilot.genFault) }
    if faultReason reason then s1.sessTo b .fault
    else if first ∧ x.st ≠ .ended then s1.sessTo b (y.endState reason)
    else s1

/- Limits (R226). -/

/-- The current of a PP class in mA (R195); `d` where the class names no cable. -/
def ppCurrent (cls d : Nat) : Nat :=
  if cls = 2 then 13000 else if cls = 3 then 20000 else if cls = 4 then 32000 else if cls = 5 then 63000 else d

/-- The current of P W at the larger of the present voltage and V_MAX / 10 (R226, R465). -/
def Bay.ampsOf (y : Bay) (p : Nat) : Nat := p * 1000000 / max y.vMeas.toNat (max 1 (y.ent 24 4 / 10))

/-- FALLBACK_W converted as R465 converts a grant (R470). -/
def Bay.fallbackMa (y : Bay) : Nat :=
  let w := y.ent 492 4
  if y.kind = 2 then w * 1000 / max 1 (y.ent 480 1 % 4 * y.ent 482 2) else y.ampsOf w

/-- The ledger's fast import limit as the bay uses it, the smaller of the last output and the fallback after a loss (R470). -/
def Bay.ledImport (y : Bay) : Nat := if y.taken.fallback then min y.ledCk.limit y.fallbackMa else y.ledCk.limit

/-- The ledger's fast export limit as the bay uses it (R470). -/
def Bay.ledExport (y : Bay) : Nat := if y.taken.fallback then min y.ledCk.expLimit y.fallbackMa else y.ledCk.expLimit

/-- The terms of R226 other than the ledger's, for import; `d` is the open current of a PP class that names no cable
(log 40). -/
def Bay.ownLimits (y : Bay) (d : Nat) : List Nat :=
  let x := y.session
  [y.ent 28 4] ++ (if x.hostLimit = 0 then [] else [x.hostLimit]) ++ x.vehMax.toList ++
  (if y.kind = 2 then (if y.pilotFlag 1 then [ppCurrent y.pilot.pp d] else []) else [y.ampsOf (y.ent 32 4)])

/-- The smallest of a list, or a start value. -/
def minOf (a : Nat) (l : List Nat) : Nat := l.foldl min a

/-- Recompute I_EFF and its export counterpart (R226, R299). -/
def State.sessLimits (s : State) (b : BayId) : State :=
  let y := s.bays[b]
  let open_ := y.kind == 2 && y.pilotFlag 1 && (y.pilot.pp == 1 || y.pilot.pp == 6)
  let lims := y.ownLimits (s.draw % 2 ^ 32)
  let led := y.ledImport
  let bpt := y.kind == 1 && y.session.service == 3
  let exps := y.session.vehDis.toList ++ [y.ampsOf (y.ent 36 4), y.ledExport]
  let s1 := s.onSess b fun x => { x with
    iEff := minOf led lims, iOwn := minOf (y.ent 28 4) lims, iExp := if bpt && y.ent 36 4 != 0 then minOf (y.ent 28 4) exps else 0 }
  if open_ then s1.drawn else s1

/- Tokens and authorisation (R229). -/

/-- Whether a token source is enabled: bit of AUTH_SOURCES by TOKEN_KIND (R238). -/
def authSource (sources kind : Nat) : Bool := 1 ≤ kind && bitOf sources (kind - 1)

/-- States in which a token is taken (R229, R240). -/
def SessSt.beforeCharge : SessSt → Bool
  | .connected | .matching | .setup | .authorising => true
  | _ => false

/-- The session takes a token: the first raises AUTH_REQUEST, further ones are counted (R229). -/
def State.takeToken (s : State) (b : BayId) (t : Token) : State :=
  let x := s.bays[b].session
  if x.token.isSome then s.onSess b fun x => { x with spareTokens := x.spareTokens + 1 }
  else
    let s1 := s.onSess b fun x => { x with token := some t, auth := 1, authFrom := s.now, heldToken := none }
    if t.kind = 5 then s1.onSess b fun x => { x with auth := 2 }
    else s1.stage b 2 ⟨b.val, 0x0502, t.kind, s.now⟩

/-- A card or tag token offered to the session: held for 60 s while the bay is IDLE, taken from CONNECTED on (R229). Answers
whether it was offered. -/
def State.offerToken (s : State) (b : BayId) (t : Token) : State :=
  let y := s.bays[b]
  if y.session.st = .idle then
    if authSource (y.ent 130 1) t.kind then s.onSess b fun x => { x with heldToken := some t } else s
  else if y.session.st.beforeCharge ∧ authSource (y.ses 130 1) t.kind then s.takeToken b t
  else s

/-- A vehicle is there: CONNECTED, with a new SESSION_ID, a copy of the sub-block and a token that was held (R224, R229, R234,
R237). -/
def State.sessConnect (s : State) (b : BayId) : State :=
  let y := s.bays[b]
  let s1 := s.openSession b
  let id := (s1.legal.regs.meters[meterOf b]).sessionId
  let cfg := ((y.entry.getD []).drop 128).take 64
  let held := match y.session.heldToken with
    | some t => if s.now < t.tick + 60000000 then some t else none
    | none => none
  let v2g := s1.random 64
  let s2 := s1.drawn.onSess b fun x => { Session.reset with
    pilot := x.pilot, openLoad := x.openLoad, cfg := cfg, id := id, v2gId := v2g }
  let s3 := s2.sessTo b .connected
  match held with
  | some t => s3.takeToken b t
  | none => s3

/-- AUTHORISING is entered; a free source accepts at once, an accepted basic session goes on (R224, R229). -/
def State.sessAuthorise (s : State) (b : BayId) : State :=
  let s1 := s.sessTo b .authorising
  let y := s1.bays[b]
  let s2 := if y.session.token.isNone ∧ authSource (y.ses 130 1) 5 then s1.takeToken b ⟨5, [], s.now⟩ else s1
  s2

/-- Basic charging goes on without digital communication (R224, R225). -/
def State.sessBasic (s : State) (b : BayId) : State :=
  (s.onSess b fun x => { x with proto := 4, service := 4 }).sessAuthorise b

/-- A matching that failed: another try after a pause, or the end of matching (R225). -/
def State.matchFail (s : State) (b : BayId) : State :=
  let y := s.bays[b]
  let n := y.session.tries + 1
  let s1 := s.onSess b fun x => { x with tries := n }
  if n < y.ses 144 1 then s1.onSess b fun x => { x with pauseUntil := some (s.now + 4000000) }
  else if bitOf y.services 4 then s1.sessBasic b
  else s1.sessEnd b 0x15

/-- The contactors are commanded closed, and the state that follows their confirmation is remembered (R224). -/
def State.sessClose (s : State) (b : BayId) (next : SessSt) : State :=
  s.onSess b fun x => { x with closing := some (s.now, next) }

/-- Whether the session has reached a pilot state that ends a session: E, F, X, or a pilot no longer enabled (R231, log 38). -/
def pilotBad (st : Nat) : Bool := st == 4 || st == 5 || st == 6 || st == 7

/-- SESSION_PILOT_CHANGE: the session takes up the pilot state that has taken effect (R191, R224, R231). -/
def State.sessPilot (s : State) (b : BayId) : State :=
  let y := s.bays[b]
  let x := y.session
  let p := y.pilot.st
  let s1 := s.onSess b fun x => { x with pilot := p }
  let s2 := if p = 0 ∨ pilotBad p then s1.slacEnd b 1 else s1
  let plugged := p == 1 || p == 2 || p == 3
  match x.st with
  | .idle => if plugged ∧ y.isEv ∧ !y.unavail then s2.sessConnect b else s2
  | .ended => if p = 0 then s2.sessTo b .idle else if pilotBad p then s2.sessEnd b 6 else s2
  | .fault => if p = 0 ∧ !x.sticky then s2.sessTo b .idle else s2
  | .unavailable => s2
  | _ =>
    if p = 0 then s2.sessEnd b 8
    else if pilotBad p then s2.sessEnd b 6
    else if p = 3 ∧ !bitOf (y.ses 131 1) 1 then s2.sessEnd b 0x0D
    else if x.st = .parameters ∧ x.proto = 4 ∧ x.closing.isNone ∧ (p = 2 ∨ p = 3) then s2.sessClose b .energised
    else if x.st = .energised ∧ x.proto = 4 ∧ p = 1 ∧ !x.basicPause then s2.sessEnd b 0x16
    else s2

/-- The command SESSION_PILOT_CHANGE (R224). -/
def execSessionPilotChange (b : BayId) (s : State) : Out :=
  .next (if s.bays[b].session.pilot = s.bays[b].pilot.st then s else s.sessPilot b)

/- The tick work of the session (R223 to R232). -/

/-- Session import energy in Wh so far, as the legal registers meter it (R235). -/
def State.sessEnergyWh (s : State) (b : BayId) : Nat :=
  let m := s.legal.regs.meters[meterOf b]
  (m.energy[0] - m.ses[0]) / 1000

/-- The stop causes that the session finds in the committed results of other cells and units (R231). -/
def State.sessCauses (s : State) (b : BayId) : List Nat :=
  let y := s.bays[b]
  let x := y.session
  (if y.stopSeen then [1] else []) ++
  (if y.earthCk.trip ≠ 0 then [2] else []) ++
  (if y.grpCk.loops.trip ≠ 0 ∨ y.ilk.trip ∨ y.guardCk.staleStop then [3] else []) ++
  (if y.chans.lost ≠ 0 ∧ x.contactors ∧ x.closing.isNone then [4] else []) ++
  (if y.serving then [] else [5]) ++
  (if y.pilot.genFault then [6] else []) ++
  (if y.pilot.diode then [7] else []) ++
  (if x.st = .cableCheck ∧ y.earthCk.cable = 4 then [0x0B] else []) ++
  (if x.energyLimit ≠ 0 ∧ x.started ∧ x.energyLimit ≤ s.sessEnergyWh b then [0x0F] else [])

/-- The moves a session makes on its own in a compute tick (R224, R227 to R229). -/
def State.sessMoves (s : State) (b : BayId) : State :=
  let y := s.bays[b]
  let x := y.session
  match x.st with
  | .idle => if (x.pilot = 1 ∨ x.pilot = 2 ∨ x.pilot = 3) ∧ y.serving ∧ !y.unavail then s.sessConnect b else s
  | .connected => if y.protocols = 0 then s.sessBasic b else s
  | .authorising =>
    if x.proto = 4 ∧ x.auth = 2 then s.sessTo b .parameters
    else if x.proto = 4 ∧ x.auth = 3 then s.sessEnd b 0x10
    else s
  | .parameters =>
    match x.closing with
    | some (_, next) => if y.grpCk.chans.closed then s.sessTo b next else s
    | none => if x.proto = 4 ∧ (x.pilot = 2 ∨ x.pilot = 3) then s.sessClose b .energised else s
  | .energised =>
    if x.proto = 4 then
      if x.iEff < 6000 then
        if x.basicPause then s.onSess b fun x => { x with okSince := none }
        else s.onSess b fun x => { x with basicPause := true, okSince := none, basicFrom := some s.now }
      else s.onSess b fun x => { x with okSince := some (x.okSince.getD s.now) }
    else s
  | .stopping =>
    if y.underLoad then s
    else if x.renego then s.sessTo b .parameters
    else s.sessTo b .weldCheck
  | .ended => if x.pilot = 0 then s.sessTo b .idle else s
  | .fault => if x.pilot = 0 ∧ !x.sticky then s.sessTo b .idle else s
  | _ => s

/-- AC current above I_EFF by more than 10 % (R227). -/
def State.sessOver10 (s : State) (b : BayId) : State :=
  let y := s.bays[b]
  let excess := y.kind == 2 && y.session.st == .energised && decide (11 * (y.session.iEff : Int) < 10 * y.iMeas)
  s.onSess b fun x => { x with overSince := if excess then some (x.overSince.getD s.now) else none }

/-- The target sent to the vehicle and whether a renegotiation is due (R227). -/
def State.sessTarget (s : State) (b : BayId) : State :=
  let x := s.bays[b].session
  if x.st ≠ .energised then s
  else if x.proto = 4 then
    if x.target = x.iEff then s
    else (s.onSess b fun x => { x with target := x.iEff, targetAt := some s.now }).stage b 2
      ⟨b.val, 0x0505, satN 32 x.iEff, s.now⟩
  else if x.proto = 3 ∧ x.scheduled ∧ x.target ≠ x.iEff then
    let fell := decide (10 * x.iEff ≤ 9 * x.target)
    let due := fell || match x.targetAt with
      | some t => decide (t + 60000000 ≤ s.now)
      | none => true
    if due then s.onSess b fun x => { x with renegoDue := true } else s
  else s

/-- The compute tick of the pilot-and-session cell as far as the session goes. -/
def State.sessTick (s : State) (b : BayId) : State :=
  let y := s.bays[b]
  if !y.isEv then
    if y.session.st.isIdle then s else s.sessEnd b 0x0A
  else
    let s1 := s.sessLimits b
    let s2 := (s1.sessCauses b).foldl (fun t r => t.sessEnd b r) s1
    let s3 := s2.onPilot b fun p => { p with genFault := false, diodeNew := false }
    ((s3.sessMoves b).sessOver10 b).sessTarget b

/- Timers (R223 to R232). -/

/-- CONTACTOR_CONFIRM_TIMEOUT (R224): no confirmation within 100 ms. -/
def execContactorConfirmTimeout (b : BayId) (s : State) : Out :=
  .next (match s.bays[b].session.closing with
    | some (t, _) => if t + 100000 ≤ s.now ∧ !s.bays[b].grpCk.chans.closed then s.sessEnd b 4 else s
    | none => s)

/-- WELD_VERDICT_TIMEOUT (R224): no verdict within 2 s of WELD_CHECK. -/
def execWeldVerdictTimeout (b : BayId) (s : State) : Out :=
  .next (let x := s.bays[b].session
    if x.st = .weldCheck ∧ x.entered + 2000000 ≤ s.now then s.sessEnd b 4 else s)

/-- A weld verdict reaches the session: OK and UNTESTED end it, WELDED is a CONTACTOR fault (R224, R332). -/
def State.sessWeld (s : State) (b : BayId) (verdict : Nat) : State :=
  if s.bays[b].session.st = .weldCheck then
    if verdict = 2 then s.sessEnd b 4 else s.sessTo b .ended
  else s

/-- MATCHING_TIMEOUT (R225): no match in 20 s. -/
def execMatchingTimeout (b : BayId) (s : State) : Out :=
  .next (let x := s.bays[b].session
    if x.st = .matching ∧ x.pauseUntil.isNone ∧ x.matchFrom + 20000000 ≤ s.now then s.matchFail b else s)

/-- MATCH_PAUSE_END (R225): PWM 500 again after 4 s, and another try begins. -/
def execMatchPauseEnd (b : BayId) (s : State) : Out :=
  .next (match s.bays[b].session.pauseUntil with
    | some t => if t ≤ s.now then s.onSess b fun x => { x with pauseUntil := none, matchFrom := s.now } else s
    | none => s)

/-- Whether a timer has run its limit. -/
def ranOut (from_ : Option Nat) (limit now : Nat) : Bool :=
  match from_ with
  | some t => t + limit ≤ now
  | none => false

/-- Whether the timer of a row of the timeout table has expired ("Timeouts and stop causes"). -/
def State.timerOut (s : State) (b : BayId) (row : Nat) : Bool :=
  let x := s.bays[b].session
  if row = 1 then x.st == .setup && ranOut x.setupFrom 20000000 s.now
  else if row = 2 then x.tcp && !x.st.isIdle && ranOut x.seqFrom 60000000 s.now
  else if row = 3 then ranOut x.readyFrom 148000000 s.now
  else if row = 4 then x.st == .cableCheck && x.entered + 38000000 ≤ s.now
  else if row = 5 then x.st == .precharge && x.entered + 7000000 ≤ s.now
  else if row = 6 then x.st == .stopping && x.entered + 1000000 ≤ s.now
  else if row = 7 then x.proto == 4 && x.reason != 0 && (x.st == .stopping) && ranOut x.basicFrom 3000000 s.now
  else false

/-- SESSION_TIMEOUT: a timer of the table expires. Rows 6 and 7 go to WELD_CHECK with an opening under load counted; the
others end the session with TIMEOUT (R231). -/
def execSessionTimeout (b : BayId) (row : Nat) (s : State) : Out :=
  .next (if s.timerOut b row then
      let s1 := s.stage b 2 ⟨96 + b.val, 0x0520, row, s.now⟩
      if row = 6 ∨ row = 7 then s1.sessTo b .weldCheck else s1.sessEnd b 0x12
    else s)

/-- AUTH_TIMEOUT (R229): no decision AUTH_TIMEOUT_S after the first token or the entry of AUTHORISING, whichever is later. -/
def execAuthTimeout (b : BayId) (s : State) : Out :=
  .next (let y := s.bays[b]
    let x := y.session
    let from_ := if x.token.isSome then max x.authFrom x.entered else x.entered
    if x.st = .authorising ∧ x.auth < 2 ∧ from_ + 1000000 * y.ses 132 2 ≤ s.now then s.sessEnd b 0x11 else s)

/-- TOKEN_HOLD_EXPIRE (R229): a token held for 60 s while the bay was IDLE lapses. -/
def execTokenHoldExpire (b : BayId) (s : State) : Out :=
  .next (match s.bays[b].session.heldToken with
    | some t => if t.tick + 60000000 ≤ s.now then s.onSess b fun x => { x with heldToken := none } else s
    | none => s)

/-- AC_OVERCURRENT (R227): more than 10 % above I_EFF for 10 s. -/
def execAcOvercurrent (b : BayId) (s : State) : Out :=
  .next (if ranOut s.bays[b].session.overSince 10000000 s.now then s.sessEnd b 0x0C else s)

/-- BASIC_PAUSE_TIMEOUT (R228): the vehicle has not left state C within 3 s of the steady +12 V; the contactors open under
load. -/
def execBasicPauseTimeout (b : BayId) (s : State) : Out :=
  .next (let x := s.bays[b].session
    if x.st = .energised ∧ x.proto = 4 ∧ x.basicPause ∧ !x.pauseOpened ∧ x.pilot = 2 ∧ ranOut x.basicFrom 3000000 s.now then
      (s.onSess b fun x => { x with pauseOpened := true, openLoad := bump 32 x.openLoad }).stage b 2
        ⟨96 + b.val, 0x0523, satN 32 s.bays[b].iMeas.natAbs, s.now⟩
    else s)

/-- BASIC_PWM_RESTORE (R228): I_EFF has been 6,000 mA or more for 10 s; contactors that the pause opened close again, and a
vehicle that is in state B then ends the session (log 41). -/
def execBasicPwmRestore (b : BayId) (s : State) : Out :=
  .next (let x := s.bays[b].session
    if x.st = .energised ∧ x.basicPause ∧ ranOut x.okSince 10000000 s.now then
      let s1 := s.onSess b fun x => { x with basicPause := false, pauseOpened := false, basicFrom := none }
      if x.pilot = 1 then s1.sessEnd b 0x16 else s1
    else s)

/-- FAULT_PILOT_TIMER (R223): steady +12 V after 3 s of FAULT. -/
def execFaultPilotTimer (b : BayId) (s : State) : Out :=
  .next (let x := s.bays[b].session
    if x.st = .fault ∧ x.entered + 3000000 ≤ s.now then s.onSess b fun x => { x with faultHigh := true } else s)

/-- TLS_CLOSE_TIMER (R232): the connection closes 2 s after ENDED or FAULT. -/
def execTlsCloseTimer (b : BayId) (s : State) : Out :=
  .next (match s.bays[b].session.closeAt with
    | some t => if t ≤ s.now then s.onSess b fun x => { x with tcp := false, tls := 0, closeAt := none } else s
    | none => s)

end Sys2Proof.Machine
end

