-- ==== Sys2Proof/Machine/Chans.lean ====
section
/-! DEFINITION. Protected switch channels (spec file 12). -/

namespace Sys2Proof.Machine

/-- CHAN_USED of a bay in use (R335). -/
def Bay.chanUsed (y : Bay) : Nat := if y.inUse then y.ent 320 2 % 2 ^ 12 else 0

/-- CONTACTOR_MASK of a bay in use (R238, R322). -/
def Bay.conMask (y : Bay) : Nat := if y.inUse then y.contactorMask else 0

/-- Whether a channel is a main contactor channel. -/
def Bay.isCon (y : Bay) (k : Nat) : Bool := bitOf y.conMask k

/-- Whether a channel is an earth channel: a bridge switch or the test winding (R342). -/
def Bay.isEarth (y : Bay) (k : Nat) : Bool :=
  y.inUse && ((bitOf (y.ent 384 1) 1 && (k == y.ent 408 1 % 16 || k == y.ent 408 1 / 16)) ||
    (bitOf (y.ent 384 1) 0 && k == y.ent 409 1 % 16))

/-- Whether a channel is the meter channel, which drives the test LED (R385). -/
def Bay.isLed (y : Bay) (k : Nat) : Bool := y.inUse && bitOf (y.ent 416 1) 2 && k == y.ent 417 1 % 16

/-- Whether a pulse output shows a pulse in a tick (R383). -/
def PulseOut.shows (p : PulseOut) (n : Nat) : Bool :=
  if p.level && n < p.until_ then true
  else match p.queue with
    | t :: _ => t ≤ n && p.gapUntil ≤ n
    | [] => false

/-- Whether a channel is in AUTO_RESTART (R335). -/
def Bay.autoRestart (y : Bay) (k : Nat) : Bool := bitOf (y.ent 326 2) k

/-- ILIM of a channel (R335). -/
def Bay.ilim (y : Bay) (k : Nat) : Nat := y.ent 328 6 / 16 ^ k % 8

/-- The ILIM level in mA (R318). -/
def Bay.ilimMa (y : Bay) (k : Nat) : Nat := (y.ilim k + 1) * 1000

/-- The trip level of the i2t model in mA^2 tk, at least 1 (R324). -/
def Bay.i2tTrip (y : Bay) (k : Nat) : Nat := max 1 (y.ent (334 + k) 1) * 10 ^ 10

/-- SAFE_FED (R335). -/
def Bay.safeFed (y : Bay) : Bool := bitOf (y.ent 346 1) 3

/-- SAFE_PAIR (R335). -/
def Bay.safePair (y : Bay) : Nat := bitsOf (y.ent 346 1) 4 3

/-- Whether the main contactors are commanded closed: by the session, or by the ledger's port enable (R223, R322). -/
def Bay.conCmd (y : Bay) : Bool :=
  if y.kind = 1 ∨ y.kind = 2 then y.isEv && y.grpCk.session.contactors else y.inUse && !y.safeHold && y.ledCk.portEn

/-- Whether the converter of a bay is commanded off (R223, R295, R332). -/
def Bay.convOff (y : Bay) : Bool :=
  if y.kind = 1 ∨ y.kind = 2 then y.grpCk.session.converter == 0 || y.kind == 2 else !y.ledCk.portEn

/-- Raise an event of the auxiliary cell of a bay on source 96 + b. -/
def State.chanEvent (s : State) (b : BayId) (kind data tick : Nat) : State := s.stage b 8 ⟨96 + b.val, kind, data, tick⟩

/-- Change one channel. -/
def State.onChan (s : State) (b : BayId) (k : Fin 12) (f : Chan → Chan) : State :=
  s.onChans b fun c => { c with ch := vmod c.ch k f }

/-- What a frame reports of a channel (R320): current in mA and HFLAG. -/
def reading (f : UpFrame) (k : Nat) : Nat × Nat :=
  let w := f.switchI.getD k 0
  (2 * (w % 2 ^ 14), w / 2 ^ 14 % 4)

/-- Retries that a channel may still use (R325). -/
def Bay.retriesLeft (y : Bay) (k : Nat) (c : Chan) : Nat := if y.isCon k then 0 else y.ent 349 1 % 4 - c.retries

/-- The latch that a published tick shows (R325): a short of a channel that was staged ON, or an unexpected latch. -/
def State.chanLatch (s : State) (b : BayId) (k : Fin 12) (hf : Nat) : State :=
  let y := s.bays[b]
  let c := y.grp.chans.ch[k]
  if hf < 2 then s.onChan b k fun c => { c with clearSeen := false }
  else if c.fault ≠ .none ∨ c.clearSeen then s
  else if c.was.getD 2 false then
    let left := y.retriesLeft k.val c
    let s1 := s.onChan b k fun c => { c with
      shorts := bump 16 c.shorts, clearSeen := true, resetLatch := c.resetLatch || left == 0,
      fault := if left = 0 then .latched else .shortWait s.now }
    s1.chanEvent b 0x0801 (k.val + 2 ^ 4 * hf + 2 ^ 6 * left + 2 ^ 8 * b2n (left == 0)) s.sampleTick
  else
    (s.onChan b k fun c => { c with resetLatch := true, clearSeen := true }).onChans b fun c => { c with
      latchCleared := bump 32 c.latchCleared }

/-- The i2t model (R324, R327). -/
def State.chanI2t (s : State) (b : BayId) (k : Fin 12) (i : Nat) : State :=
  let y := s.bays[b]
  let c := y.grp.chans.ch[k]
  let nom := y.ilimMa k.val / 2
  let a := max 0 (c.a + (i * i : Nat) - (nom * nom : Nat))
  let trips := !c.thermal && decide ((y.i2tTrip k.val : Int) ≤ a)
  let cools := c.thermal && a == 0
  let drop := cools && !y.autoRestart k.val
  let s1 := s.onChan b k fun c => { c with
    a := a, thermal := (c.thermal || trips) && !cools, want := c.want && !drop, blocked := c.blocked || drop }
  if trips then s1.chanEvent b 0x0802 (k.val + 2 ^ 4) s.sampleTick
  else if cools then s1.chanEvent b 0x0802 k.val s.sampleTick
  else s1

/-- The open-load check of a published tick (R326); the flag is set by OPEN_LOAD_DETECT. -/
def State.chanOpen (s : State) (b : BayId) (k : Fin 12) (i hf : Nat) : State :=
  let y := s.bays[b]
  let c := y.grp.chans.ch[k]
  let m := y.ent 352 2
  if m = 0 ∨ (y.isCon k.val ∧ y.grp.chans.feedOff) then s.onChan b k fun c => { c with openRun := 0, openFlag := false, openClear := 0 }
  else
    let low := decide (i < m)
    let run := if c.st = 2 ∧ hf = 0 ∧ low then c.openRun + 1 else 0
    let clr := if c.openFlag ∧ !low then c.openClear + 1 else 0
    let s1 := s.onChan b k fun c => { c with
      openRun := run, openClear := if 16 ≤ clr then 0 else clr, openFlag := c.openFlag && decide (clr < 16) }
    if c.openFlag ∧ 16 ≤ clr then s1.chanEvent b 0x0803 k.val s.sampleTick else s1

/-- OPEN_LOAD_DETECT (R326): below OPEN_MA for OPEN_MS. -/
def execOpenLoadDetect (b : BayId) (k : Fin 12) (s : State) : Out :=
  let y := s.bays[b]
  let c := y.grp.chans.ch[k]
  .next (if y.ent 352 2 ≠ 0 ∧ !c.openFlag ∧ c.st = 2 ∧ 0 < y.ent 354 2 ∧ 1000 * y.ent 354 2 ≤ c.openRun then
      (s.onChan b k fun c => { c with openFlag := true, openClear := 0 }).chanEvent b 0x0803 (k.val + 2 ^ 4) s.sampleTick
    else s)

/-- SHORT_RETRY (R325): SC_RETRY_MS in SHORT_WAIT are over; the channel is staged ON with RESET_LATCH. -/
def execShortRetry (b : BayId) (k : Fin 12) (s : State) : Out :=
  let y := s.bays[b]
  .next (match (y.grp.chans.ch[k]).fault with
    | .shortWait t => if t + 1000 * y.ent 350 2 ≤ s.now then
        s.onChan b k fun c => { c with fault := .none, retries := c.retries + 1, resetLatch := true }
      else s
    | _ => s)

/-- RETRY_COUNT_RESET (R325): 10 s of state ON with HFLAG 0b00. -/
def execRetryCountReset (b : BayId) (k : Fin 12) (s : State) : Out :=
  .next (if 10000000 ≤ (s.bays[b].grp.chans.ch[k]).onClean then
      s.onChan b k fun c => { c with retries := 0, onClean := 0 }
    else s)

/-- The free-wheel window of a channel in a tick (R327, R330): `i` is the current of the sample tick where it is published. -/
def FreeWheel.step (w : FreeWheel) (st fwMa : Nat) (i : Option Nat) : FreeWheel :=
  match i with
  | none => if w.t ≤ st ∧ st ≤ w.t + 20064 then { w with missing := w.missing + 1 } else w
  | some i =>
    { w with
      i0 := if st + 1 = w.t then i else w.i0,
      at64 := if st = w.t + 64 then some i else w.at64,
      atEnd := if st = w.t + 20064 then some i else w.atEnd,
      below := if w.below.isNone ∧ w.t < st ∧ i < fwMa then some st else w.below }

/-- FREEWHEEL_VERDICT (R330): the window of a turn-off is over. -/
def execFreewheelVerdict (b : BayId) (k : Fin 12) (s : State) : Out :=
  let y := s.bays[b]
  let ma := y.ent 356 2
  .next (match (y.grp.chans.ch[k]).fw with
    | none => s
    | some w =>
      if s.now < w.t + 20066 then s
      else
        let s0 := s.onChan b k fun c => { c with fw := none }
        if w.i0 < 4 * ma ∨ 16 < w.missing then s0
        else match w.at64, w.atEnd with
          | some x, some e =>
            if x < ma then s0.onChan b k fun c => { c with noFw := false }
            else if e < ma then
              let d := (w.below.getD (w.t + 20064)) - w.t
              let latch := bitOf (y.ent 324 2) k.val
              let s1 := s0.onChan b k fun c => { c with noFw := true, fault := if latch then .latched else c.fault }
              s1.chanEvent b 0x0804 (k.val + 2 ^ 4 * b2n latch + 2 ^ 8 * satN 8 (w.i0 / 16) + 2 ^ 16 * satN 16 d) (w.t + d)
            else (s0.onChan b k fun c => { c with fault := .latched }).chanEvent b 0x0805 (k.val + 2 ^ 16 * satN 16 e) (w.t + 20064)
          | _, _ => s0)

/-- What a channel reads in a tick: latch, i2t, open load, close confirmation, free-wheel (R324 to R331). -/
def State.chanRead (s : State) (b : BayId) (k : Fin 12) : State :=
  let y := s.bays[b]
  let c := y.grp.chans.ch[k]
  let feedWait := y.grp.chans.feedOff || (match y.grp.chans.feedOnAt with
    | some t => decide (s.now < t + 16)
    | none => false)
  let hold := fun (i hf : Nat) => decide (y.ent 358 2 ≤ i) && hf == 0
  match y.link.frame with
  | some f =>
    let r := reading f k.val
    let good := c.st == 2 && hold r.1 r.2
    let s1 := (s.chanLatch b k r.2).chanI2t b k r.1
    let s2 := s1.chanOpen b k r.1 r.2
    s2.onChan b k fun c => { c with
      iMa := r.1, hflag := r.2, onClean := if c.st = 2 ∧ r.2 = 0 then c.onClean + 1 else 0,
      holdRun := if good && !(y.isCon k.val && feedWait) then c.holdRun + 1 else 0,
      failRun := if good then 0 else c.failRun + 1,
      fw := c.fw.map fun w => w.step s.sampleTick (y.ent 356 2) (some r.1) }
  | none =>
    let s1 := s.chanI2t b k (if c.was.getD 2 false then y.ilimMa k.val else 0)
    s1.onChan b k fun c => { c with
      holdRun := 0, fw := c.fw.map fun w => w.step s.sampleTick (y.ent 356 2) none }

/-- The supply of the channels (R327, R328). -/
def State.chanSupply (s : State) (b : BayId) : State :=
  let y := s.bays[b]
  let x := y.grp.chans
  if !bitOf (y.ent 346 1) 0 then s.onChans b fun c => { c with uvRun := 0, uvOff := false, uvOkSince := none }
  else match y.link.frame with
    | none => s.onChans b fun c => { c with uvOkSince := none }
    | some f =>
      let v := imean (UpFrame.chan f (y.ent 347 1 % 16)) * (y.ent 368 4 : Int) / 1000
      let run := if v < y.ent 362 2 then x.uvRun + 1 else 0
      let trips := !x.uvOff && 8 ≤ run
      let s1 := s.onChans b fun c => { c with
        vaux := v, uvRun := run, uvOff := c.uvOff || trips,
        uvOkSince := if (y.ent 364 2 : Int) ≤ v then some (c.uvOkSince.getD s.now) else none }
      if trips then s1.chanEvent b 0x0806 (1 + 2 ^ 16 * satN 16 (v / 100).toNat) s.sampleTick else s1

/-- UV_RESTART (R328): the supply has stayed at or above UV_ON_MV for UV_RESTART_MS. -/
def execUvRestart (b : BayId) (s : State) : Out :=
  let y := s.bays[b]
  let x := y.grp.chans
  .next (match x.uvOkSince with
    | some t => if x.uvOff ∧ t + 1000 * y.ent 366 2 ≤ s.now then
        let s1 := s.onChans b fun c => { c with
          uvOff := false, uvRun := 0,
          ch := Vector.ofFn fun k => if y.autoRestart k.val then c.ch[k] else { c.ch[k] with want := false, blocked := true } }
        s1.chanEvent b 0x0806 (2 ^ 16 * satN 16 (x.vaux / 100).toNat) s.sampleTick
      else s
    | none => s)

/-- The safety feed (R334): a change raises CHAN_FEED. -/
def State.chanFeed (s : State) (b : BayId) : State :=
  let y := s.bays[b]
  let off := y.safeFed && !s.safePairs.getLsbD y.safePair
  if off = y.grp.chans.feedOff then s
  else
    (s.onChans b fun c => { c with feedOff := off, feedOnAt := if off then none else some s.now }).chanEvent b 0x0809
      (y.safePair + 2 ^ 3 * b2n off) s.now

/-- The commands that wait for their tick (R337, R338). -/
def State.chanCmds (s : State) (b : BayId) : State :=
  let due := s.bays[b].grp.chans.waiting.filter fun w => w.1 ≤ s.now
  let s1 := s.onChans b fun c => { c with waiting := c.waiting.filter fun w => s.now < w.1 }
  due.foldl (fun t w => t.onChans b fun c => { c with
    ch := Vector.ofFn fun k =>
      let x := c.ch[k]
      if !bitOf w.2.1 k.val then x
      else if w.2.2 = 2 ^ 16 then
        { x with fault := .none, want := false, blocked := true, retries := 0, resetLatch := true, clearSeen := true }
      else { x with want := bitOf w.2.2 k.val } }) s1

/-- The state of a channel (R323). -/
def State.chanState (s : State) (b : BayId) (k : Fin 12) (want : Bool) : Nat :=
  let y := s.bays[b]
  let c := y.grp.chans.ch[k]
  if !bitOf y.chanUsed k.val then 0
  else if c.fault = .latched then 8
  else if c.fault ≠ .none then 7
  else if c.thermal then 6
  else if y.headStopped && (y.isCon k.val || bitOf (y.ent 322 2) k.val) then 5
  else if y.isCon k.val && y.grp.chans.feedOff then 4
  else if y.grp.chans.uvOff then 3
  else if want then 2 else 1

/-- One channel is staged (R322, R323, R330, R385). A turn-off opens a free-wheel window; in a stop it begins with the first sample tick
that shows it. -/
def State.chanStage (s : State) (b : BayId) (k : Fin 12) : State :=
  let y := s.bays[b]
  let c := y.grp.chans.ch[k]
  let con := y.isCon k.val
  let block := con && y.conCmd && (c.blocked || y.grp.chans.feedOff)
  let want := if con then y.conCmd && !block else if y.isEarth k.val then bitOf y.earthCk.wants k.val
    else if y.isLed k.val then y.meterCk.led.shows (s.now + 1) else c.want
  let st := s.chanState b k want
  let on := st == 2
  let was := c.was.headD false
  let turnOff := was && !on
  let t := if st = 5 then s.sampleTick else s.now + 1
  let fw := if on ∨ (con ∧ y.grp.chans.feedOff) then none
    else if turnOff then some ⟨t, if st = 5 then c.iMa else 0, 0, none, none, none⟩
    else c.fw
  s.onChan b k fun c => { c with
    want := want, blocked := if con then block else false, st := st, fw := fw,
    onSince := if on then some (c.onSince.getD (s.now + 1)) else none,
    holdRun := if on then c.holdRun else 0, failRun := if on ∨ was then c.failRun else 0,
    openRun := if on then c.openRun else 0,
    byte := if st = 0 then 0 else b2n on + 2 * b2n c.resetLatch + 4 * y.ilim k.val,
    resetLatch := false, was := (on :: c.was).take 4 }

/- Contactors (R331, R332). -/

/-- The channels of CONTACTOR_MASK. -/
def Bay.conChans (y : Bay) : List (Fin 12) := (List.finRange 12).filter fun k => y.isCon k.val

/-- Close confirmation (R331): the report changes when every contactor channel holds, and falls with the command. -/
def State.conConfirm (s : State) (b : BayId) : State :=
  let y := s.bays[b]
  let x := y.grp.chans
  let cmd := y.conCmd && !x.feedOff
  let cmdAt := if cmd then some (x.closeCmd.getD s.now) else none
  let ok := cmd && y.conChans.all fun k =>
    let c := x.ch[k]
    c.st == 2 && 16 ≤ c.holdRun && (match c.onSince with
      | some t => decide (t + 1000 * y.ent 360 1 ≤ s.now)
      | none => false)
  if !cmd then s.onChans b fun c => { c with closed := false, closeCmd := none, lost := if y.conCmd then c.lost else 0 }
  else if x.closed ∨ !ok then s.onChans b fun c => { c with closeCmd := cmdAt }
  else
    let ms := (s.now - cmdAt.getD s.now) / 1000
    (s.onChans b fun c => { c with closed := true, closeCmd := cmdAt, closeMs := satN 16 ms }).stage b 8
      ⟨b.val, 0x0807, y.conMask + 2 ^ 16 * satN 16 ms, s.now⟩

/-- CONTACTOR_LOST (R331): a contactor that was closed fails for 16 consecutive published ticks. -/
def execContactorLost (b : BayId) (s : State) : Out :=
  let y := s.bays[b]
  let bad := y.conChans.filter fun k => 16 ≤ (y.grp.chans.ch[k]).failRun
  let m := (bad.map fun k => 2 ^ k.val).sum
  .next (if y.grp.chans.closed ∧ !bad.isEmpty then
      (s.onChans b fun c => { c with closed := false, lost := m }).chanEvent b 0x080A m s.sampleTick
    else s)

/-- A block of the weld check that begins. -/
def WeldBlk.start (last : Nat) : WeldBlk := ⟨last, 0, 0, 0, 0, 0, 0⟩

/-- The weld check of a tick (R332): it starts when the contactor channels are turned off from ON while the converter is off, and
gathers its blocks. -/
def State.weldTick (s : State) (b : BayId) (wasOn : Bool) : State :=
  let y := s.bays[b]
  let x := y.grp.chans
  let nowOn := y.conChans.any fun k => (x.ch[k]).st == 2
  if nowOn then s.onChans b fun c => { c with weld := none }
  else if wasOn ∧ y.convOff then
    let t := if y.conChans.any (fun k => (x.ch[k]).st == 5) then s.sampleTick else s.now + 1
    s.onChans b fun c => { c with weld := some ⟨t, WeldBlk.start (t + 50999), [], [], 0⟩ }
  else match x.weld, y.link.frame with
    | some w, some f =>
      let st := s.sampleTick
      let ci := UpFrame.chan f (y.ent 348 1 % 16)
      let co := UpFrame.chan f (y.ent 348 1 / 16)
      let ended := w.cur.last < st
      let w1 : WeldCheck := if ended then { w with ready := w.ready ++ [w.cur], cur := WeldBlk.start (w.cur.last + 1000) } else w
      let k := w1.cur
      let w2 : WeldCheck := if k.last < st + 1000 then
          let mi := imean ci
          let mo := imean co
          { w1 with cur := { k with sumIn := k.sumIn + isum ci, sumOut := k.sumOut + isum co, n := k.n + ci.length,
                                    sqIn := k.sqIn + mi * mi, sqOut := k.sqOut + mo * mo, ticks := k.ticks + 1 } }
        else w1
      s.onChans b fun c => { c with weld := some w2 }
    | some w, none =>
      if w.cur.last < s.sampleTick then
        s.onChans b fun c => { c with weld := some { w with ready := w.ready ++ [w.cur], cur := WeldBlk.start (w.cur.last + 1000) } }
      else s
    | none, _ => s

/-- A code of a weld channel in mV. -/
def Bay.weldMv (y : Bay) (x : Int) : Int := x * (y.ent 372 4 : Int) / 1000

/-- What a block says (R332): the verdict if it decides (1 OK, 2 WELDED, 3 UNTESTED) and the difference in mV. `judged` counts the
blocks judged before. -/
def Bay.weldJudge (y : Bay) (w : WeldCheck) (k : WeldBlk) : Option Nat × Nat :=
  let mode := bitsOf (y.ent 346 1) 1 2
  let last := w.judged + 1 ≥ 1000
  let min_ : Int := y.ent 378 2
  if mode = 1 then
    if k.n = 0 then (if last then some 2 else none, 0)
    else
      let vi := y.weldMv (k.sumIn / (k.n : Int))
      let vo := y.weldMv (k.sumOut / (k.n : Int))
      let d := (vi - vo).natAbs
      (if y.ent 376 2 ≤ d then some 1 else if vi.natAbs < min_ ∧ vo.natAbs < min_ then some 3
        else if last then some 2 else none, d)
  else
    let bs := k :: w.old.take 19
    let n := (bs.map (·.ticks)).sum
    if bs.length < 20 ∨ n = 0 then (if last then some 2 else none, 0)
    else
      let ri := y.weldMv (isqrt ((isum (bs.map (·.sqIn))).toNat / n))
      let ro := y.weldMv (isqrt ((isum (bs.map (·.sqOut))).toNat / n))
      (if ro < min_ then some 1 else if ri < min_ then some 3 else if last then some 2 else none, (ri - ro).natAbs)

/-- A weld verdict reaches the session and the host (R332, R339). -/
def State.weldVerdict (s : State) (b : BayId) (v diff stamp : Nat) : State :=
  let s1 := s.onChans b fun c => { c with weld := none, weldLast := v, untested := if v = 3 then bump 32 c.untested else c.untested }
  (s1.stage b 8 ⟨b.val, 0x0808, v + 2 ^ 16 * satN 16 (diff / 100), stamp⟩).sessWeld b v

/-- WELD_BLOCK (R332): a block is judged; without a weld check the verdict is UNTESTED at t + 50,000. -/
def execWeldBlock (b : BayId) (s : State) : Out :=
  let y := s.bays[b]
  .next (match y.grp.chans.weld with
    | none => s
    | some w =>
      if bitsOf (y.ent 346 1) 1 2 = 0 then (if w.t + 50002 ≤ s.now then s.weldVerdict b 3 0 (w.t + 50000) else s)
      else match w.ready with
        | [] => s
        | k :: rest =>
          let j := y.weldJudge w k
          match j.1 with
          | some v => s.weldVerdict b v j.2 k.last
          | none => s.onChans b fun c => { c with
              weld := some { w with ready := rest, old := (k :: w.old).take 19, judged := w.judged + 1 } })

/-- The compute tick of the auxiliary cell as far as channels go (R322 to R334). -/
def State.chansTick (s : State) (b : BayId) : State :=
  let all := List.finRange 12
  let s1 := ((s.chanFeed b).chanSupply b).chanCmds b
  let s2 := all.foldl (fun t k => if bitOf s.bays[b].chanUsed k.val then t.chanRead b k else t) s1
  let wasOn := s2.bays[b].conChans.any fun k => (s2.bays[b].grp.chans.ch[k]).st == 2
  let s3 := all.foldl (fun t k => t.chanStage b k) s2
  (s3.conConfirm b).weldTick b wasOn

/-- Every want is OFF after a BAY_RELOAD that moves BAY_GEN (R322). -/
def Chans.reload (c : Chans) : Chans := { c with ch := c.ch.map fun x => { x with want := false } }

/- Commands (R336 to R338). -/

/-- A mask of the channels for which something holds. -/
def Chans.maskOf (c : Chans) (f : Chan → Bool) : Nat :=
  ((List.finRange 12).map fun k => if f c.ch[k] then 2 ^ k.val else 0).sum

/-- CHAN_STATUS (R336). -/
def cardChanStatus (o : Origin) (bay : Nat) (s : State) : State :=
  card o 0x0801 ((List.replicate 12 [8, 8, 16, 8, 8, 16]).flatten ++ [16, 16, 16, 16, 32, 8, 8, 16, 32, 32, 32])
    (fun t => [bayPermit o [0, 2] 1 bay t, rng 1 (bay < 96)])
    (fun t => (t, atBay bay [] fun b =>
      let y := t.bays[b]
      let x := y.grpCk.chans
      (List.finRange 12).flatMap (fun k =>
        let c := x.ch[k]
        [c.st, c.hflag, satN 16 c.iMa, satN 8 (c.a.toNat * 100 / y.i2tTrip k.val), c.retries, c.shorts]) ++
      [x.maskOf (·.want), x.maskOf (·.openFlag), x.maskOf (·.noFw), 0, satN 32 x.vaux.toNat, x.weldLast, b2n x.closed, x.closeMs,
        x.untested, x.latchCleared, t.gens.bay[b]])) s

/-- The command CHAN_STATUS (R336). -/
def execChanStatus (o : Origin) (bay : Nat) (s : State) : Out := .next (cardChanStatus o bay s)

/-- CHAN_SET (R337). -/
def cardChanSet (o : Origin) (bay mask on : Nat) (s : State) : State :=
  card o 0x0802 [16, 16, 64]
    (fun t => [ownPermit o 1 bay t, rng 1 (bay < 96),
      need (atBay bay true fun b =>
        let y := t.bays[b]
        (List.range 16).all fun k => !bitOf mask k || (bitOf y.chanUsed k && !y.isCon k && !y.isEarth k && !y.isLed k)) stNOT_PERMITTED 3,
      need (atBay bay true fun b =>
        let y := t.bays[b]
        (List.finRange 12).all fun k => !bitOf mask k.val || !bitOf on k.val ||
          ((y.grp.chans.ch[k]).fault != .latched && (!y.grp.chans.uvOff || y.autoRestart k.val))) stBAD_STATE 0])
    (fun t => atBay bay (t, []) fun b =>
      let x := t.bays[b].grp.chans
      let want := (x.maskOf (·.want) &&& (0xFFFF - mask)) ||| (on &&& mask)
      (t.onGrpBoth b fun g => { g with chans := { g.chans with waiting := g.chans.waiting ++ [(t.now + 1, mask, on)] } },
        [want, 0, t.now + 2])) s

/-- The command CHAN_SET (R337). -/
def execChanSet (o : Origin) (bay mask on : Nat) (s : State) : Out := .next (cardChanSet o bay mask on s)

/-- CHAN_RESET (R338). -/
def cardChanReset (o : Origin) (bay mask : Nat) (s : State) : State :=
  card o 0x0803 [64]
    (fun t => [ownPermit o 1 bay t, rng 1 (bay < 96),
      need (atBay bay true fun b => (List.range 16).all fun k => !bitOf mask k ||
        (if h : k < 12 then (t.bays[b].grp.chans.ch[k]).fault == .latched else false)) stBAD_STATE 0])
    (fun t => atBay bay (t, []) fun b =>
      (t.onGrpBoth b fun g => { g with chans := { g.chans with waiting := g.chans.waiting ++ [(t.now + 1, mask, 2 ^ 16)] } },
        [t.now + 2])) s

/-- The command CHAN_RESET (R338). -/
def execChanReset (o : Origin) (bay mask : Nat) (s : State) : Out := .next (cardChanReset o bay mask s)

end Sys2Proof.Machine
end

