-- ==== Sys2Proof/Machine/LoopCheck.lean ====
section
/-! DEFINITION. The feedback checks of the loops (R306 to R309), made by the current-loop cell and by the planner alike. -/

namespace Sys2Proof.Machine

/-- CL_COUNT (R314), at most 4. -/
def Bay.clCount (y : Bay) : Nat := min 4 (y.ent 256 1)

/-- The legs of a current loop that are used, as a mask (R298, R314). -/
def Bay.loopLegs (y : Bay) (l : Nat) : Nat := (y.ent (258 + l) 1) &&& (y.ent 192 1)

/-- CH_I of a loop (R314). -/
def Bay.chI (y : Bay) (l : Nat) : Nat := y.ent 262 2 / 16 ^ l % 16

/-- CH_VOUT (R314). -/
def Bay.chVout (y : Bay) : Nat := y.ent 264 1 % 16

/-- CH_VLINK (R314). -/
def Bay.chVlink (y : Bay) : Nat := y.ent 264 1 / 16

/-- The longest run of samples at or above a magnitude that ends a list, carried on from `run`, and the longest run met. -/
def overRuns (lim : Nat) : Nat → Nat → List Int → Nat × Nat
  | run, best, [] => (run, best)
  | run, best, x :: t =>
    let r := if lim ≤ x.natAbs then run + 1 else 0
    overRuns lim r (max best r) t

/-- The expected ripple of R308 in 1/256 code, rounded down (log 20). -/
def Bay.ripple (y : Bay) (vlink : Int) (d0 : Nat) : Nat :=
  256 * 10 * (y.ent 313 1 * vlink.toNat * y.ent 270 4 * d0 * (65536 - d0) * y.ent 200 4) /
    (128 * 2 ^ 48 * max 1 (y.ent 310 2) * max 1 (y.ent 266 4))

/-- Whether the variance of a full window lies below FROZEN_FRAC of the mean of delta squared / 12 (R308). -/
def frozenWindow (frac : Nat) (win : List (Bool × List Int × Nat)) : Bool :=
  let xs := win.flatMap fun w => w.2.1
  let n : Int := xs.length
  let s := isum xs
  let q := isum (xs.map fun x => x * x)
  let d := (win.map fun w => w.2.2 * w.2.2).sum
  decide ((n * q - s * s) * (256 * 12 * 32 * 65536) < (frac * d : Nat) * (n * n))

/-- The checks of one loop on a published frame: the loop with its runs and window carried on, and whether it finds an
overcurrent, a frozen feedback, and a full window. -/
def Bay.checkLoop (y : Bay) (f : UpFrame) (running run_ : Bool) (idle : List (Nat × Nat)) (st : Nat) (vlink : Int) (l : Nat)
    (c : CurLoop) : CurLoop × Bool × Bool × Bool :=
  let xs := UpFrame.chan f (y.chI l)
  let r := overRuns (y.ent 306 2) c.overRun 0 xs
  let delta := y.ripple vlink c.d0
  let legsOk := (List.range 8).all fun m => !bitOf (y.loopLegs l) m || !idle.contains (m, st)
  let ok := run_ && legsOk && decide (16 * 256 ≤ delta)
  let win := ((ok, xs, delta) :: c.win).take 32
  let full := win.length == 32 && win.all (·.1)
  let frozen := full && bitOf (y.ent 257 1) 0 && frozenWindow (y.ent 312 1) win
  ({ c with overRun := if running then r.1 else 0, win := win }, running && 4 ≤ r.2, frozen, full)

/-- The checks of R307 to R309 in a compute tick: the loops with their runs carried on, and the causes found with the loop
concerned. `running` is BOOT or RUN, `run_` is RUN. -/
def Bay.loopChecks (y : Bay) (k : Loops) (running run_ : Bool) (idle : List (Nat × Nat)) (now : Nat) :
    Loops × List (Nat × Nat) :=
  match y.link.frame with
  | none =>
    let m := if running then k.missRun + 1 else 0
    ({ k with missRun := m, cur := k.cur.map fun c => { c with overRun := 0, win := [] } }, if 2 ≤ m then [(1, 0xFF)] else [])
  | some f =>
    let vl := imean (UpFrame.chan f y.chVlink)
    let vo := imean (UpFrame.chan f y.chVout)
    let r := (List.finRange 4).map fun l =>
      if l.val < y.clCount then y.checkLoop f running run_ idle (now - 2) vl l.val k.cur[l] else (k.cur[l], false, false, false)
    let get := fun (l : Fin 4) => r.getD l.val (k.cur[l], false, false, false)
    let find := fun (p : CurLoop × Bool × Bool × Bool → Bool) => (List.finRange 4).find? fun l => p (get l)
    let frozen := match find fun x => x.2.2.1 with
      | some l => [(2, l.val)]
      | none => []
    let excess := match find fun x => x.2.1 with
      | some l => [(3, l.val)]
      | none => []
    let lim : Int := y.ent 308 2
    let volt := if running && (decide (lim ≤ vo) || decide (lim ≤ vl)) then [(4, 0xFF)] else []
    let full := r.any fun x => x.2.2.2
    ({ k with missRun := 0, cur := Vector.ofFn fun l => (get l).1,
              frozenWindows := if full then bump 32 k.frozenWindows else k.frozenWindows },
      frozen ++ excess ++ volt)

end Sys2Proof.Machine
end

