-- ==== Sys2Proof/Machine/Scorebook.lean ====
section
/-! DEFINITION. The scorebook and fatal events: where records go, freezing, the island copy (spec file 21). -/

namespace Sys2Proof

/-- The region of a cell. -/
def CellId.region : CellId → RegionId
  | .bay b _ => regionOf b
  | .site r _ => r

/-- The region slot of a cell (R14). -/
def CellId.slot : CellId → Nat
  | .bay b off => 10 * (b.val % 6) + off.val
  | .site _ k => 60 + k.val

/-- The number of a cell: 64 · region + region slot. -/
def CellId.key (c : CellId) : Nat := 64 * c.region.val + c.slot

/-- The number of the block that holds a cell: 8 · region + block. -/
def CellId.block (c : CellId) : Nat := c.key / 8

/-- The bay of a cell, 0xFF for a site cell. -/
def CellId.bayNo : CellId → Nat
  | .bay b _ => b.val
  | .site _ _ => 0xFF

end Sys2Proof

namespace Sys2Proof.Machine

/-- Change the fault state. -/
def State.onFaults (s : State) (f : Faults → Faults) : State := { s with faults := f s.faults }

/-- The cell of a region slot (R14, R16). -/
def cellAt (r : RegionId) (q : Nat) : Option CellId :=
  if q < 60 then
    match bayOf (6 * r.val + q / 10) with
    | some b => some (.bay b ⟨q % 10, by omega⟩)
    | none => none
  else if q < 64 then some (.site r ⟨(q - 60) % 4, by omega⟩)
  else none

/-- The court tag of a cell (R15, R16). -/
def State.cellTag (s : State) : CellId → Nat
  | .bay b off => if off.val = 6 then 1 else if off.val = 7 ∨ off.val = 9 then 2 else s.owner b
  | .site _ _ => 0

/-- What is kept of a cell. -/
def State.cellRec (s : State) (c : CellId) : CellRec := agetD s.faults.cells c.key CellRec.reset

/-- Change what is kept of a cell. -/
def State.onCell (s : State) (c : CellId) (f : CellRec → CellRec) : State :=
  s.onFaults fun x => { x with cells := aset x.cells c.key (f (agetD x.cells c.key CellRec.reset)) }

/-- What is kept of a block. -/
def State.blockRec (s : State) (n : Nat) : BlockRec := agetD s.faults.blocks n BlockRec.reset

/-- Change what is kept of a block. -/
def State.onBlock (s : State) (n : Nat) (f : BlockRec → BlockRec) : State :=
  s.onFaults fun x => { x with blocks := aset x.blocks n (f (agetD x.blocks n BlockRec.reset)) }

/-- Whether an assist of a block has failed: 0 FFT, 1 decoder, 2 CRC unit, 3 decimation (R584). -/
def State.assistFailed (s : State) (block a : Nat) : Bool := bitOf (s.blockRec block).assists a

/-- The block whose assists serve Green PHY of a bay: that of its PLC cells (R17). -/
def plcBlock (b : BayId) : Nat := 8 * (b.val / 6) + 10 * (b.val % 6) / 8

/-- The block whose FFT assist serves the arc spectra of a bay (R351). -/
def arcBlock (b : BayId) : Nat := 8 * (b.val / 6) + (if b.val % 6 < 3 then 4 else 7)

/-- Whether the spare of its block runs a cell. -/
def State.covered (s : State) (c : CellId) : Bool :=
  (s.cellRec c).st == 2 || ((s.cellRec c).st == 4 && (s.blockRec c.block).spare == 1)

/-- The record of a happening at a cell (R591). -/
def State.cellSb (s : State) (c : CellId) (tick level code data0 data1 : Nat) : SbRec :=
  { tick := tick, level := level, code := code, region := c.region.val, block := c.slot / 8, slot := c.slot % 8,
    phys := if s.covered c then 8 else c.slot % 8, bay := c.bayNo, court := s.cellTag c, store := 0, data0 := data0, data1 := data1 }

/-- The record of a happening at a bay. -/
def baySb (b : BayId) (tick code data0 data1 : Nat) : SbRec :=
  { tick := tick, level := 1, code := code, region := (regionOf b).val, block := 0, slot := 0, phys := 0, bay := b.val, court := 0, store := 0,
    data0 := data0, data1 := data1 }

/-- The record of a happening at a block, a region or the chip. -/
def siteSb (tick level code region block data0 data1 : Nat) : SbRec :=
  { tick := tick, level := level, code := code, region := region, block := block, slot := 0, phys := 0, bay := 0xFF, court := 0, store := 0,
    data0 := data0, data1 := data1 }

/-- A record into the last-word registers (R596). -/
def Scorebook.lastWord (k : Scorebook) (r : SbRec) : Scorebook :=
  { k with lw := k.lw.set (k.lwNext % 8) ⟨r.tick % 2 ^ 32, r.code, r.region, r.block, r.slot, r.data0 % 2 ^ 32⟩ (by omega),
           lwNext := (k.lwNext + 1) % 8, lwCount := bump 16 k.lwCount }

/-- A record written: into the ring, or while the scorebook is frozen or has failed into the last-word registers (R590, R593, R595). -/
def Scorebook.put (k : Scorebook) (r : SbRec) : Scorebook :=
  if k.frozen || k.failed then k.lastWord r
  else { k with recs := (r :: k.recs).take 8192, next := (k.next + 1) % 2 ^ 32 }

/-- A record for one code and one cell: at most 16 a second; those left out are counted in the next one (R590). -/
def Scorebook.write (k : Scorebook) (cell now : Nat) (r : SbRec) : Scorebook :=
  match k.rates.find? fun x => x.code == r.code && x.cell == cell with
  | some x =>
    let rest := k.rates.filter fun x => !(x.code == r.code && x.cell == cell)
    if now < x.from_ + 1000000 ∧ 16 ≤ x.n then { k with rates := { x with left := bump 16 x.left } :: rest }
    else
      let y : SbRate := if now < x.from_ + 1000000 then { x with n := x.n + 1, left := 0 } else { x with from_ := now, n := 1, left := 0 }
      { k with rates := y :: rest }.put { r with data1 := r.data1 % 2 ^ 56 + x.left * 2 ^ 56 }
  | none => { k with rates := ⟨r.code, cell, now, 1, 0⟩ :: k.rates }.put r

/-- Write a record (R590). -/
def State.sbWrite (s : State) (cell : Nat) (r : SbRec) : State :=
  s.onFaults fun x => { x with book := x.book.write cell s.now r }

/-- Write a record that is of no cell. -/
def State.sbNote (s : State) (r : SbRec) : State := s.sbWrite (1024 + 16 * r.region + r.block) r

/-- Write the record of a happening at a cell. -/
def State.sbCell (s : State) (c : CellId) (tick code data0 data1 : Nat) : State := s.sbWrite c.key (s.cellSb c tick 1 code data0 data1)

/-- The island copy of the newest 1,023 records begins: MARK is cleared first (R594). -/
def Faults.startCopy (x : Faults) (now : Nat) : Faults :=
  let k := x.book
  let rs := (k.recs.take 1023).reverse
  { x with copy := { x.copy with mark := false, busy := some (now, (k.next + 2 ^ 32 - rs.length) % 2 ^ 32, rs) } }

/-- A fatal event (R588, R593): its record is written, the scorebook freezes, and the island copy begins, unless SB_FAIL is set (R595).
While frozen, the record only goes to the last-word registers. -/
def State.fatal (s : State) (r : SbRec) : State :=
  let s1 := (s.onFaults fun x => { x with fatal := true }).sbNote r
  let k := s1.faults.book
  if k.frozen then s1
  else
    let s2 := (s1.onFaults fun x =>
      let y := { x with book := { x.book with frozen := true, freezeTick := s.now } }
      if k.failed then y else y.startCopy s.now)
    (s2.raiseNow 453 0x1015 r.code).sbNote (siteSb s.now 5 0x0501 0 0 r.code (k.next - 1))

/-- The scorebook fails (R595, R603). -/
def State.sbFail (s : State) : State :=
  if s.faults.book.failed then s
  else (s.onFaults fun x => { x with book := { x.book with failed := true } }).raiseNow 454 0x1016 s.faults.book.lwNext

/-- ISLAND_COPY_DONE (R594): the header is written last; FREEZES counts. -/
def execIslandCopyDone (s : State) : Out :=
  .next (match s.faults.copy.busy with
    | some (t, first, rs) =>
      if s.island.running then
        s.onFaults fun x => { x with copy := { x.copy with
          mark := !rs.isEmpty, tick := t, first := first, freezes := bump 32 x.copy.freezes, recs := rs, busy := none } }
      else s
    | none => s)

end Sys2Proof.Machine
end

