-- ==== Sys2Proof/Machine/Earth.lean ====
section
/-! DEFINITION. Residual current, insulation and arc evaluation (spec file 13). -/

namespace Sys2Proof.Machine

/-- A flag of the earth sub-block (R359): 0 RC_EN, 1 IMD_EN, 2 ARC_EN, 3 GRID_60HZ, 4 RC_AUTO_CLEAR; none for a bay not in use. -/
def Bay.earthFlag (y : Bay) (i : Nat) : Bool := y.inUse && bitOf (y.ent 384 1) i

/-- W: a period of the grid frequency in ticks (R343). -/
def Bay.earthW (y : Bay) : Nat := if bitOf (y.ent 384 1) 3 then 16667 else 20000

/-- Whether a main contactor channel is ON as the auxiliary cell has committed it. -/
def Bay.conOnCk (y : Bay) : Bool := (List.finRange 12).any fun k => y.isCon k.val && y.grpCk.chans.ch[k].st == 2

/-- Whether every main contactor channel is ON as committed (R347). -/
def Bay.conAllCk (y : Bay) : Bool :=
  (List.finRange 12).all fun k => !y.isCon k.val || y.grpCk.chans.ch[k].st == 2

/-- Whether an earth channel showed the wanted state in the published tick: ON with HFLAG 0b00, or OFF (R342, R346, R349). -/
def Bay.earthShows (y : Bay) (f : UpFrame) (k : Nat) (on : Bool) : Bool :=
  if h : k < 12 then
    (y.grpCk.chans.ch[(⟨k, h⟩ : Fin 12)].was.getD 2 false) == on && (!on || (reading f k).2 == 0)
  else false

/-- Raise an event of the earth cell of a bay (R363). -/
def State.earthEvent (s : State) (b : BayId) (kind data tick : Nat) : State := s.stage b 7 ⟨96 + b.val, kind, data % 2 ^ 32, tick⟩

/- Trips (R355, R356). -/

/-- Whether a cause is recorded or counted and not yet released. -/
def Earth.holds (e : Earth) (c : Nat) : Bool := (e.trip == c || bitOf e.counted (c - 1)) && !bitOf e.cleared c

/-- Set or clear bit `i` of a number. -/
def putBit (x i : Nat) (v : Bool) : Nat := if bitOf x i then (if v then x else x - 2 ^ i) else (if v then x + 2 ^ i else x)

/-- One cause takes effect: it raises the trip line; the first is recorded, another counted (R355, R356). -/
def Earth.cause (e : Earth) (c : Nat) : Earth :=
  if e.holds c then e
  else
    { e with
      trip := if e.trip = 0 then c else e.trip,
      counted := if e.trip = 0 ∨ e.trip = c then e.counted else putBit e.counted (c - 1) true,
      cleared := putBit e.cleared c false,
      line := e.line ++ [c],
      insOk := e.insOk && c != 6,
      imdOk := e.imdOk && c != 7,
      rcTrips := if 1 ≤ c ∧ c ≤ 3 then bump 32 e.rcTrips else e.rcTrips,
      arcTrips := if c = 8 then bump 32 e.arcTrips else e.arcTrips }

/-- Causes take effect in ascending order, so that the lowest of a tick is recorded (R356). -/
def Earth.causes (e : Earth) (cs : List Nat) : Earth :=
  (List.range 13).foldl (fun x c => if cs.contains c then x.cause c else x) e

/-- A cause is released by something other than EARTH_RESET. -/
def Earth.clear (e : Earth) (c : Nat) : Earth := if e.holds c then { e with cleared := putBit e.cleared c true } else e

/-- The causes of a trip, ascending. -/
def Earth.standing (e : Earth) : List Nat := (List.range 13).filter fun c => 1 ≤ c && (e.trip == c || bitOf e.counted (c - 1))

/-- No trip, its latch released (R356). -/
def Earth.released (e : Earth) (now : Nat) : Earth :=
  { e with trip := 0, counted := 0, cleared := 0, line := [], settle := now + 50000 }

/-- Whether a condition has held for 1 s. -/
def heldFor (since : Option Nat) (now : Nat) : Bool :=
  match since with
  | some t => decide (t + 1000000 ≤ now)
  | none => false

/-- Whether EARTH_RESET may release a cause now (R356). -/
def Bay.resetMet (y : Bay) (now c : Nat) : Bool :=
  let e := y.earthCk
  bitOf e.cleared c ||
  (if c = 1 then heldFor e.dcSince now
   else if c = 2 then heldFor e.acSince now
   else if c = 3 then heldFor e.dcSince now && heldFor e.acSince now
   else if c = 4 then heldFor e.rcSince now
   else if c = 6 then e.insOk
   else if c = 7 then e.imdOk
   else if c = 8 then true
   else if c = 9 then heldFor e.arcSince now
   else if c = 12 then y.serving && 1000 ≤ e.goodRun
   else false)

/- Residual current (R343 to R345). -/

/-- The level of a row of R344 in nA, D1 to D3 then A1 to A3. -/
def Bay.rcLevel (y : Bay) (i : Nat) : Nat :=
  let n := y.ent 386 2 * 1000000
  [6000000, 60000000, 200000000, n, 2 * n, 5 * n].getD i 0

/-- The hold time of a row of R344. -/
def rcHold (i : Nat) : Nat := [9000000, 200000, 60000, 270000, 120000, 15000].getD i 0

/-- I_DC in nA: the mean of m over the window, of sums of 16 codes (R343). -/
def Bay.rcDc (y : Bay) (ms : List Int) : Int :=
  if ms.isEmpty then 0 else
    let t := isum ms * (y.ent 388 4 : Int)
    let q : Int := (t.natAbs / (16 * ms.length) : Nat)
    if t < 0 then -q else q

/-- I_AC in nA: the RMS of f - I_DC over the window (R343). -/
def Bay.rcAc (y : Bay) (fs : List Int) (dc : Int) : Nat :=
  if fs.isEmpty then 0 else
    isqrt ((fs.map fun f => let d := (f * (y.ent 388 4 : Int) / 16 - dc).natAbs; d * d).sum / fs.length)

/-- The values of R343 with one more published tick. -/
def Bay.rcValues (y : Bay) (e : Earth) (f : UpFrame) : Earth :=
  let m := isum f.residual
  let fo := Config.signalProc 21 ((m :: e.ms.take 2) ++ e.fs.take 2)
  let ms := (m :: e.ms).take y.earthW
  let fs := (fo :: e.fs).take (y.earthW / 2)
  let dc := y.rcDc ms
  { e with ms := ms, fs := fs, iDc := dc, iAc := y.rcAc fs dc }

/-- The counters of R344 in a tick; `missing` adds 1 to every counter that is not 0. -/
def Bay.rcRows (y : Bay) (e : Earth) (missing : Bool) : Earth :=
  { e with rows := Vector.ofFn fun i =>
      let n := e.rows[i]
      if missing then (if n = 0 then 0 else n + 1)
      else if y.rcLevel i.val ≤ (if i.val < 3 then e.iDc.natAbs else e.iAc) then n + 1 else 0 }

/-- Residual current in a compute tick (R343 to R345, R356). -/
def Bay.rcTick (y : Bay) (e : Earth) (now : Nat) : Earth :=
  if !y.earthFlag 0 then { e with ms := [], fs := [], iDc := 0, iAc := 0, rows := Vector.replicate 6 0, satRun := 0, rcBad := 0 }
  else
    let e1 : Earth := match y.link.frame with
      | none => y.rcRows e true
      | some f =>
        let v := y.rcRows (y.rcValues e f) false
        let ok := bitOf f.earthStatus 0
        let sat := f.residual.any fun x => x == -32768 || x == 32767
        { v with
          satRun := if sat then v.satRun + 1 else 0,
          rcBad := if ok then 0 else v.rcBad + 1,
          rcSince := if ok then some (v.rcSince.getD now) else none }
    let low := decide (e1.iDc.natAbs < 3000000)
    let lowA := decide (2 * e1.iAc < y.ent 386 2 * 1000000)
    let e2 : Earth := { e1 with
      dcSince := if low then some (e1.dcSince.getD now) else none,
      acSince := if lowA then some (e1.acSince.getD now) else none }
    let hit := fun (i : Fin 6) => decide (rcHold i.val ≤ e2.rows[i])
    e2.causes ((if hit 0 || hit 1 || hit 2 then [1] else []) ++ (if hit 3 || hit 4 || hit 5 then [2] else []) ++
      (if 16 ≤ e2.satRun then [3] else []) ++ (if 16 ≤ e2.rcBad then [4] else []))

/- The residual-current test (R346). -/

/-- The test winding's channel. -/
def Bay.rcTestCh (y : Bay) : Nat := y.ent 409 1 % 16

/-- An EARTH_TEST whose two results are in is answered (R362). -/
def State.earthTestDone (s : State) (b : BayId) : State :=
  let e := s.bays[b].earth
  match e.wait with
  | some w =>
    match w.rc, w.arc with
    | some r, some a =>
      (s.onBay b fun y => { y with earth := { y.earth with wait := none }, earthCk := { y.earthCk with wait := none } }).ok
        w.origin [8, 8, 16, 32] [r, a, 0, if r = 0 then 0 else ubits 32 (e.rise / 1000)]
    | _, _ => s
  | none => s

/-- A test is abandoned: it runs again at the next opportunity, and an EARTH_TEST that waits for it fails (R346, R362). -/
def State.rcAbandon (s : State) (b : BayId) : State :=
  let e := s.bays[b].earth
  let s1 := s.onEarth b fun e => { e with
    test := none, testDue := true, rcResult := 0, wants := putBit e.wants (s.bays[b].rcTestCh) false }
  match e.wait with
  | some w =>
    if w.rc.isNone then
      (s1.onBay b fun y => { y with earth := { y.earth with wait := none }, earthCk := { y.earthCk with wait := none } }).refuse
        w.origin stFAIL 0 [8, 8, 16, 32]
    else s1
  | none => s1

/-- A running test in a compute tick: its checks, the end of its on time, the value at that end, its abandonment (R346). -/
def State.rcTestTick (s : State) (b : BayId) : State :=
  let y := s.bays[b]
  match y.earth.test with
  | none => s
  | some t =>
    if !y.earthFlag 0 ∨ y.conOnCk ∨ y.earth.holds 3 ∨ y.earth.holds 4 then s.rcAbandon b
    else
      let st := s.sampleTick
      let during := t.start + 2 ≤ st && st < t.start + 100002
      let fine : Bool := match y.link.frame with
        | none => true
        | some f => bitOf f.earthStatus 0 && (!during || y.earthShows f y.rcTestCh true)
      s.onEarth b fun e => { e with
        test := some { t with
          good := t.good && fine,
          after := if st = t.start + 100001 then e.iDc else t.after },
        wants := if t.start + 100000 ≤ s.now then putBit e.wants y.rcTestCh false else e.wants }

/-- RC_TEST_START (R346): the test winding is commanded on at the first moment at which a test is due and no contactor was ON for
100 ms. -/
def execRcTestStart (b : BayId) (s : State) : Out :=
  let y := s.bays[b]
  let e := y.earth
  let due := e.testDue || decide (e.lastVerdict + 86400000000 ≤ s.now)
  let free : Bool := !y.conOnCk && (match e.contactorOn with
    | some t => decide (t + 100000 ≤ s.now)
    | none => true)
  .next (if y.earthFlag 0 ∧ e.test.isNone ∧ due ∧ free then
      s.onEarth b fun e => { e with
        test := some ⟨s.now, e.iDc, e.iDc, true⟩, testDue := false, rcResult := 3, wants := putBit e.wants y.rcTestCh true }
    else s)

/-- RC_TEST_END (R346): the on time has been measured to its end and the verdict follows. -/
def execRcTestEnd (b : BayId) (s : State) : Out :=
  let y := s.bays[b]
  .next (match y.earth.test with
    | none => s
    | some t =>
      if s.now < t.start + 100003 then s
      else
        let rise := t.after - t.before
        let exp := y.ent 410 2 * 100000
        let pass := t.good && decide ((7 * exp : Nat) ≤ 10 * rise) && decide (10 * rise ≤ (13 * exp : Nat))
        let s1 := s.onEarth b fun e =>
          let e1 : Earth := { e with
            test := none, rise := rise, lastVerdict := s.now, lastTest := s.now, rcResult := if pass then 1 else 2,
            wants := putBit e.wants y.rcTestCh false,
            wait := e.wait.map fun w => { w with rc := some (if pass then 1 else 2) } }
          if pass then e1.clear 5 else e1.cause 5
        (s1.earthEvent b 0x0905 ((if pass then 1 else 2) + 2 ^ 16 * ubits 16 (rise / 100000)) s.now).earthTestDone b)

/-- RC_TEST_OVERDUE (R346): 7 days without a verdict, and again after each further 7 days. -/
def execRcTestOverdue (b : BayId) (s : State) : Out :=
  let e := s.bays[b].earth
  .next (if s.bays[b].earthFlag 0 ∧ max e.lastVerdict e.overdueAt + 604800000000 ≤ s.now then
      (s.onEarth b fun e => { e with overdueAt := s.now }).earthEvent b 0x0906 (satN 16 ((s.now - e.lastVerdict) / 86400000000)) s.now
    else s)

/- Insulation (R347 to R350). -/

/-- IMD_CH_P. -/
def Bay.imdP (y : Bay) : Nat := y.ent 408 1 % 16

/-- IMD_CH_N. -/
def Bay.imdN (y : Bay) : Nat := y.ent 408 1 / 16

/-- Whether the mode admits a cycle now (R347). -/
def Bay.imdAdmits (y : Bay) : Bool :=
  let m := bitsOf (y.ent 384 1) 5 2
  y.earthFlag 1 &&
  (if m = 0 then y.grpCk.session.st == .cableCheck else if m = 1 then y.conAllCk else y.enabled)

/-- One more published tick of a window of a half (R347). -/
def ImdHalf.add (h : ImdHalf) (off : Nat) (f : UpFrame) : ImdHalf :=
  let p := f.insulation.getD 0 0
  let n := f.insulation.getD 1 0
  let d := f.insulation.getD 2 0
  if off < 450000 then { h with n1 := h.n1 + 1, p1 := h.p1 + p, n := h.n + n, dc := h.dc + d }
  else { h with n2 := h.n2 + 1, p2 := h.p2 + p, n := h.n + n, dc := h.dc + d }

/-- What a published tick gives a cycle: its windows and the read-back of both channels (R347, R349). -/
def Bay.imdAdd (y : Bay) (st : Nat) (f : UpFrame) (c : ImdCycle) : ImdCycle :=
  if st < c.t ∨ c.t + 1000000 ≤ st then c
  else
    let off := (st - c.t) % 500000
    let a := decide (st - c.t < 500000)
    let rb := c.readback && y.earthShows f y.imdP a && y.earthShows f y.imdN (!a) && bitOf f.earthStatus 1
    if off < 400000 then { c with readback := rb }
    else if a then { c with readback := rb, a := c.a.add off f }
    else { c with readback := rb, b := c.b.add off f }

/-- Insulation in a compute tick (R347, R349, R350). -/
def Bay.imdTick (y : Bay) (e : Earth) (now : Nat) : Earth :=
  let c1 : Option ImdCycle := e.cycle.map fun c => { c with admitted := c.admitted && y.imdAdmits }
  let e1 : Earth := match y.link.frame with
    | none => { e with cycle := c1 }
    | some f => { e with
        cycle := c1.map (y.imdAdd (now - 2) f), imdLast := e.imdLast.map (y.imdAdd (now - 2) f),
        imdBad := if bitOf f.earthStatus 1 then 0 else e.imdBad + 1 }
  if y.earthFlag 1 then (if 16 ≤ e1.imdBad then e1.cause 7 else e1)
  else { e1 with cycle := none, imdLast := none, imdBad := 0, grade := if e1.grade = 5 then 5 else 0 }

/-- The result for the session (R223, R350): pending in CABLE_CHECK; without monitoring VALID after 1 s within 5 % of the test
voltage, which a missing frame starts anew (log 65). -/
def Bay.cableTick (y : Bay) (e : Earth) : Earth :=
  if y.grpCk.session.st ≠ .cableCheck then { e with cable := 0, cableRun := 0 }
  else if y.kind ≠ 1 ∨ y.earthFlag 1 ∨ 2 ≤ e.cable then { e with cable := max 1 e.cable }
  else
    let test : Int := (min y.grpCk.session.vehVolt (y.ent 24 4) : Nat)
    let near : Bool := match y.link.frame with
      | some f =>
        let v := imean (UpFrame.chan f y.chVout) * (y.ent 270 4 : Int) / 1000
        decide (20 * (v - test).natAbs ≤ test.natAbs)
      | none => false
    let run := if near then e.cableRun + 1 else 0
    if 1000000 ≤ run then { e with cable := 2, cableRun := run, grade := 5 } else { e with cable := 1, cableRun := run }

/-- IMD_HALF_SWITCH (R347): at a cycle's start and at its middle the bridge channels change over, for the governed tick two ticks
on. -/
def execImdHalfSwitch (b : BayId) (s : State) : Out :=
  let y := s.bays[b]
  let g := s.now + 2
  let set := fun (e : Earth) (p n : Bool) => { e with wants := putBit (putBit e.wants y.imdP p) y.imdN n }
  .next (if g % 1000000 = 0 then
      s.onEarth b fun e =>
        let e1 : Earth := { e with imdLast := if e.cycle.isSome then e.cycle else e.imdLast, cycle := none }
        if y.imdAdmits then { set e1 true false with cycle := some ⟨g, true, true, ImdHalf.zero, ImdHalf.zero⟩ }
        else if e.cycle.isSome then set e1 false false else e1
    else if g % 500000 = 0 then
      s.onEarth b fun e => if e.cycle.isSome then set e false true else e
    else s)

/-- A sum of codes as a mean in uV. -/
def Bay.imdUv (y : Bay) (t : Int) (n : Nat) : Int := if n = 0 then 0 else t * (y.ent 392 4 : Int) / (n : Int)

/-- Conductances in 10^-18 S of DC+ and DC- to PE, before the floor at 0, and den in uV^2 (R348). -/
def Bay.imdSolve (y : Bay) (a b c d : Int) : Int × Int × Int :=
  let den := b * c - a * d
  if den ≤ 0 then (den, 0, 0)
  else
    let rb : Int := (max 1 (y.ent 396 4) : Nat)
    let gm : Int := 10 ^ 18 / (max 1 (y.ent 400 4) : Nat)
    (den, 10 ^ 18 * d * (a + b) / (rb * den) - gm, 10 ^ 18 * a * (c + d) / (rb * den) - gm)

/-- A conductance as a resistance in kOhm to the nearest (log 64), with ABOVE_RANGE and BELOW_RANGE (R348). -/
def kohmOf (g : Int) : Nat × Bool × Bool :=
  if g ≤ 0 then (10000, true, false)
  else if 10 ^ 18 > 10 ^ 7 * g then (10000, true, false)
  else if 10 ^ 18 < 1000 * g then (1, false, true)
  else ((rdiv (10 ^ 15) g.toNat).toNat, false, false)

/-- Why a cycle's result is invalid: the first reason of R349, 0 where it is valid. -/
def Bay.imdReason (y : Bay) (c : ImdCycle) (ua ub a b cc d : Int) (den : Int) : Nat :=
  let dcA := (y.imdUv c.a.dc (c.a.n1 + c.a.n2)).natAbs
  let dcB := (y.imdUv c.b.dc (c.b.n1 + c.b.n2)).natAbs
  let settle := fun (h : ImdHalf) (dc : Nat) => decide (100 * (y.imdUv h.p1 h.n1 - y.imdUv h.p2 h.n2).natAbs ≤ dc)
  if !c.admitted then 1
  else if ua < 50000000 ∨ ub < 50000000 then 2
  else if 2 * ua.natAbs < 100 * (ua - ub).natAbs then 3
  else if 2 * dcA < 100 * (a + b - y.imdUv c.a.dc (c.a.n1 + c.a.n2)).natAbs ∨
          2 * dcB < 100 * (cc + d - y.imdUv c.b.dc (c.b.n1 + c.b.n2)).natAbs then 4
  else if !settle c.a dcA ∨ !settle c.b dcB then 5
  else if !c.readback then 6
  else if den ≤ 0 then 7 else 0

/-- An invalid result is counted; the third in a row for READBACK or GEOMETRY trips (R349). -/
def State.imdInvalid (s : State) (b : BayId) (r : Nat) : State :=
  let e := s.bays[b].earth
  let s1 := s.onEarth b fun e =>
    let bad := if r = 6 ∨ r = 7 then e.badResults + 1 else 0
    let e1 : Earth := { e with imdLast := none, lastInvalid := r, insInvalid := bump 32 e.insInvalid, wasValid := false, badResults := bad,
                               lastResult := s.now }
    if 3 ≤ bad then e1.cause 7 else e1
  if e.wasValid then s1.earthEvent b 0x0904 r s.sampleTick else s1

/-- A valid result is graded (R348, R350). -/
def State.imdValid (s : State) (b : BayId) (gp gn ua ub uDc : Int) : State :=
  let y := s.bays[b]
  let e := y.earth
  let gm : Int := 10 ^ 18 / (max 1 (y.ent 400 4) : Nat)
  let fault := decide (10 * gp < -gm) || decide (10 * gn < -gm)
  let p := max gp 0
  let n := max gn 0
  let r := kohmOf (p + n)
  let vmax := y.ent 24 4
  let below := fun (opv : Nat) => decide ((10 ^ 21 : Int) < (opv * vmax : Nat) * (p + n))
  let g := if r.2.2 || below (y.ent 404 2) then 3 else if below (y.ent 406 2) then 2 else 1
  let cc := y.grpCk.session.st == .cableCheck
  let test : Int := (min y.grpCk.session.vehVolt vmax : Nat) * 1000
  let near := fun (u : Int) => decide (20 * (u - test).natAbs ≤ test.natAbs)
  let first := cc && decide (e.cable ≤ 1) && near ua && near ub
  let run := if cc then 0 else if g = 3 then e.faultRun + 1 else 0
  let old := if e.grade ≤ 3 then e.grade else 0
  let s1 := s.onEarth b fun e =>
    let e1 : Earth := { e with
      imdLast := none, insValid := bump 32 e.insValid, wasValid := true, badResults := 0, lastResult := s.now, grade := g,
      above := r.2.1, below := r.2.2, rf := r.1, rp := (kohmOf p).1, rn := (kohmOf n).1, uDc := uDc,
      faultRun := run, insOk := e.insOk || g != 3, imdOk := true, cable := if first then g + 1 else e.cable }
    e1.causes ((if 2 ≤ run then [6] else []) ++ (if fault then [7] else []))
  if (cc && first && g == 2) || (!cc && old != 0 && old != g) then
    s1.earthEvent b 0x0903 (g + 4 * old + 2 ^ 16 * satN 16 (r.1 / 10)) s.sampleTick
  else s1

/-- IMD_CYCLE_END (R347 to R350): the cycle's last sample tick is published and its result is decided. -/
def execImdCycleEnd (b : BayId) (s : State) : Out :=
  let y := s.bays[b]
  let e := y.earth
  .next (match e.imdLast with
    | none => s
    | some c =>
      if s.now < c.t + 1000001 then s
      else
        let na := c.a.n1 + c.a.n2
        let nb := c.b.n1 + c.b.n2
        let a := y.imdUv (c.a.p1 + c.a.p2) na
        let bb := y.imdUv c.a.n na
        let cc := y.imdUv (c.b.p1 + c.b.p2) nb
        let d := y.imdUv c.b.n nb
        let v := y.imdSolve a bb cc d
        let r := y.imdReason c (a + bb) (cc + d) a bb cc d v.1
        if r ≠ 0 then s.imdInvalid b r else s.imdValid b v.2.1 v.2.2 (a + bb) (cc + d) (y.imdUv c.b.dc nb / 1000))

/- DC arc (R351 to R354). -/

/-- The bins of the arc band without those near harmonics of the carriers (R351). -/
def countedBins (lo hi carrier : Nat) : List Nat :=
  let first := (lo * 256 + 124) / 125
  let last := hi * 256 / 125
  let c := max 1 carrier
  (List.range (last + 1)).filter fun j =>
    first ≤ j &&
    !((List.range 5).any fun i =>
      let k := j + 2 - i
      -- whether bin k is the nearest to some n f_c: bins per harmonic are 67108864 / (5 carrier)
      let num := 67108864
      let den := 5 * c
      let n := (k * den + num / 2) / num
      (List.range 3).any fun z => 1 ≤ n + z - 1 && (rdiv ((n + z - 1) * num : Nat) den).toNat == k)

/-- The counted bins of a bay. -/
def Bay.arcBins (y : Bay) : List Nat := countedBins (y.ent 413 1) (y.ent 414 1) (y.ent 200 4)

/-- Whether a spectrum is hot (R352): at least ARC_K half dB above the summed baseline, at least half of the bins 6 dB above
their own, and the current at or above ARC_MIN_A. -/
def Bay.arcHot (y : Bay) (e : Earth) (bins : List Nat) (gate : Bool) : Bool :=
  let k := y.ent 412 1
  let up := (bins.zip e.base).filter fun p => 10 ^ 3 * p.2 ^ 5 ≤ p.1 ^ 5
  gate && decide (10 ^ k * e.base.sum ^ 20 ≤ bins.sum ^ 20) && decide (bins.length ≤ 2 * up.length)

/-- A baseline moves by a fraction of the difference (R353). -/
def moveBase (d : Nat) (p : Nat × Nat) : Nat := ((p.2 : Int) + ((p.1 : Int) - p.2) / (d : Int)).toNat

/-- ARC_SPECTRUM (R351 to R353): a spectrum is done. `power` holds the powers of the counted bins in 2^-16 code squared, `mag` the
mean magnitude of ARC_CH in codes. -/
def execArcSpectrum (b : BayId) (power : List Nat) (mag : Nat) (s : State) : Out :=
  let y := s.bays[b]
  let e := y.earth
  let bins := (List.range y.arcBins.length).map fun (i : Nat) => power.getD i 0
  let gate := decide (y.ent 415 1 * 1000000 ≤ mag * y.ent 266 4)
  .next (if !y.earthFlag 2 ∨ ¬(s.now % 100 = 1 ∨ s.now % 100 = 2) then s
    else if e.base.isEmpty then s.onEarth b fun e => { e with base := bins, hot := 0 }
    else
      let settling := decide (s.now < e.settle)
      let hot := !settling && y.arcHot e bins gate
      let run := if hot then e.hot + 1 else 0
      let quiet := gate && decide (bins.sum < 4096 * bins.length)
      let since := if quiet then some (e.quietSince.getD s.now) else none
      s.onEarth b fun e =>
        let e1 : Earth := { e with
          hot := run, quietSince := since,
          ratio := satN 16 (Config.signalProc 22 [bins.sum, e.base.sum]).toNat,
          base := if hot then e.base else (bins.zip e.base).map (moveBase (if settling then 64 else 8192)) }
        e1.causes ((if 8 ≤ run then [8] else []) ++ (if heldFor since s.now then [9] else [])))

/-- ARC_SELFTEST (R354): the stored record has been run at a start, after an hour or on EARTH_TEST. -/
def execArcSelftest (b : BayId) (ok : Bool) (s : State) : Out :=
  let y := s.bays[b]
  let e := y.earth
  .next (if y.earthFlag 2 ∧ (e.arcTestDue ∨ e.arcTestAt + 3600000000 ≤ s.now) then
      let s1 := s.onEarth b fun e =>
        let e1 : Earth := { e with
          arcTestDue := false, arcTestAt := s.now, lastTest := s.now, arcTests := bump 32 e.arcTests,
          wait := e.wait.map fun w => { w with arc := some (if ok then 1 else 2) } }
        if ok then e1.clear 10 else e1.cause 10
      (s1.earthEvent b 0x0907 (if ok then 1 else 2) s.now).earthTestDone b
    else s)

/-- The arc sensor and what makes the baseline settle anew, in a compute tick (R353). -/
def Bay.arcTick (y : Bay) (e : Earth) (now : Nat) : Earth :=
  let on := ((List.finRange 12).map fun k => if y.isCon k.val && y.grpCk.chans.ch[k].st == 2 then 2 ^ k.val else 0).sum
  let seen := y.grpCk.mod.st.code + 4 * on
  let e1 : Earth := { e with seen := seen, settle := if seen = e.seen then e.settle else now + 50000 }
  if !y.earthFlag 2 then { e1 with base := [], hot := 0, arcBad := 0, quietSince := none }
  else
    let e2 : Earth := match y.link.frame with
      | none => e1
      | some f =>
        let ok := bitOf f.earthStatus 2
        { e1 with
          arcBad := if ok then 0 else e1.arcBad + 1,
          arcSince := if ok && e1.quietSince.isNone then some (e1.arcSince.getD now) else none }
    if 16 ≤ e2.arcBad then e2.cause 9 else e2

/- The cell's tick and the trip path. -/

/-- The latch is released without EARTH_RESET once every cause has met its condition (R356). -/
def State.earthAuto (s : State) (b : BayId) : State :=
  let e := s.bays[b].earth
  if e.trip ≠ 0 ∧ e.standing.all (fun c => bitOf e.cleared c) then
    (s.onBay b fun y => { y with earth := y.earth.released s.now, earthLatch := false, earthFree := false }).earthEvent b 0x0902
      e.trip s.now
  else s

/-- Session entry to IDLE (R346, R356). -/
def Bay.earthIdle (y : Bay) (e : Earth) : Earth :=
  let x := y.grpCk.session
  if x.st ≠ .idle ∨ x.entered = e.idleAt then e
  else
    let e1 : Earth := { e with idleAt := x.entered, testDue := e.testDue || y.earthFlag 0 }
    let e2 := if y.earthFlag 4 then ((e1.clear 1).clear 2).clear 3 else e1
    e2.clear 6

/-- The compute tick of the earth cell (R343 to R357); a bay that stays in SERVICE counts missing frames from the first on
(log 63). -/
def State.earthTick (s : State) (b : BayId) : State :=
  let y := s.bays[b]
  let s1 := s.onEarth b fun e =>
    let miss := y.link.frame.isNone
    let counts := y.serving || 0 < e.missRun
    let e1 : Earth := { e with
      missRun := if miss then (if counts then e.missRun + 1 else 0) else 0,
      goodRun := if miss then 0 else e.goodRun + 1,
      contactorOn := if y.conOnCk then some s.now else e.contactorOn,
      wants := if y.inUse then e.wants else 0 }
    let e2 := y.earthIdle e1
    let e3 := y.cableTick (y.arcTick (y.imdTick (y.rcTick e2 s.now) s.now) s.now)
    let e4 := if s.safeAccepted then e3.clear 11 else if y.enabled then e3.cause 11 else e3
    let e5 := if y.earthFlag 2 ∧ s.assistFailed (arcBlock b) 0 then e4.cause 10 else e4
    if y.inUse ∧ 16 ≤ e5.missRun then e5.cause 12 else e5
  (s1.rcTestTick b).earthAuto b

/-- EARTH_TRIP (R355, R357): the trip line reaches the safety unit, which latches the trip for the bay in the same tick. -/
def execEarthTrip (b : BayId) (s : State) : Out :=
  let e := s.bays[b].earth
  .next (if e.line.isEmpty then s
    else
      (s.onBay b fun y => { y with earthLatch := true, earth := { y.earth with line := [] } }).earthEvent b 0x0901
        (e.trip + 2 ^ 8 * e.counted) s.now)

/-- The safety unit releases the latch at the tick boundary after an EARTH_RESET (R361). -/
def State.earthBoundary (s : State) (b : BayId) : State :=
  let y := s.bays[b]
  if y.earthFree then
    (s.onBay b fun y => { y with
      earthFree := false, earthLatch := false, earth := y.earth.released s.now, earthCk := y.earthCk.released s.now }).raiseNow
        (96 + b.val) 0x0902 (y.earthCk.trip + 2 ^ 8)
  else s

/-- What a BAY_RELOAD does to the earth cell (R343, R346, R353): `rcSet` where it turns RC_EN on, `moved` where BAY_GEN moves. -/
def Earth.reload (e : Earth) (rcSet moved : Bool) (now : Nat) : Earth :=
  let e1 : Earth := if rcSet then { e with ms := [], fs := [], iDc := 0, iAc := 0, rows := Vector.replicate 6 0, testDue := true } else e
  if moved then { e1 with settle := now + 50000 } else e1

/- Commands (R360 to R362). -/

/-- The highest row that is counting: 1 to 3 D1 to D3, 4 to 6 A1 to A3, 0 none. -/
def Earth.rowMax (e : Earth) : Nat :=
  (List.finRange 6).foldl (fun m i => if 0 < e.rows[i] then i.val + 1 else m) 0

/-- EARTH_STATUS (R360). -/
def cardEarthStatus (o : Origin) (bay : Nat) (s : State) : State :=
  card o 0x0901 [8, 16, 8, 32, 32, 8, 8, 8, 8, 16, 16, 16, 32, 16, 8, 8, 32, 32, 32, 32, 32, 64, 64, 32]
    (fun t => [bayPermit o [0, 2] 1 bay t, rng 1 (bay < 96)])
    (fun t => (t, atBay bay [] fun b =>
      let y := t.bays[b]
      let e := y.earthCk
      let full := decide (y.earthW ≤ e.ms.length)
      [e.trip, e.counted, e.rcResult, ubits 32 (if full then e.iDc / 1000 else 0), if full then e.iAc / 1000 else 0, e.rowMax,
        if e.cable = 1 then 4 else e.grade, b2n e.above + 2 * b2n e.below, e.lastInvalid, e.rf, e.rp, e.rn, satN 32 e.uDc.toNat,
        e.ratio, satN 8 e.hot, 0, e.rcTrips, e.insValid, e.insInvalid, e.arcTrips, e.arcTests, e.lastResult, e.lastTest,
        t.gens.bay[b]])) s

/-- The command EARTH_STATUS (R360). -/
def execEarthStatus (o : Origin) (bay : Nat) (s : State) : Out := .next (cardEarthStatus o bay s)

/-- EARTH_RESET (R361). -/
def cardEarthReset (o : Origin) (bay : Nat) (s : State) : State :=
  card o 0x0902 [64]
    (fun t => [permit o [0, 2], rng 1 (bay < 96),
      atBay bay none fun b =>
        let y := t.bays[b]
        let bad := y.earthCk.standing.filter fun c => !y.resetMet t.now c
        if y.earthCk.trip = 0 then some (stBAD_STATE, 0)
        else match bad with
          | c :: _ => some (stBAD_STATE, c)
          | [] => none])
    (fun t => atBay bay (t, []) fun b => (t.onBay b fun y => { y with earthFree := true }, [t.now + 1])) s

/-- The command EARTH_RESET (R361). -/
def execEarthReset (o : Origin) (bay : Nat) (s : State) : Out := .next (cardEarthReset o bay s)

/-- EARTH_TEST (R362): both tests become due, and the response follows their results. -/
def cardEarthTest (o : Origin) (bay : Nat) (s : State) : State :=
  cardLater o 0x0903 [8, 8, 16, 32]
    (fun t => [permit o [0, 2], rng 1 (bay < 96),
      need (atBay bay true fun b =>
        let y := t.bays[b]
        !y.conOnCk && (match y.earthCk.contactorOn with
          | some c => decide (c + 100000 ≤ t.now)
          | none => true)) stBAD_STATE 0,
      need (atBay bay true fun b => t.bays[b].earthCk.wait.isNone) stBUSY 0])
    (fun t => atBay bay t fun b =>
      let y := t.bays[b]
      let rc := y.earthFlag 0
      let arc := y.earthFlag 2
      let set := fun (e : Earth) => { e with
        testDue := e.testDue || (rc && e.test.isNone), arcTestDue := e.arcTestDue || arc,
        wait := some ⟨o, if rc then none else some 0, if arc then none else some 0⟩ }
      (t.onBay b fun y => { y with earth := set y.earth, earthCk := set y.earthCk }).earthTestDone b) s

/-- The command EARTH_TEST (R362). -/
def execEarthTest (o : Origin) (bay : Nat) (s : State) : Out := .next (cardEarthTest o bay s)

end Sys2Proof.Machine
end

