-- ==== Sys2Proof/Machine/Meter.lean ====
section
/-! DEFINITION. Metering: the meter cell's index, windows and energy, pulse outputs and inputs, and the metering commands
(spec file 14). -/

namespace Sys2Proof.Machine

/- Pulses (R382 to R386). -/

/-- A pulse is due for every 10^6 mWh over the constant; energy is held times the constant. -/
abbrev pulseDue : Int := 1000000 * 4294967296

/-- The planned starts of the pulses that an energy `e` (held times the constant) brings about (R382). -/
def pulseStarts (before e : Int) (t : Nat) : Nat → Nat → List Nat
  | 0, _ => []
  | k + 1, j =>
    if 0 < e ∧ ((j : Int) + 1) * pulseDue ≤ before + e then
      (t + min 15 (16 * (((j : Int) + 1) * pulseDue - before) / e).toNat + 512) :: pulseStarts before e t k (j + 1)
    else []

/-- A pulse source receives a sample energy in 2^-32 mWh at stamp `t` (R382, R383). -/
def PulseOut.feed (p : PulseOut) (e0 : Int) (t : Nat) : PulseOut :=
  let e := e0 * p.const
  let n := ((p.acc + e) / pulseDue).toNat
  let starts := pulseStarts p.acc e t n 0
  let room := 255 - p.queue.length
  let excess := starts.length - room
  { p with acc := p.acc + e - (starts.length : Int) * pulseDue, queue := p.queue ++ starts.take room,
           overrate := bump 32 (p.overrate + excess - 1 + b2n (excess == 0)), overSince := p.overSince + excess }

/-- Raise PULSE_OVERRATE where pulses were not output, at most once per second (R383). -/
def PulseOut.overEvent (p : PulseOut) (bay port now : Nat) : PulseOut × List Ev :=
  let free := match p.raisedAt with
    | some t => decide (t + 1000000 ≤ now)
    | none => true
  if 0 < p.overSince && free then
    ({ p with overSince := 0, raisedAt := some now },
      [⟨192 + bay, 0x0A06, port + 2 ^ 16 * (p.overSince % 2 ^ 16), now⟩])
  else (p, [])

/-- A pulse starts at its planned tick, or at the first tick allowed after the previous pulse and its gap (R383). -/
def PulseOut.start (p : PulseOut) (now : Nat) : PulseOut :=
  match p.queue with
  | t :: q =>
    if t ≤ now && !p.level && p.gapUntil ≤ now then
      { p with queue := q, level := true, until_ := now + p.width, gapUntil := now + 2 * p.width,
               late := if t < now then bump 32 p.late else p.late }
    else p
  | [] => p

/-- A pulse ends after WIDTH ticks (R383). -/
def PulseOut.stop (p : PulseOut) (now : Nat) : PulseOut :=
  if p.level && p.until_ ≤ now then { p with level := false } else p

/-- Change one pulse ball. -/
def State.onBall (s : State) (i : Fin 8) (f : PulseOut → PulseOut) : State :=
  { s with pulses := { s.pulses with balls := vmod s.pulses.balls i f } }

/-- Change the meter cell of a bay, in its working state. -/
def State.onMeter (s : State) (b : BayId) (f : MeterCell → MeterCell) : State :=
  s.onBay b fun y => { y with meter := f y.meter }

/-- PULSE_START (R384). -/
def execPulseStart (p : PulsePort) (s : State) : Out :=
  .next (match p with
    | .ball i => s.onBall i (·.start s.now)
    | .led b => s.onMeter b fun m => { m with led := m.led.start s.now })

/-- PULSE_END (R383). -/
def execPulseEnd (p : PulsePort) (s : State) : Out :=
  .next (match p with
    | .ball i => s.onBall i (·.stop s.now)
    | .led b => s.onMeter b fun m => { m with led := m.led.stop s.now })

/-- S0_PULSE (R386): an active level of `active` ticks after `inactive` ticks without it, on an input that S0_CONFIG has
set (log 28). -/
def execS0Pulse (i : Fin 8) (inactive active : Nat) (s : State) : Out :=
  .next (let p := s.pulses.s0[i]
    if !p.set then s
    else
      let q := if active < 1000 * p.minMs then { p with short := bump 32 p.short }
        else if 1000 * p.minMs ≤ inactive then { p with count := (p.count + 1) % 2 ^ 64, lastTick := s.now }
        else p
      { s with pulses := { s.pulses with s0 := s.pulses.s0.set i q } })

/- The meter cell (R366 to R375). -/

/-- The sample of an index that is present: published, with every channel of the table VALID (R366). -/
def Bay.present? (b : Bay) (k : Nat) : Option MetroSample :=
  b.metro.find? fun m => m.index == k && m.valid &&& b.calGet 2 1 == b.calGet 2 1

/-- The code of a channel at an index; a missing index takes the last present values (R366). -/
def Bay.codeAt (b : Bay) (c : Fin 8) (k : Int) : Int :=
  match b.present? k.toNat with
  | some m => m.ch.getD c.val 0
  | none =>
    match b.meter.last with
    | some m => m.ch.getD c.val 0
    | none => 0

/-- The interpolated code of a channel at k + d / 4,096 (R369): a whole delay reads the sample itself, a fraction the
windowed-sinc interpolator, whose arithmetic the spec does not fix (log 5). -/
def Bay.interp (b : Bay) (c : Fin 8) (k : Nat) (d : Int) : Int :=
  let i := (k : Int) + d / 4096
  if d % 4096 = 0 then b.codeAt c i
  else Config.signalProc 1 (d % 4096 :: (List.range 16).map fun (j : Nat) => b.codeAt c (i - 7 + (j : Int)))

/-- Whether a channel of a mode measures a voltage (R364). -/
def isVoltage (mode c : Nat) : Bool := if mode = 2 then c < 3 else c = 0

/-- The current channel of a channel's phase (R369). -/
def currentOf (mode c : Nat) : Nat := if isVoltage mode c then (if mode = 2 then c + 3 else 1) else c

/-- The corrected sample of a channel in nV or nA (R369, log 20). -/
def Bay.corrected (b : Bay) (c : Fin 8) (k : Nat) : Int :=
  if bitOf (b.calGet 2 1) c.val then
    let lsb := if isVoltage (b.calGet 1 1) c.val then b.calGet 12 4 else b.calGet 16 4
    rdiv ((b.meter.gain[c] : Int) * b.interp c k b.meter.delay[c] * lsb) (2 ^ 30)
  else 0

/-- The products u' i' of the phases, and the power at the transfer point, in 10^-18 W (R372, R373). -/
def samplePower (mode rLoss : Nat) (x : Vector Int 8) : Vector Int 3 × Int :=
  if mode = 2 then (#v[x[0] * x[3], x[1] * x[4], x[2] * x[5]], x[0] * x[3] + x[1] * x[4] + x[2] * x[5])
  else if mode = 3 then (#v[x[0] * x[1], 0, 0], x[0] * x[1] - rdiv (x[1] * x[1] * rLoss) 1000000)
  else (#v[x[0] * x[1], 0, 0], x[0] * x[1])

/-- The energy of a sample in 2^-32 mWh: p * 16 us (R374, log 20). -/
def sampleEnergy (p : Int) : Int := rdiv (p * 16 * 2 ^ 32) (36 * 10 ^ 23)

/-- Add a sample energy in the direction in force, moving the residue of the accumulator left behind when the direction
changes (R374). The answer holds what each accumulator received. -/
def MeterCell.addEnergy (m : MeterCell) (imp : Bool) (e : Int) : MeterCell × Int × Int :=
  let (ri, re) := if imp = m.import_ then ((0 : Int), (0 : Int))
    else if imp then (-m.accExp, -m.accExp) else (-m.accImp, -m.accImp)
  let m1 := if imp = m.import_ then m
    else if imp then { m with accImp := m.accImp + ri, accExp := 0, import_ := true }
    else { m with accExp := m.accExp + re, accImp := 0, import_ := false }
  if imp then ({ m1 with accImp := m1.accImp + e }, (if imp = m.import_ then e else ri + e), if imp = m.import_ then 0 else re)
  else ({ m1 with accExp := m1.accExp - e }, (if imp = m.import_ then 0 else ri), if imp = m.import_ then -e else re - e)

/-- The whole mWh that pass to a record, at most 65,535, and the fraction that stays (R374, R376). -/
def releaseI (acc : Int) : Nat × Int :=
  let n := min 65535 (acc / 2 ^ 32).toNat
  (n, acc - (n : Int) * 2 ^ 32)

/-- The same for an accumulator that never falls. -/
def releaseN (acc : Nat) : Nat × Nat :=
  let n := min 65535 (acc / 2 ^ 32)
  (n, acc - n * 2 ^ 32)

/-- Add a corrected sample to the sums of the window (R372). -/
def MeterWin.add (w : MeterWin) (x : Vector Int 8) (prod : Vector Int 3) (tr : Int) (temp : Option Int) (flags : Nat) :
    MeterWin :=
  { w with
    n := w.n + 1, sq := Vector.zipWith (fun a v => a + v * v) w.sq x, lin := Vector.zipWith (· + ·) w.lin x,
    absI := Vector.zipWith (fun a v => a + v.natAbs) w.absI x, prod := Vector.zipWith (· + ·) w.prod prod,
    transfer := w.transfer + tr, tempSum := w.tempSum + temp.getD 0, tempN := w.tempN + b2n temp.isSome,
    flags := w.flags ||| flags }

/-- The magnitude of a channel over the window, in nV or nA: RMS in AC modes, the mean in DC (R372). -/
def MeterWin.mag (w : MeterWin) (mode : Nat) (c : Fin 8) : Int :=
  if w.n = 0 then 0
  else if mode = 3 then rdiv w.lin[c] w.n
  else (isqrt (w.sq[c].toNat / w.n) : Int)

/-- The lower point of the bracket of an index among ascending points, its distance from that point and the bracket's
width; beyond an edge the edge itself (R369, R370). -/
def bracket (pts : List Int) (x : Int) : Nat × Int × Nat :=
  let n := pts.length
  if x ≤ pts.getD 0 0 then (0, 0, 1)
  else if pts.getD (n - 1) 0 ≤ x then (n - 2, pts.getD (n - 1) 0 - pts.getD (n - 2) 0,
    (pts.getD (n - 1) 0 - pts.getD (n - 2) 0).toNat)
  else
    let i := (pts.filter (· ≤ x)).length - 1
    (i, x - pts.getD i 0, (pts.getD (i + 1) 0 - pts.getD i 0).toNat)

/-- Bilinear interpolation of an entry at a temperature and a current bracket (R369). -/
def bilinear (f : Nat → Nat → Int) (t i : Nat × Int × Nat) : Int :=
  let (ti, nt, dt) := t
  let (ii, ni, di) := i
  let a := fun (u v : Nat) (w : Int) => if w = 0 then 0 else w * f u v
  rdiv (a ti ii ((dt - nt) * (di - ni)) + a ti (ii + 1) ((dt - nt) * ni) + a (ti + 1) ii (nt * (di - ni)) +
    a (ti + 1) (ii + 1) (nt * ni)) (dt * di)

/-- T_POINT in 0.01 degrees. -/
def calTemps (b : List Byte) : List Int := (List.range 8).map fun i => 100 * sval 8 (leGet b (24 + i) 1)

/-- I_POINT in nA. -/
def calCurrents (b : List Byte) : List Int := (List.range 6).map fun i => 1000000 * (leGet b (32 + 4 * i) 4 : Int)

/-- DELAY and GAIN of every channel for given indices (R369). -/
def corrections (b : List Byte) (temp : Int) (cur : Fin 8 → Int) : Vector Int 8 × Vector Nat 8 :=
  let mask := leGet b 2 1
  let tb := bracket (calTemps b) temp
  let f := fun (g : Nat → Nat → Nat → Int) (c : Fin 8) =>
    if bitOf mask c.val then bilinear (g (calPlace mask c)) tb (bracket (calCurrents b) (cur c)) else 0
  (Vector.ofFn (f (calDelay b)), Vector.ofFn fun c => (f (fun p t i => (calGain b p t i : Int)) c).toNat)

/-- Corrections of point 0 of both axes, for the window after a start or a change of table (R369). -/
def MeterCell.pointZero (m : MeterCell) (b : List Byte) : MeterCell :=
  let (d, g) := corrections b ((calTemps b).headD 0) (fun _ => (calCurrents b).headD 0)
  { m with delay := d, gain := g, tempIdx := (calTemps b).headD 0, iIdx := (calCurrents b).headD 0 }

/-- The rotation of channels for THD (R372). -/
def thdChannels (mode mask : Nat) : List Nat :=
  ((if mode = 2 then [0, 1, 2, 3, 4, 5, 6] else [0, 1, 2]).filter fun c => bitOf mask c)

/-- Close the window (R369 to R372, R375): the readings, the reactive and apparent energy, the next corrections. The
quantities that rest on the fundamental are free values within their stated ranges (log 5). `last` is its last index. -/
def State.closeWindow (s : State) (b : BayId) (last gen : Nat) : State :=
  let y := s.bays[b]
  let m := y.meter
  let w := m.win
  match y.cal with
  | none => s.onMeter b fun m => { m with win := MeterWin.empty (last + 1) }
  | some t =>
    if w.n = 0 then s.onMeter b fun m => { m with win := MeterWin.empty (last + 1) }
    else
      let mode := leGet t.bytes 1 1
      let mask := leGet t.bytes 2 1
      let ac := mode != 3
      let fund := ac && w.tracked && m.trackValid
      let mags := Vector.ofFn fun c : Fin 8 => if bitOf mask c.val then w.mag mode c else 0
      let pOf := fun (i : Fin 3) => rdiv w.prod[i] w.n
      let dur := w.n * 16
      let cI := fun (p : Nat) => currentOf mode p
      let sOf := fun (p : Fin 3) => if p.val = 0 || mode = 2 then
          ((mags.toList.getD p.val 0).natAbs * (mags.toList.getD (cI p.val) 0).natAbs : Int) else 0
      let free32 := fun (i : Nat) => sval 32 (s.drawAt i)
      let unit := fun (x : Int) => satI 32 (rdiv x (10 ^ 16))
      let q := fun (p : Nat) => if fund && (p = 0 || mode = 2) then free32 p else 0
      let ps := (List.finRange 3).map fun p => unit (pOf p)
      let pTot := unit (isum ((List.finRange 3).map pOf))
      let sTot := unit (isum ((List.finRange 3).map sOf))
      let qTot := satI 32 (q 0 + q 1 + q 2)
      let powers := (List.zip ps (List.zip [q 0, q 1, q 2] ((List.finRange 3).map fun p => unit (sOf p)))).flatMap
        fun x => [x.1, x.2.1, x.2.2]
      let rot := thdChannels mode mask
      let thdCh := rot.getD (m.rotation % rot.length) 0
      let flags := w.flags ||| (if ac && !fund then 4 else 0)
      let reading : MeterReading :=
        { first := 16 * w.first, last := 16 * last, gen := gen, flags := flags % 8,
          freq := if fund then 450000 + s.drawAt 3 % 200001 else 0,
          mag := mags.toList.map fun v => satI 32 (rdiv v 1000),
          angle := (List.range 8).map fun c => if fund && bitOf mask c then sval 16 (s.drawAt (4 + c)) else 0,
          thd := (List.range 8).map fun c => if fund && c == thdCh then s.drawAt 12 % 65535
            else (m.reading.map fun r => r.thd.getD c 0xFFFF).getD 0xFFFF,
          power := powers ++ [pTot, qTot, sTot], transfer := if ac then 0 else unit (rdiv w.transfer w.n),
          pf := if sTot = 0 then 0 else rdiv (pTot * 10000 * sTot.sign) sTot.natAbs }
      let harm : List Harmonics := if fund then
          [⟨thdCh, 16 * last, gen, s.drawAt 13 % 2 ^ 32, (List.range 39).map fun h => s.drawAt (14 + h) % 2 ^ 16⟩] else []
      -- |Q| and S times the duration, in 2^-32 mvarh and mVAh: 10 mvar * us = 10^-8 var s
      let eOf := fun (x : Int) => (x.natAbs * dur * 2 ^ 32) / (36 * 10 ^ 7)
      let quad : Fin 4 := if 0 ≤ qTot then (if 0 ≤ pTot then 0 else 1) else if pTot < 0 then 2 else 3
      let varh := if fund then vmod m.varh quad (· + eOf qTot) else m.varh
      let vah := if ac then vmod m.vah (if 0 ≤ pTot then 0 else 1) (· + eOf sTot) else m.vah
      let temp := if w.tempN = 0 then m.tempIdx else rdiv w.tempSum w.tempN
      let curIdx := fun (c : Fin 8) =>
        let k : Fin 8 := Fin.ofNat 8 (currentOf mode c.val)
        if ac then w.mag mode k else rdiv w.absI[k] w.n
      let (d, g) := corrections t.bytes temp curIdx
      let ts := calTemps t.bytes
      let is := calCurrents t.bytes
      let curs := (calChannels mask).filter fun c => !isVoltage mode c.val
      let outT := decide (temp < ts.headD 0) || decide (ts.getLastD 0 < temp)
      let outI := curs.any fun c => decide (curIdx c < is.headD 0) || decide (is.getLastD 0 < curIdx c)
      let uRms := w.mag mode 0
      let s1 := s.onMeter b fun m => { m with
        win := { MeterWin.empty (last + 1) with tracked := m.trackValid },
        reading := some reading, harmonics := harm ++ m.harmonics.filter fun h => !(fund && h.ch == thdCh),
        rotation := m.rotation + b2n fund, windows := bump 32 m.windows, varh := varh, vah := vah, delay := d, gain := g,
        tempIdx := temp, iIdx := (curs.map curIdx).headD 0, outT := outT, outI := outI,
        trackValid := ac && decide ((y.ent 432 4 : Int) * 1000000 ≤ uRms) && s.drawAt 60 % 2 == 0 }
      let s2 := if ac then s1.drawnN 61 else s1
      if (m.outT || m.outI) != (outT || outI) then
        s2.stage b 6 ⟨192 + b.val, 0x0A02, b2n (outT || outI) + 2 * b2n outT + 4 * b2n outI, 16 * last⟩
      else s2

/-- The energy that import and export accumulators received goes to the pulse sources of the bay (R382, R385). -/
def State.feedPulses (s : State) (b : BayId) (imp exp : Int) (t : Nat) : State :=
  let pick := fun (p : PulseOut) => if p.export_ then exp else imp
  let s1 := (List.finRange 8).foldl (fun (s : State) i =>
    let p := s.pulses.balls[i]
    if p.on && p.bay == b.val then
      let r := (p.feed (pick p) t).overEvent b.val i.val s.now
      r.2.foldl (fun s e => s.stage b 6 e) (s.onBall i fun _ => r.1)
    else s) s
  let y := s1.bays[b]
  let p := y.meter.led
  if bitOf (y.ent 416 1) 2 then
    let p := { p with on := true, export_ := bitOf (y.ent 416 1) 3, const := y.ent 418 4, width := 1000 * y.ent 422 2 }
    let r := (p.feed (pick p) t).overEvent b.val 8 s1.now
    r.2.foldl (fun s e => s.stage b 6 e) (s1.onMeter b fun m => { m with led := r.1 })
  else s1

/-- Whether the window in progress ends with index `k` (R371): a tracked window at its 10th or 12th crossing, whose place
the tracker finds (a free value, log 5), a fixed one at a multiple of 12,500; and the crossings counted so far. -/
def State.windowEnds (s : State) (b : BayId) (k : Nat) : Bool × Nat :=
  let y := s.bays[b]
  let w := y.meter.win
  let periods := if bitOf (y.ent 416 1) 1 then 12 else 10
  if y.calGet 1 1 != 3 && w.tracked && y.meter.trackValid then
    let c := w.crossings + s.draw % 2
    (periods ≤ c, c)
  else ((k + 1) % 12500 == 0, 0)

/-- Commit the energy record of an index (R376): whole units pass, and increments of a window go in the record of its
last index. -/
def State.emitRecord (s : State) (b : BayId) (k flags gen : Nat) (closed lost : Bool) : State :=
  let m := s.bays[b].meter
  let (wi, ai) := releaseI m.accImp
  let (we, ae) := releaseI m.accExp
  let vs := m.varh.toList.map releaseN
  let as := m.vah.toList.map releaseN
  let zero := fun (n : Nat) => if closed then n else 0
  let out := b2n (m.outT || m.outI)
  let r : EnergyRec :=
    { stamp := 16 * k, flags := flags ||| (2 * out) ||| (16 * b2n closed), state := m.st.code,
      whImp := if lost then 0 else wi, whExp := if lost then 0 else we, varh := vs.map fun v => zero v.1,
      vahImp := zero (as.getD 0 (0, 0)).1, vahExp := zero (as.getD 1 (0, 0)).1, gen := gen }
  s.onMeter b fun m => { m with
    records := m.records ++ [r], accImp := if lost then m.accImp else ai, accExp := if lost then m.accExp else ae,
    varh := if closed then Vector.ofFn fun i : Fin 4 => (vs.getD i.val (0, 0)).2 else m.varh,
    vah := if closed then Vector.ofFn fun i : Fin 2 => (as.getD i.val (0, 0)).2 else m.vah }

/-- METER_SUBST, at most once per second (R396). -/
def State.substEvent (s : State) (b : BayId) (stamp : Nat) : State :=
  let m := s.bays[b].meter
  let free := match m.substRaised with
    | some t => decide (t + 1000000 ≤ s.now)
    | none => true
  if 0 < m.substSecond && free then
    (s.onMeter b fun m => { m with substSecond := 0, substRaised := some s.now }).stage b 6
      ⟨192 + b.val, 0x0A03, m.substSecond % 2 ^ 16, stamp⟩
  else s

/-- The end of a run of lost indices: METER_LOST, and the legal court's gap (R366, R396, R411; log 27). -/
def State.lostRunEnd (s : State) (b : BayId) : State :=
  let m := s.bays[b].meter
  if m.lost && m.present = 0 && 4 < m.miss then
    (s.stage b 6 ⟨192 + b.val, 0x0A04, satN 32 (m.miss - 4), m.lostFirst⟩).meterGap b m.lostFirst (m.miss - 4)
  else s

/-- Correct, count and window one index whose samples are at hand. -/
def State.process (s : State) (b : BayId) (k gen flags : Nat) (temp : Option Int) (replay : Bool) : State :=
  let y := s.bays[b]
  let mode := y.calGet 1 1
  let x := Vector.ofFn fun c : Fin 8 => y.corrected c k
  let (prod, p) := samplePower mode (y.calGet 20 4) x
  let e := sampleEnergy p
  let imp := if mode = 3 then decide (0 ≤ p) else
    match y.meter.reading with
    | some r => decide (0 ≤ r.power.getD 9 0)
    | none => true
  let (m1, ri, re) := y.meter.addEnergy imp e
  let (ends, cross) := s.windowEnds b k
  let s1 := (s.onMeter b fun _ => { m1 with
    next := k + 1, p16 := (p :: m1.p16).take 16, win := { m1.win.add x prod p temp flags with crossings := cross },
    replayed := if replay then bump 32 m1.replayed else m1.replayed }).drawnN (b2n (mode != 3))
  let s2 := (s1.feedPulses b ri re (16 * k)).meterRefresh b
  let noFreq := if mode != 3 && !y.meter.trackValid then 4 else 0
  let s3 := if ends then s2.closeWindow b k gen else s2
  s3.emitRecord b k (flags ||| noFreq) gen ends false

/-- The meter cell processes one index (R366, R369 to R377). -/
def State.meterIndex (s : State) (b : BayId) (k : Nat) : State :=
  let y0 := s.bays[b]
  let stamp := 16 * k
  let gen := s.gens.at_ b (stamp + 2)
  let newGen := gen != y0.meter.genSeen && y0.meter.win.n != 0
  let s0 := if newGen then s.closeWindow b (k - 1) y0.meter.genSeen else s
  let s0 := s0.onMeter b fun m => { m with
    genSeen := gen, win := if newGen || m.win.n = 0 then { m.win with first := k } else m.win }
  let y := s0.bays[b]
  let replay := stamp + 258 < s.now
  let rf := 8 * b2n replay
  match y.present? k with
  | none =>
    let miss := y.meter.miss + 1
    if 4 < miss || y.meter.last.isNone then
      let s1 := (s0.onMeter b fun m => { m with
        next := k + 1, miss := miss, present := 0, lost := true, lostN := bump 32 m.lostN,
        replayed := if replay then bump 32 m.replayed else m.replayed,
        lostFirst := if m.miss ≤ 4 then stamp else m.lostFirst }).meterRefresh b
      s1.emitRecord b k rf gen false true
    else
      let s1 := s0.onMeter b fun m => { m with
        miss := miss, present := 0, subst := bump 32 m.subst, substSecond := m.substSecond + 1 }
      (s1.process b k gen (rf + 1) none replay).substEvent b stamp
  | some smp =>
    let s1 := s0.lostRunEnd b
    let s2 := s1.onMeter b fun m => { m with
      last := some smp, miss := 0, present := min 16 (m.present + 1), lost := m.lost && m.present + 1 < 16 }
    s2.process b k gen rf (some smp.temp) replay
/-- METER_INDEX (R377, R380): the next index, once index k + 16 has been published. A meter that is OFF keeps its place in
the schedule. -/
def execMeterIndex (b : BayId) (s : State) : Out :=
  .next (let y := s.bays[b]
    if y.meterOff then
      (s.onMeter b fun m => { m with next := (s.now - 258) / 16 + 1, miss := 0, last := none,
                                     win := MeterWin.empty ((s.now - 258) / 16 + 1) }).meterRefresh b
    else if 16 * y.meter.next + 258 ≤ s.now then s.meterIndex b y.meter.next
    else s)

/-- METER_CELL_TIMEOUT (R378): no record for 32 tk. -/
def execMeterCellTimeout (b : BayId) (s : State) : Out :=
  .next (if s.legal.lastRecord[b] + 32 ≤ s.now && !s.bays[b].meterOff then
      (s.onLegal fun l => { l with cellLate := l.cellLate ||| BitVec.ofNat 96 (2 ^ b.val) }).meterRefresh b
    else s)

/- Commands (R389 to R395). -/

/-- METER_STATUS (R389). -/
def cardMeterStatus (o : Origin) (bay : Nat) (s : State) : State :=
  let layout := [8, 8, 8, 8, 384, 64, 16, 16, 32] ++ (List.replicate 8 [16, 32]).flatten ++ [32, 32, 32, 32, 64, 32]
  card o 0x0A01 layout (fun t => [bayPermit o [0, 1] 1 bay t, rng 1 (bay < 96)])
    (fun t => (t, atBay bay [] fun b =>
      let y := t.bays[b]
      let m := y.meterCk
      [m.st.code, m.reason, y.calGet 1 1, b2n (m.outT || m.outI) + 2 * b2n m.trackValid,
       (y.cal.map (·.hash)).getD 0, y.calGet 56 8, ubits 16 m.tempIdx, 0, (m.iIdx / 1000000).toNat] ++
      ((List.finRange 8).flatMap fun c => [ubits 16 m.delay[c], m.gain[c]]) ++
      [m.subst, m.lostN, m.replayed, m.windows, 16 * m.next, t.gens.bay[b]])) s

/-- The command METER_STATUS (R389). -/
def execMeterStatus (o : Origin) (bay : Nat) (s : State) : Out := .next (cardMeterStatus o bay s)

/-- METER_READ (R390). -/
def cardMeterRead (o : Origin) (bay : Nat) (s : State) : State :=
  let layout := [8, 8, 16, 64, 64, 32, 32] ++ (List.replicate 8 [32, 16, 16]).flatten ++ List.replicate 13 32 ++ [16, 16]
  card o 0x0A02 layout
    (fun t => [bayPermit o [0, 1] 1 bay t, rng 1 (bay < 96),
      need (atBay bay true fun b => !t.bays[b].meterOff && t.bays[b].meterCk.reading.isSome) stBAD_STATE 0])
    (fun t => (t, atBay bay [] fun b =>
      match t.bays[b].meterCk.reading with
      | none => []
      | some r =>
        [t.bays[b].meterCk.st.code, r.flags, 0, r.first, r.last, r.gen, r.freq] ++
        ((List.range 8).flatMap fun c => [ubits 32 (r.mag.getD c 0), ubits 16 (r.angle.getD c 0), r.thd.getD c 0xFFFF]) ++
        ((List.range 12).map fun i => ubits 32 (r.power.getD i 0)) ++ [ubits 32 r.transfer, ubits 16 r.pf, 0])) s

/-- The command METER_READ (R390). -/
def execMeterRead (o : Origin) (bay : Nat) (s : State) : Out := .next (cardMeterRead o bay s)

/-- METER_HARMONICS (R391). -/
def cardMeterHarmonics (o : Origin) (bay channel : Nat) (s : State) : State :=
  card o 0x0A03 ([64, 32, 32] ++ List.replicate 39 16)
    (fun t => [bayPermit o [0, 1] 1 bay t, rng 1 (bay < 96),
      rng 2 (atBay bay (channel < 8) fun b => channel < 8 && bitOf (t.bays[b].calGet 2 1) channel),
      need (atBay bay true fun b => t.bays[b].meterCk.harmonics.any (·.ch == channel)) stBAD_STATE 0])
    (fun t => (t, atBay bay [] fun b =>
      match t.bays[b].meterCk.harmonics.find? (·.ch == channel) with
      | none => []
      | some h => [h.last, h.gen, h.h1] ++ h.hs)) s

/-- The command METER_HARMONICS (R391). -/
def execMeterHarmonics (o : Origin) (bay channel : Nat) (s : State) : Out := .next (cardMeterHarmonics o bay channel s)

/-- Whether a calibration table keeps the field ranges and the length of R367. -/
def calTableOk (b : List Byte) : Bool :=
  let mode := leGet b 1 1
  let mask := leGet b 2 1
  let must := if mode = 1 then 3 else if mode = 2 then 0x3F else 3
  let may := if mode = 1 then 7 else if mode = 2 then 0x7F else 3
  let ts := (List.range 8).map fun i => sval 8 (leGet b (24 + i) 1) + 128
  let is := (List.range 6).map fun i => leGet b (32 + 4 * i) 4
  let zero := fun (lo hi : Nat) => (List.range (hi - lo)).all fun k => leGet b (lo + k) 1 == 0
  leGet b 0 1 == 1 && 1 ≤ mode && mode ≤ 3 && mask &&& must == must && mask ||| may == may && leGet b 3 1 ≤ 1 &&
  b.length == 136 + 288 * (calChannels mask).length && 1 ≤ leGet b 12 4 && leGet b 12 4 ≤ 1000000000 &&
  1 ≤ leGet b 16 4 && leGet b 16 4 ≤ 1000000000 && leGet b 20 4 ≤ 1000000 && (mode == 3 || leGet b 20 4 == 0) &&
  ts.all (fun t => decide (68 ≤ t) && decide (t ≤ 253)) && rising (ts.map Int.toNat) && is.all (· ≤ 1000000) && rising is &&
  (leGet b 3 1 == 0 || zero 96 129) && leGet b 129 1 ≤ 1 && zero 130 136

/-- Whether legal metrology locks a bay's calibration: a contactor ON, or a session under way (R388). -/
def Bay.calLocked (b : Bay) : Bool := b.contactorOn || !b.session.st.isIdle

/-- CAL_LOAD (R367, R388, R392): armed as a change of the bay's settings. -/
def cardCalLoad (o : Origin) (bay transfer : Nat) (s : State) : State :=
  let layout := [384, 32, 64]
  let inv := fun (t : State) => atBay bay t fun b => t.tamper 2 b.val 0 none
  cardFull o 0x0A10 layout
    (fun t =>
      let d := t.xferData o.court transfer
      let held := (t.xfer? o.court transfer).isSome
      let p := Config.cosePayload d
      [permit o [0, 1], rng 1 (bay < 96), need held stBAD_STATE 0,
       need (!held || (p.map calTableOk).getD false) stRANGE 0,
       need (atBay bay true fun b => !t.bays[b].calLocked) stLEGAL_LOCK 0,
       (match p with
        | some p => (t.calKeyCheck d ((p.drop 64).take 65) (leGet p 3 1)).map fun c => (stREJECTED_CRYPTO, c)
        | none => none),
       need ((t.courts[o.court].inXfers.filter (!·.closed)).length < 4) stNO_RESOURCE 0])
    (fun st t => if st = stLEGAL_LOCK || st = stREJECTED_CRYPTO then inv t else t)
    (fun t => atBay bay t fun b =>
      let h := Config.sha384 ((Config.cosePayload (t.xferData o.court transfer)).getD [])
      let pick : Setting → Option (Option Nat) := fun c => match c with
        | .calLoad c2 b2 x => if b2 = bay then
            some (some (Config.sha384 ((Config.cosePayload (t.xferData c2 x)).getD []))) else none
        | _ => none
      let same := t.planned pick (t.bays[b].cal.map (·.hash)) == some h
      t.arm o (.calLoad o.court bay transfer) (bayBit b) false same fun c => (pick c).isSome)
    s

/-- The command CAL_LOAD (R392). -/
def execCalLoad (o : Origin) (bay transfer : Nat) (s : State) : Out := .next (cardCalLoad o bay transfer s)

/-- A calibration table takes effect (R371, R392, R396, R418): the window closes and the next uses point 0; a hash that
begins differently from CAL_ID is logged. -/
def State.applyCal (s : State) (o : Origin) (b : BayId) (transfer : Nat) : State :=
  let p := (Config.cosePayload (s.xferData o.court transfer)).getD []
  let h := Config.sha384 p
  let m := s.bays[b].meter
  let s1 := if m.win.n = 0 then s else s.closeWindow b (m.next - 1) m.genSeen
  let s2 := s1.onBay b fun y =>
    let f := fun (m : MeterCell) => { m.pointZero p with win := MeterWin.empty m.next }
    { y with cal := some ⟨p, h⟩, meter := f y.meter, meterCk := f y.meterCk }
  let id := s2.legal.regs.meters[meterOf b].calId
  let s3 := if id = hash8 h then s2 else
    (s2.onRegs fun r => r.onMeter (meterOf b) fun x => { x with calId := hash8 h }).log s.now 0x05 b.val (hash8 h) none
  let s4 := s3.onLegal fun l => { l with calSince := l.calSince ||| BitVec.ofNat 97 (2 ^ b.val) }
  ((s4.raiseNow (192 + b.val) 0x0A07 (h % 2 ^ 32)).consumeXfer o.court transfer).meterRefresh b

/-- PULSE_MAP (R393). -/
def cardPulseMap (o : Origin) (ball bay source polarity const width : Nat) (s : State) : State :=
  cardLater o 0x0A20 [32, 64]
    (fun t => [permit o [0, 1], rng 1 (ball < 8), rng 2 (bay < 96 || bay == 0xFF), rng 3 (source ≤ 1), rng 4 (polarity ≤ 1),
      rng 5 (1 ≤ const && const ≤ 100000), rng 6 (10 ≤ width && width ≤ 65535),
      need (atBay bay true fun b => !t.bays[b].meterOff) stBAD_STATE 0])
    (fun t =>
      let p := t.pulses.balls[Fin.ofNat 8 ball]
      let pick : Setting → Option (Nat × Nat × Nat × Nat × Nat) := fun c => match c with
        | .pulseMap l b so po co wi => if l = ball then some (b, so, po, co, wi) else none
        | _ => none
      let same := t.planned pick (p.bay, b2n p.export_, b2n p.activeLow, p.const, p.width) ==
        (bay, source, polarity, const, width)
      t.arm o (.pulseMap ball bay source polarity const width) 0 true same fun c => (pick c).isSome)
    s

/-- The command PULSE_MAP (R393). -/
def execPulseMap (o : Origin) (ball bay source polarity const width : Nat) (s : State) : Out :=
  .next (cardPulseMap o ball bay source polarity const width s)

/-- A pulse ball's assignment takes effect: its accumulator starts at 0 and queued pulses are dropped (R393). -/
def State.applyPulseMap (s : State) (ball bay source polarity const width : Nat) : State :=
  s.onBall (Fin.ofNat 8 ball) fun p => { PulseOut.reset with
    on := bay < 96, bay := bay, export_ := source == 1, activeLow := polarity == 1, const := const, width := width,
    late := p.late, overrate := p.overrate, raisedAt := p.raisedAt }

/-- S0_CONFIG (R394). -/
def cardS0Config (o : Origin) (input polarity minMs const : Nat) (s : State) : State :=
  cardLater o 0x0A21 [32, 64]
    (fun _ => [permit o [0], rng 1 (input < 8), rng 2 (polarity ≤ 1), rng 3 (2 ≤ minMs && minMs ≤ 200),
      rng 4 (1 ≤ const && const ≤ 100000)])
    (fun t =>
      let p := t.pulses.s0[Fin.ofNat 8 input]
      let pick : Setting → Option (Option (Nat × Nat × Nat)) := fun c => match c with
        | .s0Config i po mi co => if i = input then some (some (po, mi, co)) else none
        | _ => none
      let same := t.planned pick (if p.set then some (b2n p.activeLow, p.minMs, p.const) else none) ==
        some (polarity, minMs, const)
      t.arm o (.s0Config input polarity minMs const) 0 true same fun c => (pick c).isSome)
    s

/-- The command S0_CONFIG (R394). -/
def execS0Config (o : Origin) (input polarity minMs const : Nat) (s : State) : Out :=
  .next (cardS0Config o input polarity minMs const s)

/-- An S0 input's settings take effect; its counts are kept (R394). -/
def State.applyS0 (s : State) (input polarity minMs const : Nat) : State :=
  { s with pulses := { s.pulses with s0 := vmod s.pulses.s0 (Fin.ofNat 8 input) fun p =>
      { p with set := true, activeLow := polarity == 1, minMs := minMs, const := const } } }

/-- S0_READ (R395). -/
def cardS0Read (o : Origin) (s : State) : State :=
  card o 0x0A22 ((List.replicate 8 [64, 32, 64, 64]).flatten) (fun _ => [permit o [0, 1]])
    (fun t => (t, t.pulses.s0.toList.flatMap fun p => [p.count, p.short, p.count * 1000000 / p.const, p.lastTick])) s

/-- The command S0_READ (R395). -/
def execS0Read (o : Origin) (s : State) : Out := .next (cardS0Read o s)

end Sys2Proof.Machine
end

