-- ==== Sys2Proof/Machine/SafeUnit.lean ====
section
/-! DEFINITION. The safety unit: inputs, functions, encoders and output pairs (spec file 18). -/

namespace Sys2Proof.Machine

/-- Change the safety unit. -/
def State.onSafety (s : State) (f : Safety → Safety) : State := { s with safety := f s.safety }

/-- A field of the configuration in force (R528); zero where there is none. -/
def Safety.get (k : Safety) (off n : Nat) : Nat :=
  match k.cfg with
  | some c => leGet c off n
  | none => 0

/-- A field of an input record (R487). -/
def Safety.inRec (k : Safety) (i off n : Nat) : Nat := k.get (192 + 4 * i + off) n

/-- A field of a function record (R492). -/
def Safety.fnRec (k : Safety) (f off n : Nat) : Nat := k.get (288 + 48 * f + off) n

/-- A field of an encoder record (R502). -/
def Safety.encRec (k : Safety) (n off m : Nat) : Nat := k.get (1056 + 8 * n + off) m

/-- A field of a pair record (R505). -/
def Safety.pairRec (k : Safety) (p off n : Nat) : Nat := k.get (1088 + 8 * p + off) n

/-- A field of a connection record (R529). -/
def Safety.connRec (k : Safety) (c off n : Nat) : Nat := k.get (1152 + 16 * c + off) n

/-- A field of a bay record (R530). -/
def Safety.bayRec (k : Safety) (b off n : Nat) : Nat := k.get (1280 + 40 * b + off) n

/-- KIND of a function (R493). -/
def Safety.kind (k : Safety) (f : Nat) : Nat := k.fnRec f 0 1

/-- A flag of a function: 0 CAT1, 1 AUTO_RESTART, 2 DEGRADED_OK, 3 DIR_NEG (R492). -/
def Safety.fnFlag (k : Safety) (f i : Nat) : Bool := bitOf (k.fnRec f 1 1) i

/-- P_REQ of a state (R494). -/
def permitReq (st : Nat) : Bool := st == 0 || st == 1 || 7 ≤ st

/-- P_POW of a state (R494). -/
def permitPow (st : Nat) : Bool := permitReq st || st == 2

/-- The filtered level of an input named by a record; none named reads 0. -/
def Safety.level (k : Safety) (i : Nat) : Bool := if h : i < 24 then (k.ins[(⟨i, h⟩ : Fin 24)]).filt else false

/- Inputs (R488 to R491). -/

/-- The length in us of an eighth of the test-pulse period (R488). -/
def Safety.slotUs (k : Safety) : Nat := max 1 (k.get 30 2 * 125)

/-- TPO as it is driven at a time: bit n TPOn (R488). -/
def Safety.tpo (k : Safety) (t : Nat) : Nat :=
  if k.cfg.isNone then 0xFF
  else 0xFF - (if t % k.slotUs < k.get 28 2 then 2 ^ (t / k.slotUs % 8) else 0)

/-- The test checks of an input at a time (R489). -/
def SafeIn.test (x : SafeIn) (own : Bool) (w slot o : Nat) (last : Bool) (raw : Bool) : SafeIn :=
  let x1 : SafeIn :=
    if slot ≤ o + 50 then { x with pre := if o + 50 = slot then raw else x.pre && raw }
    else if o < w ∧ w ≤ o + 50 then
      (if o + 50 = w then { x with zero := !raw, one := raw } else { x with zero := x.zero || !raw, one := x.one || raw })
    else if w + 100 ≤ o ∧ o < w + 150 then { x with post := if o = w + 100 then raw else x.post && raw }
    else x
  let x2 : SafeIn := if o = w + 149 then
      { x1 with failS := x1.failS || (own && x1.one), failC := x1.failC || (!own && x1.zero && x1.pre && x1.post) }
    else x1
  if last then
    let pass := !x2.failS && !x2.failC
    let good := if pass then x2.good + 1 else 0
    { x2 with
      kind := if x2.failS && x2.prevS then 1 else if x2.failC && x2.prevC then 2 else if 8 ≤ good then 0 else x2.kind,
      prevS := x2.failS, prevC := x2.failC, failS := false, failC := false, good := good }
  else x2

/-- The filter of an input at a time (R490), with the rise and fall of its filtered level (R509, R510). -/
def SafeIn.filter (x : SafeIn) (lg blank : Bool) (filterUs t : Nat) : SafeIn :=
  if blank then x
  else if lg = x.filt then { x with run := 0 }
  else if x.run + 1 < filterUs then { x with run := x.run + 1 }
  else if lg then
    let early : Bool := match x.voidAt with
      | some v => decide (t < v + 50000)
      | none => false
    { x with filt := true, run := 0, roseAt := some t, void := early, stuck := false, rise := true }
  else
    let held := t - x.roseAt.getD t
    { x with
      filt := false, run := 0, roseAt := none, stuck := false, void := false,
      edge := x.edge || (!x.void && !x.stuck && x.roseAt.isSome && 50000 ≤ held && held ≤ 3000000),
      voidAt := if x.stuck then some t else if x.void then x.voidAt else none }

/-- One sample of an input. -/
def Safety.sampleIn (k : Safety) (i : Fin 24) (raw : Bool) (t : Nat) : SafeIn :=
  let x := k.ins[i]
  let flags := k.inRec i.val 0 1
  if !bitOf flags 0 then { x with raw := raw }
  else
    let src := k.inRec i.val 1 1
    let w := k.get 28 2
    let slot := k.slotUs
    let o := t % slot
    let own := src == t / slot % 8 + 1
    let blank := own && decide (o < w + 100)
    let x1 := ({ x with raw := raw } : SafeIn).filter (raw != bitOf flags 1) blank (k.inRec i.val 2 2) t
    if src = 0 then x1 else x1.test own w slot o (t / slot % 8 == 7 && o + 1 == slot) raw

/-- A dual pair at a time (R491): since when it differs, and the clearing of DISCREPANCY. -/
def SafeDual.step (d : SafeDual) (a b : Bool) (discMs t : Nat) : SafeDual :=
  let differ := if a = b then none else some (d.differ.getD t)
  if !d.fault then { d with differ := differ }
  else
    let zs := d.zeroSeen || (!a && !b)
    if !a && !b then { d with differ := differ, zeroSeen := true, firstOne := none }
    else if a ≠ b then { d with differ := differ, firstOne := if zs then some (d.firstOne.getD t) else none }
    else
      let quick := zs && decide (t - d.firstOne.getD t ≤ 1000 * discMs)
      if quick then SafeDual.reset else { d with differ := differ, zeroSeen := false, firstOne := none }

/- Encoders (R501). -/

/-- The step of a quadrature transition: 1, -1, 0, or none where both lines changed. Lines as ENCA + 2 ENCB. -/
def quadStep (old new : Nat) : Option Int :=
  let ring := fun (x : Nat) => if x = 0 then 0 else if x = 1 then 1 else if x = 3 then 2 else 3
  let d := (ring new + 4 - ring old) % 4
  if d = 0 then some 0 else if d = 1 then some 1 else if d = 3 then some (-1) else none

/-- One sample of an encoder's lines (R501). -/
def SafeEnc.sample (e : SafeEnc) (up : Bool) (w t tick : Nat) : SafeEnc :=
  let ab := w % 4
  let ok := bitOf w 2
  let step := quadStep (e.ab.getD ab) ab
  let d : Int := (step.getD 0) * (if up then 1 else -1)
  let pos := e.pos + d
  let range := decide (pos < -(2 ^ 31 : Int)) || decide ((2 ^ 31 : Int) ≤ pos)
  let ill := step.isNone
  let bad := if ill then 1 else if !ok then 2 else if range then 3 else 0
  { e with
    ab := some ab, ok := ok, pos := if range then e.pos else pos, valid := e.valid && bad == 0, refd := e.refd && bad == 0,
    bad := if bad = 1 then 1 else if bad ≠ 0 ∧ e.valid ∧ e.bad = 0 then bad else e.bad,
    illegal := if ill then bump 32 e.illegal else e.illegal, lastIllegal := if ill then tick else e.lastIllegal,
    stamps := if ill then t :: e.stamps.filter (fun x => t < x + 1000000) else e.stamps }

/-- The samples of a microsecond. -/
def Safety.sampleEnc (k : Safety) (n : Fin 4) (ws : List Nat) (t tick : Nat) : SafeEnc :=
  let e := k.encs[n]
  let flags := k.encRec n.val 0 1
  if !bitOf flags 0 then e
  else
    let up := Config.encForward != bitOf flags 1
    let e1 := ws.foldl (fun e w => e.sample up (w / 8 ^ n.val % 8) t tick) e
    { e1 with hist := (e1.pos :: e1.hist).take (k.encRec n.val 2 2 + 1) }

/-- The count difference over the last SPD_WIN_US (R503); with less held, from the oldest held (log 78). -/
def SafeEnc.moved (e : SafeEnc) : Int := e.hist.headD 0 - e.hist.getLastD 0

/-- Speed in counts per second. -/
def Safety.speed (k : Safety) (n : Fin 4) : Int :=
  ((k.encs[n]).moved * 1000000).tdiv (max 1 (k.encRec n.val 2 2) : Nat)

/-- The encoder of a function, where it names one. -/
def Safety.encOf (k : Safety) (f : Nat) : Option (Fin 4) :=
  let n := k.fnRec f 7 1
  if h : n < 4 then some ⟨n, h⟩ else none

/-- The functions that a curtain names as its fall-backs (R492). -/
def Safety.fallbacks (k : Safety) (f : Nat) : Nat := if k.kind f = 4 then k.fnRec f 16 2 else 0

/-- Whether a function is a fall-back of some curtain (R504). -/
def Safety.isFallback (k : Safety) (g : Nat) : Bool := (List.range 16).any fun f => bitOf (k.fallbacks f) g

/-- Whether a function of KIND 5 to 7 is armed (R504). -/
def Safety.armed (k : Safety) (g : Fin 16) : Bool :=
  !k.isFallback g.val || (List.finRange 16).any fun f => bitOf (k.fallbacks f.val) g.val && ((k.fns[f]).st == 7 || (k.fns[f]).st == 8)

/-- Whether every fall-back of a curtain is in STANDBY or RUN with its encoder VALID (R499). -/
def Safety.canArm (k : Safety) (f : Nat) : Bool :=
  (List.finRange 16).all fun g => !bitOf (k.fallbacks f) g.val ||
    (((k.fns[g]).st == 9 || (k.fns[g]).st == 1) && (match k.encOf g.val with
      | some n => (k.encs[n]).valid
      | none => false))

/-- The direction in which an SDI function may move: 1 or -1 (R492). -/
def Safety.dir (k : Safety) (f : Nat) : Int := if k.fnFlag f 3 then -1 else 1

/-- What R503 finds of a function: 0 no demand, 3 a limit, 4 its encoder. -/
def Safety.motion (k : Safety) (f : Fin 16) : Nat :=
  match k.encOf f.val with
  | none => 4
  | some n =>
    let e := k.encs[n]
    let la := sval 32 (k.fnRec f.val 20 4)
    let lb := sval 32 (k.fnRec f.val 24 4)
    if !e.valid then 4
    else if k.kind f.val = 5 then
      (if la.natAbs * k.encRec n.val 2 2 < e.moved.natAbs * 1000000 then 3 else 0)
    else if k.kind f.val = 6 then (if !e.refd then 4 else if e.pos < la ∨ lb < e.pos then 3 else 0)
    else (if lb < ((k.fns[f]).far - e.pos) * k.dir f.val then 3 else 0)

/- Functions (R494 to R500). -/

/-- Whether one of the connections of a function is not OK (R521). -/
def Safety.connBad (k : Safety) (f : Nat) : Bool :=
  (List.finRange 8).any fun c => k.connRec c.val 0 1 != 0 && bitOf (k.connRec c.val 10 2) f && (k.conns[c]).st != 2

/-- Whether an OK connection of a function carries a demand of its peer (R521). -/
def Safety.connDemand (k : Safety) (f : Nat) : Bool :=
  (List.finRange 8).any fun c => k.connRec c.val 0 1 != 0 && bitOf (k.connRec c.val 10 2) f && (k.conns[c]).st == 2 &&
    (((k.conns[c]).demand &&& k.connRec c.val 8 2) != 0 || (k.conns[c]).peer != 2)

/-- The fault kind of an input a record names. -/
def Safety.inKind (k : Safety) (i : Nat) : Nat := if h : i < 24 then (k.ins[(⟨i, h⟩ : Fin 24)]).kind else 0

/-- Whether a function evaluates its inputs A and B, and C and D, as dual pairs (R493). -/
def Safety.duals (k : Safety) (f : Nat) : Bool × Bool :=
  let n := k.kind f
  (1 ≤ n && n ≤ 4, n == 3)

/-- The fault conditions of a function: whether it is one of the OSSD inputs alone, the CAUSE, the input or pair concerned
(R489, R491, R500, R508, R521). -/
def Safety.faults (k : Safety) (f : Fin 16) : List (Bool × Nat × Nat) :=
  let x := k.fns[f]
  let ins := [2, 3, 4, 5].filterMap fun (o : Nat) =>
    let i := k.fnRec f.val o 1
    if k.kind f.val ≤ 4 ∧ k.inKind i ≠ 0 then some (decide (o ≤ 3), 1, i) else none
  let prs := (List.finRange 8).filterMap fun p =>
    if (bitOf (k.fnRec f.val 12 1) p.val || bitOf (k.fnRec f.val 13 1) p.val) && (k.pairs[p]).kind != 0 then some (false, 5, p.val) else none
  ins ++ (if x.d1.fault then [(true, 2, k.fnRec f.val 2 1)] else []) ++ (if x.d2.fault then [(false, 2, k.fnRec f.val 4 1)] else []) ++
    prs ++ (if k.connBad f.val then [(false, 0, 0xFF)] else [])

/-- Whether the dual pair A, B of a function is healthy (R491). -/
def Safety.healthy (k : Safety) (f : Nat) : Bool := k.level (k.fnRec f 2 1) && k.level (k.fnRec f 3 1)

/-- The demand of a function from its own inputs and encoder: none, or its CAUSE (R497, R499, R503). -/
def Safety.ownDemand (k : Safety) (f : Fin 16) : Option Nat :=
  let n := k.kind f.val
  let x := k.fns[f]
  if n = 1 ∨ n = 2 then (if k.healthy f.val then none else some 1)
  else if n = 4 then (if x.st = 7 ∨ x.st = 8 ∨ k.healthy f.val then none else some 1)
  else if 5 ≤ n ∧ k.armed f ∧ x.lim ≠ 0 then some x.lim
  else none

/-- A function goes to a state: FUNC_STATE (R494, R516). -/
def State.fnGo (s : State) (f : Fin 16) (st cause inp : Nat) : State :=
  let x := s.safety.fns[f]
  if x.st = st then s
  else
    let own := if permitReq st then false else x.own || (cause != 0 && permitReq x.st) || (1 ≤ cause && cause ≤ 5)
    (s.onSafety fun k => { k with fns := vmod k.fns f fun x => { x with st := st, cause := cause, inp := inp, since := k.us, own := own } }).raiseNow
      (480 + f.val) 0x0E01 (st + 2 ^ 4 * x.st + 2 ^ 8 * cause + 2 ^ 16 * inp)

/-- A demand moves a function from a permitting state (R495): STOPPING with CAT1, else DEMAND. -/
def State.fnDemand (s : State) (f : Fin 16) (cause : Nat) : State :=
  let k := s.safety
  let s1 := s.onSafety fun k => { k with demands := bump 32 k.demands }
  s1.fnGo f (if k.fnFlag f.val 0 then 2 else 3) cause 0xFF

/-- The end of muting (R499): MUTE, then RUN, or a demand where the OSSD pair is not healthy. -/
def State.muteEnd (s : State) (f : Fin 16) (limit : Bool) : State :=
  let s1 := s.raiseNow 508 0x0E07 (f.val + 2 ^ 5 * b2n limit)
  if s1.safety.healthy f.val then s1.fnGo f 1 (if limit then 6 else 0) 0xFF else s1.fnDemand f (if limit then 6 else 1)

/-- A function arms: a fall-back that was in STANDBY begins in RUN, an SDI function from where it stands (R503, R504). -/
def State.fnArm (s : State) (f : Fin 16) : State :=
  let k := s.safety
  let pos := match k.encOf f.val with
    | some n => (k.encs[n]).pos
    | none => 0
  (s.onSafety fun k => { k with fns := vmod k.fns f fun x => { x with far := pos, lim := 0 } }).fnGo f 1 0 0xFF

/-- Whether a hand of a TWO_HAND function is actuated, and whether it is released (R498). -/
def Safety.hand (k : Safety) (f o : Nat) : Bool × Bool :=
  let a := k.level (k.fnRec f o 1)
  let b := k.level (k.fnRec f (o + 1) 1)
  (a && b, !a && !b)

/-- A TWO_HAND function in a safety loop (R498). -/
def State.twoHand (s : State) (f : Fin 16) : State :=
  let k := s.safety
  let x := k.fns[f]
  let h1 := k.hand f.val 2
  let h2 := k.hand f.val 4
  let conn := k.connDemand f.val
  if x.st = 6 then
    if conn then s.fnDemand f 0
    else if h1.1 && h2.1 then
      -- both in one loop: the window is open for the second
      (s.onSafety fun k => { k with fns := vmod k.fns f fun x => { x with hand := none } }).fnGo f 1 0 0xFF
    else if h1.1 || h2.1 then
      s.onSafety fun k => { k with fns := vmod k.fns f fun x => { x with hand := some (x.hand.getD k.us) } }
    else if x.hand.isSome ∧ h1.2 ∧ h2.2 then
      s.onSafety fun k => { k with fns := vmod k.fns f fun x => { x with hand := none } }
    else s
  else if x.st = 1 then (if conn then s.fnDemand f 0 else if h1.1 && h2.1 then s else s.fnDemand f 1)
  else if x.st = 3 then (if h1.2 && h2.2 && !conn then s.fnGo f 6 0 0xFF else s)
  else s

/-- Whether a curtain starts muting in this loop (R499): healthy, both muting inputs 1, the second rise now and within LIM_A of the
first, fall-backs ready. -/
def Safety.muteStarts (k : Safety) (f : Fin 16) : Bool :=
  let x := k.fns[f]
  let lim := 1000 * k.fnRec f.val 20 4
  k.kind f.val == 4 && k.healthy f.val && (match x.riseC, x.riseD with
    | some c, some d => max c d == k.us && decide (max c d - min c d ≤ lim)
    | _, _ => false) && k.canArm f.val

/-- One function in a safety loop: faults first, then demands (R495, R497 to R500, R504). -/
def State.fnStep (s : State) (f : Fin 16) : State :=
  let k := s.safety
  let x := k.fns[f]
  let n := k.kind f.val
  let fl := k.faults f
  let own := k.ownDemand f
  let conn := k.connDemand f.val
  let dem : Option Nat := match own with
    | some c => some c
    | none => if conn then some 0 else none
  let left := (List.finRange 16).any fun g => bitOf (k.fallbacks f.val) g.val && (k.fns[g]).st != 1
  if n = 0 ∨ x.st = 0 ∨ x.st = 5 then s
  else match fl.head? with
    | some w =>
      let ossd := n == 4 && k.fnFlag f.val 2 && fl.all fun w => w.1
      if x.st = 8 ∧ ossd then
        (if left then (s.fnGo f 5 w.2.1 w.2.2).raiseNow 509 0x0E08 f.val
         else if conn then (s.fnDemand f 0).raiseNow 509 0x0E08 f.val else s)
      else if ossd ∧ k.canArm f.val then
        ((if x.st = 7 then s.raiseNow 508 0x0E07 f.val else s).fnGo f 8 w.2.1 w.2.2).raiseNow 509 0x0E08 (f.val + 2 ^ 4)
      else
        let s1 := s.fnGo f 5 w.2.1 w.2.2
        if x.st = 8 then s1.raiseNow 509 0x0E08 f.val
        else if x.st = 7 then s1.raiseNow 508 0x0E07 f.val else s1
    | none =>
      if n = 3 then s.twoHand f
      else if x.st = 9 then (if k.armed f then s.fnArm f else s)
      else if x.st = 1 ∧ k.isFallback f.val ∧ !k.armed f then s.fnGo f 9 0 0xFF
      else if x.st = 1 then
        (if k.muteStarts f then (s.fnGo f 7 0 0xFF).raiseNow 508 0x0E07 (f.val + 2 ^ 4)
         else match dem with
          | some c => s.fnDemand f c
          | none => s)
      else if x.st = 7 then
        (if conn then (s.raiseNow 508 0x0E07 f.val).fnDemand f 0
         else if k.level (k.fnRec f.val 4 1) && k.level (k.fnRec f.val 5 1) then s else s.muteEnd f false)
      else if x.st = 8 then
        (if left then (s.fnGo f 5 x.cause x.inp).raiseNow 509 0x0E08 f.val
         else if conn then (s.fnDemand f 0).raiseNow 509 0x0E08 f.val else s)
      else if x.st = 3 then (match dem with
        | some _ => s
        | none => s.fnGo f (if k.fnFlag f.val 1 then 1 else 4) 0 0xFF)
      else if x.st = 4 then (match dem with
        | some c => s.fnGo f 3 c 0xFF
        | none => s)
      else s

/-- What a function tracks in a loop before it is evaluated: its dual pairs, the rises of the muting inputs, the furthest position, the
verdict of R503 every 10 us, a cause of its own (R491, R499, R503, R519). -/
def Safety.trackFn (k : Safety) (f : Fin 16) : SafeFn :=
  let x := k.fns[f]
  let t := k.us
  let du := k.duals f.val
  let disc := k.fnRec f.val 8 2
  let rise := fun (o : Nat) (old : Option Nat) => if k.level (k.fnRec f.val o 1) then some (old.getD t) else none
  let pos := match k.encOf f.val with
    | some n => (k.encs[n]).pos
    | none => 0
  let far := if k.dir f.val * x.far < k.dir f.val * pos then pos else x.far
  let y : SafeFn := { x with
    d1 := if du.1 then x.d1.step (k.level (k.fnRec f.val 2 1)) (k.level (k.fnRec f.val 3 1)) disc t else x.d1,
    d2 := if du.2 then x.d2.step (k.level (k.fnRec f.val 4 1)) (k.level (k.fnRec f.val 5 1)) disc t else x.d2,
    riseC := rise 4 x.riseC, riseD := rise 5 x.riseD, far := far }
  if 5 ≤ k.kind f.val ∧ t % 10 = 0 then
    { y with lim := if k.armed f then ({ k with fns := k.fns.set f y } : Safety).motion f else 0 }
  else y

/- Output pairs (R505 to R508). -/

/-- The kind of a readback mismatch (R508); SRL 1 with SRB 0 and SOH off has none of the kinds, and `free` stands for it (log 82). -/
def pairKind (soh sol srb srl : Bool) (free : Nat) : Nat :=
  if !soh then (if srb then 1 else 1 + free % 4)
  else if !srb then 2 else if !sol then 3 else if srl then 4 else 1 + free % 4

/-- The expected readback: SRB and SRL (R505). -/
def pairExpect (soh sol : Bool) : Bool × Bool := (soh, soh && !sol)

/-- A pair fault: both switches off, PAIR_FAULT (R508). -/
def State.pairFault (s : State) (p : Fin 8) (kind : Nat) : State :=
  (s.onSafety fun k => { k with pairs := vmod k.pairs p fun x => { x with
    sol := false, soh := false, kind := kind, passed := false, mism := 0, changedAt := k.us } }).raiseNow
      (496 + p.val) 0x0E02 (kind + 2 ^ 8)

/-- A sample of a pair's readback (R506). -/
def State.pairSample (s : State) (rb t : Nat) (p : Fin 8) : State :=
  let k := s.safety
  let x := k.pairs[p]
  let srb := bitOf rb p.val
  let srl := bitOf rb (8 + p.val)
  if !bitOf (k.pairRec p.val 0 1) 0 ∨ x.kind ≠ 0 ∨ t < x.changedAt + k.pairRec p.val 2 2 then s
  else if (srb, srl) = pairExpect x.soh x.sol then s.onSafety fun k => { k with pairs := vmod k.pairs p fun x => { x with mism := 0 } }
  else if x.mism + 1 < 3 then s.onSafety fun k => { k with pairs := vmod k.pairs p fun x => { x with mism := x.mism + 1 } }
  else (s.pairFault p (pairKind x.soh x.sol srb srl s.draw)).drawn

/-- Whether a pair is permitted (R506). -/
def State.pairPermit (s : State) (p : Fin 8) : Bool :=
  let k := s.safety
  let named := (List.finRange 16).filter fun f => k.kind f.val != 0 && (bitOf (k.fnRec f.val 12 1) p.val || bitOf (k.fnRec f.val 13 1) p.val)
  k.st == 2 && bitOf (k.pairRec p.val 0 1) 0 && !named.isEmpty && (k.pairs[p]).kind == 0 &&
  (named.all fun f => (!bitOf (k.fnRec f.val 12 1) p.val || permitPow (k.fns[f]).st) &&
    (!bitOf (k.fnRec f.val 13 1) p.val || permitReq (k.fns[f]).st)) &&
  (allBays.all fun b => !(bitOf (k.bayRec b.val 32 1) p.val && s.bays[b].earthLatch))

/-- A pair's switches follow its permit: off both at once, on SOL first (R506). -/
def State.pairDrive (s : State) (p : Fin 8) : State :=
  let ok := s.pairPermit p
  s.onSafety fun k =>
    let x := k.pairs[p]
    if ok && !x.sol then { k with pairs := k.pairs.set p { x with sol := true, solAt := k.us, changedAt := k.us, mism := 0 } }
    else if !ok && (x.sol || x.soh) then
      { k with pairs := k.pairs.set p { x with sol := false, soh := false, changedAt := k.us, mism := 0 } }
    else k

/-- The output pairs that are on, as others read them (R334). -/
def Safety.pairsOn (k : Safety) : BitVec 8 :=
  (List.finRange 8).foldl (fun (m : BitVec 8) p => if (k.pairs[p]).sol && (k.pairs[p]).soh then m ||| BitVec.ofNat 8 (2 ^ p.val) else m) 0

/-- Bring what others read of the pairs up to date. -/
def State.pairsOut (s : State) : State := { s with safePairs := s.safety.pairsOn }

/-- The scope of the stop that the safety unit holds for a bay for its functions, connections and state (R483, R495, R527). -/
def Safety.bayScope (k : Safety) (b : BayId) : Nat :=
  if k.st ≠ 2 then 7
  else
    let f := (List.finRange 16).foldl (fun (m : Nat) f =>
      if k.kind f.val ≠ 0 ∧ bitOf (k.fnRec f.val 28 12) b.val ∧ !permitReq (k.fns[f]).st then m ||| k.fnRec f.val 14 1 else m) 0
    if k.headStop.getLsbD b.val then f ||| k.bayRec b.val 35 1 else f

/-- Drive the stop bus (R483, R484, R495): an outlet without toggle treats each of its bays as stopped with SCOPE 0x07. -/
def State.stopBus (s : State) : State :=
  allBays.foldl (fun (t : State) b => t.onBay b fun y => { y with
    busScope := if s.safety.toggleLost.getLsbD (regionOf b).val then 7 else s.safety.bayScope b }) s

/-- The bay stops of R527: latched while a head connection is not OK or its bay head demands. -/
def Safety.headStops (k : Safety) : BitVec 96 :=
  allBays.foldl (fun (m : BitVec 96) b =>
    if bitOf (k.bayRec b.val 33 1) 0 && ((k.bayConns[b]).st != 2 || bitOf (k.bayConns[b]).demand 0) then m ||| bayBit b else m) k.headStop

/- The safety loop. -/

/-- Raise INPUT_FAULT where the fault kind of an input has changed (R489, R516). -/
def State.inputEvents (s : State) (before : Safety) : State :=
  (List.finRange 24).foldl (fun (t : State) (i : Fin 24) =>
    let was := (before.ins[i]).kind
    let is := (t.safety.ins[i]).kind
    if was = is then t
    else
      let t1 := if was = 0 then t else t.raiseNow 504 0x0E03 (i.val + 2 ^ 8 * was)
      if is = 0 then t1 else t1.raiseNow 504 0x0E03 (i.val + 2 ^ 8 * is + 2 ^ 10)) s

/-- Raise INPUT_FAULT where a DISCREPANCY has cleared (R491, R516). -/
def State.dualEvents (s : State) (before : Safety) : State :=
  (List.finRange 16).foldl (fun (t : State) (f : Fin 16) =>
    let x := before.fns[f]
    let y := t.safety.fns[f]
    let t1 := if x.d1.fault && !y.d1.fault then t.raiseNow 504 0x0E03 (before.fnRec f.val 2 1 + 2 ^ 8 * 3) else t
    if x.d2.fault && !y.d2.fault then t1.raiseNow 504 0x0E03 (before.fnRec f.val 4 1 + 2 ^ 8 * 3) else t1) s

/-- Count the reset pulses that were too short (R509). -/
def shortPulses (before after : Safety) : Nat :=
  ((List.finRange 24).filter fun i =>
    let x := before.ins[i]
    let y := after.ins[i]
    let resets := (List.range 16).any fun f => after.kind f != 0 && after.fnRec f 6 1 == i.val
    resets && x.filt && !y.filt && !x.void && !x.stuck && (match x.roseAt with
      | some r => decide (after.us < r + 50000)
      | none => false)).length

/-- One microsecond of samples (R481). -/
def State.safeSample (s : State) (m : SafeSample) : State :=
  let k := s.safety
  let t := k.us
  let k1 : Safety := { k with
    ins := Vector.ofFn fun i => k.sampleIn i (bitOf m.raw i.val) t,
    encs := Vector.ofFn fun n => k.sampleEnc n m.enc t s.now }
  let k2 : Safety := { k1 with shortResets := satN 32 (k1.shortResets + shortPulses k k1) }
  let s1 := s.onSafety fun _ => k2
  let s2 := (List.finRange 8).foldl (fun s p => s.pairSample m.rb t p) s1
  s2.onSafety fun k => { k with us := k.us + 1 }

/-- The evaluation of a safety loop in RUN: functions that are no fall-backs, then fall-backs, pairs, bay stops. -/
def State.safeEval (s : State) (before : Safety) : State :=
  let all := List.finRange 16
  let s1 := s.onSafety fun k => { k with us := k.us - 1 }
  let s2 := s1.onSafety fun k => { k with fns := Vector.ofFn fun f => k.trackFn f }
  let s3 := (s2.inputEvents before).dualEvents before
  let s4 := all.foldl (fun t f => if t.safety.isFallback f.val then t else t.fnStep f) s3
  let s5 := all.foldl (fun t f => if t.safety.isFallback f.val then t.fnStep f else t) s4
  let s6 := s5.onSafety fun k => { k with headStop := k.headStops }
  let s7 := (List.finRange 8).foldl State.pairDrive s6
  (s7.onSafety fun k => { k with us := k.us + 1 }).pairsOut

/-- SAFETY_LOOP (R481 to R508): two microseconds of samples, then in RUN every function and pair; the stop bus toggles. `ns` is how long
the loop took. -/
def execSafetyLoop (m1 m2 : SafeSample) (ns : Nat) (s : State) : Out :=
  let k0 := s.safety
  .next (if k0.st = 3 ∨ k0.st = 0 then s
    else
      let s1 := (s.onSafety fun k => { k with loopMax := max k.loopMax (satN 16 ns), toggleLost := 0 })
      if k0.st ≠ 2 then
        ((s1.onSafety fun k => { k with
          us := k.us + 2, ins := Vector.ofFn fun i => { k.ins[i] with raw := bitOf m2.raw i.val } }).pairsOut).stopBus
      else (((s1.safeSample m1).safeSample m2).safeEval k0).stopBus)

/- Happenings of the safety unit. -/

/-- Every pair off, every bay stopped (R483). -/
def State.safeOff (s : State) : State :=
  ((s.onSafety fun k => { k with pairs := k.pairs.map fun x => { x with
    sol := false, soh := false, mism := 0, changedAt := if x.sol || x.soh then k.us else x.changedAt } }).pairsOut).stopBus

/-- The unit goes to a state: SAFE_UNIT (R483, R516); FAULT is a fatal event (R588). -/
def State.safeUnit (s : State) (st mon : Nat) : State :=
  let s0 := if st = 3 then s.fatal (siteSb s.now 4 0x0404 0 0 mon 0) else s
  let s1 := s0.onSafety fun k => { k with st := st, mon := mon }
  let s2 := if st = 2 then s1 else s1.safeOff
  s2.raiseNow 507 0x0E06 (st + 2 ^ 4 * mon)

/-- SAFETY_STARTUP_DONE (R483): the start-up tests have passed, or one has failed. -/
def execSafetyStartupDone (ok : Bool) (mon : Nat) (s : State) : Out :=
  .next (if s.safety.st ≠ 0 then s else if ok then s.safeUnit 1 0 else s.safeUnit 3 (mon % 16))

/-- MONITOR_FAULT (R482): a monitor, numbered from 1 in the order of R482, finds a fault. -/
def execMonitorFault (mon : Nat) (s : State) : Out :=
  .next (if s.safety.st = 3 ∨ mon = 0 ∨ 8 < mon then s else s.safeUnit 3 mon)

/-- STOP_BUS_TOGGLE_LOST (R484): an outlet has seen no toggle edge for 4 us. -/
def execStopBusToggleLost (r : RegionId) (s : State) : Out :=
  .next ((s.onSafety fun k => { k with toggleLost := k.toggleLost ||| BitVec.ofNat 16 (2 ^ r.val) }).stopBus)

/-- DISCREPANCY_TIMEOUT (R491): a dual pair has differed for more than DISC_MS; `second` names IN_C and IN_D. -/
def execDiscrepancyTimeout (f : Fin 16) (second : Bool) (s : State) : Out :=
  let k := s.safety
  let x := k.fns[f]
  let d := if second then x.d2 else x.d1
  let excess : Bool := match d.differ with
    | some t => decide (t + 1000 * k.fnRec f.val 8 2 < k.us)
    | none => false
  .next (if k.st = 2 ∧ excess ∧ !d.fault then
      let bad : SafeDual := { d with fault := true, zeroSeen := false, firstOne := none }
      (s.onSafety fun k => { k with fns := vmod k.fns f fun x => if second then { x with d2 := bad } else { x with d1 := bad } }).raiseNow
        504 0x0E03 (k.fnRec f.val (if second then 4 else 2) 1 + 2 ^ 8 * 3 + 2 ^ 10)
    else s)

/-- STOP1_EXPIRE (R495): STOPPING has run for STOP1_MS. -/
def execStop1Expire (f : Fin 16) (s : State) : Out :=
  let k := s.safety
  let x := k.fns[f]
  .next (if k.st = 2 ∧ x.st = 2 ∧ x.since + 1000 * k.fnRec f.val 10 2 ≤ k.us then
      match k.ownDemand f with
      | some c => s.fnGo f 3 c 0xFF
      | none => if k.connDemand f.val then s.fnGo f 3 0 0xFF else s.fnGo f (if k.fnFlag f.val 1 then 1 else 4) 0 0xFF
    else s)

/-- TWO_HAND_WINDOW_EXPIRE (R498): the second hand has not followed within 500 ms. -/
def execTwoHandWindowExpire (f : Fin 16) (s : State) : Out :=
  let k := s.safety
  let x := k.fns[f]
  .next (match x.hand with
    | some t => if k.st = 2 ∧ x.st = 6 ∧ t + 500000 ≤ k.us then
        (s.onSafety fun k => { k with fns := vmod k.fns f fun x => { x with hand := none } }).fnDemand f 1
      else s
    | none => s)

/-- MUTE_LIMIT (R499): LIM_B seconds after muting began. -/
def execMuteLimit (f : Fin 16) (s : State) : Out :=
  let k := s.safety
  let x := k.fns[f]
  .next (if k.st = 2 ∧ x.st = 7 ∧ x.since + 1000000 * k.fnRec f.val 24 4 ≤ k.us then s.muteEnd f true else s)

/-- ENC_FAULT (R501): a channel has become INVALID, or counted an illegal transition. -/
def execEncFault (n : Fin 4) (s : State) : Out :=
  let e := s.safety.encs[n]
  .next (if e.bad = 0 then s
    else (s.onSafety fun k => { k with encs := vmod k.encs n fun e => { e with bad := 0 } }).raiseNow 505 0x0E04
      (n.val + 2 ^ 2 * e.bad + 2 ^ 16 * satN 16 (e.stamps.filter fun x => s.safety.us < x + 1000000).length))

/-- ENC_REFERENCE (R502): at the edge of REF_IN the position becomes REF_POS, while the channel is VALID; what is measured from the
position moves with it. -/
def execEncReference (n : Fin 4) (s : State) : Out :=
  let k := s.safety
  let e := k.encs[n]
  let i := k.encRec n.val 1 1
  let rise : Bool := if h : i < 24 then (k.ins[(⟨i, h⟩ : Fin 24)]).rise else false
  .next (if k.st = 2 ∧ rise ∧ bitOf (k.encRec n.val 0 1) 0 then
      let d := sval 32 (k.encRec n.val 4 4) - e.pos
      s.onSafety fun k =>
        let k1 : Safety := if h : i < 24 then { k with ins := vmod k.ins ⟨i, h⟩ fun x => { x with rise := false } } else k
        if !e.valid then k1
        else { k1 with
          encs := vmod k1.encs n fun e => { e with pos := e.pos + d, refd := true, hist := e.hist.map (· + d) },
          fns := Vector.ofFn fun f => if k1.encOf f.val = some n then { k1.fns[f] with far := (k1.fns[f]).far + d } else k1.fns[f] }
    else s)

/-- PAIR_SOH_ON (R506): READBACK_US after SOL, where the readback shows SRB 0 and SRL 0. -/
def execPairSohOn (p : Fin 8) (srb srl : Bool) (s : State) : Out :=
  let k := s.safety
  let x := k.pairs[p]
  .next (if k.st = 2 ∧ x.sol ∧ !x.soh ∧ x.kind = 0 ∧ x.solAt + k.pairRec p.val 2 2 ≤ k.us ∧ !srb ∧ !srl then
      (s.onSafety fun k => { k with pairs := vmod k.pairs p fun x => { x with soh := true, changedAt := k.us, mism := 0 } }).pairsOut
    else s)

/-- PAIR_TEST (R507, R508): the periodic test of a pair, with the readback at the end of each of its steps (bit 0 SRB, bit 1 SRL); an
off test has one step. -/
def execPairTest (p : Fin 8) (first second : Nat) (s : State) : Out :=
  let k := s.safety
  let x := k.pairs[p]
  let fail := fun (kind : Nat) => ((s.onSafety fun k => { k with
    testFails := bump 32 k.testFails, pairs := vmod k.pairs p fun x => { x with testAt := k.us } }).pairFault p kind).pairsOut
  let pass := fun (off : Bool) => s.onSafety fun k => { k with pairs := vmod k.pairs p fun x => { x with
    testAt := k.us, passed := x.passed || (off && x.kind != 0) } }
  let b1 := bitOf first 0
  let l1 := bitOf first 1
  let b2 := bitOf second 0
  let l2 := bitOf second 1
  .next (if k.st ≠ 2 ∨ !bitOf (k.pairRec p.val 0 1) 0 ∨ k.us < x.testAt + 1000 * k.pairRec p.val 6 2 ∨ x.sol ≠ x.soh then s
    else if x.soh then
      (if b1 then fail 1 else if l1 then (fail (1 + s.draw % 4)).drawn
       else if !b2 then fail 2 else if !l2 then fail 3 else pass false)
    else (if !b1 then fail 2 else if !l1 then fail 3 else pass true))

/-- RESET_STUCK (R510): a reset input has been 1 for 3 s. -/
def execResetStuck (i : Fin 24) (s : State) : Out :=
  let k := s.safety
  let x := k.ins[i]
  let resets := (List.range 16).any (fun f => k.kind f != 0 && k.fnRec f 6 1 == i.val) ||
    (List.range 8).any (fun p => bitOf (k.pairRec p 0 1) 0 && k.pairRec p 1 1 == i.val) ||
    allBays.any (fun b => bitOf (k.bayRec b.val 33 1) 0 && k.bayRec b.val 34 1 == i.val)
  .next (match x.roseAt with
    | some t => if k.st = 2 ∧ resets ∧ x.filt ∧ !x.stuck ∧ t + 3000000 ≤ k.us then
        (s.onSafety fun k => { k with ins := vmod k.ins i fun x => { x with stuck := true } }).raiseNow 506 0x0E05 i.val
      else s
    | none => s)

/-- A function as its inputs stand after a reset or an acceptance (R496, R511). -/
def State.fnStand (s : State) (f : Fin 16) : State :=
  let k := s.safety
  if k.kind f.val = 3 then
    (if (k.hand f.val 2).2 && (k.hand f.val 4).2 && !k.connDemand f.val then s.fnGo f 6 0 0xFF else s.fnGo f 3 1 0xFF)
  else if k.isFallback f.val ∧ !k.armed f then s.fnGo f 9 0 0xFF
  else
    let s0 := s.onSafety fun k =>
      let pos := match k.encOf f.val with
        | some n => (k.encs[n]).pos
        | none => 0
      let fs := vmod k.fns f fun x => { x with far := pos }
      { k with fns := vmod fs f fun x => { x with lim := if 5 ≤ k.kind f.val then ({ k with fns := fs } : Safety).motion f else 0 } }
    let healthy := s0.safety.kind f.val != 4 || s0.safety.healthy f.val
    match s0.safety.ownDemand f with
    | some c => s0.fnGo f 3 c 0xFF
    | none => if s0.safety.connDemand f.val ∨ !healthy then s0.fnGo f 3 (b2n !healthy) 0xFF else s0.fnGo f 1 0 0xFF

/-- A reset edge at one function (R500, R511): its encoder first, then the function where its demand and faults are gone (log 80, log 87). -/
def State.fnReset (s : State) (f : Fin 16) : State :=
  let k0 := s.safety
  let s1 : State := match k0.encOf f.val with
    | some n =>
      let e := k0.encs[n]
      if !e.valid && e.ok then s.onSafety fun k => { k with encs := vmod k.encs n fun e => { e with valid := true, refd := false, bad := 0 } }
      else s
    | none => s
  let k := s1.safety
  let x := k.fns[f]
  if x.st = 4 then
    (if k.isFallback f.val ∧ !k.armed f then s1.fnGo f 9 0 0xFF
     else if (k.ownDemand f).isSome ∨ k.connDemand f.val ∨ !(k.faults f).isEmpty then s1
     else s1.fnGo f 1 0 0xFF)
  else if x.st = 5 then (if (k.faults f).isEmpty then s1.fnStand f else s1)
  else if x.st = 8 then
    (if (k.faults f).isEmpty then (s1.fnStand f).raiseNow 509 0x0E08 f.val else s1)
  else s1

/-- RESET_EDGE (R509, R511, R527): a pulse of 50 ms to 3 s has ended on an input; pairs, functions and bay stops that name it are reset,
pairs first (log 83). -/
def execResetEdge (i : Fin 24) (s : State) : Out :=
  let k := s.safety
  .next (if k.st ≠ 2 ∨ !(k.ins[i]).edge then s
    else
      let s0 := s.onSafety fun k => { k with ins := vmod k.ins i fun x => { x with edge := false } }
      let s1 := (List.finRange 8).foldl (fun t p =>
        let x := t.safety.pairs[p]
        if bitOf (k.pairRec p.val 0 1) 0 && k.pairRec p.val 1 1 == i.val && x.kind != 0 && x.passed then
          (t.onSafety fun k => { k with pairs := vmod k.pairs p fun x => { x with kind := 0, passed := false } }).raiseNow (496 + p.val) 0x0E02 x.kind
        else t) s0
      let s2 := (List.finRange 16).foldl (fun t f => if k.kind f.val != 0 && k.fnRec f.val 6 1 == i.val then t.fnReset f else t) s1
      let free := allBays.foldl (fun (m : BitVec 96) b =>
        if bitOf (k.bayRec b.val 33 1) 0 && k.bayRec b.val 34 1 == i.val && (k.bayConns[b]).st == 2 && !bitOf (k.bayConns[b]).demand 0
        then m ||| bayBit b else m) 0
      let s3 := s2.onSafety fun k => { k with headStop := k.headStop &&& ~~~free }
      (((List.finRange 8).foldl State.pairDrive s3).pairsOut).stopBus)

/- Commands (R514, R515). -/

/-- ENC_STATE of a channel (R514). -/
def Safety.encState (k : Safety) (n : Fin 4) : Nat :=
  let e := k.encs[n]
  b2n e.valid + 2 * b2n e.refd +
    4 * b2n ((List.finRange 16).any fun f => 5 ≤ k.kind f.val && k.encOf f.val == some n && k.armed f)

/-- A mask of the inputs for which something holds. -/
def Safety.inMask (k : Safety) (f : SafeIn → Bool) : Nat :=
  ((List.finRange 24).map fun i => if f k.ins[i] then 2 ^ i.val else 0).sum

/-- The inputs in INPUT_FAULT, DISCREPANCY included. -/
def Safety.faultMask (k : Safety) : Nat :=
  let dual := fun (i : Nat) => (List.finRange 16).any fun f =>
    ((k.fns[f]).d1.fault && (k.fnRec f.val 2 1 == i || k.fnRec f.val 3 1 == i)) ||
    ((k.fns[f]).d2.fault && (k.fnRec f.val 4 1 == i || k.fnRec f.val 5 1 == i))
  ((List.finRange 24).map fun i => if (k.ins[i]).kind != 0 || dual i.val then 2 ^ i.val else 0).sum

/-- The bays that the safety unit holds stopped. -/
def State.stoppedBays (s : State) : Nat :=
  (allBays.map fun b => if s.bays[b].busScope ≠ 0 ∨ s.bays[b].earthLatch then 2 ^ b.val else 0).sum

/-- SAFETY_STATUS (R514). -/
def cardSafetyStatus (o : Origin) (s : State) : State :=
  card o 0x0E01 ([8, 8, 16] ++ List.replicate 32 8 ++ List.replicate 16 8 ++ [24, 24, 24, 24, 8, 8, 8, 8, 8, 96, 16, 16, 32, 32, 32, 32])
    (fun _ => [permit o [0, 2]])
    (fun t =>
      let k := t.safety
      (t, [k.st, k.mon, 0] ++ (k.fns.toList.flatMap fun x => [x.st, x.cause]) ++
        ((List.finRange 8).flatMap fun p => [b2n (t.pairPermit p), (k.pairs[p]).kind]) ++
        [k.inMask (·.raw), k.inMask (·.filt), k.faultMask, k.inMask (·.stuck), k.tpo k.us] ++ ((List.finRange 4).map k.encState) ++
        [t.stoppedBays, k.loopMax, 0, k.demands, k.shortResets, k.ecc, k.testFails])) s

/-- The command SAFETY_STATUS (R514). -/
def execSafetyStatus (o : Origin) (s : State) : Out := .next (cardSafetyStatus o s)

/-- ENC_READ (R515). -/
def cardEncRead (o : Origin) (s : State) : State :=
  card o 0x0E02 ((List.replicate 4 [8, 24, 32, 32, 32, 64]).flatten) (fun _ => [permit o [0, 2]])
    (fun t =>
      let k := t.safety
      (t, (List.finRange 4).flatMap fun n =>
        let e := k.encs[n]
        [k.encState n, 0, ubits 32 e.pos, ubits 32 (satI 32 (k.speed n)), e.illegal, e.lastIllegal])) s

/-- The command ENC_READ (R515). -/
def execEncRead (o : Origin) (s : State) : Out := .next (cardEncRead o s)

end Sys2Proof.Machine
end

