-- ==== Sys2Proof/Machine/SafeConn.lean ====
section
/-! DEFINITION. Safe connections: the Kerale safe frame, its formation and the checks of the receiver (spec file 19,
R517 to R527). -/

namespace Sys2Proof.Machine

/-- One connection. -/
def Safety.conn (k : Safety) : SafePort → SafeConn
  | .conn c => k.conns[c]
  | .bay b => k.bayConns[b]

/-- Change one connection. -/
def State.onConn (s : State) (p : SafePort) (f : SafeConn → SafeConn) : State :=
  s.onSafety fun k => match p with
    | .conn c => { k with conns := vmod k.conns c f }
    | .bay b => { k with bayConns := vmod k.bayConns b f }

/-- The position whose SAFE_ID this QN960 has: its TWIN_POS on a twin pair, else 0 (R523, R528). -/
def State.safePos (s : State) : Nat := if s.twin.en then s.twin.pos % 2 else 0

/-- SAFE_ID of a position in the configuration in force (R528). -/
def Safety.idOf (k : Safety) (pos : Nat) : Nat := k.get (if pos = 1 then 24 else 20) 4

/-- The SAFE_ID of this QN960 (R523). -/
def State.ownSafeId (s : State) : Nat := s.safety.idOf s.safePos

/-- The SAFE_ID that a connection's peer must have (R523, R525, R529). -/
def State.connPeer (s : State) : SafePort → Nat
  | .conn c => if s.safety.connRec c.val 0 1 = 1 then s.safety.idOf (1 - s.safePos) else s.safety.connRec c.val 4 4
  | .bay b => s.safety.bayRec b.val 36 4

/-- PERIOD_TK of a connection (R525, R529). -/
def Safety.connPeriod (k : Safety) : SafePort → Nat
  | .conn c => k.connRec c.val 2 2
  | .bay _ => 128

/-- WD_TK of a connection (R525, R529). -/
def Safety.connWd (k : Safety) : SafePort → Nat
  | .conn c => 1000 * k.connRec c.val 12 2
  | .bay _ => 1000

/-- Whether the configuration in force names a connection (R521, R525). -/
def Safety.connUsed (k : Safety) : SafePort → Bool
  | .conn c => k.connRec c.val 0 1 != 0
  | .bay b => bitOf (k.bayRec b.val 33 1) 0

/-- The connection and bay fields of SAFE_CONN's DATA (R540). -/
def connData : SafePort → Nat
  | .conn c => c.val + 2 ^ 16 * 0xFF
  | .bay b => 8 + 2 ^ 16 * b.val

/-- A connection in another state, as of a tick; one that starts begins afresh (R517, R521). -/
def SafeConn.go (x : SafeConn) (st order now : Nat) : SafeConn :=
  let y : SafeConn := if st = 1 then
      { SafeConn.reset with lastFail := x.lastFail, counts := x.counts, sentAt := x.sentAt, sent := x.sent }
    else x
  { y with st := st, since := now, bad := 0, lastFail := if order = 0 then x.lastFail else order }

/-- Count occurrences in one of the eight counts of R538: 0 ACCEPTED, 1 CRC, 2 COMPLEMENT, 3 IDENTITY, 4 SEQUENCE, 5 AGE, 6 WATCHDOG,
7 LOST. -/
def SafeConn.count (x : SafeConn) (i : Fin 8) (n : Nat) : SafeConn := { x with counts := vmod x.counts i fun v => satN 32 (v + n) }

/-- A connection goes to a state: SAFE_CONN (R521, R540). -/
def State.connGo (s : State) (p : SafePort) (st order : Nat) : State :=
  (s.onConn p fun x => x.go st order s.now).raiseNow 510 0x0E10 (connData p + 2 ^ 8 * st + 2 ^ 12 * order)

/-- A failure that takes a connection to FAULT: counted, SAFE_CONN (R520). -/
def State.connFail (s : State) (p : SafePort) (order : Fin 8) : State := (s.onConn p fun x => x.count order 1).connGo p 3 order.val

/-- The frame of R517. -/
def safeFrame (src dst seq stamp echo demand state : Nat) : List Byte :=
  let head := leBytes src 4 ++ leBytes dst 4 ++ leBytes seq 2 ++ leBytes 0 2 ++ leBytes stamp 4 ++ leBytes echo 4 ++
    leBytes demand 2 ++ leBytes (0xFFFF - demand % 2 ^ 16) 2 ++ leBytes state 1 ++ leBytes (0xFF - state % 2 ^ 8) 1 ++ leBytes 0 2
  head ++ leBytes (crcSafe head) 4

/-- How far a 32-bit tick count lies after another. -/
def tickAge (now before : Nat) : Nat := (now % 2 ^ 32 + 2 ^ 32 - before % 2 ^ 32) % 2 ^ 32

/-- What the receiver makes of a frame (R520): the connection is not there for it, the frame is discarded for a check of order 1 or 2 or as
a repeat, the connection faults, or the frame is accepted. -/
inductive RxFate where
  | ignored
  | discarded (order : Fin 8)
  | repeated
  | faulted (order : Fin 8)
  | accepted (lost : Nat) (counted : Bool)
  deriving DecidableEq, Repr

/-- The checks of R520 in their order, for the identities of receiver and peer; in STARTING the exceptions of R521. -/
def SafeConn.judge (x : SafeConn) (f : List Byte) (own peer wd now : Nat) : RxFate :=
  let echo := leGet f 16 4
  let counted := x.st != 1 || x.stamps.contains echo
  if x.st = 0 ∨ x.st = 3 then .ignored
  else if f.length ≠ 32 ∨ crcSafe (f.take 28) ≠ leGet f 28 4 then .discarded 1
  else if leGet f 20 2 + leGet f 22 2 ≠ 0xFFFF ∨ leGet f 24 1 + leGet f 25 1 ≠ 0xFF then .discarded 2
  else if leGet f 0 4 ≠ peer ∨ leGet f 4 4 ≠ own then .faulted 3
  else match x.lastSeq with
    | none => .accepted 0 counted
    | some q =>
      let d := (leGet f 8 2 + 2 ^ 16 - q) % 2 ^ 16
      let older : Bool := match x.lastEcho with
        | some e => decide (2 ^ 31 ≤ tickAge echo e)
        | none => false
      if d = 0 ∨ 0x8000 ≤ d then .repeated
      else if 4 ≤ d then .faulted 4
      else if counted ∧ (wd < tickAge now echo ∨ older) then .faulted 5
      else if x.lastAt + wd < now then .faulted 6
      else .accepted (d - 1) counted

/-- A connection after the fate of a frame; the second discard of order 1 or 2 in a row is a FAULT, and 8 counted frames end STARTING
(R520, R521). -/
def SafeConn.after (x : SafeConn) (f : List Byte) (now : Nat) : RxFate → SafeConn
  | .ignored => x
  | .discarded o =>
    let y := x.count o 1
    if 1 ≤ x.bad then y.go 3 o.val now else { y with bad := x.bad + 1, good := 0 }
  | .repeated => { x.count 4 1 with bad := 0 }
  | .faulted o => (x.count o 1).go 3 o.val now
  | .accepted lost counted =>
    let y := (x.count 0 1).count 7 lost
    let z : SafeConn := { y with
      bad := 0, lastSeq := some (leGet f 8 2), lastEcho := if counted then some (leGet f 16 4) else x.lastEcho,
      lastStamp := leGet f 12 4, lastAt := now, good := if counted then x.good + 1 else x.good, demand := leGet f 20 2,
      peer := leGet f 24 1 }
    if x.st = 1 ∧ 8 ≤ z.good then z.go 2 0 now else z

/-- A frame reaches a connection of the safety unit: the checks of R520, SAFE_CONN where the state changes (R540). -/
def State.connRx (s : State) (p : SafePort) (f : List Byte) : State :=
  let x := s.safety.conn p
  let y := x.after f s.now (x.judge f s.ownSafeId (s.connPeer p) (s.safety.connWd p) s.now)
  let s1 := s.onConn p fun _ => y
  if y.st = x.st then s1
  else s1.raiseNow 510 0x0E10 (connData p + 2 ^ 8 * y.st + 2 ^ 12 * (if y.st = 3 then y.lastFail else 0))

/-- Whether the safety unit holds a stop for a bay (R483, R525). -/
def State.holdsStop (s : State) (b : BayId) : Bool := s.bays[b].busScope != 0 || s.bays[b].earthLatch

/-- DEMAND of the next frame on a connection, and which bits stay for how many further frames (R519, R525). -/
def State.connDemandOut (s : State) (p : SafePort) : Nat × Vector Nat 16 :=
  let x := s.safety.conn p
  match p with
  | .bay b => (b2n (s.holdsStop b), x.stretch)
  | .conn _ =>
    let act := fun (f : Fin 16) => s.safety.kind f.val != 0 && !permitReq (s.safety.fns[f]).st && (s.safety.fns[f]).own
    (((List.finRange 16).map fun f => if act f || (x.stretch[f]) != 0 then 2 ^ f.val else 0).sum,
     Vector.ofFn fun f => if act f then 3 else x.stretch[f] - 1)

/-- The next frame of a connection is formed (R517, R519). -/
def State.connForm (s : State) (p : SafePort) : State :=
  let x := s.safety.conn p
  let d := s.connDemandOut p
  let f := safeFrame s.ownSafeId (s.connPeer p) x.seq s.now x.lastStamp d.1 s.safety.st
  s.onConn p fun x => { x with
    seq := (x.seq + 1) % 2 ^ 16, sent := f, sentAt := s.now, stretch := d.2,
    stamps := if x.st = 1 then (s.now % 2 ^ 32) :: x.stamps else [] }

/-- SAFE_FRAME_RX (R520, R523, R524): a frame has reached the receiver of a connection. -/
def execSafeFrameRx (p : SafePort) (bytes : List Byte) (s : State) : Out := .next (s.connRx p (bytes.take 32))

/-- SAFE_WATCHDOG (R520, order 6): WD_TK have passed since the last accepted frame (log 84). -/
def execSafeWatchdog (p : SafePort) (s : State) : Out :=
  let x := s.safety.conn p
  .next (if (x.st = 1 ∨ x.st = 2) ∧ x.lastSeq.isSome ∧ x.lastAt + s.safety.connWd p < s.now then s.connFail p 6 else s)

/-- SAFE_CONN_RESTART (R521): 1 ms after FAULT. -/
def execSafeConnRestart (p : SafePort) (s : State) : Out :=
  let x := s.safety.conn p
  .next (if x.st = 3 ∧ x.since + 1000 ≤ s.now then s.connGo p 1 0 else s)

/-- SAFE_CONN_STATUS (R538); BAY_STOPPED names the bays whose stop of R527 is latched (log 94). -/
def cardSafeConnStatus (o : Origin) (s : State) : State :=
  card o 0x0E12 (((List.replicate 8 ([8, 8, 16] ++ List.replicate 8 32)).flatten) ++ List.replicate 96 8 ++ [96])
    (fun _ => [permit o [0, 2]])
    (fun t =>
      let k := t.safety
      (t, (k.conns.toList.flatMap fun x => [x.st, x.lastFail, 0] ++ x.counts.toList) ++ (k.bayConns.toList.map (·.st)) ++
        [k.headStop.toNat])) s

/-- The command SAFE_CONN_STATUS (R538). -/
def execSafeConnStatus (o : Origin) (s : State) : Out := .next (cardSafeConnStatus o s)

end Sys2Proof.Machine
end

