-- ==== Sys2Proof/Machine/Link.lean ====
section
/-! DEFINITION. The bay link at the QN960: lanes, training, management, the intake, firmware delivery, and the link
commands (spec file 06). -/

namespace Sys2Proof.Machine

/-- Change one lane. -/
def State.onLink (s : State) (b : BayId) (f : Link → Link) : State := s.onBay b fun y => { y with link := f y.link }

/-- Change the counts of a lane. -/
def Link.onCounts (k : Link) (f : LinkCounts → LinkCounts) : Link := { k with counts := f k.counts }

/-- Raise a link event on the bay fault source (R182). -/
def State.linkEvent (s : State) (b : BayId) (kind data tick : Nat) : State := s.raise ⟨96 + b.val, kind, data, tick⟩

/-- DT_PS that the bay head is to have: that of the entry in force, or the reset value where there is none or the
modulator sub-block is zero (R177). -/
def Bay.dtPs (b : Bay) : Nat := if b.ent 196 4 = 0 then 2000000 else b.ent 196 4

/-- STOP_MASK that the bay head is to have (R177, R323). -/
def Bay.stopMask (b : Bay) : Nat :=
  if b.entry.isSome then (b.ent 134 2 ||| b.ent 322 2) % 2 ^ 12 else 0xFFF

/-- The dead time that edges are planned for: the larger of the old and the new until the bay head acknowledges (R177). -/
def Bay.dtPlan (b : Bay) : Nat := max (max b.dtPs b.link.dtWritten) (max b.link.dtOld b.link.dtMin)

/-- Send the next waiting management request, once none is unanswered (R175). -/
def Link.pump (k : Link) (now : Nat) : Link :=
  match k.req, k.queue with
  | none, (op, addr, data) :: q =>
    { k with queue := q, tag := (k.tag + 1) % 256, req := some ⟨⟨op, (k.tag + 1) % 256, addr, data⟩, now, 0⟩ }
  | _, _ => k

/-- Put management requests behind those that wait. -/
def Link.request (k : Link) (rs : List (Nat × Nat × Nat)) (now : Nat) : Link := { k with queue := k.queue ++ rs }.pump now

/-- The reads of IDENTIFY: the identity block (R171, R176), SAFE_ID (R525) and EPOCH_SEEN (R617). -/
def identifyReads : List (Nat × Nat × Nat) := [0, 1, 2, 3, 4, 0x1C, 0x1E].map fun a => (1, a, 0)

/-- Take a lane to DOWN for at least 100 ms (R171). -/
def Link.toDown (k : Link) (now : Nat) : Link :=
  { k with st := .down, enteredAt := now, holdUntil := now + 100000, signal := false, blockLock := false,
           alignNext := none, alignCount := 0, exchanges := [], queue := [], req := none, held := none, frame := none,
           missRun := 0, lastAlive := none, status := none }

/-- A lane's part in a firmware delivery has ended; the last one answers the request (R181). `fail` is a status where the
load of this bay failed. -/
def State.fwEnd (s : State) (b : BayId) (fail : Option Nat) : State :=
  match s.fwLoad with
  | none => s
  | some f =>
    if f.bays.getLsbD b.val then
      let failed := match f.failed, fail with
        | none, some st => some (b.val, st)
        | x, _ => x
      let left := f.bays &&& ~~~(bayBit b)
      let s1 := s.onLink b fun k => { k with fw := none }
      if left = 0 then
        let st := match failed with
          | some (_, st) => st
          | none => stOK
        let bay := match failed with
          | some (x, _) => x
          | none => 0xFF
        ({ s1 with fwLoad := none }.consumeXfer f.origin.court f.transfer).answer f.origin.court f.origin.mbx st 0 false
          [(8, bay), (24, 0)]
      else { s1 with fwLoad := some { f with bays := left, failed := failed } }
    else s

/-- A lane goes DOWN without LINK_LOST (R174); a delivery that had not reached RESTART fails with it (R181). -/
def State.laneDown (s : State) (b : BayId) : State :=
  let broken := match s.bays[b].link.fw with
    | some f => f.restartAt.isNone
    | none => false
  let s1 := (s.onLink b (·.toDown s.now)).meterRefresh b
  cond broken (s1.fwEnd b (some stFAIL)) s1

/-- A lane is lost (R174): DOWN, LINK_LOST, and for a bay with ENABLE 1 tamper kind LINK_LOSS (R411). -/
def State.laneLost (s : State) (b : BayId) (lock : Bool) : State :=
  let st := s.bays[b].link.st
  let s1 := (s.laneDown b).linkEvent b 0x0601 (st.code + 2 ^ 8 * b2n lock) s.now
  if s.bays[b].enabled then s1.tamper 1 b.val 0 none else s1

/-- Whether a twin holds its lanes DOWN after a start from an update or a fallback (R657). -/
def State.lanesHeld (s : State) : Bool := s.twin.holdLanes

/-- Whether a READY lane may go to SERVICE (R171); a returner's lanes serve only while it is in step. -/
def State.mayServe (s : State) (b : BayId) : Bool :=
  s.bays[b].inUse && 1 ≤ s.gens.bay[b] && (!s.isReturner || s.inStep)

/-- Bring READY and SERVICE in line with the bay's entry and generation (R171). -/
def State.linkService (s : State) (b : BayId) : State :=
  let k := s.bays[b].link
  if k.st = .ready ∧ s.mayServe b then (s.onLink b fun k => { k with st := .service, enteredAt := s.now }).meterRefresh b
  else if k.st = .service ∧ !s.mayServe b then
    (s.onLink b fun k => { k with st := .ready, enteredAt := s.now }).meterRefresh b
  else s

/-- A lane enters READY: LINK_READY, then SERVICE where the bay is in use (R171, R182). -/
def State.linkReady (s : State) (b : BayId) : State :=
  let d := s.bays[b].link.dDown
  ((s.onLink b fun k => { k with st := .ready, enteredAt := s.now, missRun := 0 }).linkEvent b 0x0602 d s.now).linkService b

/- Lane events (R171, R174). -/

/-- A DOWN lane with a signal whose hold has passed enters LOCK (R171). -/
def State.tryLock (s : State) (b : BayId) : State :=
  let k := s.bays[b].link
  if k.st = .down ∧ k.signal ∧ k.holdUntil ≤ s.now ∧ !s.lanesHeld then
    s.onLink b fun k => { k with st := .lock, enteredAt := s.now }
  else s

/-- SIGNAL_DETECT (R171). -/
def execSignalDetect (b : BayId) (s : State) : Out :=
  .next ((if s.bays[b].link.st = .down then s.onLink b fun k => { k with signal := true } else s).tryLock b)

/-- DOWN_HOLD_EXPIRE (R171). -/
def execDownHoldExpire (b : BayId) (s : State) : Out := .next (s.tryLock b)

/-- LOSS_OF_SIGNAL before block lock was gained (R174). -/
def execLossOfSignal (b : BayId) (s : State) : Out :=
  .next (let k := s.bays[b].link
    if k.blockLock then s
    else if k.st = .down then s.onLink b fun k => { k with signal := false }
    else s.laneDown b)

/-- BLOCK_LOCK_GAINED (R151). -/
def execBlockLockGained (b : BayId) (s : State) : Out :=
  .next (if s.bays[b].link.st = .down then s else s.onLink b fun k => { k with blockLock := true })

/-- BLOCK_LOCK_LOST (R151, R174). -/
def execBlockLockLost (b : BayId) (s : State) : Out :=
  .next (let k := s.bays[b].link
    if k.st ≠ .down ∧ k.blockLock then s.laneLost b true else s)

/-- The alignment position that follows another (R153). -/
def alignAfter (p : Nat) : Nat := if p = 0 then 8 else if p = 8 then 15 else 0

/-- ALIGNMENT_BLOCK_RX (R153, R171): ALIGN_POS must be a position, agree with TICK, and follow the last one. -/
def execAlignmentBlockRx (b : BayId) (pos tick : Nat) (s : State) : Out :=
  .next (let k := s.bays[b].link
    if k.st = .lock ∧ k.blockLock then
      let good := (pos == 0 || pos == 8 || pos == 15) && tick % 22 == pos
      let seq := k.alignNext == none || k.alignNext == some pos
      let n := if !good then 0 else if seq then k.alignCount + 1 else 1
      if n = 3 then s.onLink b fun k => { k with
        st := .measure, enteredAt := s.now, alignNext := none, alignCount := 0, exchanges := [] }
      else s.onLink b fun k => { k with alignCount := n, alignNext := if good then some (alignAfter pos) else none }
    else s)

/-- LOCK_TIMEOUT (R171): 10 ms in LOCK. -/
def execLockTimeout (b : BayId) (s : State) : Out :=
  .next (let k := s.bays[b].link
    if k.st = .lock ∧ k.enteredAt + 10000 ≤ s.now then s.laneDown b else s)

/-- MEASURE_TIMEOUT (R171, R182): 10 ms in MEASURE, each delay reported as 0xFFFF. -/
def execMeasureTimeout (b : BayId) (s : State) : Out :=
  .next (let k := s.bays[b].link
    if k.st = .measure ∧ k.enteredAt + 10000 ≤ s.now then (s.laneDown b).linkEvent b 0x0603 0xFFFFFFFF s.now else s)

/-- TRAINING_ANSWER (R172): the answer to the exchange under way; after 16 the lane enters IDENTIFY. -/
def execTrainingAnswer (b : BayId) (seq roundTrip turnPs : Nat) (crcOk : Bool) (s : State) : Out :=
  .next (let k := s.bays[b].link
    if k.st = .measure ∧ crcOk ∧ seq = k.exchanges.length then
      let ex := k.exchanges ++ [(roundTrip, turnPs)]
      if ex.length = 16 then s.onLink b fun k =>
        { k with exchanges := ex, st := .identify, enteredAt := s.now }.request identifyReads s.now
      else s.onLink b fun k => { k with exchanges := ex }
    else s)

/-- The QN960's own transmit and receive latency and the intake's check, in ps (R172, "Electrical"). -/
abbrev qnTxLat : Nat := 18000
/-- Receive latency, ps. -/
abbrev qnRxLat : Nat := 30000
/-- Intake check, ps. -/
abbrev intakeCheck : Nat := 8000

/-- The delays d_up and d_down in ps, from the mean of the 16 exchanges (R172). -/
def Link.delays (k : Link) : Nat × Nat :=
  let sum : Int := isum (k.exchanges.map fun e => (e.1 : Int) - e.2)
  let medium := (sum / 16 - qnTxLat - qnRxLat - k.txLat - k.rxLat) / 2
  (((k.txLat : Int) + medium + qnRxLat + intakeCheck + 2030).toNat, ((qnTxLat : Int) + medium + k.rxLat).toNat)

/-- Whether the identity matches (R173). -/
def Bay.identMatches (b : Bay) : Bool :=
  (b.ent 16 8 == 0 || b.ent 16 8 == b.link.headId) && b.link.linkVer == 1 && b.link.ctrlCh == 16

/-- SAFE_ID that the QN960 writes as SAFE_PEER of a bay: 0 where the bay has no safe connection (R525). -/
def State.safePeer (s : State) (b : BayId) : Nat := if s.safety.connUsed (.bay b) then s.ownSafeId else 0

/-- A word of a bay head's safe frame has been read: the last of the four completes the frame, which goes to the checks of R520 (R525). -/
def State.safeWord (s : State) (b : BayId) (addr status data : Nat) : State :=
  if addr < 0x18 ∨ 0x1B < addr then s
  else if status ≠ 0 then s.onSafety fun k => { k with words := k.words.set b [] }
  else
    let ws := if addr = 0x18 then [data] else (s.safety.words[b]) ++ [data]
    if addr = 0x1B ∧ ws.length = 4 then
      (s.onSafety fun k => { k with words := k.words.set b [] }).connRx (.bay b) (ws.flatMap fun w => leBytes w 8)
    else s.onSafety fun k => { k with words := k.words.set b ws }

/-- The writes of CONFIGURE (R171, R172, R177, R525). -/
def State.configureWrites (s : State) (b : BayId) : List (Nat × Nat × Nat) :=
  let y := s.bays[b]
  let d := (500000 - y.link.dDown) % 2 ^ 32
  [(2, 0x10, y.dtPs), (2, 0x11, y.stopMask), (2, 0x12, d * 2 ^ (32 * s.twin.pos)), (2, 0x1D, s.safePeer b)]

/-- A lane goes to CONFIGURE. -/
def State.toConfigure (s : State) (b : BayId) : State :=
  let y := s.bays[b]
  s.onLink b fun k => { k with
    st := .configure, enteredAt := s.now, dtWritten := y.dtPs, stopWritten := y.stopMask }.request (s.configureWrites b) s.now

/-- A lane goes to MISMATCH with HEAD_MISMATCH (R171, R182). -/
def State.toMismatch (s : State) (b : BayId) : State :=
  (s.onLink b fun k => { k with st := .mismatch, enteredAt := s.now, queue := [], req := none }).linkEvent b 0x0604
    (s.bays[b].link.headId % 2 ^ 32) s.now

/-- The end of IDENTIFY: delays against the limits of R42, then the match (R171, R172, R173); an EPOCH_SEEN at or above the server's own
epoch raises that at the next tick boundary (R616). -/
def State.identified (s : State) (b : BayId) : State :=
  let (up, down) := s.bays[b].link.delays
  let e := s.bays[b].link.epochSeen
  let s0 := if s.twin.server && decide (s.twin.epoch ≤ e) then { s with twin := { s.twin with epochNext := max s.twin.epochNext (e + 1) } } else s
  let s1 := s0.onLink b fun k => { k with dUp := up % 2 ^ 32, dDown := down % 2 ^ 32 }
  if 500000 < up || 460000 < down then
    (s1.laneDown b).linkEvent b 0x0603 (satN 16 (up / 1000) + 2 ^ 16 * satN 16 (down / 1000)) s.now
  else if s1.bays[b].identMatches then (s1.toConfigure b).meterRefresh b
  else s1.toMismatch b

/-- What an answered read of the identity block gives (R176). -/
def Link.identWord (k : Link) (addr d : Nat) : Link :=
  match addr with
  | 0 => { k with headId := d }
  | 1 => { k with linkVer := bitsOf d 0 8, legs := bitsOf d 8 8, swCh := bitsOf d 16 8, metroCh := bitsOf d 24 8,
                  ctrlCh := bitsOf d 32 8, caps := bitsOf d 40 8 }
  | 2 => { k with fwVer := bitsOf d 0 32, fwHash := bitsOf d 32 32 }
  | 3 => { k with txLat := bitsOf d 0 32, rxLat := bitsOf d 32 32 }
  | 4 => { k with dtMin := bitsOf d 0 32 }
  | 0x1C => { k with safeId := bitsOf d 0 32 }
  | 0x1E => { k with epochSeen := bitsOf d 0 32 }
  | _ => k

/-- FW_NEXT of an answer moves the delivery; at the image's end RESTART is written (R178). -/
def State.fwProgress (s : State) (b : BayId) (next : Nat) : State :=
  match s.bays[b].link.fw, s.fwLoad with
  | some f, some l =>
    if f.restartAt.isSome then s
    else if next = l.image.length then
      s.onLink b fun k => ({ k with fw := some ⟨next, some s.now⟩ }).request [(2, 0x13, 1)] s.now
    else s.onLink b fun k => { k with fw := some { f with next := if next < f.next then next else f.next } }
  | _, _ => s

/-- CONFIG_RESPONSE (R175): the answer to the request in flight. -/
def execConfigResponse (b : BayId) (r : MgmtRsp) (s : State) : Out :=
  .next (let k := s.bays[b].link
    match k.req with
    | none => s
    | some q =>
      if r.tag ≠ q.req.tag ∨ r.addr ≠ q.req.addr then s
      else
        let write := q.req.op == 2
        let rw := q.req.addr == 0x10 || q.req.addr == 0x11 || q.req.addr == 0x12 || q.req.addr == 0x1D
        let s1 := s.onLink b fun k => { k with req := none }
        let done := fun (s : State) => s.onLink b (·.pump s.now)
        -- a write refused because this port is not the one obeyed changes nothing (R175)
        let notObeyed := write && r.status == 3 && match k.status with
          | some (_, sel, _) => sel != 0 && sel != s.twin.pos + 1
          | none => true
        match k.st with
        | .identify =>
          if r.status ≠ 0 ∧ q.req.addr ≤ 4 then s1.toMismatch b
          else
            let s2 := s1.onLink b fun k => k.identWord q.req.addr (if r.status = 0 then r.data else 0)
            if s2.bays[b].link.queue.isEmpty then s2.identified b else done s2
        | .configure =>
          if write ∧ r.status ≠ 0 ∧ !notObeyed ∧ q.req.addr ≠ 0x1D then s1.laneDown b
          else
            let s2 := if q.req.addr = 0x10 then s1.onLink b fun k => { k with dtOld := k.dtWritten } else s1
            if s2.bays[b].link.queue.isEmpty then s2.linkReady b else done s2
        | .ready | .service =>
          if write ∧ rw ∧ r.status ≠ 0 ∧ !notObeyed then s1.laneDown b
          else
            let s2 := if q.req.addr = 0x10 then s1.onLink b fun k => { k with dtOld := k.dtWritten } else s1
            let s3 := cond write s2 (s2.safeWord b q.req.addr r.status r.data)
            done (s3.fwProgress b r.fwNext)
        | _ => s1)

/-- CONFIG_RETRY_TIMEOUT (R175): a request unanswered for 8 tk is repeated, at most 16 times; then the lane goes DOWN. -/
def execConfigRetryTimeout (b : BayId) (s : State) : Out :=
  .next (match s.bays[b].link.req with
    | some q =>
      if q.sentAt + 8 ≤ s.now then
        if q.repeats < 16 then s.onLink b fun k => { k with req := some { q with sentAt := s.now, repeats := q.repeats + 1 } }
        else s.laneDown b
      else s
    | none => s)

/-- LINK_LOST (R174): 16 consecutive missing ticks in READY or SERVICE. -/
def execLinkLost (b : BayId) (s : State) : Out :=
  .next (let k := s.bays[b].link
    if (k.st = .ready ∨ k.st = .service) ∧ 16 ≤ k.missRun then s.laneLost b false else s)

/-- The writes that a change of settings brings in CONFIGURE, READY or SERVICE (R177). -/
def State.linkWrites (s : State) (b : BayId) : State :=
  let y := s.bays[b]
  if y.link.st = .configure ∨ y.link.st = .ready ∨ y.link.st = .service then
    s.onLink b fun k =>
      let dt := if y.dtPs = k.dtWritten then [] else [(2, 0x10, y.dtPs)]
      let sm := if y.stopMask = k.stopWritten then [] else [(2, 0x11, y.stopMask)]
      { k with dtOld := if y.dtPs = k.dtWritten then k.dtOld else max k.dtOld k.dtWritten, dtWritten := y.dtPs,
               stopWritten := y.stopMask, queue := dt ++ sm ++ k.queue }.pump s.now
  else s

/-- A new entry meets the lane: a MISMATCH that now matches goes to IDENTIFY (R171), READY and SERVICE follow the entry,
and changed values are written (R177). -/
def State.linkReload (s : State) (b : BayId) : State :=
  let y := s.bays[b]
  let s1 := if y.link.st = .mismatch ∧ (y.ent 16 8 == 0 || y.ent 16 8 == y.link.headId) then
      s.onLink b fun k => { k with st := .identify, enteredAt := s.now }.request identifyReads s.now
    else s
  ((s1.linkWrites b).linkService b).meterRefresh b

/- The intake (R43, R170). -/

/-- UPLINK_FRAME (R170): a frame that has reached the intake whole, accepted for publication or counted under its
cause. -/
def execUplinkFrame (b : BayId) (f : UpFrame) (s : State) : Out :=
  .next (let k := s.bays[b].link
    let count := fun (g : LinkCounts → LinkCounts) => s.onLink b (·.onCounts g)
    if k.st = .down ∨ k.st = .lock then s
    else if f.dropped then count fun c => { c with overflows := bump 32 c.overflows }
    else if !f.crcOk then count fun c => { c with crcFail := bump 32 c.crcFail }
    else if f.ftype ≠ 1 then s
    else if k.accepted.contains f.tick then count fun c => { c with duplicate := bump 32 c.duplicate }
    else if (f.tick + 2) % 2 ^ 48 = s.now % 2 ^ 48 then count fun c => { c with late := bump 32 c.late }
    else if (f.tick + 1) % 2 ^ 48 ≠ s.now % 2 ^ 48 then count fun c => { c with tickErr := bump 32 c.tickErr }
    else if k.lastAlive = some f.alive then count fun c => { c with aliveStall := bump 32 c.aliveStall }
    else s.onLink b fun k => { k with
      held := some f, lastAlive := some f.alive, accepted := f.tick :: k.accepted })

/-- The STATUS section as 64 bits (R161). -/
def statusWordOf (f : UpFrame) : Nat :=
  packFields [(4, f.hstate), (1, b2n f.stopped), (1, b2n f.localTrip), (2, f.selected), (8, f.dlBad), (8, f.dtClamp),
    (8, f.legRej), (8, f.appliedTick), (8, ubits 8 f.temp), (16, f.dispGen)]

/-- Raise the gathered LEG_REJ and DT_CLAMP increases, once 1,000 tk have passed since the last HEAD_REJECT (R182). -/
def State.headReject (s : State) (b : BayId) (tick : Nat) : State :=
  let k := s.bays[b].link
  let free := match k.rejAt with
    | some t => decide (t + 1000 ≤ s.now)
    | none => true
  if free && (k.rejLeg != 0 || k.rejDt != 0) then
    (s.onLink b fun k => { k with rejLeg := 0, rejDt := 0, rejAt := some s.now }).linkEvent b 0x0606
      (k.rejLeg + 2 ^ 8 * k.rejDt) tick
  else s

/-- HEAD_REJECT (R182): the hold has passed. -/
def execHeadReject (b : BayId) (s : State) : Out := .next (s.headReject b (s.now - 2))

/-- The STATUS of a published frame: LAST_STATUS, HEAD_STOPPED when STOPPED rises, the increases (R182). The kept status
is STOPPED, SELECTED and the two running counts. -/
def State.headStatus (s : State) (b : BayId) (f : UpFrame) : State :=
  let k := s.bays[b].link
  let inc := fun (new old : Nat) => (new + 256 - old % 256) % 256
  let s1 := s.onLink b fun k => { k with
    lastStatus := statusWordOf f, status := some (f.stopped, f.selected, f.legRej + 256 * f.dtClamp),
    rejLeg := match k.status with
      | some (_, _, c) => satN 8 (k.rejLeg + inc f.legRej (c % 256))
      | none => k.rejLeg,
    rejDt := match k.status with
      | some (_, _, c) => satN 8 (k.rejDt + inc f.dtClamp (c / 256))
      | none => k.rejDt }
  let rose := match k.status with
    | some (was, _, _) => f.stopped && !was
    | none => false
  let s2 := cond rose (s1.linkEvent b 0x0605 (b2n f.localTrip + 2 ^ 8 * f.selected) f.tick) s1
  s2.headReject b f.tick

/-- A tick without a published frame. -/
def State.miss (s : State) (b : BayId) : State :=
  s.onLink b fun k => { k with
    held := none, frame := none, counts := { k.counts with missing := bump 32 k.counts.missing },
    missRun := if k.st = .ready ∨ k.st = .service then k.missRun + 1 else 0 }

/-- Publish the frame of sample tick now - 2 of one bay, or mark it missing (R43, R170): every tick without a published
frame is counted in MISSING, and in READY and SERVICE it counts towards the 16 of R174. A frame with metrology samples
keeps them for the meter cell (R12, R380). -/
def State.publishBay (s : State) (b : BayId) : State :=
  let k := s.bays[b].link
  match k.held with
  | some f =>
    if (f.tick + 2) % 2 ^ 48 = s.now % 2 ^ 48 then
      let smp : List MetroSample := if f.tick % 16 = 0 then
          [⟨f.tick / 16, f.metro, f.metroValid, 100 * f.temp⟩] else []
      let s1 := s.onBay b fun y => { y with
        link := { y.link with held := none, frame := some f, missRun := 0 }, metro := (smp ++ y.metro).take 256 }
      s1.headStatus b f
    else s.miss b
  | none => s.miss b
/- Firmware delivery (R178, R181). -/

/-- HEAD_FW_LOADED (R181): the bay head is back in READY and reports the new FW_HASH. -/
def execHeadFwLoaded (b : BayId) (s : State) : Out :=
  .next (match s.fwLoad, s.bays[b].link.fw with
    | some l, some f =>
      let k := s.bays[b].link
      if f.restartAt.isSome ∧ (k.st = .ready ∨ k.st = .service) ∧ k.fwHash = l.hash % 2 ^ 32 then
        (s.linkEvent b 0x0607 k.fwHash s.now).fwEnd b none
      else s
    | _, _ => s)

/-- HEAD_FW_TIMEOUT (R181): 2 s after RESTART. -/
def execHeadFwTimeout (b : BayId) (s : State) : Out :=
  .next (match s.bays[b].link.fw with
    | some f =>
      match f.restartAt with
      | some t => if t + 2000000 ≤ s.now then s.fwEnd b (some stTIMEOUT) else s
      | none => s
    | none => s)

/- Commands (R179 to R181). -/

/-- LINK_STATUS (R179). -/
def cardLinkStatus (o : Origin) (bay : Nat) (s : State) : State :=
  card o 0x0310 ([8, 24, 32, 32, 64, 32, 32, 64] ++ List.replicate 8 32)
    (fun t => [bayPermit o [0, 2] 1 bay t, rng 1 (bay < 96)])
    (fun t => (t, atBay bay [] fun b =>
      let k := t.bays[b].link
      let c := k.counts
      [k.st.code, 0, k.dUp, k.dDown, k.headId, k.fwVer, k.fwHash, k.lastStatus, c.missing, c.crcFail, c.late, c.duplicate,
       c.tickErr, c.aliveStall, c.overflows, c.retrains])) s

/-- The command LINK_STATUS (R179). -/
def execLinkStatus (o : Origin) (bay : Nat) (s : State) : Out := .next (cardLinkStatus o bay s)

/-- The lanes that LINK_RETRAIN has named go DOWN together at the tick boundary (R180). -/
def State.retrainBoundary (s : State) : State :=
  allBays.foldl (fun u b => if s.bays[b].link.retrain then
      (u.laneDown b).onLink b fun k => { k with retrain := false, counts := { k.counts with retrains := bump 32 k.counts.retrains } }
    else u) s

/-- LINK_RETRAIN (R180): from the next tick boundary. -/
def cardLinkRetrain (o : Origin) (bays : BayMask) (s : State) : State :=
  card o 0x0311 []
    (fun t => [permit o [0], rng 1 (bays != 0),
      need ((baysIn bays).all fun b => t.bays[b].session.st.isIdle || !t.bays[b].enabled) stBAD_STATE 0])
    (fun t => ((baysIn bays).foldl (fun u b => u.onLink b fun k => { k with retrain := true }) t, [])) s

/-- The command LINK_RETRAIN (R180). -/
def execLinkRetrain (o : Origin) (bays : BayMask) (s : State) : Out := .next (cardLinkRetrain o bays s)

/-- HEAD_FW_LOAD (R181): the image goes to every named lane; the answer comes when the last bay head has returned. -/
def cardHeadFwLoad (o : Origin) (bays : BayMask) (transfer size hash : Nat) (s : State) : State :=
  let layout := [8, 24]
  cardLater o 0x0312 layout
    (fun t =>
      let d := t.xferData o.court transfer
      let held := (t.xfer? o.court transfer).isSome
      [permit o [0], rng 1 (bays != 0), need held stBAD_STATE 0, rng 4 (1 ≤ size && size ≤ 4194304 && (!held || d.length == size)),
       need (t.fwLoad.isNone && (baysIn bays).all fun b => t.bays[b].link.st == .ready && t.bays[b].session.st.isIdle)
         stBAD_STATE 0,
       need (!held || Config.sha384 d == hash) stREJECTED_CRYPTO 0])
    (fun t =>
      let l : FwLoad := ⟨o, transfer, t.xferData o.court transfer, hash, bays, none⟩
      let u : State := { t with fwLoad := some l }
      (baysIn bays).foldl (fun u b => u.onLink b fun k => { k with fw := some ⟨0, none⟩ }) u)
    s

/-- The command HEAD_FW_LOAD (R181). -/
def execHeadFwLoad (o : Origin) (bays : BayMask) (transfer size hash : Nat) (s : State) : Out :=
  .next (cardHeadFwLoad o bays transfer size hash s)

end Sys2Proof.Machine
end

