-- ==== Sys2Proof/Machine/SafeComm.lean ====
section
/-! DEFINITION. Safe frames on their carriers, the safety configuration and its change log (spec file 19). -/

namespace Sys2Proof.Machine

/-- The management requests that carry one period of a bay's safe connection: four writes, then four reads (R525). -/
def safeRequests (f : List Byte) : List (Nat × Nat × Nat) :=
  ((List.range 4).map fun j => (2, 0x14 + j, leGet f (8 * j) 8)) ++ (List.range 4).map fun j => (1, 0x18 + j, 0)

/-- Put one period of a bay's safe connection before the other management requests; what is left of an earlier period goes (R525). -/
def Link.safePut (k : Link) (f : List Byte) (now : Nat) : Link :=
  { k with queue := safeRequests f ++ k.queue.filter fun (r : Nat × Nat × Nat) => !(decide (0x14 ≤ r.2.1) && decide (r.2.1 ≤ 0x1B)) }.pump now

/-- SAFE_FRAME_SEND (R519, R523 to R525): the next frame of a connection that is not DOWN, PERIOD_TK after the last. On a bay link it
travels in the management channel of a lane in READY or SERVICE. -/
def execSafeFrameSend (p : SafePort) (s : State) : Out :=
  let x := s.safety.conn p
  .next (if x.st = 0 ∨ (!x.sent.isEmpty && decide (s.now < x.sentAt + s.safety.connPeriod p)) then s
    else match p with
      | .conn _ => s.connForm p
      | .bay b =>
        let k := s.bays[b].link
        if k.st = .ready ∨ k.st = .service then
          let s1 := s.connForm p
          s1.onLink b fun k => k.safePut (s1.safety.conn p).sent s.now
        else s)

/-- CONFIG_LOCKOUT_END (R532): the 300 s have passed. -/
def execConfigLockoutEnd (s : State) : Out :=
  .next (match s.safety.lockUntil with
    | some t => if t ≤ s.now then s.onSafety fun k => { k with lockUntil := none } else s
    | none => s)

/- The change log (R535). -/

/-- The SHA-384 of a payload; zero where there is none. -/
def hashOf (c : Option (List Byte)) : Nat :=
  match c with
  | some p => Config.sha384 p
  | none => 0

/-- Append an entry and raise SAFE_CONFIG (R532, R535, R540, log 92). -/
def State.safeLog (s : State) (kind tick prev status : Nat) : State :=
  let k := s.safety
  let utc := if s.legal.valid then s.legal.utc s.now else 0
  let c := k.cfg.getD []
  let e := leBytes k.nextSeq 4 ++ leBytes kind 1 ++ leBytes 0 3 ++ leBytes tick 8 ++ leBytes utc 8 ++ s.keys.serialBytes ++
    leBytes (hashOf k.cfg) 48 ++ leBytes prev 48 ++ leBytes (leGet c 32 16) 16 ++ leBytes (leGet c 48 48) 48
  (s.onSafety fun k => { k with
    log := (k.log ++ [e]).drop (k.log.length - 63), nextSeq := (k.nextSeq + 1) % 2 ^ 32, lastHash := Config.sha384 e }).raiseNow
      511 0x0E11 (kind + 2 ^ 8 * status + 2 ^ 16 * (k.nextSeq % 2 ^ 16))

/-- The COSE_Sign1 of an entry under the safety court's key (R535, R545). -/
def State.safeSign1 (s : State) (e : List Byte) : List Byte :=
  let kid := leBytes (Config.sha256 (s.pubKey 2 0x01000000 1)) 8
  let h := coseHeader 6 kid
  coseSign1 h e (s.signWith 2 0x01000000 1 (coseToSign h e))

/- The configuration bundle (R528 to R531). -/

/-- The offsets that must hold zero, each with whether it does. -/
def zerosAt (p : List Byte) (off n : Nat) : List (Nat × Bool) := (List.range n).map fun i => (off + i, leGet p (off + i) 1 == 0)

/-- An input number of a record: 0 to 23, or 0xFF for none. -/
def inOrNone (n : Nat) : Bool := n < 24 || n == 0xFF

/-- The checks of the head (R488, R528) at a position of the pair. -/
def cfgHeadChecks (p : List Byte) (serial pos : Nat) : List (Nat × Bool) :=
  let w := leGet p 28 2
  let t := leGet p 30 2
  [(0, leGet p 0 1 == 1), (1, leGet p 1 1 ≤ 1), (2, leGet p 2 1 ≤ 1), (3, leGet p 3 1 == 0),
   (4 + 8 * pos, leGet p (4 + 8 * pos) 8 == serial), (20, leGet p 20 4 != 0),
   (24, leGet p 12 8 == 0 || (leGet p 24 4 != 0 && leGet p 24 4 != leGet p 20 4)),
   (28, 100 ≤ w && w ≤ 1000), (30, 8 ≤ t && t ≤ 1000 && w + 200 ≤ 125 * t)] ++ zerosAt p 161 31

/-- The checks of an input record (R487, log 89). -/
def cfgInChecks (p : List Byte) (i : Nat) : List (Nat × Bool) :=
  let o := 192 + 4 * i
  if bitOf (leGet p o 1) 0 then
    [(o, leGet p o 1 < 4), (o + 1, leGet p (o + 1) 1 ≤ 8), (o + 2, 100 ≤ leGet p (o + 2) 2)]
  else []

/-- The checks of a function record (R492, R493, log 89, log 95). -/
def cfgFnChecks (p : List Byte) (f : Nat) : List (Nat × Bool) :=
  let o := 288 + 48 * f
  let g := fun off n => leGet p (o + off) n
  let kind := g 0 1
  let fl := g 1 1
  let la := sval 32 (g 20 4)
  let lb := sval 32 (g 24 4)
  let mutes := kind == 4 && (g 4 1 < 24 || g 5 1 < 24)
  if kind = 0 then []
  else
    [(o, decide (kind ≤ 7)),
     (o + 1, fl < 16 && !(kind == 3 && bitOf fl 0) && !((kind == 1 || 5 ≤ kind) && bitOf fl 1)),
     (o + 2, if kind ≤ 4 then decide (g 2 1 < 24) else inOrNone (g 2 1)), (o + 3, if kind ≤ 4 then decide (g 3 1 < 24) else inOrNone (g 3 1)),
     (o + 4, if kind = 3 then decide (g 4 1 < 24) else inOrNone (g 4 1)), (o + 5, if kind = 3 then decide (g 5 1 < 24) else inOrNone (g 5 1)),
     (o + 6, decide (g 6 1 < 24)), (o + 7, if 5 ≤ kind then decide (g 7 1 < 4) else g 7 1 < 4 || g 7 1 == 0xFF),
     (o + 8, 10 ≤ g 8 2 && g 8 2 ≤ 3000), (o + 10, g 10 2 ≤ 10000 && (bitOf fl 0 || g 10 2 == 0)),
     (o + 14, 1 ≤ g 14 1 && g 14 1 ≤ 7), (o + 15, g 15 1 == 0),
     (o + 16, kind != 4 || ((!mutes || g 16 2 != 0) &&
       (List.range 16).all fun h => !bitOf (g 16 2) h || (5 ≤ leGet p (288 + 48 * h) 1 && leGet p (288 + 48 * h) 1 ≤ 7))),
     (o + 20, if kind = 4 then decide (100 ≤ la ∧ la ≤ 4000) else if kind = 5 then decide (1 ≤ la ∧ la ≤ 10000000) else true),
     (o + 24, if kind = 4 then decide (1 ≤ lb ∧ lb ≤ 600) else if kind = 7 then decide (0 ≤ lb ∧ lb ≤ 1000000) else true)] ++
    zerosAt p (o + 18) 2 ++ zerosAt p (o + 40) 8

/-- The checks of an encoder record (R502, log 89). -/
def cfgEncChecks (p : List Byte) (n : Nat) : List (Nat × Bool) :=
  let o := 1056 + 8 * n
  if bitOf (leGet p o 1) 0 then
    [(o, leGet p o 1 < 4), (o + 1, inOrNone (leGet p (o + 1) 1)), (o + 2, 100 ≤ leGet p (o + 2) 2 && leGet p (o + 2) 2 ≤ 10000)]
  else []

/-- The checks of a pair record (R505, log 89). -/
def cfgPairChecks (p : List Byte) (n : Nat) : List (Nat × Bool) :=
  let o := 1088 + 8 * n
  if bitOf (leGet p o 1) 0 then
    [(o, leGet p o 1 < 2), (o + 1, leGet p (o + 1) 1 < 24), (o + 2, 10 ≤ leGet p (o + 2) 2 && leGet p (o + 2) 2 ≤ 1000),
     (o + 4, 100 ≤ leGet p (o + 4) 2 && leGet p (o + 4) 2 ≤ 2000), (o + 6, 100 ≤ leGet p (o + 6) 2 && leGet p (o + 6) 2 ≤ 60000)]
  else []

/-- The checks of a connection record (R529, log 89). -/
def cfgConnChecks (p : List Byte) (c : Nat) : List (Nat × Bool) :=
  let o := 1152 + 16 * c
  let kind := leGet p o 1
  let per := leGet p (o + 2) 2
  let wd := leGet p (o + 12) 2
  let twins := (List.range c).filter fun d => leGet p (1152 + 16 * d) 1 == 1
  if kind = 0 then []
  else
    [(o, kind ≤ 3 && (kind != 1 || (twins.isEmpty && leGet p 12 8 != 0))), (o + 1, leGet p (o + 1) 1 == 0),
     (o + 2, 100 ≤ per && per ≤ 10000), (o + 4, kind == 1 || leGet p (o + 4) 4 != 0),
     (o + 10, (List.range 16).all fun f => !bitOf (leGet p (o + 10) 2) f || leGet p (288 + 48 * f) 1 != 0),
     (o + 12, 1 ≤ wd && wd ≤ 1000 && 3 * per ≤ 1000 * wd)] ++ zerosAt p (o + 14) 2

/-- The checks of a bay record (R530, log 89). -/
def cfgBayChecks (p : List Byte) (b : Nat) : List (Nat × Bool) :=
  let o := 1280 + 40 * b
  let stop := bitOf (leGet p (o + 33) 1) 0
  [(o + 33, leGet p (o + 33) 1 < 2), (o + 34, if stop then leGet p (o + 34) 1 < 24 else inOrNone (leGet p (o + 34) 1)),
   (o + 35, !stop || (1 ≤ leGet p (o + 35) 1 && leGet p (o + 35) 1 ≤ 7)), (o + 36, !stop || leGet p (o + 36) 4 != 0)]

/-- The first failing byte of a configuration (R531, order 3). -/
def cfgFirstBad (p : List Byte) (serial pos : Nat) : Option Nat :=
  let all := cfgHeadChecks p serial pos ++ (List.range 24).flatMap (cfgInChecks p) ++ (List.range 16).flatMap (cfgFnChecks p) ++
    (List.range 4).flatMap (cfgEncChecks p) ++ (List.range 8).flatMap (cfgPairChecks p) ++
    (List.range 8).flatMap (cfgConnChecks p) ++ (List.range 96).flatMap (cfgBayChecks p)
  ((all.filter fun x => !x.2).map Prod.fst).foldl (fun (m : Option Nat) o => some (min o (m.getD o))) none

/-- How a load fares (R531): refused with a status and DETAIL, at which order, with FAILED_OFFSET; the configuration that is in force;
or accepted with its log kind and PREV_HASH. -/
inductive SafeVerdict where
  | refused (order st dt off : Nat)
  | same
  | accepted (kind : Nat)
  deriving DecidableEq, Repr

/-- How a COSE_Sign1 fares under a key: the R555 code, 0 for a wrong algorithm; none where it passes. -/
def coseFails (cose key : List Byte) (eddsa : Bool) : Option Nat :=
  if Config.coseAlg cose != (if eddsa then -8 else -7) then some 0
  else
    let c := Config.coseCheck cose (if eddsa then key.take 32 else key)
    if c = 0 then none else some c

/-- Whether a password matches SALT and VERIFIER of a configuration or an entry, at an offset (R528). -/
def passOk (c : List Byte) (off : Nat) (pass : List Byte) : Bool :=
  Config.sha384 (leBytes (leGet c off 16) 16 ++ pass) == leGet c (off + 16) 48

/-- The tail's entry, where it passes order 5 (R531): signed by this QN960's safety key, with its SERIAL; else the R555 code. -/
def State.tailEntry (s : State) (cose : List Byte) : Except Nat (List Byte) :=
  match coseFails cose (s.pubKey 2 0x01000000 1) false, Config.cosePayload cose with
  | none, some e => if e.length = 192 ∧ leGet e 24 8 = s.keys.fuses.serial then .ok e else .error 0
  | some c, _ => .error c
  | none, none => .error 0

/-- Whether loads are locked out (R532). -/
def State.lockedOut (s : State) : Bool :=
  match s.safety.lockUntil with
  | some t => decide (s.now < t)
  | none => false

/-- The case of R531's second table: the log kind, and the bytes and offset that hold SALT and VERIFIER of the password asked for. -/
def State.safeCase (s : State) (p : List Byte) (tail : Option (List Byte)) : Option (Nat × Option (List Byte × Nat)) :=
  match s.safety.cfg, tail with
  | some c, _ => if Config.sha384 p = Config.sha384 c then none else some (3, some (c, 32))
  | none, some e => some (if leGet e 32 48 = Config.sha384 p then (2, none) else (3, some (e, 128)))
  | none, none => some (if s.keys.fuses.commissioned then (4, some (p, 32)) else (1, none))

/-- The checks of R531 from order 2 on, in their order. -/
def State.safeVerdict (s : State) (cose : List Byte) (tail : Option (List Byte)) (pass : List Byte) : SafeVerdict :=
  let p := (Config.cosePayload cose).getD []
  let key := (p.drop 96).take 65
  let sig : Option Nat := if Config.sha384 key != s.keys.fuses.safeKeyHash then some 0 else coseFails cose key (leGet p 1 1 == 1)
  match sig, cfgFirstBad p s.keys.fuses.serial s.safePos with
  | some c, _ => .refused 2 stREJECTED_CRYPTO c 0
  | none, some off => .refused 3 stRANGE 0 off
  | none, none =>
    if s.lockedOut || (s.keys.fuses.commissioned && tail.isNone && !bitOf (leGet p 2 1) 0) then .refused 4 stSAFETY_LOCK 0 0
    else
      let e : Except Nat (Option (List Byte)) := match tail with
        | none => .ok none
        | some t => (s.tailEntry t).map some
      match e with
      | .error c => .refused 5 stREJECTED_CRYPTO c 0
      | .ok te => match s.safeCase p te with
        | none => .same
        | some (kind, none) => .accepted kind
        | some (kind, some (c, off)) => if passOk c off pass then .accepted kind else .refused 6 stREJECTED_CRYPTO 0 0

/-- The log continues from a tail that passed (R535): from its SEQ + 1, and from its hash while no entry stands. -/
def State.fromTail (s : State) (tail : Option (List Byte)) : State :=
  match tail.map s.tailEntry with
  | some (.ok e) => s.onSafety fun k => { k with
      nextSeq := max k.nextSeq ((leGet e 0 4 + 1) % 2 ^ 32), lastHash := if k.log.isEmpty then Config.sha384 e else k.lastHash }
  | _ => s

/-- A wrong password or tail (R532): the REFUSED entry, and the third wrong password in a row locks out for 300 s (log 91). -/
def State.safeRefused (s : State) (order : Nat) : State :=
  let s1 := s.safeLog 5 s.now s.safety.lastHash stREJECTED_CRYPTO
  if order ≠ 6 then s1
  else if s1.safety.fails + 1 < 3 then s1.onSafety fun k => { k with fails := k.fails + 1 }
  else s1.onSafety fun k => { k with fails := 0, lockUntil := some (s.now + 300000000) }

/-- Response of SAFETY_CONFIG_LOAD (R536). -/
abbrev safeLoadLayout : List Nat := [32, 8, 8, 16, 384, 64]

/-- What a load does with its verdict: a refusal is answered; an accepted configuration waits for its boundary (R531 to R534).
`waits` holds it until the returner has accepted too. -/
def State.safeLoadResult (s : State) (o : Option Origin) (cose : List Byte) (tail : Option (List Byte)) (pass : List Byte)
    (waits : Bool) : State :=
  let p := (Config.cosePayload cose).getD []
  let answer := fun (t : State) (st dt : Nat) (vals : List Nat) => match o with
    | some o => t.answer o.court o.mbx st dt false (withValues safeLoadLayout vals)
    | none => t
  match s.safeVerdict cose tail pass with
  | .same => answer s stOK 0 [0, 0, 0, 0, Config.sha384 p, s.now]
  | .refused order st dt off =>
    let s0 := if order = 6 then s.fromTail tail else s
    let seq := s0.safety.nextSeq
    let s1 := if 5 ≤ order then s0.safeRefused order else s0
    let s2 := if dt = 0 then s1 else s1.cryptoReject 2 dt
    answer s2 st dt (if 5 ≤ order then [seq, 5, 0, 0, 0, 0] else [0, 0, 0, off, 0, 0])
  | .accepted kind =>
    let s1 := s.fromTail tail
    s1.onSafety fun k => { k with
      fails := 0, load := some ⟨o, p, kind, if kind = 1 ∨ kind = 4 then 0 else s1.safety.lastHash, s.now + 1, waits⟩ }

/-- A password field of a request: 8 to 64 bytes used, or none where `none` allows it, the rest zero (R531, R536). -/
def passFieldOk (len : Nat) (pass : List Byte) (allowNone : Bool) : Bool :=
  ((8 ≤ len && len ≤ 64) || (allowNone && len == 0)) && pass.length ≤ 64 && (pass.drop len).all (· == 0)

/-- SAFETY_CONFIG_LOAD (R531, R536). An accepted load is answered when it takes effect. -/
def cardSafetyConfigLoad (o : Origin) (transfer tail0 tail1 passLen : Nat) (pass : List Byte) (s : State) : State :=
  cardLater o 0x0E10 safeLoadLayout
    (fun t =>
      let held := fun n => (t.xfer? o.court n).isSome
      let d := t.xferData o.court transfer
      [permit o [2], need (held transfer && (tail0 == 0 || held tail0) && (tail1 == 0 || held tail1)) stBAD_STATE 0,
       rng 4 (passLen == 0 || (8 ≤ passLen && passLen ≤ 64)), rng 6 (passFieldOk passLen pass true || (passLen != 0 && (passLen < 8 || 64 < passLen))),
       need (!held transfer || (Config.cosePayload d).map List.length == some 5120) stBAD_LEN 0,
       need t.safety.load.isNone stNO_RESOURCE 0])
    (fun t =>
      let tn := if t.safePos = 0 then tail0 else tail1
      let d := t.xferData o.court transfer
      let td := if tn = 0 then none else some (t.xferData o.court tn)
      let u := ((t.consumeXfer o.court transfer).consumeXfer o.court tail0).consumeXfer o.court tail1
      u.safeLoadResult (some o) d td (pass.take passLen) (t.twin.en && t.inStep))
    s

/-- The command SAFETY_CONFIG_LOAD (R536). -/
def execSafetyConfigLoad (o : Origin) (transfer tail0 tail1 passLen : Nat) (pass : List Byte) (s : State) : Out :=
  .next (cardSafetyConfigLoad o transfer tail0 tail1 passLen pass s)

/- Taking effect (R533). -/

/-- A function as it starts under a new configuration (R496). -/
def State.fnStart (s : State) (f : Fin 16) : State :=
  let k := s.safety
  let n := k.kind f.val
  if n = 0 then s.fnGo f 0 0 0xFF
  else if n = 3 then s.fnStand f
  else if k.isFallback f.val then s.fnGo f 9 0 0xFF
  else if (n = 2 ∨ n = 4) ∧ k.fnFlag f.val 1 then s.fnStand f
  else s.fnGo f 4 0 0xFF

/-- An input under a new configuration: its filtered level is its raw logical level (log 85). -/
def Safety.inStart (k : Safety) (i : Fin 24) : SafeIn :=
  let x := k.ins[i]
  { SafeIn.reset with
    raw := x.raw, filt := bitOf (k.inRec i.val 0 1) 0 && (x.raw != bitOf (k.inRec i.val 0 1) 1),
    kind := if k.inRec i.val 1 1 = 0 then 0 else x.kind }

/-- An entry with another earth sub-block, its CRC made good (R533, log 98). -/
def patchEarth (e rec : List Byte) : List Byte :=
  let e1 := e.take 384 ++ rec ++ (e.drop 416).take 92
  e1 ++ leBytes (crc32c e1) 4

/-- The bays whose earth sub-block in force differs from their record (R533). -/
def State.earthDiffers (s : State) : BayMask :=
  allBays.foldl (fun (m : BayMask) b => match s.bays[b].entry with
    | some e => if leGet e 384 32 = s.safety.bayRec b.val 0 32 then m else m ||| bayBit b
    | none => m) 0

/-- The record of a bay takes force in its entry (R533). -/
def State.putEarth (s : State) (b : BayId) : State :=
  let rec32 := leBytes (s.safety.bayRec b.val 0 32) 32
  let rcSet := !bitOf (s.bays[b].ent 384 1) 0 && bitOf (s.safety.bayRec b.val 0 1) 0
  s.onBay b fun y => { y with
    entry := y.entry.map fun e => patchEarth e rec32, earth := y.earth.reload rcSet true s.now,
    earthCk := y.earthCk.reload rcSet true s.now }

/-- SAFE_PEER of a bay is written anew (R525). -/
def State.writePeer (s : State) (b : BayId) : State :=
  let k := s.bays[b].link
  if k.st = .configure ∨ k.st = .ready ∨ k.st = .service then s.onLink b fun k => k.request [(2, 0x1D, s.safePeer b)] s.now else s

/-- Every connection under a new configuration: those it names start, the others are DOWN (R521, R533). -/
def State.connStart (s : State) (p : SafePort) : State :=
  if s.safety.connUsed p then s.connGo p 1 0
  else if (s.safety.conn p).st = 0 then s
  else s.connGo p 0 0

/-- A configuration takes effect (R533): pairs off, every bay stopped for one loop, the unit in RUN unless it is in FAULT (R483, log 96),
functions, connections and bay stops as they start, earth records in force under a new BAY_GEN; firewall entries that admit court 2 are
locked (R29). -/
def State.safeApply (s : State) (p : List Byte) : State :=
  let s1 := s.onSafety fun k =>
    let k1 : Safety := { k with cfg := some p, fns := k.fns.map fun x => { SafeFn.reset with st := x.st } }
    { k1 with ins := Vector.ofFn fun i => k1.inStart i }
  let s2 := if s1.safety.st = 1 then s1.safeUnit 2 0 else s1
  let s3 := (List.finRange 16).foldl State.fnStart s2
  let s4 := (List.finRange 8).foldl (fun t c => t.connStart (.conn c)) s3
  let s5 := allBays.foldl (fun (t : State) b => t.connStart (.bay b)) s4
  let s6 := s5.onSafety fun k => { k with
    headStop := allBays.foldl (fun (m : BitVec 96) b => if k.connUsed (.bay b) then m ||| bayBit b else m) 0 }
  let s7 := allBays.foldl (fun (t : State) b => t.onBay b fun y => { y with busScope := 7 }) s6.safeOff
  let diff := s7.earthDiffers
  let s8 := ((baysIn diff).foldl State.putEarth s7).bumpBays diff
  let s9 := allBays.foldl State.writePeer s8
  { s9 with safeAccepted := true, mem := { s9.mem with fwLock2 := true } }

/-- SAFETY_CONFIG_APPLY (R533 to R535): at the tick boundary of an accepted load, once the start-up tests are done (log 97): its entry is
appended and the request answered. -/
def execSafetyConfigApply (s : State) : Out :=
  .next (match s.safety.load with
    | none => s
    | some l =>
      if l.waits ∨ s.now < l.tick ∨ s.safety.st = 0 then s
      else
        let s1 := (s.onSafety fun k => { k with load := none }).safeApply l.payload
        let seq := s1.safety.nextSeq
        let s2 := s1.safeLog l.kind s.now l.prev stOK
        match l.origin with
        | some o => s2.ok o safeLoadLayout [seq, l.kind, 0, 0, Config.sha384 l.payload, s.now]
        | none => s2)

/- Other commands (R537, R539). -/

/-- The entries from a sequence number on, each signed and preceded by its length; each signature uses the DRBG. -/
def State.signEntries (s : State) : List (List Byte) → State × List Byte
  | [] => (s, [])
  | e :: t =>
    let c := s.safeSign1 e
    let r := (s.drbg 32).signEntries t
    (r.1, leBytes c.length 2 ++ c ++ r.2)

/-- SAFETY_LOG_READ (R537). -/
def cardSafetyLogRead (o : Origin) (fromSeq : Nat) (s : State) : State :=
  cardBulk o 0x0E11 [16, 16, 16, 16, 32]
    (fun t => [permit o [0, 2], rng 1 (t.safety.log.any fun e => leGet e 0 4 == fromSeq)])
    (fun t =>
      let es := t.safety.log.dropWhile fun e => leGet e 0 4 != fromSeq
      let r := t.signEntries es
      (r.1, [], [es.length, 0, leGet (es.getLastD []) 0 4], r.2))
    s

/-- The command SAFETY_LOG_READ (R537). -/
def execSafetyLogRead (o : Origin) (fromSeq : Nat) (s : State) : Out := .next (cardSafetyLogRead o fromSeq s)

/-- SAFETY_COMMISSION (R539): the fuse is burned, then FUSED is appended and the request answered. -/
def cardSafetyCommission (o : Origin) (passLen : Nat) (pass : List Byte) (s : State) : State :=
  cardLater o 0x0E13 [32]
    (fun t =>
      [permit o [2], rng 1 (8 ≤ passLen && passLen ≤ 64), rng 3 (pass.length ≤ 64 && (pass.drop passLen).all (· == 0)),
       need (t.safety.st == 2 && !t.keys.fuses.commissioned && !(t.keys.burns.any fun b => b.field == .safeCommissioned)) stBAD_STATE 0,
       need (!t.lockedOut) stSAFETY_LOCK 0])
    (fun t =>
      if passOk (t.safety.cfg.getD []) 32 (pass.take passLen) then t.queueBurn .safeCommissioned (some o)
      else
        let seq := t.safety.nextSeq
        (t.safeRefused 6).answer o.court o.mbx stREJECTED_CRYPTO 0 false [(32, seq)])
    s

/-- The command SAFETY_COMMISSION (R539). -/
def execSafetyCommission (o : Origin) (passLen : Nat) (pass : List Byte) (s : State) : Out :=
  .next (cardSafetyCommission o passLen pass s)

/-- The FUSED entry and its answer, once SAFE_COMMISSIONED is burned (R535, R539). -/
def State.safeFused (s : State) (o : Origin) : State :=
  let seq := s.safety.nextSeq
  (s.safeLog 6 s.now s.safety.lastHash stOK).ok o [32] [seq]

end Sys2Proof.Machine
end

