-- ==== Sys2Proof/Machine/V2g.lean ====
section
/-! DEFINITION. The conversation with the vehicle (spec file 08): SDP, TLS, V2G requests, authorisation, and the commands of
sessions and certificates. -/

namespace Sys2Proof.Machine

/-- The certificate set of a court, TYPE and PROTOCOL that a session entered at a tick uses (R243). -/
def State.certSet (s : State) (court type_ proto at_ : Nat) : Option CertSet :=
  s.certs.find? fun c => c.court.val == court && c.type_ == type_ && c.protocol == proto && decide (c.from_ ≤ at_)

/-- Whether the court of a bay holds an SECC chain for a protocol (R221). -/
def State.hasChain (s : State) (b : BayId) (proto : Nat) : Bool :=
  (s.certSet (s.owner b) 0 proto s.bays[b].session.setupAt).isSome

/-- Whether a protocol needs TLS on a bay (R219). -/
def Bay.needsTls (y : Bay) (proto : Nat) : Bool := proto == 3 || (proto == 2 && bitOf (y.ses 131 1) 0)

/-- The protocols of R239 a bay offers: enabled, and with an SECC chain where TLS is required (R221). -/
def State.offered (s : State) (b : BayId) : List Nat :=
  let y := s.bays[b]
  [1, 2, 3].filter fun p => bitOf y.protocols (p - 1) && (!y.needsTls p || s.hasChain b p)

/-- Whether a protocol may run over the connection as it is (R219). -/
def Bay.tlsFits (y : Bay) (proto tls : Nat) : Bool :=
  if proto = 3 then tls == 13 else if proto = 2 then tls == 12 || (tls == 0 && !y.needsTls 2) else tls == 0

/-- SDP_REQUEST (R218): in SETUP, over the bay's network, the request is answered with the bay's TCP server, port 50,000 + b, with
TLS where a protocol asks for it (log 46). -/
def execSdpRequest (b : BayId) (secure : Bool) (s : State) : Out :=
  let y := s.bays[b]
  let ps := s.offered b
  let can := ps.any fun p => (p == 2 || p == 3) && s.hasChain b p
  let tls := (secure && can) || ps.all (fun p => y.needsTls p)
  .next (if y.session.st = .setup ∧ y.plc.matched ∧ !ps.isEmpty then
      s.onSess b fun x => { x with sdp := x.sdp + 1, answer := some ⟨0, 0, [50000 + b.val, b2n tls]⟩ }
    else s)

/-- Whether a vehicle's offer meets the parameters of R219. -/
def tlsMeets (h : TlsHello) : Bool :=
  if h.version = 12 then
    h.sigs.contains .p256Sha256 &&
    (h.suites.contains .ecdhCbc || h.suites.contains .ecdheCbc) && h.groups.contains .secp256r1
  else h.version == 13 && h.suites.contains .aes256Gcm && h.groups.contains .secp521r1 &&
    (h.sigs.contains .p521Sha512 || h.sigs.contains .ed448)

/-- The alert that ends a handshake on the QN960's side: protocol_version, handshake_failure (log 37). -/
def State.tlsAlert (s : State) (b : BayId) (h : TlsHello) : Option Nat :=
  let y := s.bays[b]
  let p := if h.version = 13 then 3 else 2
  let set := s.certSet (s.owner b) 0 p y.session.setupAt
  let key := set.bind fun c => s.keys.node? c.court c.keyId
  if (h.version ≠ 12 ∧ h.version ≠ 13) ∨ !bitOf y.protocols (p - 1) then some 70
  else if !tlsMeets h ∨ key.isNone then some 40
  else none

/-- TLS_HANDSHAKE (R219): TCP and TLS stand, or the session ends with TLS and SESSION_TLS is raised (R245). -/
def execTlsHandshake (b : BayId) (h : TlsHello) (s : State) : Out :=
  let x := s.bays[b].session
  .next (if x.st = .setup ∧ x.sdp ≠ 0 ∧ !x.tcp then
      match s.tlsAlert b h, h.alert with
      | some a, _ =>
        let s1 := (s.onSess b fun x => { x with tlsAlert := some (a, false) }).stage b 2 ⟨96 + b.val, 0x0522, a, s.now⟩
        s1.sessEnd b 0x13
      | none, some a =>
        let s1 := (s.onSess b fun x => { x with tlsAlert := some (a, true) }).stage b 2
          ⟨96 + b.val, 0x0522, a % 256 + 2 ^ 8, s.now⟩
        s1.sessEnd b 0x13
      | none, none => s.drawn.onSess b fun x => { x with tcp := true, tls := h.version }
    else s)

/- V2G requests (R217, R220, R224, R227, R233). -/

/-- A number for each message, its argument of `Config.v2gOpcode`. -/
def v2gNumber : V2gReq → Nat
  | .undecodable => 0 | .tooLong => 1 | .unsupported => 2 | .appProtocol _ => 3 | .sessionSetup _ => 4
  | .serviceDiscovery => 5 | .serviceSelection _ _ _ => 6 | .paymentDetails _ _ => 7 | .authorization _ _ _ => 8
  | .chargeParameters _ _ _ => 9 | .cableCheck => 10 | .preCharge _ => 11 | .powerStart => 12 | .powerStop => 13
  | .powerRenegotiate => 14 | .chargeLoop _ _ _ => 15 | .weldingDetection => 16 | .sessionStop => 17
  | .certificate _ _ => 18

/-- Answer a request: the response, its code (0 OK, 1 FAILED, 2 FAILED_SequenceError, 3 Failed_NoNegotiation, 4 Ongoing) and
values; the sequence timer starts (R220). -/
def State.v2gAnswer (s : State) (b : BayId) (msg code : Nat) (vals : List Int) : State :=
  s.onSess b fun x => { x with answer := some ⟨msg, code, vals⟩, seqFrom := if x.st.isIdle then none else some s.now }

/-- Answer FAILED, or another code of failure, and raise SESSION_PROTOCOL (R220, R245). -/
def State.v2gFail (s : State) (b : BayId) (msg code : Nat) : State :=
  let p := s.bays[b].session.proto
  (s.v2gAnswer b msg code []).stage b 2
    ⟨96 + b.val, 0x0521, Config.v2gOpcode p msg % 2 ^ 16 + 2 ^ 16 * (Config.v2gCode p code % 256), s.now⟩

/-- A failure that ends the session with PROTOCOL (R220). -/
def State.v2gEnd (s : State) (b : BayId) (msg code : Nat) : State := (s.v2gFail b msg code).sessEnd b 0x14

/-- The entry of supportedAppProtocol with the vehicle's highest priority that the bay offers over this connection (R220). -/
def bestOffer (ok : Nat → Bool) : List (Nat × Nat) → Option (Nat × Nat)
  | [] => none
  | (p, pri) :: t =>
    let r := bestOffer ok t
    if ok p then
      match r with
      | some (p2, q) => if pri ≤ q then some (p, pri) else some (p2, q)
      | none => some (p, pri)
    else r

/-- Whether a bay offers a service under the protocol of the session, with the authorisation asked for (R217, R229, R238). -/
def Bay.offersService (y : Bay) (service : Nat) (contract : Bool) : Bool :=
  let x := y.session
  service < 4 && bitOf y.services service && (service < 2 || x.proto == 3) &&
  (!contract || (bitOf (y.ses 130 1) 2 && x.tls != 0 && x.proto != 1))

/-- The trust store of a bay's court for a protocol (R221). -/
def State.trustStore (s : State) (b : BayId) : List (List Byte) :=
  let x := s.bays[b].session
  [1, 2].flatMap fun ty => match s.certSet (s.owner b) ty x.proto x.setupAt with
    | some c => c.certs
    | none => []

/-- A rejected input of a vehicle is counted for the court of the bay (R555). -/
def State.vehicleReject (s : State) (b : BayId) (code : Nat) : State :=
  match courtOf (s.owner b) with
  | some c => if 1 ≤ code ∧ code ≤ 8 then s.cryptoReject c code else s
  | none => s

/-- A contract chain is verified and becomes the session's token (R221, R229); one that does not verify is answered FAILED and
ends the session with AUTH_REJECTED (log 45). -/
def State.takeContract (s : State) (b : BayId) (msg : Nat) (chain emaid : List Byte) : State × Bool :=
  let code := Config.certChain [chain] (s.trustStore b) (s.legal.utc s.now)
  if code = 0 then
    let ch := s.random 128
    let s1 := s.drawn.onSess b fun x => { x with chain := chain, challenge := ch }
    (s1.takeToken b ⟨3, emaid.take 64, s.now⟩, true)
  else (((s.vehicleReject b code).v2gFail b msg 1).sessEnd b 0x10, false)

/-- The authorisation step (R229): an accepted decision answers Finished, a pending one Ongoing, a rejection the failed response
with the end of the session. -/
def State.authStep (s : State) (b : BayId) (msg : Nat) : State :=
  let x := s.bays[b].session
  if x.auth = 2 then (s.v2gAnswer b msg 0 []).sessTo b .parameters
  else if x.auth = 3 then (s.v2gFail b msg 1).sessEnd b 0x10
  else s.v2gAnswer b msg 4 []

/-- Whether the vehicle's signature over the challenge verifies (R221). -/
def Session.proofOk (x : Session) (proof : List Byte) : Bool := Config.verifies 0 x.chain (leBytes x.challenge 16) proof

/-- An authorization request in AUTHORISING. -/
def State.v2gAuthorise (s : State) (b : BayId) (msg : Nat) (chain emaid proof : List Byte) : State :=
  let x := s.bays[b].session
  if !x.contract then s.authStep b msg
  else
    let r := if x.proto = 3 ∧ x.chain.isEmpty then s.takeContract b msg chain emaid else (s, true)
    if !r.2 then r.1
    else if r.1.bays[b].session.proofOk proof then r.1.authStep b msg
    else ((r.1.vehicleReject b 7).v2gFail b msg 1).sessEnd b 0x10

/-- A certificate installation or update is passed to the owning court on a bulk transfer (R221, R244). -/
def State.v2gCertificate (s : State) (b : BayId) (update : Bool) (body : List Byte) : State :=
  match courtOf (s.owner b) with
  | none => s
  | some c =>
    if s.bulkFree c ∧ !body.isEmpty then
      let num := s.courts[c].nextOut
      let s1 := (s.sendBulk c body).onSess b fun x => { x with
        cert := some ⟨update, s.now⟩, certAnswer := none, seqFrom := none }
      s1.stage b 2 ⟨b.val, 0x0506, num + 2 ^ 16 * b2n update, s.now⟩
    else s.v2gFail b 18 1

/-- The target that a charge loop answer carries to the vehicle (R227). -/
def State.v2gLoop (s : State) (b : BayId) (target : Int) (iMax iDis : Nat) : State :=
  let y := s.bays[b]
  let x := y.session
  let sched := x.proto == 3 && x.scheduled
  let s1 := s.onSess b fun x => { x with
    vehMax := some iMax, vehDis := some iDis, vehCurrent := target, renegoDue := false,
    target := x.iEff, targetAt := if x.target = x.iEff then x.targetAt else some s.now }
  let s2 := if x.target = x.iEff ∨ (sched ∧ !x.renegoDue) then (if sched && !x.renegoDue then
        s.onSess b fun x => { x with vehMax := some iMax, vehDis := some iDis, vehCurrent := target } else s1)
    else s1.stage b 2 ⟨b.val, 0x0505, satN 32 x.iEff, s.now⟩
  s2.v2gAnswer b 15 0 [x.iEff, y.vMeas, y.iMeas, if x.reason ≠ 0 then 1 else if sched && x.renegoDue then 2 else 0]

/-- A request that the state admits changes the session and is answered (R224, R233); one that it does not admit ends it. -/
def State.v2g (s : State) (b : BayId) (r : V2gReq) : State :=
  let y := s.bays[b]
  let x := y.session
  let n := v2gNumber r
  let seq := s.v2gEnd b n 2
  let dc := y.kind == 1
  let stopping := x.st == .stopping || x.st == .weldCheck || x.st == .ended || x.st == .fault
  match r with
  | .undecodable | .tooLong => s.v2gEnd b n 1
  | .unsupported => s.v2gFail b n 1
  | .appProtocol offers =>
    if x.st = .setup ∧ x.proto = 0 then
      match bestOffer (fun p => (s.offered b).contains p && y.tlsFits p x.tls) offers with
      | some (p, _) => (s.onSess b fun x => { x with proto := p }).v2gAnswer b n 0 [p]
      | none => s.v2gEnd b n 3
    else seq
  | .sessionSetup evccid =>
    if x.st = .setup ∧ x.proto ≠ 0 ∧ x.setupFrom.isSome then
      (s.onSess b fun x => { x with evccid := evccid, setupFrom := none, readyFrom := some s.now }).v2gAnswer b n 0 [x.v2gId]
    else seq
  | .serviceDiscovery =>
    if x.st = .setup ∧ x.readyFrom.isSome then s.v2gAnswer b n 0 [y.services] else seq
  | .serviceSelection service scheduled contract =>
    if x.st = .setup ∧ x.readyFrom.isSome then
      if y.offersService service contract then
        ((s.onSess b fun x => { x with service := service, scheduled := scheduled, contract := contract }).sessAuthorise b).v2gAnswer
          b n 0 []
      else s.v2gFail b n 1
    else seq
  | .paymentDetails chain emaid =>
    if x.st = .authorising ∧ x.proto = 2 ∧ x.contract ∧ x.chain.isEmpty then
      let t := s.takeContract b n chain emaid
      if t.2 then t.1.v2gAnswer b n 0 [t.1.bays[b].session.challenge] else t.1
    else if x.proto = 1 then s.v2gFail b n 1
    else seq
  | .authorization chain emaid proof =>
    if x.st = .authorising ∧ (!x.contract ∨ x.proto = 3 ∨ !x.chain.isEmpty) then s.v2gAuthorise b n chain emaid proof else seq
  | .chargeParameters iMax iDis vMax =>
    if x.st = .parameters ∧ x.closing.isNone then
      (s.onSess b fun x => { x with vehMax := some iMax, vehDis := some iDis, vehVolt := vMax }).v2gAnswer b n 0
        [y.ent 24 4, y.ent 28 4, y.ent 32 4]
    else seq
  | .cableCheck =>
    if dc ∧ x.st = .parameters then
      (if x.closing.isSome then s else s.sessClose b .cableCheck).v2gAnswer b n 4 []
    else if dc ∧ x.st = .cableCheck then s.v2gAnswer b n (if 2 ≤ y.earthCk.cable ∧ y.earthCk.cable ≤ 3 then 0 else 4) []
    else seq
  | .preCharge target =>
    if dc ∧ x.st = .cableCheck ∧ 2 ≤ y.earthCk.cable ∧ y.earthCk.cable ≤ 3 then
      ((s.onSess b fun x => { x with vehTarget := target }).sessTo b .precharge).v2gAnswer b n 0 [y.vMeas]
    else if dc ∧ x.st = .precharge then (s.onSess b fun x => { x with vehTarget := target }).v2gAnswer b n 0 [y.vMeas]
    else seq
  | .powerStart =>
    if dc ∧ x.st = .precharge then
      if (y.vMeas - (x.vehTarget : Int)).natAbs ≤ y.ses 140 4 then
        ((s.onSess b fun x => { x with readyFrom := none }).sessTo b .energised).v2gAnswer b n 0 []
      else s.v2gEnd b n 1
    else if !dc ∧ x.st = .parameters ∧ (x.pilot = 2 ∨ x.pilot = 3) then
      ((s.onSess b fun x => { x with readyFrom := none }).sessClose b .energised).v2gAnswer b n 0 []
    else seq
  | .powerStop =>
    if x.st = .energised then (s.sessEnd b 0x16).v2gAnswer b n 0 []
    else if stopping then s.v2gAnswer b n 0 []
    else if x.contactors then (s.sessEnd b 0x16).v2gAnswer b n 0 []
    else seq
  | .powerRenegotiate =>
    if x.st = .energised ∧ x.proto ≠ 1 then
      ((s.onSess b fun x => { x with renego := true, renegoDue := false }).sessTo b .stopping).v2gAnswer b n 0 []
    else seq
  | .chargeLoop target iMax iDis => if x.st = .energised ∨ x.st = .stopping then s.v2gLoop b target iMax iDis else seq
  | .weldingDetection => if dc ∧ (x.renego = false ∧ stopping) then s.v2gAnswer b n 0 [y.vMeas] else seq
  | .sessionStop =>
    let s1 := if stopping && !x.renego then s else s.sessEnd b 0x16
    (s1.v2gAnswer b n 0 []).onSess b fun x => { x with tcp := false, tls := 0, closeAt := none, seqFrom := none }
  | .certificate update body =>
    if x.proto = 1 ∨ (x.proto = 3 ∧ update) then s.v2gFail b n 1
    else if (x.st = .authorising ∨ (x.st = .setup ∧ x.readyFrom.isSome)) ∧ x.cert.isNone then s.v2gCertificate b update body
    else seq

/-- V2G_REQUEST (R220): a request over the session's connection; without TLS the first one in SETUP opens it (R218). -/
def execV2gRequest (b : BayId) (r : V2gReq) (s : State) : Out :=
  let x := s.bays[b].session
  let opens := x.st == .setup && x.sdp != 0 && !x.tcp
  .next (if x.tcp then s.v2g b r
    else if opens then (s.onSess b fun x => { x with tcp := true }).v2g b r
    else s)

/- Commands (R239 to R244). -/

/-- SESSION_STATUS (R239). -/
def cardSessionStatus (o : Origin) (bay : Nat) (s : State) : State :=
  card o 0x0501 ([8, 8, 8, 8, 64, 32, 32, 32, 72, 72, 72, 72, 64, 64, 8, 8, 16, 512, 64, 32, 32])
    (fun t => [bayPermit o [0] 1 bay t, rng 1 (bay < 96)])
    (fun t => (t, atBay bay [] fun b =>
      let y := t.bays[b]
      let x := y.grpCk.session
      let m := t.legal.regs.meters[meterOf b]
      let own := t.owns o.court b
      let r := if x.st.isIdle && x.st != .unavailable || x.reason != 0 then x.reason else 0
      let tok := match x.token with
        | some k => if own then leGet k.bytes 0 64 else 0
        | none => 0
      let kind := match x.token with
        | some k => k.kind
        | none => 0
      [x.st.code, x.proto, x.service, r, m.sessionId, x.iEff, ubits 32 (satI 32 y.iMeas), satN 32 y.vMeas.toNat,
        m.ses[0], m.ses[1], m.ses[2], m.ses[3], x.startTick, x.stopTick, if own then kind else 0, x.auth, 0, tok,
        if own then x.evccid else 0, x.openLoad, t.gens.bay[b]])) s

/-- The command SESSION_STATUS (R239). -/
def execSessionStatus (o : Origin) (bay : Nat) (s : State) : Out := .next (cardSessionStatus o bay s)

/-- The current session of a bay has this SESSION_ID. -/
def Bay.hasSession (y : Bay) (id : Nat) : Bool :=
  y.session.st != .idle && y.session.st != .unavailable && y.session.id == id

/-- A setting of the host limit of a bay. -/
def pickLimit (bay : Nat) : Setting → Option Nat
  | .sessionAuth b d _ l _ => if b = bay ∧ d = 1 then some l else none
  | .sessionLimit b _ l _ => if b = bay then some l else none
  | _ => none

/-- A setting of the energy limit of a bay. -/
def pickEnergy (bay : Nat) : Setting → Option Nat
  | .sessionAuth b d _ _ e => if b = bay ∧ d = 1 then some e else none
  | .sessionLimit b _ _ e => if b = bay ∧ e ≠ 0xFFFFFFFF then some e else none
  | _ => none

/-- An authorisation decision for a bay that is armed. -/
def isAuthFor (bay : Nat) : Setting → Bool
  | .sessionAuth b _ _ _ _ => b == bay
  | _ => false

/-- SESSION_AUTH (R240): from AUTH_SOURCES without HOST a decision needs a token (log 39). -/
def cardSessionAuth (o : Origin) (bay decision id limit energy : Nat) (s : State) : State :=
  cardLater o 0x0502 [64]
    (fun t => [ownPermit o 1 bay t, rng 1 (bay < 96), rng 2 (decision == 1 || decision == 2), rng 5 (limit ≤ 1000000),
      need (atBay bay true fun b =>
        let y := t.bays[b]
        let x := y.session
        y.hasSession id && x.st.beforeCharge && x.auth ≤ 1 && !(t.armed.any fun a => isAuthFor bay a.cmd) &&
        (x.token.isSome || authSource (y.ses 130 1) 4)) stBAD_STATE 0])
    (fun t => atBay bay t fun b =>
      let same := decision == 2 || (t.planned (pickLimit bay) t.bays[b].session.hostLimit == limit &&
        t.planned (pickEnergy bay) t.bays[b].session.energyLimit == energy)
      t.arm o (.sessionAuth bay decision id limit energy) (bayBit b) false same fun c => (pickLimit bay c).isSome) s

/-- The command SESSION_AUTH (R240). -/
def execSessionAuth (o : Origin) (bay decision id limit energy : Nat) (s : State) : Out :=
  .next (cardSessionAuth o bay decision id limit energy s)

/-- The session of a bay as it stands between ticks is that of both the computed and the committed state. -/
def State.settleSess (s : State) (b : BayId) : State :=
  s.onBay b fun y => { y with grpCk := { y.grpCk with session := y.grp.session } }

/-- SESSION_AUTH takes effect (R229, R240): the host's decision stands for a token of kind HOST where none was taken; a rejection
ends a session without digital communication at once, another after its failed authorisation response. -/
def State.applyAuth (s : State) (bay decision id limit energy : Nat) : State :=
  atBay bay s fun b =>
    let y := s.bays[b]
    if y.hasSession id && y.session.st.beforeCharge then
      let tok := y.session.token.getD ⟨4, [], s.now⟩
      let acc := decision == 1
      let s1 := s.onSess b fun x => { x with
        token := some tok, auth := if acc then 2 else 3,
        hostLimit := if acc then limit else x.hostLimit, energyLimit := if acc then energy else x.energyLimit }
      let s2 := if acc ∨ y.hlc then s1 else s1.sessEnd b 0x10
      s2.settleSess b
    else s

/-- SESSION_STOP (R241): in STOPPING, WELD_CHECK, ENDED or FAULT it changes nothing (R233). -/
def cardSessionStop (o : Origin) (bay id : Nat) (s : State) : State :=
  cardLater o 0x0503 [64]
    (fun t => [bayPermit o [0] 1 bay t, rng 1 (bay < 96),
      need (atBay bay true fun b => t.bays[b].hasSession id) stBAD_STATE 0])
    (fun t => atBay bay t fun b => t.arm o (.sessionStop bay id) (bayBit b) false true fun _ => false) s

/-- The command SESSION_STOP (R241). -/
def execSessionStop (o : Origin) (bay id : Nat) (s : State) : Out := .next (cardSessionStop o bay id s)

/-- SESSION_STOP takes effect (R231, R233, R241). -/
def State.applyStop (s : State) (bay id : Nat) : State :=
  atBay bay s fun b =>
    let y := s.bays[b]
    let st := y.session.st
    if y.hasSession id && !(st == .stopping || st == .weldCheck || st == .ended || st == .fault) then
      (s.sessEnd b 0x0E).settleSess b
    else s

/-- SESSION_LIMIT (R242). -/
def cardSessionLimit (o : Origin) (bay id limit energy : Nat) (s : State) : State :=
  cardLater o 0x0504 [32, 64]
    (fun t => [ownPermit o 1 bay t, rng 1 (bay < 96),
      need (atBay bay true fun b => t.bays[b].hasSession id) stBAD_STATE 0])
    (fun t => atBay bay t fun b =>
      let x := t.bays[b].session
      let same := t.planned (pickLimit bay) x.hostLimit == limit &&
        (energy == 0xFFFFFFFF || t.planned (pickEnergy bay) x.energyLimit == energy)
      t.arm o (.sessionLimit bay id limit energy) (bayBit b) false same fun c => (pickLimit bay c).isSome) s

/-- The command SESSION_LIMIT (R242). -/
def execSessionLimit (o : Origin) (bay id limit energy : Nat) (s : State) : Out :=
  .next (cardSessionLimit o bay id limit energy s)

/-- SESSION_LIMIT takes effect; limits lapse when the session has ended (R242). -/
def State.applyLimit (s : State) (bay id limit energy : Nat) : State :=
  atBay bay s fun b =>
    let x := s.bays[b].session
    if s.bays[b].hasSession id && !x.st.isIdle then
      (s.onSess b fun x => { x with
        hostLimit := limit, energyLimit := if energy = 0xFFFFFFFF then x.energyLimit else energy }).settleSess b
    else s

/-- DER certificates, each behind its 32-bit length; none where the lengths do not fit (R243). -/
def splitCerts : Nat → List Byte → Option (List (List Byte))
  | 0, _ => none
  | k + 1, l =>
    if l.isEmpty then some []
    else
      let n := leGet l 0 4
      if l.length < 4 + n ∨ n = 0 then none
      else (splitCerts k (l.drop (4 + n))).map fun r => (l.drop 4).take n :: r

/-- CERT_LOAD (R243). -/
def cardCertLoad (o : Origin) (type_ protocol transfer keyId : Nat) (s : State) : State :=
  let code := fun (t : State) (cs : List (List Byte)) =>
    let rej := if type_ = 0 then Config.certChain cs [] (t.legal.utc t.now)
      else (cs.map fun c => Config.certChain [c] [c] (t.legal.utc t.now)).foldl max 0
    let key := match t.keys.node? o.court keyId with
      | some n => (t.keys.secret t.now o.court keyId n.alg).map (Config.publicKey n.alg)
      | none => none
    if rej ≠ 0 then some (if rej ≤ 8 then rej else 0)
    else if type_ = 0 ∧ key ≠ (cs.head?.map Config.certKey) then some 0
    else none
  cardFull o 0x0510 [8, 24, 64]
    (fun t =>
      let held := (t.xfer? o.court transfer).isSome
      let d := t.xferData o.court transfer
      let cs := splitCerts (d.length + 1) d
      [permit o (0 :: (List.range 13).map (· + 3)), rng 1 (type_ ≤ 2), rng 2 (protocol == 2 || protocol == 3), need held stBAD_STATE 0,
       need (!held || (match cs with
         | some l => 1 ≤ l.length && l.length ≤ (if type_ = 0 then 3 else 8)
         | none => false)) stRANGE 0,
       (match cs with
        | some l => (code t l).map fun c => (stREJECTED_CRYPTO, c)
        | none => none)])
    (fun st t =>
      let d := t.xferData o.court transfer
      match splitCerts (d.length + 1) d with
      | some l => if st = stREJECTED_CRYPTO then
          match code t l with
          | some c => if c = 0 then t else t.cryptoReject o.court c
          | none => t
        else t
      | none => t)
    (fun t =>
      let d := t.xferData o.court transfer
      let cs := (splitCerts (d.length + 1) d).getD []
      let mine : CertSet → Bool := fun c => c.court == o.court && c.type_ == type_ && c.protocol == protocol
      let rest := t.certs.filter fun c => !mine c
      let new : CertSet := ⟨o.court, type_, protocol, cs, keyId, t.now + 1⟩
      let t1 := { t with certs := new :: ((t.certs.filter mine).take 1 ++ rest) }
      let na := cs.map Config.certNotAfter
      (t1.consumeXfer o.court transfer).ok o [8, 24, 64] [cs.length, 0, (na.foldl min (na.headD 0)) % 2 ^ 64])
    s

/-- The command CERT_LOAD (R243). -/
def execCertLoad (o : Origin) (type_ protocol transfer keyId : Nat) (s : State) : Out :=
  .next (cardCertLoad o type_ protocol transfer keyId s)

/-- How long a certificate answer may take (R244). -/
def certLimit (proto : Nat) : Nat := if proto = 3 then 40000000 else 4000000

/-- CERT_RESPONSE (R244): the back office's answer goes to the vehicle; too late it is answered TIMEOUT. -/
def cardCertResponse (o : Origin) (bay result transfer id : Nat) (s : State) : State :=
  cardOwn o 0x0511 []
    (fun t => [ownPermit o 1 bay t, rng 1 (bay < 96), rng 2 (result ≤ 1), need (t.xfer? o.court transfer).isSome stBAD_STATE 0,
      need (atBay bay true fun b => t.bays[b].hasSession id && t.bays[b].session.cert.isSome) stBAD_STATE 0])
    (fun t => atBay bay t fun b =>
      let x := t.bays[b].session
      match x.cert with
      | none => t
      | some c =>
        let d := t.xferData o.court transfer
        let t1 := t.consumeXfer o.court transfer
        if c.tick + certLimit x.proto < t.now then
          (t1.onSess b fun x => { x with cert := none }).refuse o stTIMEOUT 0 []
        else
          let t2 := (t1.onSess b fun x => { x with cert := none, certAnswer := some (result, d) }).v2gAnswer b 18
            (if result = 0 then 0 else 1) []
          (t2.settleSess b).ok o [] [])
    s

/-- The command CERT_RESPONSE (R244). -/
def execCertResponse (o : Origin) (bay result transfer id : Nat) (s : State) : Out :=
  .next (cardCertResponse o bay result transfer id s)

end Sys2Proof.Machine
end

