-- ==== Sys2Proof/Machine/Start.lean ====
section
/-! DEFINITION. What a start leaves of courts, bays and settings, shared by the resets and by a twin that yields (spec files 03, 22, 23). -/

namespace Sys2Proof.Machine

/-- Courts 0, 1 and 2 enable every source within their rights (R97). -/
def State.startMasks (s : State) : State :=
  [(0 : CourtId), 1, 2].foldl (fun t c => t.onCourt c fun k => { k with mask := rightsMask t c }) s

/-- A court's own part of the running state goes: no request is in execution. -/
def Court.stopped (k : Court) : Court := { k with mbx := k.mbx.map fun m => { m with running := none } }

/-- Settings, sessions and cells as a start leaves them (R49, R116, R639): no entry, no generation, nothing armed, the ledger not
configured. -/
def State.dropSettings (s : State) : State :=
  { s with
    gens := Gens.reset, armed := [], bays := Vector.replicate 96 Bay.reset, slac := Slac.reset, ledger := Ledger.reset, certs := [],
    pulses := Pulses.reset, fwLoad := none,
    host := { s.host with bayBase := 0, bayBaseSet := false },
    clock := { s.clock with cfg := ⟨0, 0, 0, 1000⟩, cfgSet := false, timeSet := [] },
    keys := { s.keys with purposes := [], nodes := [], siteRoot := none, siteRootFrom := 0 } }

/-- The lanes of a twin that keeps them down (R171): each holds its 100 ms. -/
def State.lanesDown (s : State) : State := allBays.foldl State.laneDown s

/-- What a twin that yields discards (R615): its settings, its tenants, its sessions and its cells; the mailboxes of courts 0 to 2, the tick
count, the safety unit and the legal registers stay (log 108). -/
def State.dropRunning (s : State) : State :=
  let courts := Vector.ofFn fun c : CourtId => if c.val < 3 then s.courts[c].stopped else Court.absent
  let t := s.lanesDown
  let links := t.bays
  let u := { t with courts := courts }.dropSettings
  { u with bays := Vector.ofFn fun b : BayId => { Bay.reset with link := links[b].link, busScope := links[b].busScope, earthLatch := links[b].earthLatch } }

end Sys2Proof.Machine
end

