-- ==== Sys2Proof/Machine/TwinCore.lean ====
section
/-! DEFINITION. The twin pair: pair states, roles and the serve, the heartbeat, joining and leaving step (spec file 22). -/

namespace Sys2Proof.Machine

/-- Change the twin state. -/
def State.onTwin (s : State) (f : Twin → Twin) : State := { s with twin := f s.twin }

/-- A change of the pair state raises TWIN_STATE (R614, R636). -/
def State.pairGo (s : State) (st : PairState) (reason : Nat) : State :=
  if s.twin.st = st then s
  else
    let old := s.twin.st.code
    (s.onTwin fun w => { w with st := st }).raiseNow 455 0x1101 (st.code + 16 * old + 2 ^ 8 * b2n s.twin.server + 2 ^ 16 * reason)

/-- TWIN_LINK (R636). -/
def State.twinLinkEvent (s : State) (up twhb limit : Bool) : State :=
  s.raiseNow 458 0x1104 (b2n up + 2 * b2n twhb + 4 * b2n limit + 2 ^ 16 * satN 16 (s.twin.delayPs / 1000))

/-- Whether the two twins are mirroring (R608, R624). -/
def State.mirroring (s : State) : Bool := s.twin.en && (s.twin.st == .joining || s.twin.st == .inStep)

/-- Send an input to the returner as a mirror message (R611): it acts from a tick at least two on (log 111), once it is acknowledged. -/
def State.postMirror (s : State) (i : MirrorInput) : State :=
  let n := (s.twin.mirrorSeq + 1) % 2 ^ 32
  (s.onTwin fun w => { w with
    mirrorSeq := n, mirrors := w.mirrors ++ [⟨n, s.now + 2 + s.draw, i, false, s.now⟩], mirrorsSent := bump 32 w.mirrorsSent }).drawn

/-- Whether the server's blocks decide what cells see and publish: from the start of the TICK phase (R609, R624). -/
def State.maskedIntake (s : State) : Bool := s.inStep || (s.twin.st == .joining && 2 ≤ s.twin.joinPhase)

/-- The control block of the tick in progress, if it was valid (R607). -/
def State.blockNow (s : State) : Option Tcb := if s.twin.blockTick = s.now + 1 then s.twin.block else none

/-- A returner leaves step (R627): its lanes go DOWN, it is PAIRED, or ALONE where the link is down. -/
def State.leaveStep (s : State) (reason : Nat) : State :=
  if s.mirroring then
    let s1 := if s.isReturner then s.lanesDown else s
    let s2 := s1.onTwin fun w => { w with lastReason := reason, leftAt := some s.now, joinPhase := 0, cuts := [], cutDone := [], recut := [] }
    let s3 := s2.pairGo (if s.twin.linkUp then .paired else .alone) reason
    match s.twin.joinOrigin with
    | some o => (s3.onTwin fun w => { w with joinOrigin := none }).refuse o stTIMEOUT 0 [64]
    | none => s3
  else s

/-- The highest EPOCH_SEEN of the lanes that have passed IDENTIFY (R616). -/
def State.epochSeen (s : State) : Option Nat :=
  ((allBays.filter fun b : BayId => let k := s.bays[b].link
    k.st == .configure || k.st == .ready || k.st == .service).map fun b : BayId => s.bays[b].link.epochSeen).foldl
    (fun m e => match m with
      | some x => some (max x e)
      | none => some e) none

/-- The epoch of a QN960 that takes the serve while holding none (R616). -/
def State.freshEpoch (s : State) : Nat :=
  match s.epochSeen with
  | some e => (e + 1) % 2 ^ 32
  | none => 1

/-- Bring every lane in line with the serve (R618). -/
def State.lanesServe (s : State) : State := allBays.foldl State.linkService s

/-- Take the serve (R615, R616, R620 to R622): SERVE is raised with how it came about. -/
def State.takeServe (s : State) (how epoch : Nat) (st : PairState) : State :=
  let s1 := (s.onTwin fun w => { w with server := true, epoch := epoch % 2 ^ 32, epochNext := 0, yieldSet := false, missBlocks := 0, missTwhb := 0 }).pairGo st 0
  (s1.raiseNow 456 0x1102 (1 + 2 * how + 2 ^ 8 * (epoch % 2 ^ 24))).lanesServe

/-- Yield the serve with the running state (R615): the lanes go DOWN and the QN960 is a returner in PAIRED. -/
def State.yieldServe (s : State) (how : Nat) : State :=
  let s1 := (s.onTwin fun w => { w with server := false, mirrors := [], xfers := [], todo := [] }).dropRunning
  (s1.pairGo .paired 0).raiseNow 456 0x1102 (2 * how + 2 ^ 8 * (s.twin.epoch % 2 ^ 24))

/-- Roles when the link gives valid blocks in both directions (R615): of two servers the lower epoch yields, at equal epochs position 1;
of two others position 0 takes the serve, if it may. -/
def State.settleRoles (s : State) (peerServer : Bool) (peerEpoch : Nat) : State :=
  if s.twin.server && peerServer then
    if s.twin.epoch < peerEpoch || (s.twin.epoch == peerEpoch && s.twin.pos == 1) then s.yieldServe 3 else s
  else if !s.twin.server && !peerServer && s.twin.pos == 0 && !s.twin.barred then s.takeServe 3 s.freshEpoch .paired
  else s

/-- TWIN_LINK_UP (R615): the link first gives valid blocks in both directions. -/
def execTwinLinkUp (p : PeerInfo) (s : State) : Out :=
  .next (if s.twin.en && !s.twin.linkUp && !s.twin.linkBarred && s.host.ready && p.ready then
      let s1 := (s.onTwin fun w => { w with linkUp := true, peer := some p, missBlocks := 0, missTwhb := 0 }).twinLinkEvent true false false
      ((s1.settleRoles p.server p.epoch).pairGo .paired 0).onTwin fun w => { w with holdLanes := false }
    else s)

/-- TWIN_TRAINING_ANSWER (R605): after 16 exchanges the mean gives the delay; more than 60 ns bars the link. -/
def execTwinTrainingAnswer (roundTrip turnPs : Nat) (crcOk : Bool) (s : State) : Out :=
  .next (if s.twin.en && !s.twin.linkUp && crcOk && s.twin.training < 16 then
      let s1 := s.onTwin fun w => { w with training := w.training + 1, delaySum := w.delaySum + (roundTrip - turnPs) }
      if s1.twin.training = 16 then
        let d := s1.twin.delaySum / 32
        let s2 := s1.onTwin fun w => { w with delayPs := d % 2 ^ 32, linkBarred := decide (60000 < d) }
        if 60000 < d then s2.twinLinkEvent false false true else s2
      else s1
    else s)

/-- The link goes down (R613, R627): the server goes on ALONE, a returner leaves step. -/
def State.twinLinkDown (s : State) : State :=
  if s.twin.linkUp then
    let s1 := (s.onTwin fun w => { w with linkUp := false, training := 0, delaySum := 0, xfers := [], block := none }).twinLinkEvent false false false
    if s1.mirroring then
      let s2 := s1.leaveStep 3
      if s2.twin.server then s2.onTwin fun w => { w with todo := w.todo ++ [(.alone, none)] } else s2
    else s1.pairGo .alone 0
  else s

/-- TWIN_RESEND_TIMEOUT (R613): a transfer unacknowledged for 8 us is sent again; after three resends that failed the link goes down. -/
def execTwinResendTimeout (cls seq : Nat) (s : State) : Out :=
  .next (match s.twin.xfers.find? fun x => x.cls == cls && x.seq == seq with
    | some x =>
      if x.sentAt + 8 ≤ s.now then
        if x.tries < 3 then
          s.onTwin fun w => { w with
            resends := bump 32 w.resends,
            xfers := w.xfers.map fun y => if y.cls = cls ∧ y.seq = seq then { y with tries := y.tries + 1, sentAt := s.now } else y }
        else s.twinLinkDown
      else s
    | none => s)

/-- HEARTBEAT_CHECK (R619): at cycle 90 a returner judges the server by its control block and by TWHB_IN, which is said to have inverted at the last
boundary or not. -/
def execHeartbeatCheck (twhbInverted : Bool) (s : State) : Out :=
  .next (if s.twin.en && !s.twin.server && s.twin.st != .alone && s.twin.st != .unpaired then
      let valid := s.blockNow.isSome
      let before := s.twin.missBlocks
      let tw := if twhbInverted then 0 else s.twin.missTwhb + 1
      if valid then
        let s1 := s.onTwin fun w => { w with missBlocks := 0, missTwhb := tw }
        let s2 := if tw = 3 then s1.twinLinkEvent true true false else s1
        if before = 1 ∨ before = 2 then s2.leaveStep 4 else s2
      else
        let s1 := s.onTwin fun w => { w with
          missBlocks := before + 1, missTwhb := tw, missAt := s.now + 1, hbMissed := bump 32 w.hbMissed }
        if 3 ≤ before + 1 ∧ tw < 3 ∧ twhbInverted then s1.leaveStep 3 else s1
    else s)

/-- TAKEOVER (R620): the third missing heartbeat of a returner in step; it serves ALONE with the server's last epoch plus 1. -/
def execTakeover (s : State) : Out :=
  .next (if s.twin.en && !s.twin.server && s.inStep && !s.twin.barred && 3 ≤ s.twin.missBlocks && 3 ≤ s.twin.missTwhb then
      let s1 := s.takeServe 1 (s.twin.twinEpoch + 1) .alone
      s1.onTwin fun w => { w with linkUp := false, block := none, takeovers := bump 32 w.takeovers, lastTakeoverTick := s.now }
    else s)

/-- HANDOVER_APPLY (R621): at APPLY_TICK the roles swap and the pair stays in step. -/
def execHandoverApply (s : State) : Out :=
  .next (match s.twin.handover with
    | some (t, _) =>
      if t ≤ s.now ∧ s.inStep then
        let s1 := s.onTwin fun w => { w with handover := none }
        if s.twin.server then
          (s1.onTwin fun w => { w with server := false, twinEpoch := (w.epoch + 1) % 2 ^ 32 }).raiseNow 456 0x1102
            (2 * 2 + 2 ^ 8 * (s.twin.epoch % 2 ^ 24))
        else s1.takeServe 2 (s.twin.twinEpoch + 1) .inStep
      else s
    | none => s)

/-- YIELD_TAKE (R622): at the boundary after the server has set YIELD its returner takes the serve. -/
def execYieldTake (s : State) : Out :=
  .next (match s.twin.block with
    | some t =>
      if s.twin.en && !s.twin.server && s.inStep && t.yields && !s.twin.barred && s.twin.blockTick ≤ s.now then s.takeServe 4 (t.epoch + 1) .paired
      else s
    | none => s)

/- Joining (R623 to R627). -/

/-- The manifest hash of the bundle that runs: measurement kind 2 (R646). -/
def State.manifest (s : State) : Nat := agetD s.boot.measures 2 0

/-- The serial numbers that the safety configuration in force names (R528). -/
def Safety.serials (k : Safety) : Nat × Nat := (k.get 4 8, k.get 12 8)

/-- Whether every court's generation in force equals its burned count (R548). -/
def State.gensSettled (s : State) : Bool := allCourts.all fun c => s.keys.genInForce[c] == burnedBits s.keys.fuses.courtGen[c]

/-- Condition 3 of R623: both safety units run the same configuration, which names both serials. -/
def State.safeAgrees (s : State) (p : PeerInfo) : Bool :=
  let n := s.safety.serials
  let own := s.keys.fuses.serial
  s.safety.st == 2 && p.safeRun && hashOf s.safety.cfg == p.safeHash &&
  (if s.twin.pos = 0 then n == (own, p.serial) else n == (p.serial, own))

/-- Condition 4 of R623, after the burns of R548: court by court up to the larger count, tenants at once. -/
def State.gensAgree (s : State) (p : PeerInfo) : Bool :=
  (List.finRange 16).all fun c : CourtId =>
    let own := burnedBits s.keys.fuses.courtGen[c]
    let top := max own (p.burned.getD c.val 0)
    if 3 ≤ c.val then true else s.keys.genInForce[c] == top && p.gens.getD c.val 0 == top

/-- The first condition of R623 that fails. -/
def State.joinFails (s : State) : Option Nat :=
  match s.twin.peer with
  | none => some 1
  | some p =>
    if s.twin.st ≠ .paired then some 1
    else if p.manifest ≠ s.manifest then some 2
    else if !s.safeAgrees p then some 3
    else if !s.gensAgree p then some 4
    else if p.regionFault then some 5
    else none

/-- The burns of R548 that this twin makes for a join. -/
def State.joinBurns (s : State) : State :=
  match s.twin.peer with
  | none => s
  | some p =>
    allCourts.foldl (fun t c =>
      (List.range (p.burned.getD c.val 0 - t.courtBurned c)).foldl (fun u _ => u.queueBurn (.joinGen c) none) t) s

/-- A join begins (R624): the SETTINGS phase. -/
def State.joinStart (s : State) (o : Option Origin) : State :=
  (((s.joinBurns).onTwin fun w => { w with joinPhase := 1, joinStart := s.now, joinOrigin := o, cuts := [], cutDone := [], recut := [] }).pairGo .joining 0)

/-- One item of the server's settings at the returner (R624). -/
def State.joinItem (s : State) : JoinItem → State
  | .entry b e => s.onBay b fun y => { y with entry := some e }
  | .court c sup reg grant => s.onCourt c fun k => { k with state := .active, supKw := sup, regionWords := reg, grant := grant }
  | .mask c m => s.onCourt c fun k => { k with mask := m }
  | .place c m i o cfg => s.onMbx c m fun x => x.placed i o cfg
  | .cal b bytes hash => s.onBay b fun y => { y with cal := some ⟨bytes, hash⟩ }
  | .ledger i e r p f bm bt ov => { s with ledger := { s.ledger with cfg := some ⟨i, e, r, p, f, bm, bt, ov⟩ } }
  | .timeCfg a b c d => { s with clock := { s.clock with cfg := ⟨a, b, c, d⟩, cfgSet := true } }
  | .purpose c p g => { s with keys := { s.keys with purposes := ⟨c, p, g, s.now⟩ :: s.keys.purposes } }
  | .siteRoot v => { s with keys := { s.keys with siteRoot := some v, siteRootFrom := s.now } }
  | .legal sl p sub th alg off hash => s.onRegs fun r => { r with cfg := ⟨sl, p, sub, th, alg, off⟩, cfgHash := hash, cfgSet := true }
  | .tick n => { s with clock := { s.clock with tick := n } }
  | .gens site bays =>
    { s with gens := { s.gens with site := site, bay := Vector.ofFn fun b : BayId => bays.getD b.val 0 } }
  | .expect_ c m seq => s.onMbx c m fun x => { x with expectSeq := seq }
  | .legalCopy bytes =>
    let w := fun (i : Nat) => leGet bytes (9 * i) 9
    s.onLegal fun l => { l with regs := { regsOfWords bytes with
      log := l.regs.log, logNext := w 4 % 2 ^ 32, logAck := bitsOf (w 4) 32 32, restoreOpen := bitOf (w 30) 0,
      restored := BitVec.ofNat 97 (w 26 + 2 ^ 64 * w 27), unrestored := BitVec.ofNat 97 (w 28 + 2 ^ 64 * w 29) } }
  | .events en lineEn route holdoff =>
    { s with evt := { s.evt with en := en, lineEn := lineEn, route := route, holdoff := Vector.ofFn fun i : Fin 32 => holdoff.getD i.val 0 } }
  | .indices c m ip ic op oc os => s.onMbx c m fun x => { x with inProd := ip, inCons := ic, outProd := op, outCons := oc, outSeq := os }
  | .cached c m seq opcode fields => s.onMbx c m fun x => { x with
      cache := (x.cache ++ [(seq, ({ opcode := opcode, seq := seq, first := false, last := false, bulkRef := false, fields := fields, tick := s.now } : OutMsg))]).take 64 }

/-- JOIN_PHASE_DONE (R624): a phase ends; at the returner it has brought its items. -/
def execJoinPhaseDone (items : List JoinItem) (s : State) : Out :=
  .next (if s.twin.st = .joining ∧ 1 ≤ s.twin.joinPhase ∧ s.twin.joinPhase ≤ 3 then
      let s1 := if s.isReturner then items.foldl State.joinItem s else s
      s1.onTwin fun w => { w with joinPhase := w.joinPhase + 1 }
    else s)

/-- The order of a unit in the CELLS phase: meters, bays, regions (R624). -/
def unitKey : CutUnit → Nat
  | .meter b => b.val
  | .bay b => 96 + b.val
  | .site r => 192 + r.val

/-- The units of a region (R625). -/
def unitsOf (r : Nat) : List CutUnit :=
  (allBays.filter fun b => b.val / 6 == r).flatMap (fun b => [CutUnit.meter b, CutUnit.bay b]) ++
  (allRegions.filter fun x => x.val == r).map CutUnit.site

/-- How many units there are. -/
def unitCount : Nat := 208

/-- Whether a cut-in withholds a unit's cells in the tick in progress: bay and site units in J and J + 1 (R625). -/
def State.cutWithholds (s : State) (u : CutUnit) : Bool :=
  s.twin.cuts.any fun c => c.1 == u && (c.2 == s.now || c.2 + 1 == s.now) && (match u with
    | .meter _ => false
    | _ => true)

/-- Whether a region has a cut-in in progress (R612). -/
def State.cutInRegion (s : State) (r : Nat) : Bool :=
  s.twin.recut.contains r || s.twin.cuts.any fun c => s.now ≤ c.2 + 1 && (unitsOf r).contains c.1

/-- CUT_IN (R625): the cut-in of a unit begins at the tick in progress, at least 8 tk after the last one; in the join the units come in
their order (R624), later those of a region whose digest differs (R612). -/
def execCutIn (u : CutUnit) (s : State) : Out :=
  .next (let gap := s.twin.cuts.all fun c => c.2 + 8 ≤ s.now
    let due := if s.twin.st = .joining then s.twin.joinPhase == 4 && s.twin.cutDone.length == unitKey u
      else s.inStep && s.twin.recut.any fun r => (unitsOf r).contains u
    if gap && due then
      s.onTwin fun w => { w with
        cuts := (u, s.now) :: w.cuts.filter fun c => s.now < c.2 + 2, cutDone := if w.cutDone.contains u then w.cutDone else u :: w.cutDone,
        recut := w.recut.filter fun r => !((unitsOf r).getLast? == some u) }
    else s)

/-- JOIN_TIMEOUT (R627): a join that is not complete within 500 ms fails; the request is answered TIMEOUT (R633). -/
def execJoinTimeout (s : State) : Out :=
  .next (if s.twin.st = .joining ∧ s.twin.joinStart + 500000 ≤ s.now then s.leaveStep 7 else s)

/-- AUTO_REJOIN (R627): 1 s after step was left, a new join, while R623 holds, unless the reason was LEAVE or REGION. -/
def execAutoRejoin (s : State) : Out :=
  .next (match s.twin.leftAt with
    | some t =>
      if s.twin.server && t + 1000000 ≤ s.now && s.twin.lastReason != 5 && s.twin.lastReason != 6 then
        let s1 := s.onTwin fun w => { w with leftAt := none }
        if s1.joinFails.isNone then s1.joinStart none else s1
      else s
    | none => s)

/-- The joined pair: the returner's digests all match (R624). -/
def State.joined (s : State) : State :=
  let s1 := (s.onTwin fun w => { w with joinPhase := 0, joins := bump 32 w.joins, leftAt := none }).pairGo .inStep 0
  let s2 := if s1.isReturner then s1.lanesServe else s1
  match s.twin.joinOrigin with
  | some o => (s2.onTwin fun w => { w with joinOrigin := none }).ok o [64] [s.twin.joinStart]
  | none => s2

/-- What the twin does at a tick boundary (R615, R616, R622, R633). -/
def State.twinBoundary (s : State) : State :=
  let s1 := s.twin.todo.foldl (fun t d => match d.1 with
    | .join => if t.joinFails.isNone then t.joinStart d.2 else (match d.2 with
        | some o => t.refuse o stBAD_STATE (t.joinFails.getD 0) [64]
        | none => t)
    | .leave => t.leaveStep 6
    | .take => (t.takeServe 5 t.freshEpoch .alone).onTwin fun w => { w with linkUp := false, block := none }
    | .yield =>
      let u := (t.onTwin fun w => { w with server := false }).leaveStep 5
      (u.lanesDown).raiseNow 456 0x1102 (2 * 4 + 2 ^ 8 * (t.twin.epoch % 2 ^ 24))
    | .alone => t) (s.onTwin fun w => { w with todo := [] })
  if s1.twin.server ∧ s1.twin.epoch < s1.twin.epochNext then
    s1.onTwin fun w => { w with epoch := w.epochNext % 2 ^ 32, epochNext := 0 }
  else s1

/- Commands (R632, R633). -/

/-- TWIN_STATUS (R632). -/
def cardTwinStatus (o : Origin) (s : State) : State :=
  card o 0x1101 ([8, 8, 8, 8, 32, 32, 32, 8, 8, 16] ++ List.replicate 7 32 ++ [64]) (fun _ => [permit o [0, 2]])
    (fun t => (t, let w := t.twin
      [w.st.code, b2n w.server, w.pos, w.joinPhase, w.epoch, w.twinEpoch, w.delayPs, w.lastReason, w.lastRegion, 0, w.hbMissed, w.rxDisagree,
       w.digestMismatches, w.mirrorsSent, w.resends, w.takeovers, w.joins, w.lastTakeoverTick])) s

/-- The command TWIN_STATUS (R632). -/
def execTwinStatus (o : Origin) (s : State) : Out := .next (cardTwinStatus o s)

/-- The check that APPLY_TICK, the second field, is zero but for HANDOVER (R633). -/
def applyZero (apply : Nat) : Chk := rng 3 (apply == 0)

/-- Put something off to the next tick boundary. -/
def State.twinLater (s : State) (d : TwinDo) (o : Option Origin) : State := s.onTwin fun w => { w with todo := w.todo ++ [(d, o)] }

/-- TWIN_CONTROL JOIN (R623, R633): the answer comes when the pair is in step or the join has failed. -/
def cardTwinJoin (o : Origin) (apply : Nat) (s : State) : State :=
  cardLater o 0x1102 [64]
    (fun t => [permit o [0], applyZero apply, need (!t.isReturner) stBAD_STATE 0,
      match t.joinFails with
      | some k => some (stBAD_STATE, k)
      | none => none])
    (fun t => t.twinLater .join (some o)) s

/-- The command TWIN_CONTROL JOIN (R633). -/
def execTwinJoin (o : Origin) (apply : Nat) (s : State) : Out := .next (cardTwinJoin o apply s)

/-- TWIN_CONTROL HANDOVER (R621, R633): at least 1,000 tk after the tick of receipt. -/
def cardTwinHandover (o : Origin) (apply : Nat) (s : State) : State :=
  card o 0x1102 [64]
    (fun t => [permit o [0], rng 3 (t.now + 1000 ≤ apply), need (t.inStep && (t.twin.server || t.twin.armAt.isSome)) stBAD_STATE 0])
    (fun t => (t.onTwin fun w => { w with handover := some (apply, some o) }, [apply])) s

/-- The command TWIN_CONTROL HANDOVER (R633). -/
def execTwinHandover (o : Origin) (apply : Nat) (s : State) : Out := .next (cardTwinHandover o apply s)

/-- TWIN_CONTROL TAKE (R633): refused while the heartbeat is valid or TWHB_IN inverts, or where the QN960 serves. -/
def cardTwinTake (o : Origin) (apply : Nat) (s : State) : State :=
  card o 0x1102 [64]
    (fun t => [permit o [0], applyZero apply,
      need (t.twin.en && !t.twin.server && t.blockNow.isNone && 1 ≤ t.twin.missTwhb && !t.twin.barred) stBAD_STATE 0])
    (fun t => (t.twinLater .take none, [t.now + 1])) s

/-- The command TWIN_CONTROL TAKE (R633). -/
def execTwinTake (o : Origin) (apply : Nat) (s : State) : Out := .next (cardTwinTake o apply s)

/-- TWIN_CONTROL LEAVE (R633): from the next tick boundary; BAD_STATE where the QN960 is not paired. -/
def cardTwinLeave (o : Origin) (apply : Nat) (s : State) : State :=
  card o 0x1102 [64]
    (fun t => [permit o [0], applyZero apply, need (!t.isReturner || t.twin.armAt.isSome) stBAD_STATE 0,
      need (t.twin.st != .unpaired && t.twin.st != .alone) stBAD_STATE 0])
    (fun t => (t.twinLater .leave none, [t.now + 1])) s

/-- The command TWIN_CONTROL LEAVE (R633). -/
def execTwinLeave (o : Origin) (apply : Nat) (s : State) : Out := .next (cardTwinLeave o apply s)

end Sys2Proof.Machine
end

