-- ==== Sys2Proof/Machine/Attest.lean ====
section
/-! DEFINITION. The attestation statement (spec file 20). -/

namespace Sys2Proof.Machine

/-- A CBOR array. -/
def cborArr (xs : List (List Byte)) : List Byte := cborHead 4 xs.length ++ xs.flatten

/-- The CBOR value null. -/
def cborNull : List Byte := [0xF6]

/-- A hash as a byte string of 48 bytes, empty where there is none. -/
def cborHash (h : Option Nat) : List Byte :=
  match h with
  | some x => cborBytes (leBytes x 48)
  | none => cborBytes []

/-- The attestation public key: ALG 2 from device branch 0 (R545). -/
def State.attestPub (s : State) : List Byte := leBytes (Config.publicKey 2 (s.keys.branch 0)) 97

/-- The courts that a court's statement shows (R552): all for court 0, else itself and courts 1 and 2. -/
def attestView (c : CourtId) : List CourtId := allCourts.filter fun k => c.val == 0 || k == c || k.val == 1 || k.val == 2

/-- Key 7: fuses. -/
def State.attestFuses (s : State) : List Byte :=
  let f := s.keys.fuses
  let img := if s.boot.fromHost then s.boot.hostImage else s.boot.images.toList.getD s.boot.running []
  cborMap [(1, cborUint f.lifecycle.toNat), (2, cborUint f.fwSvn.toNat), (3, cborUint (leGet (bundleManifest img) 2 1)),
    (4, cborBytes (leBytes f.calKeyHash 48)), (5, cborBytes (leBytes f.safeKeyHash 48)),
    (6, cborArr (f.courtGen.toList.map fun g => cborUint (burnedBits g)))]

/-- One entry of key 9: a court with its purposes. -/
def State.attestCourt (s : State) (c : CourtId) : List Byte :=
  cborArr [cborUint c.val, cborUint s.courts[c].state.code, cborUint s.keys.genInForce[c],
    cborArr (((s.keys.purposesOf c).filter (2 ≤ ·)).map fun p => cborArr [cborUint p, cborUint (s.keys.purposeGen s.now c p)])]

/-- One entry of key 10: a published key. -/
def State.attestKey (s : State) (c : CourtId) (keyId alg : Nat) : List Byte :=
  cborArr [cborUint c.val, cborUint keyId, cborUint alg, cborBytes (s.pubKey c keyId alg)]

/-- Key 10 for a court: its keys of purpose 1, then the published ones. -/
def State.attestKeys (s : State) (c : CourtId) : List (List Byte) :=
  (if c.val = 1 then [s.attestKey 1 legalKeyId s.legalAlg] else if c.val = 2 then [s.attestKey 2 0x01000000 1] else []) ++
  (s.keys.nodes.filter fun n => n.court == c && n.publish).map fun n => s.attestKey c n.keyId n.alg

/-- The payload of the statement (R552). -/
def State.attestMap (s : State) (o : Origin) (nonce : List Byte) : List Byte :=
  let view := attestView o.court
  let l := s.legal
  cborMap [(1, cborBytes s.keys.serialBytes), (2, cborBytes s.attestPub), (3, cborUint 0xB1), (4, cborText "L1.4"),
    (5, cborArr [cborUint s.host.myMajor, cborUint s.host.myMinor, cborUint s.host.myBuild]), (6, cborUint (b2n s.keys.debugState)),
    (7, s.attestFuses), (8, cborArr (s.boot.measures.map fun m => cborArr [cborUint m.1, cborBytes (leBytes m.2 48)])),
    (9, cborArr (view.map s.attestCourt)), (10, cborArr (view.flatMap s.attestKeys)),
    (11, match s.keys.siteRoot with
      | some r => cborBytes (leBytes (rootId r) 16)
      | none => cborUint 0),
    (12, cborArr [cborUint s.twin.pos, cborUint (b2n s.twin.en), cborUint (b2n s.twin.server)]),
    (13, cborHash (s.safety.cfg.map Config.sha384)), (14, cborHash (if l.regs.cfgSet then some l.regs.cfgHash else none)),
    (15, cborUint s.now), (16, if l.valid then cborArr [cborUint (l.utc s.now), cborUint (l.tis s.now)] else cborNull),
    (17, cborBytes nonce), (18, cborUint o.court.val)]

/-- The statement, signed with ECDSA P-384 (R552). -/
def State.attest (s : State) (o : Origin) (nonce : List Byte) : List Byte :=
  let h := coseHeader 34 (leBytes (Config.sha256 s.attestPub) 8)
  let p := s.attestMap o nonce
  coseSign1 h p (leBytes (Config.signature 2 (s.keys.branch 0) (coseToSign h p) s.free) (sigLen 2))

/-- ATTEST (R570): the signature draws on the DRBG (R554). -/
def cardAttest (o : Origin) (nonceLen : Nat) (nonce : List Byte) (s : State) : State :=
  cardBulk o 0x0F40 [16, 16]
    (fun t => [rng 1 (nonceLen ≤ 32), rng 3 (nonce.length ≤ 32 && (nonce.drop nonceLen).all (· == 0)), t.rngChk])
    (fun t => (t.drbg 32, [], [], t.attest o (nonce.take nonceLen))) s

/-- The command ATTEST (R570). -/
def execAttest (o : Origin) (nonceLen : Nat) (nonce : List Byte) (s : State) : Out := .next (cardAttest o nonceLen nonce s)

end Sys2Proof.Machine
end

