-- ==== Sys2Proof/Machine/Disp.lean ====
section
/-! DEFINITION. Bay displays at the QN960 (spec file 16). -/

namespace Sys2Proof.Machine

/-- DISP_EN of a bay in use (R451). -/
def Bay.dispEn (y : Bay) : Bool := y.inUse && bitOf (y.ent 464 1) 0

/-- AGE_EN of a bay in use (R451). -/
def Bay.ageEn (y : Bay) : Bool := y.inUse && bitOf (y.ent 464 1) 1

/-- Raise a display event of a bay (R456). -/
def dispEvent (b : BayId) (kind data tick : Nat) : Ev := ⟨320 + b.val / 3, kind, b.val + 2 ^ 8 * data, tick⟩

/-- A channel of a pixel with a gain (R442). -/
def gainChan (g c : Nat) : Nat := c * g / 65536

/-- A pixel with a gain: red, green and blue (R440, R442). -/
def gainPixel (g p : Nat) : Nat := gainChan g (p % 64) + 64 * gainChan g (p / 64 % 64) + 4096 * gainChan g (p / 4096 % 64)

/-- A line compensated (R442). -/
def compensate (gains : List Nat) (line : Nat) (words : List Nat) : List Nat :=
  (List.range 120).map fun (i : Nat) =>
    let g := gains.getD (30 * (line / 16) + i / 4) 65536
    let w := words.getD i 0
    ((List.range 4).map fun (p : Nat) => gainPixel g (w / 2 ^ (18 * p) % 2 ^ 18) * 2 ^ (18 * p)).sum

/-- CRC-64 of the 1,080 bytes of a line (R137, R443). -/
def lineHash (words : List Nat) : Nat :=
  (words.flatMap fun w => leBytes w 9).foldl (crcByte 64 0x42F0E1EBA9EA3693 false) 0

/-- The greatest channel of a pixel. -/
def pixelMax (p : Nat) : Nat := max (p % 64) (max (p / 64 % 64) (p / 4096 % 64))

/-- The mean of max(R, G, B) of a tile over its pixels inside the display, rounded down; of the pixels as read (R449, log 68). -/
def tileMean (width height : Nat) (lines : List (List Nat)) (tile : Nat) : Nat :=
  let xs := (List.range 16).map (fun (i : Nat) => 16 * (tile % 30) + i) |>.filter (· < width)
  let ys := (List.range 16).map (fun (i : Nat) => 16 * (tile / 30) + i) |>.filter (· < height)
  let ps := ys.flatMap fun (y : Nat) => xs.map fun (x : Nat) =>
    pixelMax (((lines.getD y []).getD (x / 4) 0) / 2 ^ (18 * (x % 4)) % 2 ^ 18)
  if ps.isEmpty then 0 else ps.sum / ps.length

/-- The tile gains in force (R442, R450). -/
def Bay.dispGains (y : Bay) : List Nat := if y.ageEn then y.grp.disp.gains else List.replicate 600 65536

/-- A frame as read: hashes of its compensated lines and its tile means (R443, R449). -/
def Bay.dispFrame (y : Bay) (gen : Nat) (lines : List (List Nat)) : DispFrame :=
  let w := y.ent 466 2
  let h := y.ent 468 2
  { gen := gen, width := w, height := h, gains := y.dispGains,
    hashes := (List.range h).map fun (i : Nat) => lineHash (compensate y.dispGains i (lines.getD i [])),
    tiles := (List.range 600).map (tileMean w h lines) }

/-- The base for a frame, if the transfer is a delta (R443, R447). -/
def Disp.deltaBase (d : Disp) (f : DispFrame) (force : Bool) : Option DispFrame :=
  match d.base with
  | some k =>
    if k.gen = d.held ∧ !force ∧ !d.forceNext ∧ k.width = f.width ∧ k.height = f.height ∧ k.gains = f.gains then some k else none
  | none => none

/-- The lines that a transfer sends (R443). -/
def dispLines (f : DispFrame) (base : Option DispFrame) : List Nat :=
  match base with
  | some k => (List.range f.height).filter fun (i : Nat) => f.hashes.getD i 0 != k.hashes.getD i 0
  | none => List.range f.height

/-- A transfer of a frame from a tick on (R443). -/
def Disp.plan (d : Disp) (job : DispJob) (f : DispFrame) (from_ resends : Nat) : DispXfer :=
  let b := d.deltaBase f job.force
  { job := job, frame := f, full := b.isNone, base := (b.map (·.gen)).getD 0, from_ := from_, opened := false,
    left := dispLines f b, lastAt := none, resends := resends }

/-- Change the display of a bay as computed and as committed. -/
def State.onDispBoth (s : State) (b : BayId) (f : Disp → Disp) : State := s.onGrpBoth b fun g => { g with disp := f g.disp }

/-- The bulk transfer that held a frame over host Ethernet is consumed (R90). -/
def State.dispConsume (s : State) (j : DispJob) : State :=
  if s.host.port = .pcie then s else s.consumeXfer j.origin.court (j.addr % 2 ^ 16)

/-- A frame fails: DISP_FAILED with its reason (R447, R456). -/
def State.dispFailed (s : State) (b : BayId) (j : DispJob) (reason : Nat) : State :=
  ((s.onDispBoth b fun d => { d with fails := bump 32 d.fails }).dispConsume j).raise
    (dispEvent b 0x0C02 (j.gen + 2 ^ 16 * reason) s.now)

/-- A read and a transfer in progress end with a reason; a request whose frame was still being read fails (R447, R452, log 67). -/
def State.dispAbandon (s : State) (b : BayId) (reason : Nat) : State :=
  let d := s.bays[b].grp.disp
  let s1 := s.onDispBoth b fun d => { d with read := none, xfer := none }
  let s2 := match d.read with
    | some j => (s1.dispFailed b j reason).refuse j.origin stFAIL 0 [16, 8, 8, 64]
    | none => s1
  match d.xfer with
  | some x => s2.dispFailed b x.job reason
  | none => s2

/-- The lines of a frame over host Ethernet: a closed transfer of exactly 1,080 x HEIGHT bytes (R441). -/
def State.dispXferLines (s : State) (b : BayId) (j : DispJob) : Option (List (List Nat)) :=
  match s.xfer? j.origin.court (j.addr % 2 ^ 16) with
  | some x =>
    let h := s.bays[b].ent 468 2
    if x.data.length = 1080 * h then
      some ((List.range h).map fun (y : Nat) => (List.range 120).map fun (i : Nat) => leGet x.data (1080 * y + 9 * i) 9)
    else none
  | none => none

/-- The lines of the frame that a bay waits for are there, or could not be read (R441, R443, R452): the frame is hashed and its transfer
planned. -/
def State.dispGot (s : State) (b : BayId) (lines : Option (List (List Nat))) : State :=
  match s.bays[b].grp.disp.read with
  | none => s
  | some j =>
    match lines with
    | none => s.dispAbandon b 2
    | some l =>
      let y := s.bays[b]
      let f := y.dispFrame j.gen l
      let x := y.grp.disp.plan j f (s.now + 1) 0
      (s.onDispBoth b fun d => { d with read := none, xfer := some x }).ok j.origin [16, 8, 8, 64]
        [x.left.length, b2n x.full, 0, s.now + 1]

/-- Whether a frame read for a bay is being mirrored (R608). -/
def State.linesWait (s : State) (b : BayId) : Bool :=
  s.twin.mirrors.any fun x => match x.input with
    | .lines c _ => c == b
    | _ => false

/-- DISP_FRAME_READ (R441, R443, R452): the frame is read and hashed. `img` are its lines as host memory held them, none where the
read failed. On a pair the server's read is mirrored (R608). -/
def execDispFrameRead (b : BayId) (img : Option (List (List Nat))) (s : State) : Out :=
  .next (match s.bays[b].grp.disp.read with
    | none => s
    | some j =>
      if s.host.port = .pcie then
        if !s.mirroring then s.dispGot b img
        else if s.twin.server && !s.linesWait b then s.postMirror (.lines b img)
        else s
      else
        let lines := s.dispXferLines b j
        (if lines.isNone then { s with host := { s.host with rdRefused := true } } else s).dispGot b lines)

/-- The section of a tick (R444): the opening section, or one line where Myavat has placed it in time. `line` are the words placed,
none where they are not ready. -/
def State.dispTick (s : State) (b : BayId) (line : Option (List Nat)) : State :=
  let d := s.bays[b].grp.disp
  let none_ := s.onDisp b fun d => { d with section_ := none }
  match d.xfer with
  | none => none_
  | some x =>
    if x.lastAt.isSome ∨ s.now < x.from_ then none_
    else if !x.opened then
      let last := x.left.isEmpty
      s.onDisp b fun d => { d with
        section_ := some ⟨0xFFFF, x.job.gen, 1 + 2 * b2n last + 4 * b2n x.full, x.job.blink ++ [x.base]⟩,
        forceNext := false, transfers := bump 32 d.transfers, fulls := if x.full then bump 32 d.fulls else d.fulls,
        xfer := some { x with opened := true, lastAt := if last then some (s.now + 1) else none } }
    else match x.left, line with
      | y :: rest, some w =>
        let cw := compensate x.frame.gains y w
        if lineHash cw ≠ x.frame.hashes.getD y 0 then
          ((none_.onDisp b fun d => { d with xfer := none, fails := bump 32 d.fails }).dispConsume x.job).stage b 8
            (dispEvent b 0x0C02 (x.job.gen + 2 ^ 16 * 3) s.now)
        else
          s.onDisp b fun d => { d with
            section_ := some ⟨y, x.job.gen, 2 * b2n rest.isEmpty + 4 * b2n x.full, cw⟩,
            linesSent := bump 32 d.linesSent,
            xfer := some { x with left := rest, lastAt := if rest.isEmpty then some (s.now + 1) else none } }
      | _, _ => none_

/-- What a published frame's DISP_GEN says (R446, R447): a transfer completes, is sent again, or has failed; a change without a
completed transfer drops the base. -/
def State.dispReport (s : State) (b : BayId) (f : UpFrame) : State :=
  let d := s.bays[b].grp.disp
  let due : Option (DispXfer × Nat) := match d.xfer with
    | some x => match x.lastAt with
      | some l => if (l + 1) % 2 ^ 48 ≤ f.tick then some (x, l) else none
      | none => none
    | none => none
  let lost := fun (t : State) =>
    if f.dispGen = d.held then t
    else (t.onDispBoth b fun d => { d with held := f.dispGen, base := none }).raise (dispEvent b 0x0C03 f.dispGen f.tick)
  match due with
  | some (x, l) =>
    if f.dispGen = x.job.gen then
      ((s.onDispBoth b fun d => { d with held := f.dispGen, base := some x.frame, xfer := none }).dispConsume x.job).raise
        (dispEvent b 0x0C01 (x.job.gen + 2 ^ 16 * b2n x.full) (l + 1))
    else
      let s1 := lost s
      if 3 ≤ x.resends then (s1.onDispBoth b fun d => { d with xfer := none }).dispFailed b x.job 4
      else s1.onDispBoth b fun d => { d with xfer := some (d.plan x.job x.frame s.now (x.resends + 1)) }
  | none => lost s

/-- INTAKE_PUBLISH at a bay's display: the frame that is published. -/
def State.dispPublish (s : State) (b : BayId) : State :=
  match s.bays[b].link.frame with
  | some f => s.dispReport b f
  | none => s

/-- A BAY_RELOAD that changes the display sub-block (R447). -/
def State.dispReload (s : State) (b : BayId) : State := (s.dispAbandon b 5).onDispBoth b fun d => { d with forceNext := true }

/-- One minute of stress of a bay (R449). Where no means are held of the generation reported, what a counter gains is free
(log 70). -/
def State.dispStress (s : State) (b : BayId) : State :=
  let y := s.bays[b]
  let d := y.grp.disp
  if !y.ageEn ∨ d.held = 0 then s
  else
    let known := (d.base.map (·.gen)) == some d.held
    let gain := fun (i : Nat) => if known then ((d.base.map (·.tiles)).getD []).getD i 0 else s.drawAt i % 64
    (s.onDispBoth b fun d => { d with stress := (List.range 600).map fun (i : Nat) => satN 32 (d.stress.getD i 0 + gain i) }).drawnN
      (if known then 0 else 600)

/-- DISP_STRESS_MINUTE (R449): every 60,000,000 ticks. -/
def execDispStressMinute (s : State) : Out := .next (if s.now % 60000000 = 0 then allBays.foldl State.dispStress s else s)

/-- The gain of a tile (R450). -/
def ageGain (ppb smax x : Nat) : Nat :=
  let loss := fun (v : Nat) => min (ppb * v) 900000000
  65536 * (10 ^ 9 - loss smax) / (10 ^ 9 - loss x)

/-- S_max of a bay (R450). -/
def Disp.sMax (d : Disp) : Nat := d.stress.foldl max 0

/-- The tile gains are computed anew (R450). -/
def State.dispRegain (s : State) (b : BayId) : State :=
  let y := s.bays[b]
  if y.ageEn then s.onDispBoth b fun d => { d with gains := d.stress.map (ageGain (y.ent 470 2) d.sMax) } else s

/-- DISP_GAIN_DAILY (R450): every 86,400,000,000 ticks. -/
def execDispGainDaily (s : State) : Out := .next (if s.now % 86400000000 = 0 then allBays.foldl State.dispRegain s else s)

/- Commands (R452 to R455). -/

/-- Whether a blink rectangle lies inside the display, or is unused, its reserved bits zero (R448, R452). -/
def blinkOk (w h r : Nat) : Bool :=
  let x := bitsOf r 0 9
  let y := bitsOf r 9 9
  let rw := bitsOf r 18 9
  let rh := bitsOf r 27 9
  bitsOf r 70 2 == 0 && (rw == 0 || rh == 0 || bitsOf r 54 8 == 0 || (x + rw ≤ w && y + rh ≤ h))

/-- DISP_SHOW (R452): the frame is read next; an older one of the bay is superseded (R447). -/
def cardDispShow (o : Origin) (bay flags gen addr r0 r1 r2 r3 : Nat) (s : State) : State :=
  cardLater o 0x0C01 [16, 8, 8, 64]
    (fun t =>
      let inside := fun (r : Nat) => atBay bay true fun b => blinkOk (t.bays[b].ent 466 2) (t.bays[b].ent 468 2) r
      [ownPermit o 1 bay t, rng 1 (bay < 96), rng 2 (flags < 2), rng 3 (gen != 0),
       rng 4 (t.host.port != .pcie || addr % 8 == 0), rng 5 (inside r0), rng 6 (inside r1), rng 7 (inside r2), rng 8 (inside r3),
       need (atBay bay true fun b =>
         let y := t.bays[b]
         let d := y.grpCk.disp
         y.dispEn && (y.link.st == .ready || y.link.st == .service) && gen != d.held &&
         (d.read.map (·.gen)) != some gen && (d.xfer.map (·.job.gen)) != some gen) stBAD_STATE 0])
    (fun t => atBay bay t fun b =>
      let t1 := (t.dispAbandon b 1).onDispBoth b fun d => { d with read := some ⟨o, bitOf flags 0, gen, addr, [r0, r1, r2, r3]⟩ }
      if t.host.port = .pcie then t1
      else t1.onCourt o.court fun k => { k with
        inXfers := k.inXfers.map fun x => if x.number = addr % 2 ^ 16 then { x with forDisplay := true } else x }) s

/-- The command DISP_SHOW (R452). -/
def execDispShow (o : Origin) (bay flags gen addr r0 r1 r2 r3 : Nat) (s : State) : Out :=
  .next (cardDispShow o bay flags gen addr r0 r1 r2 r3 s)

/-- STATE of a display (R453). -/
def Disp.stateCode (d : Disp) : Nat :=
  if d.read.isSome then 1
  else match d.xfer with
    | some x => if x.lastAt.isSome then 3 else 2
    | none => 0

/-- DISP_STATUS (R453). -/
def cardDispStatus (o : Origin) (bay : Nat) (s : State) : State :=
  card o 0x0C02 [8, 8, 16, 16, 16, 32, 32, 32, 32, 32]
    (fun t => [bayPermit o [0] 1 bay t, rng 1 (bay < 96)])
    (fun t => (t, atBay bay [] fun b =>
      let d := t.bays[b].grpCk.disp
      let pend : Nat := match d.read, d.xfer with
        | some j, _ => j.gen
        | none, some x => x.job.gen
        | none, none => 0
      [d.stateCode, (d.xfer.map (·.resends)).getD 0, d.held, pend, (d.xfer.map (·.left.length)).getD 0, d.transfers, d.fulls,
        d.linesSent, d.fails, t.gens.bay[b]])) s

/-- The command DISP_STATUS (R453). -/
def execDispStatus (o : Origin) (bay : Nat) (s : State) : Out := .next (cardDispStatus o bay s)

/-- DISP_STRESS_READ (R454). -/
def cardDispStressRead (o : Origin) (bay : Nat) (s : State) : State :=
  cardBulk o 0x0C10 [16, 16, 32]
    (fun t => [bayPermit o [0] 1 bay t, rng 1 (bay < 96), need (atBay bay true fun b => t.bays[b].ageEn) stBAD_STATE 0])
    (fun t => (t, [], atBay bay [0] (fun b => [t.bays[b].grpCk.disp.sMax]),
      atBay bay [] fun b => t.bays[b].grpCk.disp.stress.flatMap fun x => leBytes x 4)) s

/-- The command DISP_STRESS_READ (R454). -/
def execDispStressRead (o : Origin) (bay : Nat) (s : State) : Out := .next (cardDispStressRead o bay s)

/-- DISP_STRESS_LOAD (R455): counters are added, once a start, and the gains are computed anew. -/
def cardDispStressLoad (o : Origin) (bay transfer : Nat) (s : State) : State :=
  card o 0x0C11 [32]
    (fun t => [bayPermit o [0] 1 bay t, rng 1 (bay < 96), need (t.xfer? o.court transfer).isSome stBAD_STATE 0,
      need ((t.xfer? o.court transfer).isNone || (t.xferData o.court transfer).length == 2400) stBAD_LEN 0,
      need (atBay bay true fun b => t.bays[b].ageEn && !t.bays[b].grpCk.disp.loaded) stBAD_STATE 0])
    (fun t => atBay bay (t, []) fun b =>
      let l := t.xferData o.court transfer
      let t1 := ((t.onDispBoth b fun d => { d with
        loaded := true,
        stress := (List.range 600).map fun (i : Nat) => satN 32 (d.stress.getD i 0 + leGet l (4 * i) 4) }).dispRegain b).consumeXfer
          o.court transfer
      (t1, [t1.bays[b].grp.disp.sMax])) s

/-- The command DISP_STRESS_LOAD (R455). -/
def execDispStressLoad (o : Origin) (bay transfer : Nat) (s : State) : Out := .next (cardDispStressLoad o bay transfer s)

end Sys2Proof.Machine
end

