-- ==== Sys2Proof/Machine/Loops.lean ====
section
/-! DEFINITION. Converter control loops (spec file 11). -/

namespace Sys2Proof.Machine

/-- Divide and round to the nearest, halves away from zero (R297). -/
def roundAway (a : Int) (b : Nat) : Int :=
  let q : Int := ((2 * a.natAbs + b) / (2 * b) : Nat)
  if a < 0 then -q else q

/-- Limits of the total current of a bay (R226, R299, R300): [-I_EXP, I_EFF]. A bay without a session has I_MAX_MA and its power
limits (log 58). -/
def Bay.iLimits (y : Bay) : Int × Int :=
  if y.kind = 1 then (-(y.grpCk.session.iExp : Int), (y.grpCk.session.iEff : Int))
  else
    let exp := if y.ent 36 4 = 0 then 0 else min (y.ent 28 4) (y.ampsOf (y.ent 36 4))
    (-(exp : Int), ((min (y.ent 28 4) (y.ampsOf (y.ent 32 4)) : Nat) : Int))

/-- The vehicle's target current within the limits of R299. -/
def Bay.iTarget (y : Bay) : Int := clampI y.iLimits.1 y.iLimits.2 y.grpCk.session.vehCurrent

/-- The total reference of a bay before R299 (R294), where one is defined. -/
def Bay.reference (y : Bay) : Option Int :=
  let iV := y.grpCk.loops.iV
  let iP := y.grpCk.loops.iP
  if y.kind = 1 then
    match y.grpCk.session.st with
    | .cableCheck => some (clampI 0 1000 iV)
    | .precharge => some (clampI 0 2000 iV)
    | .energised => some (min y.iTarget iV)
    | .stopping => some 0
    | _ => none
  else if !y.ledCk.portEn then none
  else if y.kind = 4 then some (if 0 ≤ y.ledCk.pRef then min iP iV else max iP iV)
  else some iV

/-- One tick of the slew limit (R299): toward zero free, but in STOPPING at the same rate; away from zero at I_RAMP_MA_PER_MS; a
change of sign stops at zero. Answers the reference and the fraction carried (log 53). -/
def slew (prev want : Int) (rate frac : Nat) (bothWays : Bool) : Int × Nat :=
  let w := if (0 < prev ∧ want < 0) ∨ (prev < 0 ∧ 0 < want) then 0 else want
  let allowed : Int := ((frac + rate) / 1000 : Nat)
  let toward := decide (w.natAbs < prev.natAbs)
  if w = prev then (w, 0)
  else if toward && !bothWays then (w, 0)
  else if (w - prev).natAbs ≤ allowed.natAbs then (w, 0)
  else (if prev < w then prev + allowed else prev - allowed, (frac + rate) % 1000)

/-- The number of bits set of a byte. -/
def popByte (x : Nat) : Nat := ((List.range 8).filter (bitOf x)).length

/-- The reference of one loop from the limited total (R299, R303). -/
def Bay.shareOf (y : Bay) (total : Int) (l : Nat) : Int :=
  if y.kind = 5 then
    let ang := y.grpCk.loops.theta - (l : Int) * 2 ^ 32 / 3 - y.ledCk.phi
    rdiv (total * Config.cosQ30 (ubits 32 ang)) (2 ^ 30)
  else
    let n := popByte (y.ent 192 1)
    if n = 0 then 0 else (total * popByte (y.loopLegs l)).tdiv n

/-- The feed-forward duty (R298). -/
def Bay.feedForward (y : Bay) (f : UpFrame) : Int :=
  let m := bitsOf (y.ent 257 1) 2 2
  let vo := imean (UpFrame.chan f y.chVout)
  let vl := imean (UpFrame.chan f y.chVlink)
  let q := if vl ≤ 0 then 0 else 65536 * vo / vl
  if m = 1 then q else if m = 2 then 65536 - q else 0

/-- A channel code of a current channel in mA. -/
def Bay.toMa (y : Bay) (x : Int) : Int := x * (y.ent 266 4 : Int) / 1000

/-- Whether a tuning measures a loop in a tick (R312). -/
def Loops.tuning (k : Loops) (l now : Nat) : Option Tuning :=
  match k.tune with
  | some t => if t.loop = l ∧ t.abort = 0 ∧ t.start ≤ now ∧ now < t.start + 1024 then some t else none
  | none => none

/-- The gain set of R311: back from the fixed set only after GAIN_SET_RETURN. -/
def Bay.gainSet (y : Bay) (c : CurLoop) (ref : Int) : CurLoop :=
  let cap := y.ent 290 4
  let tuned := bitOf (y.ent 257 1) 1
  let fixed := c.fixed || !tuned || decide (cap < ref.natAbs)
  let run := if tuned && fixed && decide (16 * ref.natAbs ≤ 15 * cap) then c.underRun + 1 else 0
  { c with fixed := fixed, underRun := run, ticksFixed := if fixed then bump 32 c.ticksFixed else c.ticksFixed }

/-- One current loop on a published frame (R298, R311, R312): the loop, and the demand of its legs. -/
def Bay.currentLoop (y : Bay) (f : UpFrame) (k : Loops) (total : Int) (running fresh : Bool) (now : Nat) (l : Fin 4) :
    CurLoop × LegDemand :=
  let ref := y.shareOf total l.val
  let c := y.gainSet k.cur[l] ref
  let x := selectMean (UpFrame.chan f (y.chI l.val)) (y.ent 265 1 / 4 ^ l.val % 4)
  let x0 := clampI (-32767) 32767 (roundAway (ref * 1000) (max 1 (y.ent 266 4)))
  let ki := if c.fixed then y.entS 278 4 else y.entS 286 4
  let kp := if c.fixed then y.entS 274 4 else y.entS 282 4
  let ff := y.feedForward f
  let lo := ((y.ent 204 2 : Int) - ff) * 65536
  let hi := ((y.ent 206 2 : Int) - ff) * 65536
  let tune := k.tuning l.val now
  let i1 := min (max (satI 40 (c.integ + ki * (x0 - x))) lo) hi
  let integ := if !running then 0 else if tune.isSome then c.integ else i1
  let d := ff + integ / 65536
  let d0 : Int := match tune with
    | some t =>
      let h : Int := if t.start = now then k.cur[l].d0 else t.dHold
      clampI 0 65535 (if (now - t.start) % 128 < 64 then h + t.step else h - t.step)
    | none => clampI 0 65535 d
  let meas := y.toMa (imean (UpFrame.chan f (y.chI l.val)))
  let err := ref - meas
  let e := if fresh then err * err else c.errSq + err * err
  ({ c with integ := integ, ref := ref, meas := meas, d0 := d0.toNat, errSq := e },
    { d0 := d0.toNat, kc := if tune.isSome then 0 else kp, x0 := x0, ch := y.chI l.val,
      xsel := y.ent 265 1 / 4 ^ l.val % 4, run := true })
where
  /-- The tick mean that XSEL selects (R277, R298). -/
  selectMean (l : List Int) (xsel : Nat) : Int :=
    if xsel = 0 then imean l else if xsel = 1 then imean (l.drop 40) else l.getD 79 0

/-- The record entry of a leg: that of the loop it belongs to (R298). -/
def Bay.entryOf (y : Bay) (ds : List LegDemand) (m : Nat) : LegDemand :=
  match (List.range y.clCount).find? fun l => bitOf (y.loopLegs l) m with
  | some l => ds.getD l LegDemand.off
  | none => LegDemand.off

/-- The state of a tuning after a tick (R312): duty and start mean at its first tick, the means, and the reasons that abort it. -/
def Bay.tuneTick (y : Bay) (k : Loops) (f : UpFrame) (d0 : Nat) (now : Nat) : Option Tuning :=
  k.tune.map fun t =>
    if t.abort ≠ 0 ∨ now < t.start ∨ t.start + 1024 ≤ now then t
    else
      let x := imean (UpFrame.chan f (y.chI t.loop))
      let first := now == t.start
      let meas := y.toMa x
      let sm := if first then meas else t.startMean
      let dev := decide (t.maxDev < (meas - sm).natAbs)
      let lim := decide (y.iLimits.2 < meas) || decide (meas < y.iLimits.1)
      { t with
        dHold := if first then d0 else t.dHold, startMean := sm, means := x :: t.means,
        linkSum := t.linkSum + imean (UpFrame.chan f y.chVlink), curSum := t.curSum + x.natAbs,
        abort := if dev then 1 else if lim then 2 else 0 }

/-- A tuning that a missing frame or a trip aborts. -/
def abortTune (t : Option Tuning) (now code : Nat) : Option Tuning :=
  t.map fun t => if t.abort = 0 ∧ t.start ≤ now ∧ now < t.start + 1024 then { t with abort := code } else t

/-- Every leg off under a new header (R298, R310). -/
def Loops.off (k : Loops) (now : Nat) : Loops :=
  { k with record := List.replicate 8 LegDemand.off, recordTick := now, total := 0, ramp := 0, active := false }

/-- FIXED_SET: bit l for a loop on the fixed set (R315). -/
def Loops.fixedSet (k : Loops) (n : Nat) : Nat :=
  ((List.finRange 4).map fun l => if l.val < n ∧ (k.cur[l]).fixed then 2 ^ l.val else 0).sum

/-- Power into the port in W (R458): of a GRID bay the sum of its phases. -/
def Bay.powerOf (y : Bay) (f : UpFrame) : Int :=
  let iu : Int := y.ent 266 4
  let vu : Int := y.ent 270 4
  let mean := fun ch => imean (UpFrame.chan f ch)
  let ps := (List.range y.clCount).map fun l =>
    if y.kind = 5 then imean ((List.zip (UpFrame.chan f (y.chI l)) (UpFrame.chan f (y.chVout + l))).map fun x => x.1 * x.2) * iu * vu
    else mean (y.chI l) * iu * (mean y.chVout * vu)
  isum ps / 10 ^ 12

/-- The closed loops of a tick with a published frame (R298, R299). -/
def Bay.closeLoops (y : Bay) (k : Loops) (f : UpFrame) (ref : Int) (running : Bool) (gen now : Nat) : Loops :=
  let lim := y.iLimits
  let sl := slew k.total (clampI lim.1 lim.2 ref) (y.ent 302 2) k.ramp (y.kind == 1 && y.grpCk.session.st == .stopping)
  let fresh := k.acc.n == 0 || k.acc.gen != gen
  let r := (List.finRange 4).map fun l => if l.val < y.clCount then y.currentLoop f k sl.1 running fresh now l
    else (k.cur[l], LegDemand.off)
  let ds := r.map Prod.snd
  { k with
    total := sl.1, ramp := sl.2, active := true,
    cur := Vector.ofFn fun l => (r.getD l.val (k.cur[l], LegDemand.off)).1,
    record := (List.range 8).map (y.entryOf ds), recordTick := now,
    acc := k.acc.add 0 gen (now - 2),
    tune := y.tuneTick k f (match k.tune with
      | some t => if h : t.loop < 4 then (k.cur[t.loop]).d0 else 0
      | none => 0) now }

/-- What every published frame leaves behind for others to read: tick means, power, the means of the latest 1,024 ticks. -/
def Bay.frameMeans (y : Bay) (k : Loops) (f : UpFrame) : Loops :=
  let is := (List.range y.clCount).map fun l => y.toMa (imean (UpFrame.chan f (y.chI l)))
  { k with
    voutTick := imean (UpFrame.chan f y.chVout), vlinkTick := imean (UpFrame.chan f y.chVlink), power := y.powerOf f,
    meanRing := (is :: k.meanRing).take 1024,
    cur := Vector.ofFn fun l => { k.cur[l] with meas := is.getD l.val 0 } }

/-- A trip takes effect (R310): the lowest cause is recorded. -/
def State.loopTrip (s : State) (b : BayId) (k : Loops) (causes : List (Nat × Nat)) : State :=
  match causes with
  | [] => s.onLoops b fun _ => k
  | c :: more =>
    let k1 := { k with trip := c.1, tripLoop := c.2, tripMore := more.length, trips := bump 32 k.trips }
    (s.onLoops b fun _ => k1).stage b 4 ⟨96 + b.val, 0x0710, c.1 + 2 ^ 8 * c.2 + 2 ^ 16 * more.length, s.sampleTick⟩

/-- A held tick is counted, and LOOP_HOLD reports held ticks at most once in 1,000 (R306, R317). -/
def State.loopHeld (s : State) (b : BayId) : State :=
  let k := s.bays[b].grp.loops
  let n := k.heldSince + 1
  let due : Bool := match k.heldRaised with
    | some t => decide (t + 1000 ≤ s.now)
    | none => true
  let s1 := s.onLoops b fun k => { k with
    holds := bump 32 k.holds, heldSince := if due then 0 else n, heldRaised := if due then some s.now else k.heldRaised }
  if due then s1.stage b 4 ⟨96 + b.val, 0x0713, satN 16 n, s.sampleTick⟩ else s1

/-- The loop cell counts the ticks without ledger outputs committed in the previous tick; fresh ones end a fallback (R470). -/
def LedgerTaken.tick (k : LedgerTaken) (outTick now : Nat) : LedgerTaken :=
  if outTick + 1 = now then ⟨0, false, false⟩ else { k with miss := k.miss + 1 }

/-- The compute tick of the current-loop cell (R298, R306 to R312, R470). -/
def State.currentTick (s0 : State) (b : BayId) : State :=
  let s := s0.onBay b fun y => { y with taken := y.taken.tick y.ledCk.outTick s0.now }
  let y := s.bays[b]
  if !y.hasConverter then s.onLoops b fun k => k.off s.now
  else
    let ms := y.grpCk.mod.st
    let running := ms == .run || ms == .boot
    let k0 := match y.link.frame with
      | some f => y.frameMeans y.grp.loops f
      | none => y.grp.loops
    let r := y.loopChecks k0 running (ms == .run) y.grpCk.mod.idle s.now
    let s1 := if r.1.trip = 0 then s.loopTrip b r.1 r.2 else s.onLoops b fun _ => r.1
    let k := s1.bays[b].grp.loops
    if k.trip ≠ 0 ∨ y.ilk.trip then s1.onLoops b fun k => { k.off s.now with tune := abortTune k.tune s.now 4 }
    else match y.reference, y.link.frame with
      | none, _ => s1.onLoops b fun k => { k.off s.now with tune := abortTune k.tune s.now 4 }
      | some _, none =>
        let s2 := if running then s1.loopHeld b else s1
        s2.onLoops b fun k => { k with recordTick := s.now, tune := abortTune k.tune s.now 3 }
      | some ref, some f =>
        let k1 := y.closeLoops k f ref running s.gens.bay[b] s.now
        let was := k.fixedSet y.clCount
        let is := k1.fixedSet y.clCount
        let s2 := s1.onLoops b fun _ => k1
        if was = is then s2 else s2.stage b 4 ⟨b.val, 0x0711, is, s.now⟩

/-- GAIN_SET_RETURN (R311): after 64 ticks at or below 15/16 of TUNE_CAP_MA the loop takes its tuned set again. -/
def execGainSetReturn (b : BayId) (l : Fin 4) (s : State) : Out :=
  let y := s.bays[b]
  let c := y.grp.loops.cur[l]
  .next (if c.fixed ∧ bitOf (y.ent 257 1) 1 ∧ 64 ≤ c.underRun ∧ l.val < y.clCount then
      let s1 := s.onLoops b fun k => { k with cur := vmod k.cur l fun c => { c with fixed := false, underRun := 0 } }
      s1.stage b 4 ⟨b.val, 0x0711, s1.bays[b].grp.loops.fixedSet y.clCount, s.now⟩
    else s)

/- The voltage and power loops (R301 to R304). -/

/-- What the voltage loop does: 0 idle, 1 cable check, 2 precharge, 3 limiter of a DC session, 4 PV, 5 STORAGE, 6 GRID (R294). -/
def Bay.voltMode (y : Bay) : Nat :=
  if !y.hasConverter then 0
  else if y.kind = 1 then
    match y.grpCk.session.st with
    | .cableCheck => 1
    | .precharge => 2
    | .energised | .stopping => 3
    | _ => 0
  else if y.ledCk.portEn then y.kind + 1 else 0

/-- The target of the voltage reference in mV (R294, R302, R304). -/
def Bay.voltTarget (y : Bay) (mode : Nat) : Int :=
  let x := y.grpCk.session
  if mode = 1 then (min x.vehVolt (y.ent 24 4) : Nat)
  else if mode = 2 then (min x.vehTarget (y.ent 24 4) : Nat)
  else if mode = 3 then x.vehVolt
  else if mode = 5 then (if 0 ≤ y.ledCk.pRef then y.ent 24 4 else y.ledCk.vLow)
  else y.ledCk.vLink

/-- The range that I_V is clamped to (R294). -/
def Bay.voltClamp (y : Bay) (mode : Nat) : Int × Int :=
  let lim := y.iLimits
  if mode = 1 then (0, 1000)
  else if mode = 2 then (0, 2000)
  else if mode = 3 then (min 0 y.iTarget, max 0 y.iTarget)
  else if mode = 5 then (if 0 ≤ y.ledCk.pRef then (0, lim.2) else (lim.1, 0))
  else lim

/-- A voltage in mV as a code. -/
def Bay.voltCode (y : Bay) (mv : Int) : Int := mv * 1000 / (max 1 (y.ent 270 4) : Nat)

/-- The reference moves towards its target for one step of 8 tk (R304). -/
def rampVolt (v target : Int) (rate frac : Nat) : Int × Nat :=
  let q := frac + 8 * rate
  let step : Int := (q / 1000 : Nat)
  if (target - v).natAbs ≤ step.natAbs then (target, 0)
  else (if v < target then v + step else v - step, q % 1000)

/-- One step of the voltage loop (R301): the clamp stops the integrator where the error would drive I_V further (log 55). -/
def Bay.voltStep (y : Bay) (k : Loops) (mode : Nat) (off : Bool) : Loops :=
  let mean := if k.vN = 0 then k.vMean else k.vSum / k.vN
  let t := y.voltTarget mode
  let r := if mode = 1 ∨ mode = 2 then rampVolt k.vRef t (y.ent 304 2) k.vFrac
    else if mode = 4 then (k.vRef, 0) else (t, 0)
  let e := y.voltCode r.1 - mean
  let cl := y.voltClamp mode
  let raw := (y.entS 294 4 * e + k.integV) / 65536
  let iV := clampI cl.1 cl.2 raw
  let push := (cl.2 < raw ∧ 0 < e) ∨ (raw < cl.1 ∧ e < 0)
  let i1 := if push then k.integV else k.integV + y.entS 298 4 * e
  { k with vSum := 0, vN := 0, vMean := mean, vRef := r.1, vFrac := r.2, iV := iV,
           integV := if off then 0 else clampI (cl.1 * 65536) (cl.2 * 65536) (satI 56 i1) }

/-- P_ref / V_meas in mA, with the floor V_MAX_MV / 10 on the voltage (R294, log 59). -/
def Bay.ampsRef (y : Bay) (p vmv : Int) : Int := p * 1000000 / (max vmv (max 1 (y.ent 24 4 / 10) : Nat))

/-- One step of the power loop (R302). -/
def Bay.powerStep (y : Bay) (k : Loops) (mode : Nat) (off : Bool) : Loops :=
  let vm := if k.pN = 0 then k.pvMean else k.pvSum / k.pN
  let im := if k.pN = 0 then k.piMean else k.piSum / k.pN
  let vmv := vm * (y.ent 270 4 : Int) / 1000
  let p := if mode = 6 then y.grpCk.loops.power else vm * (y.ent 270 4 : Int) * (im * (y.ent 266 4 : Int)) / 10 ^ 12
  let k1 := { k with pvSum := 0, piSum := 0, pN := 0, pvMean := vm, piMean := im, pMeas := p, pLast := -p }
  if mode = 4 then
    let gen := -p
    let step : Int := y.ent 318 2
    let cut := decide (y.ledCk.cap < gen)
    let dir := if k.pLast < gen then k.mpptDir else -k.mpptDir
    let v := if cut then k.vRef + step else k.vRef + dir * step
    { k1 with mpptDir := if cut then k.mpptDir else dir, vRef := clampI 0 (y.ent 24 4) v, pRef := y.ledCk.cap }
  else if mode = 5 ∨ mode = 6 then
    let err := y.ledCk.pRef - p
    let integ := if off then 0 else k.integP + y.ent 316 2 * err
    { k1 with pRef := y.ledCk.pRef, integP := integ, iP := y.ampsRef y.ledCk.pRef vmv + (y.ent 314 2 * err + integ) / 256 }
  else { k1 with pRef := 0 }

/-- The compute tick of the voltage-loop cell (R293, R301 to R304). The phase tracker of a GRID bay is not given bit by bit
(log 5). -/
def State.voltageTick (s : State) (b : BayId) : State :=
  let y := s.bays[b]
  if !y.hasConverter then s
  else
    let ms := y.grpCk.mod.st
    let off := !(ms == .run || ms == .boot)
    let mode := y.voltMode
    let k0 := y.grp.loops
    let k1 : Loops := match y.link.frame with
      | some f =>
        let fb := UpFrame.chan f (if mode = 6 then y.chVlink else y.chVout)
        let vo := UpFrame.chan f y.chVout
        let cur := isum ((List.range y.clCount).map fun l => imean (UpFrame.chan f (y.chI l)))
        { k0 with vSum := k0.vSum + isum fb, vN := k0.vN + fb.length, pvSum := k0.pvSum + imean vo, piSum := k0.piSum + cur,
                  pN := k0.pN + 1 }
      | none => k0
    let vNow : Int := y.vMeas
    let k2 : Loops := if mode = k1.mode then k1
      else { k1 with mode := mode, vRef := vNow, vFrac := 0, integV := if off then 0 else k1.integV, mpptDir := 1 }
    let k3 : Loops := if mode = 0 then { k2 with iV := 0, iP := 0, vSum := 0, vN := 0 }
      else if s.now % 8 = 0 then y.voltStep k2 mode off else k2
    let k4 := if s.now % 64 = 0 then y.powerStep k3 mode off else k3
    let k5 : Loops := if mode = 6 then
        match y.link.frame with
        | some f =>
          let vs := (List.range 3).map fun l => imean (UpFrame.chan f (y.chVout + l))
          let fr := Config.signalProc 12 (k4.theta :: k4.gridF :: vs)
          { k4 with gridF := fr, theta := (Config.signalProc 11 (k4.theta :: k4.gridF :: vs) + fr) % 2 ^ 32 }
        | none => { k4 with theta := (k4.theta + k4.gridF) % 2 ^ 32 }
      else k4
    s.onLoops b fun _ => k5

/- Tuning and commands (R312 to R316). -/

/-- 2 * pi as a fraction of 10^30. -/
def twoPi30 : Nat := 6283185307179586476925286766559

/-- The sum of (2j - 71) m_j over ticks 8 to 63 of the steps of one direction (R313): the fitted slopes are this over 2 * 14,630. -/
def slopeSum (means : List Int) (up : Bool) : Int :=
  isum ((List.range 8).flatMap fun k => (List.range 56).map fun (i : Nat) =>
    (2 * ((i : Int) + 8) - 71) * means.getD (128 * k + (if up then 0 else 64) + 8 + i) 0)

/-- The proposal of R313: L_EST in 0.1 uH, V_LINK in mV, CAP in mA, KP, KI and the slopes in 0.001 code per tick. -/
def Bay.tuneResult (y : Bay) (t : Tuning) : Nat × List Nat :=
  let ms := t.means.reverse
  let up := slopeSum ms true
  let dn := slopeSum ms false
  let vl := t.linkSum.toNat
  let vu := y.ent 270 4
  let iu := y.ent 266 4
  let d := (up - dn).toNat
  let l := if d = 0 then 0 else (rdiv (20 * vl * vu * t.step * 234080 : Nat) (1024 * 65536 * d * max 1 iu)).toNat
  let kp := if vl = 0 then 0 else twoPi30 * t.fcHz * l * 1024 * iu * 2 ^ 32 / (10 * 10 ^ 6 * vl * max 1 vu * 10 ^ 30)
  let ki := kp * twoPi30 * t.fcHz / (4 * 10 ^ 6 * 10 ^ 30)
  (l, [l, 0, vl * vu / 1024000, t.curSum.toNat * iu / 1024000, kp, ki,
    ubits 32 (rdiv (up * 1000) 234080), ubits 32 (rdiv (dn * 1000) 234080)])

/-- The layout of a LOOP_TUNE response (R316). -/
def tuneLayout : List Nat := [16, 16, 32, 32, 32, 32, 32, 32]

/-- LOOP_TUNE_DONE (R312, R313): a tuning ends after 1,024 tk, or was aborted. -/
def execLoopTuneDone (b : BayId) (s : State) : Out :=
  let y := s.bays[b]
  .next (match y.grp.loops.tune with
    | none => s
    | some t =>
      if t.abort = 0 ∧ s.now < t.start + 1024 then s
      else
        let s1 := s.onGrpBoth b fun g => { g with loops := { g.loops with tune := none } }
        let r := y.tuneResult t
        let bad := if t.abort ≠ 0 then t.abort else if r.1 < 1 ∨ 65535 < r.1 then 5 else 0
        let s2 := s1.stage b 4 ⟨b.val, 0x0712, bad + 2 ^ 8 * (if bad = 0 then r.1 else 0), s.now⟩
        if bad = 0 then s2.ok t.origin tuneLayout r.2 else s2.refuse t.origin stFAIL 0 tuneLayout)

/-- LOOP_STATUS (R315). -/
def cardLoopStatus (o : Origin) (bay : Nat) (s : State) : State :=
  card o 0x0710 ([8, 8, 8, 8] ++ (List.replicate 4 [32, 32, 16, 16, 32, 32]).flatten ++
      [32, 32, 32, 32, 32, 32, 32, 32, 64, 64, 32])
    (fun t => [bayPermit o [0, 2] 1 bay t, rng 1 (bay < 96)])
    (fun t => (t.drawn, atBay bay [] fun b =>
      let y := t.bays[b]
      let k := y.grpCk.loops
      let tuning := match k.tune with
        | some x => decide (x.start ≤ t.now) && x.abort == 0
        | none => false
      let st := if k.trip ≠ 0 then 3 else if tuning then 2 else b2n k.active
      [st, k.trip, k.fixedSet y.clCount, 0] ++
      (List.finRange 4).flatMap (fun l =>
        let c := k.cur[l]
        let rms := if k.acc.n = 0 then t.draw else isqrt (c.errSq.toNat / k.acc.n)
        [ubits 32 (satI 32 c.ref), ubits 32 (satI 32 c.meas), c.d0, 0, satN 32 rms, c.ticksFixed]) ++
      [satN 32 k.vRef.toNat, satN 32 y.vMeas.toNat, ubits 32 (satI 32 k.pRef), ubits 32 (satI 32 k.pMeas), k.holds, k.trips,
        k.frozenWindows, k.acc.gen, k.acc.first, k.acc.last, t.gens.bay[b]])) s

/-- The command LOOP_STATUS (R315). -/
def execLoopStatus (o : Origin) (bay : Nat) (s : State) : Out := .next (cardLoopStatus o bay s)

/-- The mean current of a loop over the latest 1,024 ticks in mA (R316). -/
def Loops.meanOf (k : Loops) (l : Nat) : Int := imean (k.meanRing.map fun x => x.getD l 0)

/-- LOOP_TUNE (R316). -/
def cardLoopTune (o : Origin) (bay loop step fcHz maxDev : Nat) (s : State) : State :=
  cardLater o 0x0711 tuneLayout
    (fun t => [bayPermit o [0] 1 bay t, rng 1 (bay < 96), rng 2 (loop < 4 && atBay bay true fun b => loop < t.bays[b].clCount),
      rng 4 (64 ≤ step && step ≤ 4096), rng 5 (500 ≤ fcHz && fcHz ≤ 20000), rng 6 (100 ≤ maxDev && maxDev ≤ 100000),
      need (atBay bay true fun b =>
        let y := t.bays[b]
        let k := y.grp.loops
        y.grp.mod.st == .run && k.trip == 0 && k.tune.isNone && (y.kind != 1 || y.session.st == .energised) &&
        decide (4 * (k.meanOf loop).natAbs ≤ y.ent 28 4)) stBAD_STATE 0])
    (fun t => atBay bay t fun b => t.onGrpBoth b fun g => { g with
      loops := { g.loops with tune := some ⟨o, loop, step, fcHz, maxDev, t.now + 1, 0, 0, [], 0, 0, 0⟩ } }) s

/-- The command LOOP_TUNE (R316). -/
def execLoopTune (o : Origin) (bay loop step fcHz maxDev : Nat) (s : State) : Out :=
  .next (cardLoopTune o bay loop step fcHz maxDev s)

end Sys2Proof.Machine
end

