-- ==== Sys2Proof/Machine/Ledger.lean ====
section
/-! DEFINITION. The site power ledger (spec file 17). -/

namespace Sys2Proof.Machine

/-- CLASS of a port (R111). -/
def Bay.ledClass (y : Bay) : Nat := y.ent 9 1 % 8

/-- PRIORITY of a port (R111). -/
def Bay.ledPriority (y : Bay) : Nat := y.ent 8 1

/-- P_MIN_W (R477). -/
def Bay.pMin (y : Bay) : Nat := y.ent 484 4

/-- STORE_MODE of a STORAGE port (R477). -/
def Bay.storeMode (y : Bay) : Nat := bitsOf (y.ent 480 1) 3 2

/-- AC_PHASES x U_NOM_V (R465, R477). -/
def Bay.acVolts (y : Bay) : Nat := y.ent 480 1 % 4 * y.ent 482 2

/-- Whether a port counts with no power: its link is not in SERVICE, its region is in region fault, or an earth trip is held
(R458, R469). -/
def State.portDead (s : State) (b : BayId) : Bool :=
  let y := s.bays[b]
  !y.serving || s.regions[regionOf b].regionFail || y.earthCk.trip != 0

/-- The measured power of a port (R458). -/
def State.portPower (s : State) (b : BayId) : Int :=
  let y := s.bays[b]
  if !y.inUse ∨ s.portDead b then 0
  else if y.kind = 2 then
    if bitOf (y.ent 416 1) 0 then (if y.meterCk.p16.isEmpty then 0 else isum y.meterCk.p16 / (y.meterCk.p16.length : Int) / 10 ^ 18)
    else s.ledger.grantsCk[b].g
  else y.grpCk.loops.power

/-- u_b: the power the port would draw without the ledger (R459). -/
def Bay.portWish (y : Bay) : Int :=
  let x := y.grpCk.session
  if y.kind = 1 then y.vMeas * (x.iOwn : Int) / 10 ^ 6 else ((y.acVolts * x.iOwn / 1000 : Nat) : Int)

/-- The bpt room of a port (R462): the smaller of P_EXP_W and the vehicle's maximum discharge power. -/
def Bay.bptRoom (y : Bay) : Int :=
  let x := y.grpCk.session
  if y.kind = 1 ∧ bitOf (y.ent 480 1) 2 ∧ x.service = 3 ∧ x.st = .energised then
    min (y.ent 36 4 : Int) (match x.vehDis with
      | some i => y.vMeas * (i : Int) / 10 ^ 6
      | none => 0)
  else 0

/-- What a shard sums up of one port (R457 to R459): role 0 none, 1 fixed, 2 allocated; power, demand, bpt room. -/
def State.portSummary (s : State) (b : BayId) : State :=
  let y := s.bays[b]
  let p := s.portPower b
  let dead := s.portDead b
  let ev := y.kind == 1 || y.kind == 2
  let alloc := !dead && (!ev || y.grpCk.session.st == .energised)
  let role := if !y.inUse then 0 else if alloc then 2 else 1
  let u := y.portWish
  let head : Int := y.ent 488 4
  let d := if role = 2 ∧ y.kind = 1 then min u (p + head)
    else if role = 2 ∧ y.kind = 2 then min u (max (p + head) y.pMin) else 0
  s.onBay b fun y => { y with led := { y.led with role := role, p := p, d := d, room := if role = 2 then y.bptRoom else 0 } }

/-- A port as the allocation sees it (R460). -/
structure FillPort where
  b : BayId
  d : Int
  pMin : Int
  cls : Nat
  prio : Nat
  deriving DecidableEq, Repr

/-- What a tier takes at a given lambda (R460). -/
def tierSum (t : List FillPort) (lam : Nat) : Int := isum (t.map fun p => min p.d ((p.prio + 1 : Nat) * (lam : Int)))

/-- The largest lambda whose tier sum stays within a budget, found bit by bit below 2^n (R460). -/
def bestLam (t : List FillPort) (left : Int) : Nat → Nat → Nat
  | 0, lam => lam
  | n + 1, lam => bestLam t left n (if tierSum t (lam + 2 ^ n) ≤ left then lam + 2 ^ n else lam)

/-- The port of a tier to remove: the lowest priority, then the highest bay number, of those under their least useful grant
(R460). -/
def worstPort (l : List FillPort) : Option FillPort :=
  l.foldl (fun w p => match w with
    | none => some p
    | some q => if p.prio < q.prio ∨ (p.prio = q.prio ∧ q.b.val < p.b.val) then some p else some q) none

/-- One tier of the fill (R460): the grants of the ports that stay in it. -/
def fillTier (left : Int) : Nat → List FillPort → List (BayId × Int)
  | 0, _ => []
  | n + 1, t =>
    let lam := bestLam t (max left 0) 40 0
    let g := fun (p : FillPort) => min p.d ((p.prio + 1 : Nat) * (lam : Int))
    match worstPort (t.filter fun p => g p < p.pMin) with
    | some w => fillTier left n (t.filter fun p => p.b != w.b)
    | none => t.map fun p => (p.b, g p)

/-- Fill (R460): class by class, class 0 first. -/
def fill (ports : List FillPort) (budget : Int) : List (BayId × Int) :=
  ((List.range 8).foldl (fun (acc : Int × List (BayId × Int)) c =>
    let t := ports.filter fun p => p.cls == c && decide (p.pMin ≤ p.d)
    let g := fillTier acc.1 (t.length + 1) t
    (acc.1 - isum (g.map Prod.snd), acc.2 ++ g)) (budget, [])).2

/-- The grant of a port in a fill; a port that took no part has 0. -/
def grantIn (l : List (BayId × Int)) (b : BayId) : Int :=
  match l.find? (fun p => p.1 == b) with
  | some p => p.2
  | none => 0

/-- Whether operating values sent at a tick are still fresh: 10 s (R471). -/
def freshFor (tick now : Nat) : Bool := decide (now < tick + 10000000)

/-- LEDGER_STORE values of a port where they are fresh (R471). -/
def State.storeOf (s : State) (b : BayId) : Option LedgerStore :=
  (s.ledger.store[b]).bind fun v => if freshFor v.tick s.now then some v else none

/-- LEDGER_GRID values of a port where they are fresh (R471). -/
def State.gridOf (s : State) (b : BayId) : Option LedgerGrid :=
  (s.ledger.grid[b]).bind fun v => if freshFor v.tick s.now then some v else none

/-- Whether BASE_W is fresh (R471). -/
def State.baseFresh (s : State) (c : LedgerCfg) : Bool :=
  match s.ledger.base with
  | some (_, t) => decide (s.now < t + c.baseTimeout * 1000000)
  | none => false

/-- The base load that the ledger uses (R471). -/
def State.baseUsed (s : State) (c : LedgerCfg) : Int :=
  match s.ledger.base with
  | some (w, _) => if s.baseFresh c then w else c.baseMax
  | none => c.baseMax

/-- The set-point of a setpoint STORAGE port or a GRID port (R463, R471). -/
def State.setPoint (s : State) (b : BayId) : Int :=
  let y := s.bays[b]
  if y.kind = 5 then (match s.gridOf b with
    | some v => clampI (-(y.ent 36 4 : Int)) (y.ent 32 4) v.pSet
    | none => 0)
  else if y.kind = 4 ∧ y.storeMode = 1 then (match s.storeOf b with
    | some v => clampI (-(v.dis : Int)) v.chg v.pSet
    | none => 0)
  else 0

/-- The summary of a port as its shard committed it; a port of a region in fault is fixed with no power (R461, R469). -/
def State.summaryOf (s : State) (b : BayId) : LedgerBay :=
  let k := s.bays[b].ledCk
  if s.regions[regionOf b].regionFail then { k with role := min k.role 1, p := 0, d := 0, room := 0 } else k

/-- A port of the fill. -/
def State.fillPort (s : State) (b : BayId) (d : Int) : FillPort :=
  let y := s.bays[b]
  ⟨b, d, y.pMin, y.ledClass, y.ledPriority⟩

/-- Reduce amounts towards 0 in order until an excess is gone (R464): what is taken of each, and the rest of the excess. -/
def takeOff : Int → List (BayId × Int) → List (BayId × Int)
  | _, [] => []
  | x, (b, a) :: t => (b, min a (max x 0)) :: takeOff (x - min a (max x 0)) t

/-- The allocation (R461 to R464) as grants and site figures. -/
def State.allocation (s : State) (c : LedgerCfg) : Vector Grant 96 × LedgerSite :=
  let sm := s.summaryOf
  let ports := allBays.filter fun b => (sm b).role != 0
  let alloc := fun (kind : Nat) => ports.filter fun b => (sm b).role == 2 && s.bays[b].kind == kind
  let base := s.baseUsed c
  let fixed := base + isum ((ports.filter fun b => (sm b).role == 1).map fun b => (sm b).p)
  let pvs := (alloc 3).map fun b => (b, max 0 (-(sm b).p))
  let pvOut := isum (pvs.map Prod.snd)
  let setters := ports.filter fun b => (sm b).role == 2 && (s.bays[b].kind == 5 || (s.bays[b].kind == 4 && s.bays[b].storeMode == 1))
  let sp := isum (setters.map s.setPoint)
  let bal := (alloc 4).filter fun b => s.bays[b].storeMode == 2
  let disOf := fun (b : BayId) => ((s.storeOf b).map fun v => (v.dis : Int)).getD 0
  let chgOf := fun (b : BayId) => ((s.storeOf b).map fun v => (v.chg : Int)).getD 0
  let dis := isum (bal.map disOf)
  let chgMax := isum (bal.map chgOf)
  let cap := min (c.importLimit : Int) (c.peak + dis) - c.reserve
  let budget := cap - fixed - sp + pvOut
  let fp := fun (b : BayId) => s.fillPort b (sm b).d
  let pass1 := fill ((alloc 1 ++ alloc 2).map fp) budget
  let ac := isum ((alloc 2).map fun b => max (grantIn pass1 b) (sm b).p)
  let pass2 := fill ((alloc 1).map fp) (budget - ac)
  let gOf := fun (b : BayId) => if s.bays[b].kind = 1 then grantIn pass2 b else if s.bays[b].kind = 2 then grantIn pass1 b else 0
  let imp := fixed + sp + isum ((alloc 1 ++ alloc 2).map gOf) - pvOut
  let bpts := (alloc 1).filter fun b => 0 < (sm b).room
  let disD := if (c.peak : Int) < imp then min (imp - c.peak) dis else 0
  let bptD := if (c.peak : Int) < imp then min (imp - c.peak - disD) (isum (bpts.map fun b => (sm b).room)) else 0
  let chg := if ¬((c.peak : Int) < imp) ∧ imp < c.floor_ then min (c.floor_ - imp) chgMax else 0
  let plan := imp - disD - bptD + chg
  let bptG := if 0 < bptD then fill (bpts.map fun b => s.fillPort b (sm b).room) bptD else []
  let x := max 0 (-(c.exportLimit : Int) - plan)
  let pvCut := fun (out : Int) => if pvOut = 0 then 0 else min out ((x * out + pvOut - 1) / pvOut)
  let x1 := max 0 (x - pvOut)
  let neg := takeOff x1 (setters.map fun b => (b, max 0 (-(s.setPoint b))))
  let x2 := max 0 (x1 - isum (neg.map Prod.snd))
  let less := takeOff x2 bptG
  let share := fun (total part whole : Int) => if whole = 0 then 0 else total * part / whole
  let disp := fun (b : BayId) =>
    if bal.contains b then share chg (chgOf b) chgMax - share disD (disOf b) dis
    else if setters.contains b then s.setPoint b + grantIn neg b else 0
  let grants : Vector Grant 96 := Vector.ofFn fun b =>
    { role := (sm b).role, g := if (sm b).role = 2 then gOf b else 0, exp_ := grantIn bptG b - grantIn less b, disp := disp b,
      cap := if 0 < x then grantIn pvs b - pvCut (grantIn pvs b) else s.bays[b].ent 36 4 }
  let unserved := ((alloc 1 ++ alloc 2).filter fun b => decide ((s.bays[b].pMin : Int) ≤ (sm b).d) && gOf b == 0).foldl
    (fun (m : BitVec 96) b => m ||| bayBit b) 0
  (grants,
    { pSite := base + isum (ports.map fun b => (sm b).p), pPlan := plan, budget := budget, pvOut := pvOut,
      store := isum ((alloc 4).map disp), bpt := bptD, baseUsed := base, unserved := unserved,
      curtailing := decide (0 < x) && decide (0 < pvOut) })

/-- One more tick of the site statistics, which begin anew with a new SITE_GEN (R52, R478). -/
def LedgerAcc.add (a : LedgerAcc) (p : Int) (excess cut : Bool) (gen tick : Nat) : LedgerAcc :=
  if a.n = 0 ∨ a.gen ≠ gen then ⟨p, p, 1, b2n excess, b2n cut, gen, tick, tick⟩
  else ⟨max a.max_ p, a.sum + p, a.n + 1, satN 32 (a.excess + b2n excess), satN 32 (a.curtailed + b2n cut), gen, a.first, tick⟩

/-- Hold an event of the ledger root until its commit (R47). -/
def State.stageRoot (s : State) (kind src data : Nat) : State :=
  match bayOf (6 * s.ledger.root) with
  | some b => s.stage b 10 ⟨src, kind, data % 2 ^ 32, s.now⟩
  | none => s

/-- The allocation of a tick at the ledger root (R461, R464, R472, R480). -/
def State.ledgerRoot (s : State) : State :=
  match s.ledger.cfg with
  | none => s
  | some c =>
    let r := s.allocation c
    let k := s.ledger
    let excess := decide ((c.importLimit : Int) < r.2.pSite)
    let under := decide (r.2.pSite < -(c.exportLimit : Int))
    let cut := r.2.curtailing
    let was := k.site.curtailing
    let curtailed := max 0 (-(c.exportLimit : Int) - r.2.pPlan)
    let due : Bool := r.2.unserved != k.unservedRaised && (match k.unservedAt with
      | some t => decide (t + 1000000 ≤ s.now)
      | none => true)
    let s1 : State := { s with ledger := { k with
      grants := r.1, site := r.2,
      acc := k.acc.add r.2.pSite excess cut s.gens.site s.sampleTick,
      overSince := if excess then some (k.overSince.getD s.now) else none, overRaised := k.overRaised && excess,
      expSince := if under then some (k.expSince.getD s.now) else none, expRaised := k.expRaised && under,
      unservedAt := if due then some s.now else k.unservedAt,
      unservedRaised := if due then r.2.unserved else k.unservedRaised } }
    let s2 := if cut = was then s1 else s1.stageRoot 0x0D03 354 (b2n cut + 2 ^ 8 * satN 24 (curtailed.toNat / 100))
    if due then s2.stageRoot 0x0D04 355 (popBays r.2.unserved) else s2

/-- Whether UPDATE_SWAP holds every grant at 0 and every port enable off (R658). -/
def State.swapHold (s : State) : Bool :=
  match s.twin.swapAt with
  | some (t, _) => decide (t ≤ s.now)
  | none => false

/-- The outputs of one port from the published allocation (R465, R466, R658); without a configuration every grant is 0. -/
def State.portOutput (s : State) (b : BayId) : State :=
  let y := s.bays[b]
  let g := s.ledger.grantsCk[b]
  let conf := s.ledger.cfg.isSome && !s.swapHold
  let alloc := if conf then g.role == 2 else y.ledCk.role == 2
  let grant : Grant := if conf then g else Grant.zero
  let x := y.grpCk.session.st
  let stop := y.isEv && x == .stopping
  let amps := fun (p : Int) => if y.kind = 2 then p.toNat * 1000 / max 1 y.acVolts else y.ampsOf p.toNat
  let en := conf && y.enabled && !y.safeHold && y.earthCk.trip == 0 && y.serving &&
    (y.kind == 3 || (y.kind == 4 && y.storeMode != 0 && (s.storeOf b).isSome) || (y.kind == 5 && (s.gridOf b).isSome))
  s.onBay b fun y => { y with led := { y.led with
    limit := if stop then y.led.limit else if alloc then amps grant.g else y.ent 28 4,
    expLimit := if stop then y.led.expLimit else if alloc ∧ y.kind = 1 then amps grant.exp_ else 0,
    pRef := g.disp, cap := g.cap, portEn := en,
    vLow := ((s.ledger.store[b]).map (·.vLow)).getD 0,
    vLink := ((s.ledger.grid[b]).map (·.vLink)).getD 0,
    phi := ((s.ledger.grid[b]).map fun v => rdiv (v.phi * 2 ^ 32) 360000).getD 0,
    outTick := s.now } }

/-- The lowest region that is not in region fault (R17). -/
def State.lowestRegion (s : State) : Nat :=
  match allRegions.find? (fun r => !s.regions[r].regionFail) with
  | some r => r.val
  | none => 0

/-- The six bays of a region. -/
def baysOf (r : RegionId) : List BayId := allBays.filter fun b => regionOf b == r

/-- The compute tick of a ledger shard (R461, R465, R468): outputs of the allocation published before, the allocation where its
region is the root, the summaries of its ports. -/
def State.shardTick (s : State) (r : RegionId) : State :=
  let s1 := (baysOf r).foldl State.portOutput s
  let s2 := if s.ledger.root = r.val then s1.ledgerRoot else s1
  (baysOf r).foldl State.portSummary s2

/-- A shard commits (R33, R465): its ports' outputs and summaries, and the root's allocation. -/
def State.shardCommit (s : State) (r : RegionId) : State :=
  let s1 := (baysOf r).foldl (fun (t : State) b => t.onBay b fun y => { y with ledCk := y.led }) s
  if s.ledger.root = r.val then { s1 with ledger := { s1.ledger with grantsCk := s1.ledger.grants } } else s1

/-- Operating values that take effect at the tick boundary (R474 to R476). -/
def State.ledgerBoundary (s : State) : State :=
  let k := s.ledger
  { s with ledger := { k with
      base := if k.baseNext.isSome then k.baseNext else k.base, baseNext := none,
      store := k.storeNext.foldl (fun v x => v.set x.1 (some x.2)) k.store, storeNext := [],
      grid := k.gridNext.foldl (fun v x => v.set x.1 (some x.2)) k.grid, gridNext := [] } }

/-- LEDGER_FALLBACK (R470): the ninth tick without outputs is the first to use the fallback. -/
def execLedgerFallback (b : BayId) (s : State) : Out :=
  .next (if 8 < s.bays[b].taken.miss ∧ !s.bays[b].taken.fallback ∧ s.bays[b].inUse then
      (s.onBay b fun y => { y with taken := { y.taken with fallback := true, raised := true } }).stage b 4 ⟨358, 0x0D07, b.val, s.now⟩
    else s)

/-- Whether a host input for a store has become too old and has not been reported (R480). -/
def storeOld (v : Option LedgerStore) (now : Nat) : Bool :=
  match v with
  | some v => !v.stale && !freshFor v.tick now
  | none => false

/-- The same for a grid input. -/
def gridOld (v : Option LedgerGrid) (now : Nat) : Bool :=
  match v with
  | some v => !v.stale && !freshFor v.tick now
  | none => false

/-- LEDGER_STALE (R471): values that were fresh are no longer. -/
def execLedgerStale (s : State) : Out :=
  let bse : Bool := match s.ledger.cfg with
    | some c => !s.ledger.baseStale && !s.baseFresh c
    | none => false
  let s1 := if bse then ({ s with ledger := { s.ledger with baseStale := true } } : State).stageRoot 0x0D06 357 (0xFF + 2 ^ 8) else s
  .next (allBays.foldl (fun (t : State) (b : BayId) =>
    let st := storeOld t.ledger.store[b] t.now
    let gr := gridOld t.ledger.grid[b] t.now
    let l1 := if st then t.ledger.store.set b (t.ledger.store[b].map fun v => { v with stale := true }) else t.ledger.store
    let l2 := if gr then t.ledger.grid.set b (t.ledger.grid[b].map fun v => { v with stale := true }) else t.ledger.grid
    let t2 : State := { t with ledger := { t.ledger with store := l1, grid := l2 } }
    if st || gr then t2.stageRoot 0x0D06 357 (b.val + 2 ^ 8) else t2) s1)

/-- Site power in W as an event or a field carries it, saturating. -/
def sat32 (p : Int) : Nat := ubits 32 (satI 32 p)

/-- LEDGER_OVER (R472, R480): the site power has stayed above the import limit, or below the export limit, for OVER_MS. -/
def execLedgerOver (s : State) : Out :=
  .next (match s.ledger.cfg with
    | none => s
    | some c =>
      let k := s.ledger
      let past := fun (t : Option Nat) => match t with
        | some t => decide (t + 1000 * c.overMs ≤ s.now)
        | none => false
      let o := past k.overSince && !k.overRaised
      let e := past k.expSince && !k.expRaised
      let s1 : State := { s with ledger := { k with overRaised := k.overRaised || o, expRaised := k.expRaised || e } }
      let s2 := if o then s1.stageRoot 0x0D01 352 (sat32 k.site.pSite) else s1
      if e then s2.stageRoot 0x0D02 353 (sat32 k.site.pSite) else s2)

/- Commands (R473 to R479). -/

/-- LEDGER_CONFIG (R473): the site's limits, a setting of the site. -/
def cardLedgerConfig (o : Origin) (imp exp res peak floor_ bmax btime excess : Nat) (s : State) : State :=
  let fl := sval 32 floor_
  cardLater o 0x0D01 [32, 64]
    (fun _ => [permit o [0], rng 1 (1 ≤ imp && imp ≤ 400000000), rng 2 (exp ≤ 400000000), rng 3 (res ≤ imp),
      rng 4 (res ≤ peak && peak ≤ imp), rng 5 (decide (-(exp : Int) ≤ fl) && decide (fl ≤ peak)), rng 6 (bmax ≤ 400000000),
      rng 7 (1 ≤ btime && btime ≤ 3600), rng 8 (1 ≤ excess && excess ≤ 60000)])
    (fun t =>
      let c : LedgerCfg := ⟨imp, exp, res, peak, fl, bmax, btime, excess⟩
      let pick : Setting → Option (Option LedgerCfg) := fun k => match k with
        | .ledgerConfig c => some (some c)
        | _ => none
      t.arm o (.ledgerConfig c) 0 true (t.planned pick t.ledger.cfg == some c) fun k => (pick k).isSome) s

/-- The command LEDGER_CONFIG (R473). -/
def execLedgerConfig (o : Origin) (imp exp res peak floor_ bmax btime excess : Nat) (s : State) : Out :=
  .next (cardLedgerConfig o imp exp res peak floor_ bmax btime excess s)

/-- LEDGER_CONFIG takes effect (R473). -/
def State.applyLedger (s : State) (c : LedgerCfg) : State := { s with ledger := { s.ledger with cfg := some c } }

/-- SITE_BASE (R474). -/
def cardSiteBase (o : Origin) (base : Nat) (s : State) : State :=
  let w := sval 32 base
  card o 0x0D10 [64] (fun _ => [permit o [0], rng 1 (decide (-400000000 ≤ w) && decide (w ≤ 400000000))])
    (fun t =>
      let t1 : State := { t with ledger := { t.ledger with baseNext := some (w, t.now + 1), baseStale := false } }
      (if t.ledger.baseStale then t1.raiseNow 357 0x0D06 0xFF else t1, [t.now + 1])) s

/-- The command SITE_BASE (R474). -/
def execSiteBase (o : Origin) (base : Nat) (s : State) : Out := .next (cardSiteBase o base s)

/-- LEDGER_STORE (R475). -/
def cardLedgerStore (o : Origin) (bay chg dis pSet vLow : Nat) (s : State) : State :=
  card o 0x0D11 [64]
    (fun t => [ownPermit o 1 bay t, rng 1 (bay < 96),
      rng 3 (atBay bay true fun b => chg ≤ t.bays[b].ent 32 4), rng 4 (atBay bay true fun b => dis ≤ t.bays[b].ent 36 4),
      rng 6 (atBay bay true fun b => 1 ≤ vLow && vLow ≤ t.bays[b].ent 24 4),
      need (atBay bay true fun b => t.bays[b].kind == 4) stBAD_STATE 0])
    (fun t => atBay bay (t, []) fun b =>
      let was := ((t.ledger.store[b]).map (·.stale)).getD false
      let t1 : State := { t with ledger := { t.ledger with storeNext := t.ledger.storeNext ++ [(b, ⟨chg, dis, sval 32 pSet, vLow, t.now + 1, false⟩)] } }
      (if was then t1.raiseNow 357 0x0D06 b.val else t1, [t.now + 1])) s

/-- The command LEDGER_STORE (R475). -/
def execLedgerStore (o : Origin) (bay chg dis pSet vLow : Nat) (s : State) : Out :=
  .next (cardLedgerStore o bay chg dis pSet vLow s)

/-- LEDGER_GRID (R476). -/
def cardLedgerGrid (o : Origin) (bay pSet vLink phi : Nat) (s : State) : State :=
  let ph := sval 32 phi
  card o 0x0D12 [64]
    (fun t => [ownPermit o 1 bay t, rng 1 (bay < 96),
      rng 4 (atBay bay true fun b => 1 ≤ vLink && vLink ≤ t.bays[b].ent 24 4),
      rng 5 (decide (-90000 ≤ ph) && decide (ph ≤ 90000)), need (atBay bay true fun b => t.bays[b].kind == 5) stBAD_STATE 0])
    (fun t => atBay bay (t, []) fun b =>
      let was := ((t.ledger.grid[b]).map (·.stale)).getD false
      let t1 : State := { t with ledger := { t.ledger with gridNext := t.ledger.gridNext ++ [(b, ⟨sval 32 pSet, vLink, ph, t.now + 1, false⟩)] } }
      (if was then t1.raiseNow 357 0x0D06 b.val else t1, [t.now + 1])) s

/-- The command LEDGER_GRID (R476). -/
def execLedgerGrid (o : Origin) (bay pSet vLink phi : Nat) (s : State) : Out := .next (cardLedgerGrid o bay pSet vLink phi s)

/-- STALE of LEDGER_STATUS (R478). -/
def State.ledgerStale (s : State) : Nat :=
  b2n s.ledger.baseStale +
  2 * b2n (allBays.any fun b => s.bays[b].inUse && s.bays[b].kind == 4 && (s.storeOf b).isNone) +
  4 * b2n (allBays.any fun b => s.bays[b].inUse && s.bays[b].kind == 5 && (s.gridOf b).isNone)

/-- LEDGER_STATUS (R478). -/
def cardLedgerStatus (o : Origin) (s : State) : State :=
  card o 0x0D02 [8, 8, 8, 8, 32, 32, 32, 32, 32, 32, 32, 32, 32, 32, 32, 32, 96, 32, 32, 32, 32, 32, 64, 64] (fun _ => [])
    (fun t =>
      let k := t.ledger
      let x := k.site
      let all := o.court.val == 0
      let z := fun (v : Nat) => if all then v else 0
      let own := allBays.filter fun b => t.owns o.court b && t.bays[b].inUse
      let a := k.acc
      let cfg := fun (f : LedgerCfg → Nat) => (k.cfg.map f).getD 0
      (t, [z (b2n k.cfg.isSome), z k.root, z t.ledgerStale, z (b2n x.curtailing), cfg (·.importLimit), cfg (·.exportLimit),
        z (cfg (·.peak)), z (sat32 x.baseUsed), sat32 x.pSite, z (sat32 x.pPlan), z (sat32 x.budget), z (sat32 x.pvOut),
        z (sat32 x.store), z (sat32 x.bpt), sat32 (isum (own.map fun b => (k.grantsCk[b]).g)),
        sat32 (isum (own.map fun b => t.bays[b].ledCk.p)), z x.unserved.toNat, z (sat32 a.max_),
        z (sat32 (if a.n = 0 then (t.drawAt 0 % 2 ^ 32 : Nat) else a.sum / (a.n : Int))), z a.excess, z a.curtailed, z a.gen, z a.first, z a.last])) s

/-- The command LEDGER_STATUS (R478). -/
def execLedgerStatus (o : Origin) (s : State) : Out := .next (cardLedgerStatus o s)

/-- LEDGER_BAY (R479). -/
def cardLedgerBay (o : Origin) (bay : Nat) (s : State) : State :=
  card o 0x0D03 [8, 8, 8, 8, 32, 32, 32, 32, 32, 32, 32, 32]
    (fun t => [bayPermit o [0] 1 bay t, rng 1 (bay < 96)])
    (fun t => (t, atBay bay [] fun b =>
      let k := t.bays[b].ledCk
      let g := t.ledger.grantsCk[b]
      [k.role, b2n k.portEn, b2n t.bays[b].taken.fallback, 0, sat32 k.p, sat32 k.d, sat32 g.g, sat32 g.exp_, sat32 k.cap, satN 32 k.limit,
        satN 32 k.expLimit, t.gens.bay[b]])) s

/-- The command LEDGER_BAY (R479). -/
def execLedgerBay (o : Origin) (bay : Nat) (s : State) : Out := .next (cardLedgerBay o bay s)

end Sys2Proof.Machine
end

