-- ==== Sys2Proof/Machine/Ring.lean ====
section
/-! DEFINITION. The site ring: kick-off, the master's checks, forwarding, and its commands (spec file 22). -/

namespace Sys2Proof.Machine

/-- Change the ring. -/
def State.onRing (s : State) (f : Ring → Ring) : State := { s with ring := f s.ring }

/-- The port opposite another. -/
def otherPort : RingPort → RingPort
  | .east => .west
  | .west => .east

/-- The node ID: RING_PRIO, SERIAL and 32 zero bits (R629). -/
def State.nodeId (s : State) : Nat := s.ring.prio * 2 ^ 96 + s.keys.fuses.serial * 2 ^ 32

/-- Send frames on ring ports. -/
def State.ringSend (s : State) (fs : List (RingPort × RingFrame)) : State := s.onRing fun k => { k with sent := fs }

/-- Send a frame on both ports. -/
def State.ringBoth (s : State) (f : RingFrame) : State := s.ringSend [(.east, f), (.west, f)]

/-- Forward a frame on the port opposite the one of arrival. -/
def State.ringForward (s : State) (p : RingPort) (f : RingFrame) : State :=
  (s.ringSend [(otherPort p, f)]).onRing fun k => { k with forwarded := bump 32 k.forwarded }

/-- A frame arrives: its port is up. -/
def State.ringHeard (s : State) (p : RingPort) : State :=
  s.onRing fun k => match p with
    | .east => { k with eastUp := true, sent := [] }
    | .west => { k with westUp := true, sent := [] }

/-- A change of the ring's state raises RING_STATE (R636). -/
def State.ringGo (s : State) (st : RingState) (full : Bool) (nodes : Nat) : State :=
  if s.ring.st = st ∧ !full then s
  else (s.onRing fun k => { k with st := st, nodes := nodes }).raiseNow 459 0x1105
    (st.code + 4 * b2n s.ring.master + 8 * b2n full + 2 ^ 8 * satN 8 nodes)

/-- Kick-off begins (R630): a random wait from the DRBG, from the serial while the TRNG is warming (log 109). -/
def State.kickoff (s : State) : State :=
  let ready := s.keys.trng == .ready
  let wait := if ready then s.random 10 else s.keys.fuses.serial % 1024
  let s1 := if ready then s.drbg 2 else s
  (s1.onRing fun k => { k with
    master := false, best := s.nodeId, masterId := 0, waitUntil := some (s.now + wait), claimedAt := none, outstanding := 0,
    kickoffs := bump 32 k.kickoffs }).ringGo .kickoff false 0

/-- KICKOFF (R636). -/
def State.kickoffEvent (s : State) (won : Bool) (id : Nat) : State := s.raiseNow 460 0x1106 (b2n won + 2 ^ 8 * (id % 2 ^ 24))

/-- KICKOFF_WAIT_END (R630): a node that is still best claims. -/
def execKickoffWaitEnd (s : State) : Out :=
  .next (match s.ring.waitUntil with
    | some t =>
      if s.ring.en && s.ring.st == .kickoff && t ≤ s.now then
        let s1 := s.onRing fun k => { k with waitUntil := none }
        if s.ring.best = s.nodeId then (s1.onRing fun k => { k with claimedAt := some s.now }).ringBoth (.claim s.nodeId) else s1
      else s
    | none => s)

/-- A CLAIM from a port (R630): a higher one is the best so far and goes on; a lower one, or one that has gone on, is dropped. -/
def State.ringClaim (s : State) (p : RingPort) (id : Nat) : State :=
  let s1 := s.ringHeard p
  if s.ring.best < id then (s1.onRing fun k => { k with best := id }).ringForward p (.claim id) else s1

/-- RING_CLAIM (R630). -/
def execRingClaim (p : RingPort) (id : Nat) (s : State) : Out := .next (if s.ring.en then s.ringClaim p id else s)

/-- RING_MASTER (R630): 5,000 tk after its own claim a node that is still best is master and announces itself. -/
def execRingMaster (s : State) : Out :=
  .next (match s.ring.claimedAt with
    | some t =>
      if s.ring.en && s.ring.st == .kickoff && t + 5000 ≤ s.now && s.ring.best == s.nodeId then
        let s1 := s.onRing fun k => { k with
          master := true, masterId := s.nodeId, claimedAt := none, position := 0, outstanding := 0, lastCheck := s.now, lastSent := s.now }
        ((s1.ringGo .openRing false 0).kickoffEvent true s.nodeId).ringBoth (.announce s.nodeId)
      else s
    | none => s)

/-- An ANNOUNCE from a port (R630): one below the node's best starts kick-off again; another names the master and goes on, once (log 110). -/
def State.ringAnnounce (s : State) (p : RingPort) (id : Nat) : State :=
  let s1 := s.ringHeard p
  if id < s.ring.best then s1.kickoff
  else if id = s.ring.masterId then s1
  else
    let s2 := s1.onRing fun k => { k with
      best := id, masterId := id, master := false, waitUntil := none, claimedAt := none, lastCheck := s.now }
    ((s2.ringGo .openRing false 0).kickoffEvent false id).ringForward p (.announce id)

/-- RING_ANNOUNCE (R630). -/
def execRingAnnounce (p : RingPort) (id : Nat) (s : State) : Out := .next (if s.ring.en then s.ringAnnounce p id else s)

/-- RING_CHECK_SEND (R631): every 1,000 tk the master sends a CHECK with HOPS 0 east; one that has not come back is lost. -/
def execRingCheckSend (s : State) : Out :=
  .next (if s.ring.en && s.ring.master && s.ring.lastSent + 1000 ≤ s.now then
      (s.onRing fun k => { k with
        lastSent := s.now, outstanding := k.outstanding + 1,
        checksLost := if 1 ≤ k.outstanding then bump 32 k.checksLost else k.checksLost }).ringSend [(.east, .check 0)]
    else s)

/-- A CHECK from a port (R631): it sets the node's position and goes on east; back at the master's west port it closes the ring, or with
HOPS above 32 reports RING_FULL. -/
def State.ringCheck (s : State) (p : RingPort) (hops : Nat) : State :=
  let s1 := s.ringHeard p
  if s.ring.master then
    if p = .west then
      let s2 := s1.onRing fun k => { k with outstanding := 0, lastCheck := s.now }
      if 32 < hops then s2.ringGo s.ring.st true (hops + 1) else s2.ringGo .closed false (hops + 1)
    else s1
  else
    let s2 := s1.onRing fun k => { k with position := (hops + 1) % 2 ^ 8, lastCheck := s.now, forwarded := bump 32 k.forwarded }
    s2.ringSend [(.east, .check (hops + 1))]

/-- RING_CHECK (R631). -/
def execRingCheck (p : RingPort) (hops : Nat) (s : State) : Out := .next (if s.ring.en then s.ringCheck p hops else s)

/-- RING_CHECK_LOST (R630, R631): three CHECKs in a row that do not return open the ring; a node that has heard none for 5,000 tk runs
kick-off. -/
def execRingCheckLost (s : State) : Out :=
  .next (if s.ring.en && s.ring.master && 3 ≤ s.ring.outstanding then s.ringGo .openRing false 0
    else if s.ring.en && !s.ring.master && s.ring.st != .kickoff && s.ring.lastCheck + 5000 ≤ s.now then s.kickoff
    else s)

/-- RING_FRAME_FORWARD (R524, R628): a safe frame goes on unless it is this node's own or for it; PTP goes on, but not through the master of
a closed ring; ring control is dealt with as its type says; anything else is dropped and counted. -/
def execRingFrameForward (p : RingPort) (f : RingFrame) (s : State) : Out :=
  .next (if !s.ring.en then s
    else match f with
      | .safe src dst bytes =>
        if src = s.ownSafeId ∨ dst = s.ownSafeId then s.ringHeard p else (s.ringHeard p).ringForward p (.safe src dst bytes)
      | .ptp bytes =>
        if s.ring.master ∧ s.ring.st = .closed then s.ringHeard p else (s.ringHeard p).ringForward p (.ptp bytes)
      | .claim id => s.ringClaim p id
      | .announce id => s.ringAnnounce p id
      | .check hops => s.ringCheck p hops
      | .bundle _ _ _ _ => s.ringHeard p
      | .other _ => (s.ringHeard p).onRing fun k => { k with dropped := bump 32 k.dropped })

/-- The values of RING_CONFIG (R634). -/
def pickRing : Setting → Option (Bool × Nat)
  | .ringConfig en prio => some (en, prio)
  | _ => none

/-- RING_CONFIG (R634). -/
def cardRingConfig (o : Origin) (en prio : Nat) (s : State) : State :=
  cardLater o 0x1110 [32, 64] (fun _ => [permit o [0], rng 1 (en ≤ 1)])
    (fun t => t.arm o (.ringConfig (en == 1) prio) 0 true (t.planned pickRing (t.ring.en, t.ring.prio) == (en == 1, prio)) fun k => (pickRing k).isSome) s

/-- The command RING_CONFIG (R634). -/
def execRingConfig (o : Origin) (en prio : Nat) (s : State) : Out := .next (cardRingConfig o en prio s)

/-- RING_CONFIG takes effect (R634): enabling or a change of RING_PRIO starts kick-off. -/
def State.applyRing (s : State) (en : Bool) (prio : Nat) : State :=
  let starts := en && (!s.ring.en || s.ring.prio != prio)
  let s1 := s.onRing fun k => { k with en := en, prio := prio }
  if starts then s1.kickoff
  else if en then s1
  else (s1.onRing fun k => { k with master := false, waitUntil := none, claimedAt := none, outstanding := 0 }).ringGo .disabled false 0

/-- RING_STATUS (R635). -/
def cardRingStatus (o : Origin) (s : State) : State :=
  card o 0x1111 [8, 8, 8, 8, 128, 128, 32, 32, 32, 32] (fun _ => [permit o [0, 2]])
    (fun t => (t, let k := t.ring
      [k.st.code, b2n k.master, k.position, b2n k.eastUp + 2 * b2n k.westUp, t.nodeId, k.masterId, k.kickoffs, k.checksLost, k.forwarded,
       k.dropped])) s

/-- The command RING_STATUS (R635). -/
def execRingStatus (o : Origin) (s : State) : Out := .next (cardRingStatus o s)

end Sys2Proof.Machine
end

