-- ==== Sys2Proof/Machine/Faults.lean ====
section
/-! DEFINITION. Cell, block, region and chip faults, takeovers, and the fault commands (spec file 21). -/

namespace Sys2Proof.Machine

/-- The nine counts of R598: TAKEOVERS, UNCOVERED, LOCKUPS, TRAPS, POISON_READS, OVERRUNS, GUARD_STALES, JOB_FAULTS, WDOG_STAGE1. -/
def State.faultCount (s : State) (i : Fin 9) : State := s.onFaults fun x => { x with counts := vmod x.counts i (bump 32 ·) }

/-- Close the open legal session of a bay as if it had entered FAULT at a tick (R581). -/
def State.closeLegal (s : State) (b : BayId) (tick : Nat) : State :=
  if bitOf s.legal.regs.meters[meterOf b].flags 0 then s.dueReading b true tick else s

/- Region faults (R585, R586). -/

/-- A region enters region fault (R586); the causes are those of R585. On a pair in step its lanes go DOWN, a server yields, a returner
leaves step. -/
def State.regionFault (s : State) (r : RegionId) (cause : Nat) : State :=
  if s.regions[r].regionFail then s
  else
    let root := s.lowestRegion
    let s1 := s.fatal (siteSb s.now 3 0x0301 r.val 0 cause 0)
    let s2 := (s1.onRegion r fun x => { x with regionFail := true, failCause := cause }).raiseNow 450 0x1012 (r.val + 16 * cause)
    let s3 := { s2 with ledger := { s2.ledger with root := s2.lowestRegion } }
    let s4 := if s3.lowestRegion = root then s3 else s3.raiseNow 356 0x0D05 s3.lowestRegion
    let s5 := (baysOf r).foldl (fun (t : State) b =>
      ((t.onLegal fun l => { l with cellLate := l.cellLate ||| BitVec.ofNat 96 (2 ^ b.val) }).meterRefresh b).closeLegal b t.now) s4
    if s.twin.en && s.inStep then
      let s6 := ((baysOf r).foldl State.laneDown s5).onTwin fun w => { w with barred := true }
      if s.twin.server then (s6.onTwin fun w => { w with yieldSet := true }).twinLater .yield none else s6.leaveStep 5
    else s5

/-- REGION_FAULT (R585): the region store or the router is lost, or intake publication is not complete at cycle 100. -/
def execRegionFault (r : RegionId) (cause : Nat) (s : State) : Out :=
  .next (if cause = 1 ∨ cause = 2 then s.regionFault r cause else s)

/-- Every region in region fault (R587). -/
def State.allRegionsFault (s : State) (cause : Nat) : State := allRegions.foldl (fun t r => t.regionFault r cause) s

/- Cell faults (R573 to R581). -/

/-- CELL_FAULT (R603), stamped with the failure tick (log 112). -/
def State.cellFault (s : State) (c : CellId) (tick phys cause : Nat) (covered : Bool) : State :=
  s.raise ⟨448, 0x1010, c.region.val + 2 ^ 4 * (c.slot / 8) + 2 ^ 7 * (c.slot % 8) + 2 ^ 11 * phys + 2 ^ 15 * b2n covered + 2 ^ 16 * cause, tick⟩

/-- A cell is uncovered (R581): BLOCK_FAIL; a bay goes out of service, a site cell puts its region in region fault. `why` has the codes of
R592. -/
def State.uncover (s : State) (c : CellId) (tick cause why : Nat) : State :=
  if (s.cellRec c).st = 3 then s
  else
    let phys := if s.covered c then 8 else c.slot % 8
    let s1 := (s.sbCell c s.now 0x0108 tick why).onCell c fun x => { x with st := 3, failTick := tick }
    let s2 := ((s1.faultCount 1).onRegion c.region fun x => { x with blockFail := x.blockFail ||| BitVec.ofNat 8 (2 ^ (c.slot / 8)) }).cellFault c tick phys
      cause false
    match c with
    | .bay b off =>
      let new := !s2.bays[b].outOfService
      let s3 := s2.onBay b fun y => { y with outOfService := true }
      let s4 := s3.closeLegal b tick
      if new then s4.raise ⟨96 + b.val, 0x1002, off.val, tick⟩ else s4
    | .site r _ => s2.regionFault r 3

/-- The record that a failure leaves (R592), by the cause of CELL_FAULT; an injected failure is recorded as the failure it is. -/
def failCode (cause data1 : Nat) : Option Nat :=
  match cause with
  | 1 => some 0x0101
  | 2 => some 0x0104
  | 3 => some 0x0103
  | 4 => some 0x0105
  | 6 => some (if data1 = 0 then 0x0103 else 0x0101)
  | _ => none

/-- A cell fails in a compute tick (R577, R579, R580): the spare takes over, or the cell is uncovered. `copy` is how the copy of the image
and the checkpoint will be found: 0 good, 2 no donor, 3 a poisoned checkpoint. -/
def State.cellFails (s : State) (c : CellId) (tick cause data0 data1 copy : Nat) : State :=
  if (s.cellRec c).st = 3 then s
  else
    let s1 := match failCode cause data1 with
      | some k => s.sbCell c tick k data0 (if cause = 6 then 0 else data1)
      | none => s
    let s2 := if failCode cause data1 = some 0x0103 then (s1.faultCount 2).onCell c fun x => { x with lockups := bump 32 x.lockups }
      else if failCode cause data1 = some 0x0104 then (s1.faultCount 3).onCell c fun x => { x with traps := bump 32 x.traps }
      else s1
    let n := c.block
    let k := s2.blockRec n
    let take := fun (t : State) => ((t.onBlock n fun x => { x with spare := 1, slot := c.slot % 8 }).onCell c fun x => { x with
      failTick := tick, resumeTick := 0 }).onFaults fun x => { x with takeovers := x.takeovers ++ [⟨c, tick, cause, copy == 3⟩] }
    let isMeter : Bool := match c with
      | .bay _ off => off.val == 6
      | .site _ _ => false
    if s2.covered c ∨ (k.spare = 1 ∧ k.slot = c.slot % 8) then
      ((s2.onBlock n fun x => { x with spare := 2 }).onFaults fun x => { x with takeovers := x.takeovers.filter (·.cell != c) }).uncover c tick cause 4
    else if k.spare = 0 then
      if copy = 2 then s2.uncover c tick cause 2
      else if copy = 3 ∧ !isMeter then s2.uncover c tick cause 3
      else take s2
    else
      -- of two cells that fail in the same tick the lower region slot has the spare (R579)
      match s2.faults.takeovers.find? fun t => t.cell.block == n && t.failTick == tick && c.slot < t.cell.slot with
      | some t =>
        if copy = 2 then s2.uncover c tick cause 2
        else if copy = 3 ∧ !isMeter then s2.uncover c tick cause 3
        else take ((s2.onFaults fun x => { x with takeovers := x.takeovers.filter (· != t) }).uncover t.cell tick t.cause 1)
      | none => s2.uncover c tick cause (if k.spare = 2 then 4 else 1)

/-- CELL_FAILURE (R573, R574): an uncorrectable word in the cell's own local store (cause 1), a trap (2), a lockup found at cycle 99 of the
tick that follows (3), a firewall refusal (4). A lockup is not also an overrun. -/
def execCellFailure (c : CellId) (cause data0 data1 copy : Nat) (s : State) : Out :=
  .next (if cause = 3 then
      if s.faults.late.any fun x => x.1 == c && x.2 + 1 == s.now then
        (s.onFaults fun x => { x with late := x.late.filter fun y => y.1 != c }).cellFails c (s.now - 1) 3 data0 data1 copy
      else s
    else if cause = 1 ∨ cause = 2 ∨ cause = 4 then s.cellFails c s.now cause data0 data1 copy
    else s)

/-- The tick of the next record the legal court expects of a bay, as an index (R580). -/
def State.nextIndex (s : State) (b : BayId) : Nat := (s.legal.lastRecord[b] - 258) / 16 + 1

/-- A meter cell that resumes without its checkpoint: accumulators and window sums cleared, from the index after the last record counted;
METER_GAP with 0 lost indices (R580). -/
def State.meterCleared (s : State) (b : BayId) : State :=
  let i := s.nextIndex b
  let fix := fun (m : MeterCell) => { m with
    next := i, accImp := 0, accExp := 0, varh := Vector.replicate 4 0, vah := Vector.replicate 2 0, win := MeterWin.empty i }
  (s.onBay b fun y => { y with meter := fix y.meter, meterCk := fix y.meterCk }).meterGap b s.now 0

/-- SPARE_RESUME (R577): two ticks after the failure the spare runs the function from the checkpoint of the tick before it. -/
def execSpareResume (c : CellId) (s : State) : Out :=
  .next (match s.faults.takeovers.find? fun t => t.cell == c && t.failTick + 2 ≤ s.now with
    | some t =>
      let s1 := (s.onFaults fun x => { x with takeovers := x.takeovers.filter (· != t) }).onCell c fun x => { x with st := 2, resumeTick := s.now }
      let s2 := (s1.onRegion c.region fun x => { x with spareUsed := x.spareUsed ||| BitVec.ofNat 8 (2 ^ (c.slot / 8)) }).faultCount 0
      let s3 := (s2.sbCell c s.now 0x0107 t.failTick s.now).cellFault c t.failTick 8 t.cause true
      match c with
      | .bay b off => if off.val = 6 ∧ t.badCkpt then s3.meterCleared b else s3
      | .site _ _ => s3
    | none => s)

/-- The group of a cell for overruns (R575): its bay, or 96 + its region for site cells. -/
def overGroup : CellId → Nat
  | .bay b _ => b.val
  | .site r _ => 96 + r.val

/-- An overrun of a cell, stamped with its compute tick (R575): counted and recorded; the third within 1,000 tk makes the bay or the region's
site cells DEGRADED, and the cell is taken over where the spare is free. -/
def State.overrun (s : State) (c : CellId) (tick cycle : Nat) : State :=
  let g := overGroup c
  let stamps := (g, tick) :: s.faults.overruns.filter fun x => tick < x.2 + 1000
  let n := (stamps.filter fun x => x.1 == g && x.2 < tick + 1).length
  let was := s.faults.degraded.any (·.1 == g)
  let s1 := (((s.onFaults fun x => { x with
      overruns := stamps, degraded := if was then aset x.degraded g tick else x.degraded }).faultCount 5).onCell c fun x => { x with
      overruns := bump 32 x.overruns }).sbCell c tick 0x0106 cycle n
  if n = 3 then
    let free := (s1.blockRec c.block).spare == 0
    let s2 := s1.onFaults fun x => { x with degraded := aset x.degraded g tick }
    let slot := if free then c.slot else 0xFF
    let s3 := match c with
      | .bay b _ => (s2.sbCell c tick 0x0109 slot 0).raise ⟨96 + b.val, 0x1001, 1 + 2 ^ 8 * slot, tick⟩
      | .site _ _ => s2
    if free then s3.cellFails c tick 5 0 0 0 else s3
  else s1

/-- DEGRADED_CLEAR (R575): 1 s without an overrun among the cells of a bay, or of a region's site cells (96 + region). -/
def execDegradedClear (g : Nat) (s : State) : Out :=
  .next (match s.faults.degraded.find? (·.1 == g) with
    | some d =>
      if d.2 + 1000000 ≤ s.now then
        let s1 := s.onFaults fun x => { x with degraded := x.degraded.filter (·.1 != g) }
        if g < 96 then s1.raiseNow (96 + g) 0x1001 (2 ^ 8 * 0xFF) else s1
      else s
    | none => s)

/-- GUARD_STALE (R576): a cell has not been live and fresh in 4 consecutive compute ticks; the guard raises its stop line, and the session
ends with CONVERTER as it reads the committed stop. -/
def execGuardStale (b : BayId) (s : State) : Out :=
  .next (let y := s.bays[b]
    match (List.finRange 9).find? fun i => 4 ≤ y.guard.stale[i] with
    | some i =>
      if y.guard.staleStop then s
      else
        let under := y.live[i] == 2
        (((s.onGuard b fun k => { k with staleStop := true, staleOff := i.val }).faultCount 6).sbNote (baySb b s.now 0x010A i.val 0)).stage b 9
          ⟨96 + b.val, 0x1003, i.val + 2 ^ 8 * b2n under, s.now⟩
    | none => s)

/-- The tick work of the guard cell (R158, R310, R576): the freshness of offsets 0 to 8 as committed in the tick before, ALIVE when all are
fresh and this twin has not missed the heartbeat (R620), the stop line of a trip read in the tick after it. -/
def State.guardTick (s : State) (b : BayId) : State :=
  let y := s.bays[b]
  let held := s.twin.en && s.twin.missAt == s.now + 1
  let fresh := (List.finRange 9).all fun i => y.live[i] == 1
  s.onGuard b fun k => { k with
    alive := if fresh && !held then (k.alive + 1) % 256 else k.alive,
    stale := Vector.ofFn fun i => if y.live[i] = 1 then 0 else k.stale[i] + 1,
    tripStop := k.tripStop || y.grpCk.loops.trip != 0 || y.ilk.trip }

/- Block faults (R583, R584). -/

/-- BLOCK_STORE_LOST (R583): its working cells are uncovered; block 7 holds site cells and so brings the region fault. -/
def execBlockStoreLost (r : RegionId) (block : Fin 8) (cond : Nat) (s : State) : Out :=
  let n := 8 * r.val + block.val
  .next (if (s.blockRec n).lost || cond == 0 || 3 < cond then s
    else
      let s1 := (s.onBlock n fun x => { x with lost := true }).sbNote (siteSb s.now 2 0x0201 r.val block.val cond 0)
      let s2 := s1.raiseNow 449 0x1011 (r.val + 2 ^ 4 * block.val + 2 ^ 8)
      ((List.range 8).filterMap fun i => cellAt r (8 * block.val + i)).foldl (fun t c => t.uncover c s.now 1 3) s2)

/-- ASSIST_JOB_FAULT (R584): a job that does not finish in its slot or fails its check. `assist` is 0 FFT, 1 decoder, 2 CRC unit, 3
decimation; `symbol` says that a Green PHY symbol is lost, which counts as erased. 16 within 1 s make the assist failed. -/
def execAssistJobFault (r : RegionId) (block : Fin 8) (assist : Fin 4) (symbol : Option BayId) (s : State) : Out :=
  let n := 8 * r.val + block.val
  .next (let s0 := match symbol with
      | some b => if plcBlock b = n then s.onPlc b fun x => ({ x with secSymbols := x.secSymbols + 1, secErased := x.secErased + 1 }).count 9 1 else s
      | none => s
    let jobs := (assist.val, s.now) :: (s.blockRec n).jobs.filter fun x => s.now < x.2 + 1000000
    let many := (jobs.filter fun x => x.1 == assist.val).length
    let failed := s.assistFailed n assist.val
    let s1 := (s0.onBlock n fun x => { x with
      jobs := jobs, assists := if 16 ≤ many ∧ !failed then x.assists + 2 ^ assist.val else x.assists }).faultCount 7
    if 16 ≤ many ∧ !failed then
      (s1.sbNote (siteSb s.now 2 0x0202 r.val block.val (1 + assist.val) many)).raiseNow 449 0x1011
        (r.val + 2 ^ 4 * block.val + 2 ^ 8 * (2 + assist.val))
    else s1)

/- Chip faults (R587, R588). -/

/-- CHIP_MONITOR (R603): Tj is given in 0.01 degrees. -/
def State.chipMonitor (s : State) (what : Nat) (tj : Int) : State := s.raiseNow 451 0x1013 (what + 2 ^ 16 * ubits 16 (tj / 100))

/-- The highest temperature since the start (R598). -/
def State.noteTemp (s : State) (tj : Int) : State :=
  s.onFaults fun x => { x with tjMax := max x.tjMax (tj / 100) }

/-- Answer FAIL every request in execution, in their order (R587, R589). -/
def State.failRunning (s : State) : State :=
  allCourts.foldl (fun t c => ([0, 1, 2, 3] : List (Fin 4)).foldl (fun u m =>
    match (u.mbox c m).running with
    | some r => u.answer c m stFAIL 0 false (zeroFields r.layout)
    | none => u) t) s

/-- WATCHDOG_STAGE1 (R587): Myavat is interrupted after 100 ms without service and restarts its rounds. -/
def execWatchdogStage1 (core : Nat) (tj : Int) (s : State) : Out :=
  .next ((({ s.failRunning with roundPos := 0 }.faultCount 8).sbNote (siteSb s.now 4 0x0401 0 0 core 0)).chipMonitor 1 tj)

/-- WATCHDOG_STAGE2 (R587, R588): still not served after 200 ms: a fatal event, every region in region fault, WDOG reset 2 ms later. -/
def execWatchdogStage2 (core : Nat) (s : State) : Out :=
  .next (((s.fatal (siteSb s.now 4 0x0402 0 0 core 0)).allRegionsFault 5).onFaults fun x => { x with resetAt := some (s.now + 2000) })

/-- REFCLK_LOSS (R587): the CELL and SUP domains stop, and the chip is held in reset; no record is left. -/
def execRefclkLoss (s : State) : Out :=
  .next ({ s with clock := { s.clock with cellRuns := false }, host := { s.host with ready := false } }.onFaults fun x => { x with clockLost := true })

/-- TEMP_WARNING (R587): Tj at or above 125 degrees, reported at most once per 10 s. -/
def execTempWarning (tj : Int) (s : State) : Out :=
  .next (if tj < 12500 then s.noteTemp tj
    else
      let due := match s.faults.warnAt with
        | some t => decide (t + 10000000 ≤ s.now)
        | none => true
      let s1 := s.noteTemp tj
      if due then
        ((s1.onFaults fun x => { x with warnAt := some s.now }).sbNote (siteSb s.now 4 0x0403 0 0 (ubits 72 tj) 1)).chipMonitor 2 tj
      else s1)

/-- THERMAL_STOP (R587, R588): Tj at or above 140 degrees for 1 ms is fatal; every region is in region fault. -/
def execThermalStop (tj : Int) (s : State) : Out :=
  .next (if tj < 14000 then s
    else ((s.noteTemp tj).fatal (siteSb s.now 4 0x0403 0 0 (ubits 72 tj) 2)).allRegionsFault 4)

/- Commands (R598 to R602). -/

/-- The offset-0x200 word of R597. -/
def State.faultStat (s : State) : Nat :=
  let x := s.faults
  packFields [(1, b2n x.book.frozen), (1, b2n x.book.failed), (1, b2n x.copy.mark), (3, x.lastReset), (2, 0), (3, x.book.lwNext), (5, 0),
    (16, x.book.lwCount)]

/-- The mask of the bays that are DEGRADED (R597). -/
def State.degradedMask (s : State) : BayMask :=
  allBays.foldl (fun m b => if s.faults.degraded.any (·.1 == b.val) then m ||| bayBit b else m) 0

/-- The mask of the bays that are out of service (R597). -/
def State.outMask (s : State) : BayMask := allBays.foldl (fun m b => if s.bays[b].outOfService then m ||| bayBit b else m) 0

/-- FAULT_STATUS (R598). -/
def cardFaultStatus (o : Origin) (s : State) : State :=
  card o 0x1001 ([32, 32, 64] ++ (List.replicate 16 [8, 8, 8, 8]).flatten ++ [96, 96] ++ List.replicate 9 32 ++ [16, 16]) (fun _ => [permit o [0, 2]])
    (fun t =>
      let x := t.faults
      let regs := allRegions.flatMap fun r =>
        let g := t.regions[r]
        [g.spareUsed.toNat, g.blockFail.toNat, b2n g.regionFail + 2 * b2n (x.degraded.any (·.1 == 96 + r.val)) + 4 * (g.failCause % 8), 0]
      (t, [t.faultStat, x.book.next, x.book.freezeTick] ++ regs ++ [t.degradedMask.toNat, t.outMask.toNat] ++ x.counts.toList ++
        [ubits 16 x.tjMax, 0])) s

/-- The command FAULT_STATUS (R598). -/
def execFaultStatus (o : Origin) (s : State) : Out := .next (cardFaultStatus o s)

/-- The cell that REGION, BLOCK and SLOT name (R599). -/
def cellNamed (region block slot : Nat) : Option CellId :=
  if h : region < 16 then (if block < 8 ∧ slot < 8 then cellAt ⟨region, h⟩ (8 * block + slot) else none) else none

/-- Whether a court may ask about a cell (R599). -/
def State.maySee (s : State) (o : Origin) (c : Option CellId) : Bool :=
  match c with
  | some (.bay b off) => o.court.val == 0 || o.court.val == 2 || (o.court.val == 1 && off.val == 6) || (3 ≤ o.court.val && s.owns o.court b)
  | _ => o.court.val == 0 || o.court.val == 2

/-- Whether the KIND in force gives a cell an idle image (R14). -/
def State.idleCell (s : State) : CellId → Bool
  | .bay b off =>
    let y := s.bays[b]
    let k := if y.entry.isSome then y.kind else 0
    if k = 1 then false
    else if k = 2 then off.val == 4 || off.val == 5
    else if k = 0 then off.val != 9
    else off.val ≤ 2
  | .site _ _ => false

/-- STATE of a cell (R599). -/
def State.cellState (s : State) (c : CellId) : Nat :=
  let x := s.cellRec c
  if x.st = 2 then 2 else if x.st = 3 then 3 else if x.st = 4 then 4 else if s.idleCell c then 1 else 0

/-- CELL_STATUS (R599). -/
def cardCellStatus (o : Origin) (region block slot : Nat) (s : State) : State :=
  card o 0x1002 [8, 8, 8, 8, 32, 32, 32, 32, 32, 64, 64]
    (fun t => [need (t.maySee o (cellNamed region block slot)) stNOT_PERMITTED 0, rng 1 (region < 16), rng 2 (block < 8), rng 3 (slot ≤ 8)])
    (fun t => (t, match cellNamed region block slot with
      | some c =>
        let x := t.cellRec c
        [if t.covered c then 8 else slot, t.cellState c, t.cellTag c, c.bayNo, x.overruns, x.poison, x.lockups, x.traps, x.corrected, x.failTick, x.resumeTick]
      | none =>
        let k := t.blockRec (8 * region + block)
        [8, 5 + k.spare, 0, 0xFF, 0, 0, 0, 0, 0, 0, 0])) s

/-- The command CELL_STATUS (R599). -/
def execCellStatus (o : Origin) (region block slot : Nat) (s : State) : Out := .next (cardCellStatus o region block slot s)

/-- A record as 36 bytes: four words of nine (R591, R600). -/
def SbRec.bytes (r : SbRec) : List Byte :=
  leBytes (packFields [(64, r.tick), (3, r.level), (5, 0)]) 9 ++
  leBytes (packFields [(16, r.code), (4, r.region), (3, r.block), (4, r.slot), (4, r.phys), (8, r.bay), (4, r.court), (16, r.store), (13, 0)]) 9 ++
  leBytes (r.data0 % 2 ^ 72) 9 ++ leBytes (r.data1 % 2 ^ 72) 9

/-- SCOREBOOK_READ (R600): FROM within the records held, or an index within a valid island copy. -/
def cardScorebookRead (o : Origin) (source count from_ : Nat) (s : State) : State :=
  cardBulk o 0x1010 [16, 16, 16, 16, 32]
    (fun t =>
      let k := t.faults.book
      let c := t.faults.copy
      [permit o [0, 2], rng 1 (source ≤ 1), rng 3 (1 ≤ count && count ≤ 8192),
       rng 4 (if source = 0 then k.next - k.recs.length ≤ from_ && from_ < k.next else c.mark && from_ < c.recs.length),
       need (source != 0 || !k.failed) stBAD_STATE 0])
    (fun t =>
      let k := t.faults.book
      let c := t.faults.copy
      let old := if source = 0 then k.recs.reverse else c.recs
      let skip := if source = 0 then from_ - (k.next - k.recs.length) else from_
      let rs := (old.drop skip).take count
      (t, [], [rs.length, 0, if source = 0 then from_ else c.first + from_], rs.flatMap SbRec.bytes)) s

/-- The command SCOREBOOK_READ (R600). -/
def execScorebookRead (o : Origin) (source count from_ : Nat) (s : State) : Out := .next (cardScorebookRead o source count from_ s)

/-- SCOREBOOK_RELEASE (R595, R601): the store is tested, emptied and recording resumes with RELEASED. -/
def cardScorebookRelease (o : Origin) (flags : Nat) (testOk : Bool) (s : State) : State :=
  card o 0x1011 [8, 24] (fun _ => [permit o [0], rng 1 (flags < 4)])
    (fun t =>
      let was := t.faults.book.next
      let u := t.onFaults fun x =>
        let k := x.book
        let k1 : Scorebook := { k with recs := [], next := 0, frozen := false, failed := !testOk, freezeTick := 0, rates := [] }
        let k2 : Scorebook := if bitOf flags 1 then { k1 with lw := Scorebook.reset.lw, lwNext := 0, lwCount := 0 } else k1
        { x with book := k2, copy := if bitOf flags 0 then { x.copy with mark := false, freezes := 0, busy := none } else x.copy }
      (u.sbNote (siteSb t.now 5 0x0502 0 0 was 0), [b2n (!testOk), 0])) s

/-- The command SCOREBOOK_RELEASE (R601); `testOk` is what the test of the scorebook store finds. -/
def execScorebookRelease (o : Origin) (flags : Nat) (testOk : Bool) (s : State) : Out := .next (cardScorebookRelease o flags testOk s)

/-- FAULT_INJECT (R602): the cell fails in the first compute tick after receipt and is taken over two ticks later. -/
def cardFaultInject (o : Origin) (region block slot kind : Nat) (s : State) : State :=
  card o 0x1020 [64, 64]
    (fun t =>
      let c := cellNamed region block slot
      let tag : Nat := match c with
        | some c => t.cellTag c
        | none => 0
      [need (o.court.val == (if tag = 1 then 1 else if tag = 2 then 2 else 0)) stNOT_PERMITTED 0,
       rng 1 (region < 16), rng 2 (block < 8), rng 3 (slot < 8), rng 4 (kind ≤ 1),
       need ((t.blockRec (8 * region + block)).spare == 0 && !t.faults.fatal && (match c with
         | some (.bay b _) => t.bays[b].session.st == .idle || t.bays[b].session.st == .unavailable
         | _ => true)) stBAD_STATE 0])
    (fun t => match cellNamed region block slot with
      | some c => (t.onFaults fun x => { x with inject := x.inject ++ [(c, kind, t.now + 1)] }, [t.now + 1, t.now + 3])
      | none => (t, [])) s

/-- The command FAULT_INJECT (R602). -/
def execFaultInject (o : Origin) (region block slot kind : Nat) (s : State) : Out := .next (cardFaultInject o region block slot kind s)

/-- The failures that FAULT_INJECT asks for in the compute tick that begins (R602). -/
def State.injectNow (s : State) : State :=
  let due := s.faults.inject.filter fun x => x.2.2 ≤ s.now
  due.foldl (fun t x => t.cellFails x.1 t.now 6 0 x.2.1 0) (s.onFaults fun x => { x with inject := x.inject.filter fun y => s.now < y.2.2 })

end Sys2Proof.Machine
end

