-- ==== Sys2Proof/Machine/Boot.lean ====
section
/-! DEFINITION. Starts and resets, the mask-ROM loader, the self-check, trials, bundle writes on flash and on the ring, and the commands of spec
file 23. -/

namespace Sys2Proof.Machine

/-- Change the boot state. -/
def State.onBoot (s : State) (f : Boot → Boot) : State := { s with boot := f s.boot }

/- The boot record (R641). -/

/-- Whether a record number is later than another, modulo 2^32 (R83, R641). -/
def seqAfter (a b : Nat) : Bool := a % 2 ^ 32 != b % 2 ^ 32 && (a + 2 ^ 32 - b % 2 ^ 32) % 2 ^ 32 < 2 ^ 31

/-- The valid copy with the greater SEQ, with its place (R641). -/
def Boot.record? (k : Boot) : Option (Fin 2 × BootRec) :=
  match k.copies[(0 : Fin 2)], k.copies[(1 : Fin 2)] with
  | some a, some b => if seqAfter b.seq a.seq then some (1, b) else some (0, a)
  | some a, none => some (0, a)
  | none, some b => some (1, b)
  | none, none => none

/-- The record that stands for a flash without one: golden as it is, A and B empty, ACTIVE A (log 118). -/
def Boot.noRecord (k : Boot) : BootRec :=
  let m := bundleManifest k.images[(0 : Fin 3)]
  { seq := 0, active := 1,
    slots := #v[{ SlotRec.empty with st := .confirmed, svn := leGet m 8 1, hash := manifestHash k.images[(0 : Fin 3)] }, SlotRec.empty, SlotRec.empty] }

/-- The boot record in force. -/
def Boot.record (k : Boot) : BootRec :=
  match k.record? with
  | some (_, r) => r
  | none => k.noRecord

/-- Write a new record: into the other copy with SEQ + 1 (R641). -/
def Boot.putRecord (k : Boot) (f : BootRec → BootRec) : Boot :=
  let r := f k.record
  let at_ : Fin 2 := match k.record? with
    | some (i, _) => if i = 0 then 1 else 0
    | none => 0
  { k with copies := k.copies.set at_ (some { r with seq := (r.seq + 1) % 2 ^ 32 }) }

/-- Change what the record says of a slot. -/
def Boot.putSlot (k : Boot) (j : Fin 3) (f : SlotRec → SlotRec) : Boot := k.putRecord fun r => { r with slots := vmod r.slots j f }

/-- The slot in trial, if one is. -/
def BootRec.trialSlot (r : BootRec) : Option (Fin 3) := [(1 : Fin 3), 2].find? fun j => r.slots[j].st == .trial

/-- ACTIVE as a slot. -/
def BootRec.activeSlot (r : BootRec) : Fin 3 := if r.active = 2 then 2 else 1

/-- The slot of A and B that is not ACTIVE. -/
def BootRec.otherSlot (r : BootRec) : Fin 3 := if r.active = 2 then 1 else 2

/-- The slot that runs; none for a bundle from the host. -/
def Boot.runSlot (k : Boot) : Option (Fin 3) := if k.fromHost then none else some ⟨k.running % 3, by omega⟩

/-- The first check of R643 that a bundle fails on this part. -/
def State.bundleCode (s : State) (readOk : Bool) (img : List Byte) : Nat :=
  let f := s.keys.fuses
  bundleFail f.kfwHash0 f.kfwHash1 (b2n (f.revoked 0) + 2 * b2n (f.revoked 1)) (thermometer f.fwSvn) readOk img

/-- UPDATE_STATE (R666): the slot, its state, the cause, the code. -/
def State.updateState (s : State) (j : Fin 3) (cause code : Nat) : State :=
  s.raiseNow 461 0x1201 (j.val + 4 * (s.boot.record.slots[j].st.code) + 2 ^ 5 * cause + 2 ^ 8 * code)

/- The loader (R644, R645). -/

/-- The order in which the loader tries the slots, after it has spent an attempt of a trial (R644). -/
def Boot.order (k : Boot) : Boot × List (Fin 3) :=
  match k.record? with
  | none => (k, [0, 1, 2])
  | some (_, r) =>
    let a := r.activeSlot
    let rest := (if r.slots[r.otherSlot].st = .confirmed then [r.otherSlot] else []) ++ [(0 : Fin 3)]
    match r.trialSlot with
    | some j =>
      if 0 < r.slots[j].attempts then (k.putSlot j fun x => { x with attempts := x.attempts - 1 }, [j, a, 0])
      else (k.putSlot j fun x => { x with st := .bad }, a :: rest)
    | none => (k, a :: rest)

/-- Try slots in order (R644): a slot that is not golden and does not boot becomes BAD; `fails` gives the code of each slot. -/
def Boot.try_ (fails : Fin 3 → Nat) (k : Boot) : List (Fin 3) → Boot × Option (Fin 3)
  | [] => (k, none)
  | j :: t =>
    let empty := k.record.slots[j].st == .empty
    if !empty && fails j == 0 then (k, some j)
    else
      let k1 := if j = 0 then k else k.putSlot j fun x => { x with st := .bad }
      let k2 : Boot := if empty then k1
        else { k1 with lastFail := k1.lastFail.set j (fails j), bootFails := k1.bootFails ++ [(j.val, fails j)] }
      Boot.try_ fails k2 t

/-- The bundle that a start runs: measurements and version (R646, R105). -/
def State.runBundle (s : State) (img : List Byte) (slot : Nat) (fromHost : Bool) : State :=
  let m := bundleManifest img
  { s with
    boot := { s.boot with running := slot, fromHost := fromHost, hostImage := if fromHost then img else [], measures := measuresOf img, selfCheck := 0 },
    host := { s.host with ready := true, myMajor := leGet m 4 1, myMinor := leGet m 5 1, myBuild := leGet m 6 2 } }

/-- Retire the working cells of a block that failed their self-test (R582): the first onto the spare, the others uncovered. -/
def State.retire (s : State) (n : Nat) (places : List Nat) : State :=
  let s0 := if places.contains 8 then s.onBlock n fun x => { x with spare := 2 } else s
  let r : RegionId := ⟨n / 8 % 16, by omega⟩
  ((List.range 8).filter places.contains).foldl (fun t q =>
    match cellAt r (8 * (n % 8) + q) with
    | none => t
    | some c =>
      let k := t.blockRec n
      let t1 := t.onFaults fun x => { x with retired := x.retired + 1 }
      if k.spare = 0 then
        ((t1.onBlock n fun x => { x with spare := 1, slot := q }).onCell c fun x => { x with st := 4 }).onRegion r fun x => { x with
          spareUsed := x.spareUsed ||| BitVec.ofNat 8 (2 ^ (n % 8)) }
      else (t1.uncover c t1.now (t1.draw % 256) (if k.spare = 2 then 4 else 1)).drawn) s0

/-- Retire every working cell that failed its self-test. -/
def State.retireAll (s : State) : State :=
  (List.range 128).foldl (fun t n =>
    let ps := (s.boot.loader.filter fun x => x.1 == n).map Prod.snd
    if ps.isEmpty then t else t.retire n ps) (s.onBoot fun k => { k with loader := [] })

/- The island at a start (R421, R422, R674, R675, R678). -/

/-- One record of the island's queue as the legal court records it (R412, R675). -/
def State.islandRecord (s : State) (x : IslRec) : State :=
  s.tamper (Fin.ofNat 16 x.kind) 0xFF x.data (some (if x.rtcValid then x.rtcSec else 0))

/-- The THEFT record of a watch period takes its DATA (R674). -/
def Island.closeWatch (k : Island) : Island :=
  let mah := (k.theftAcc.toList.sum) / 3600
  { k with
    queue := if k.watchOpen then k.queue.map fun x => if x.kind = 7 then { x with data := mah } else x else k.queue,
    theftAcc := Vector.replicate 4 0, watchOpen := false }

/-- The legal court takes the area and the island's queue; the island's settings return to 0 (R421, R422, R675, R678). -/
def State.islandStart (s : State) : State :=
  let isl := s.island.closeWatch
  let keep := s.legal.mirror
  let s1 := ({ s with island := isl }).startLegal (if isl.fresh then { keep with mark := false } else keep)
  let s2 := isl.queue.foldl State.islandRecord s1
  let s3 := if isl.qLost = 0 then s2 else s2.tamper 0 0xFF isl.qLost (some 0)
  { s3 with island := { s3.island with
      fresh := false, queue := [], qLost := 0, wakeAt := 0, theftEn := false, theftMinMa := 0, ctLsbUa := Vector.replicate 4 0, lowPower := 0 } }

/-- Myavat starts (R582, R593, R595, R647, R653, R685): self-tests are settled, the legal court runs, START and RESTARTED are written, failed
slots are reported. -/
def State.myavatStart (s : State) : State :=
  let cause := s.faults.lastReset
  let q := s.island.queue.length
  let s1 := s.startMasks.retireAll.islandStart
  let r := s1.faults.retired
  let s2 := s1.sbNote (siteSb s1.now 4 0x0405 0 0 cause r)
  let s3 := s2.raiseNow 452 0x1014 (cause + 2 ^ 8 * b2n s2.faults.book.frozen + 2 ^ 9 * b2n s2.faults.copy.mark + 2 ^ 16 * satN 8 r)
  let s4 := if s3.faults.book.failed then s3.raiseNow 454 0x1016 s3.faults.book.lwNext else s3
  let s5 := s4.boot.bootFails.foldl (fun t x => t.updateState (Fin.ofNat 3 x.1) 4 x.2) s4
  let s6 := if cause = 5 ∨ cause = 6 then s5.raiseNow 467 0x0144 (s5.island.wakeCause + 2 ^ 3 * s5.island.wakeSource + 2 ^ 12 * q) else s5
  s6.onBoot fun k =>
    let j := k.runSlot
    let trial : Bool := match j with
      | some j => k.record.slots[j].st == .trial
      | none => false
    let len : Nat := match j with
      | some j => k.record.slots[j].trialS
      | none => 0
    { k with bootFails := [], trialRun := trial, trialEnd := if trial then some (s.now + len * 1000000) else none }

/-- The port that HOSTSEL selects (R100). -/
def portOf (sel : Fin 4) : HostPort :=
  if sel = 0 then .pcie else if sel = 1 then .eth10g else if sel = 2 then .sgmii else .stopped

/-- The boot fuses and the key state of a start (R548, R549, R550, R557). -/
def Keys.atStart (k : Keys) (cause : Nat) : Keys :=
  let enter := (2 ≤ cause && cause ≤ 4) && k.unlockHeld && !k.fuses.debugDisable
  { Keys.reset with
    fuses := k.fuses, genInForce := Vector.ofFn fun c : CourtId => burnedBits k.fuses.courtGen[c],
    debugState := (2 ≤ cause && k.debugState) || enter }

/-- What a start keeps of the faults' state (R597, R639), with the cause of the start. -/
def Faults.atStart (x : Faults) (cause : Nat) (bookBad : Bool) : Faults :=
  let keep := 1 ≤ cause && cause ≤ 4
  let b : Scorebook := if keep then { x.book with rates := [] } else Scorebook.reset
  { Faults.reset with lastReset := cause, book := { b with failed := b.failed || bookBad }, copy := x.copy }

/-- The state that every start leaves before a bundle runs (R637, R639): what R639 does not let survive is at its reset value. `cause` has the
codes of LAST_RESET. -/
def State.restarted (s : State) (cause : Nat) (i : StartIn) : State :=
  let keep := 2 ≤ cause && cause ≤ 4
  let hold : Bool := match s.boot.softWait with
    | some w => cause == 2 && w.trial && s.twin.en
    | none => false
  let trialLost := s.boot.trialRun && s.twin.en
  let en := if keep then s.twin.en else i.twinEn
  { s with
    clock := { Clock.reset with tick := if keep then s.clock.tick else 0, tickHi := if keep then s.clock.tickHi else 0 },
    gens := Gens.reset, armed := [], courts := startCourts,
    host := { HostIf.reset with port := if keep then s.host.port else portOf i.hostSel, ready := false, myMajor := 0, myMinor := 0, myBuild := 0 },
    evt := { EvtCtl.reset with wake := s.island.wake },
    regions := Vector.replicate 16 Region.reset, mem := { MemState.reset with hashKey := s.random 64 },
    bays := Vector.replicate 96 Bay.reset, slac := Slac.reset, ledger := Ledger.reset, certs := [], safety := Safety.reset,
    safePairs := 0, safeAccepted := false, roundPos := 0, legal := { Legal.reset with mirror := s.legal.mirror }, pulses := Pulses.reset,
    fwLoad := none,
    twin := { Twin.reset with
      en := en, pos := if keep then s.twin.pos else i.twinPos.val, st := if en then .alone else .unpaired, holdLanes := en && (hold || trialLost) },
    ring := Ring.reset,
    boot := { s.boot with
      running := 0, fromHost := false, hostImage := [], selfCheck := 0, trialEnd := none, trialRun := false, bootFails := [], measures := [],
      write := none, softWait := none, loader := i.failing, resetHeld := false, entering := none },
    island := { s.island with lowPower := 0, pwrReq := true },
    keys := s.keys.atStart cause,
    faults := s.faults.atStart cause i.bookBad,
    free := s.free + 1 }

/-- A start (R637, R644): the loader boots the first verified slot, or waits for a bundle from the host; with HOSTSEL 0b11 nothing runs. A scorebook
whose test fails raises SB_FAIL (R595). -/
def State.startChip (s : State) (cause : Nat) (i : StartIn) : State :=
  let t := s.restarted cause i
  let wait : State := { t with host := { t.host with ready := true } }
  if t.host.port = .stopped then t
  else if i.hostBoot then wait
  else
    let o := t.boot.order
    let r := Boot.try_ (fun j => t.bundleCode (!i.readFails.contains j.val) o.1.images[j]) o.1 o.2
    let u : State := { t with boot := r.1 }
    match r.2 with
    | some j =>
      let z := (u.runBundle u.boot.images[j] j.val false).myavatStart
      if i.bookBad then z.raiseNow 454 0x1016 z.faults.book.lwNext else z
    | none => { u with host := { u.host with ready := true } }

/-- POWER_ON_RESET (R637). -/
def execPowerOnReset (i : StartIn) (s : State) : Out := .next (s.startChip 0 i)

/-- PIN_RESET (R637). -/
def execPinReset (i : StartIn) (s : State) : Out := .next (s.startChip 1 i)

/-- SOFT_RESET (R637, R638): it follows once R638 is complete and the request is answered. -/
def execSoftReset (i : StartIn) (s : State) : Out :=
  .next (match s.boot.softWait with
    | some w => (match w.due with
      | some t => if t ≤ s.now then s.startChip 2 i else s
      | none => s)
    | none => s)

/-- WDOG_RESET (R587, R637): 2 ms after watchdog stage 2, or when REFCLK is back after a loss. -/
def execWdogReset (i : StartIn) (s : State) : Out :=
  .next (if s.faults.clockLost then (if s.boot.resetHeld then s.startChip 4 i else s)
    else match s.faults.resetAt with
      | some t => if t ≤ s.now then s.startChip 3 i else s
      | none => s)

/-- REFCLK_RETURN (R587): REFCLK has been back for 10 ms; the WDOG reset follows. -/
def execRefclkReturn (s : State) : Out := .next (if s.faults.clockLost then s.onBoot fun k => { k with resetHeld := true } else s)

/- SOFT resets in preparation (R638). -/

/-- Every session ended by a HOST stop (R231, R638). -/
def State.endSessions (s : State) : State :=
  allBays.foldl (fun (t : State) b =>
    let st := t.bays[b].session.st
    if st == .stopping || st == .weldCheck || st == .ended || st == .fault then t else (t.sessEnd b 0x0E).settleSess b) s

/-- Whether every session is ENDED, FAULT or IDLE (R638). -/
def State.sessionsOver (s : State) : Bool :=
  allBays.all fun b => let st := s.bays[b].session.st
    st == .ended || st == .fault || st == .idle

/-- The final sweep of R420 at once. -/
def State.finalSweep (s : State) : State := s.onLegal fun l => l.sweep s.readingTick l.regs

/-- A SOFT reset is to be performed (R638): a server ends its sessions, a returner leaves step. -/
def State.softStart (s : State) (o : Option Origin) (trial : Bool) : State :=
  let s1 := if s.isReturner then s.leaveStep 6 else s.endSessions
  s1.onBoot fun k => { k with softWait := some ⟨s.now, trial, o, none⟩ }

/-- R638 completes at a tick boundary: the final sweep, and the response with the tick of the reset, some time within the second that follows
(log 119). -/
def State.softBoundary (s : State) : State :=
  match s.boot.softWait with
  | some w =>
    if w.due.isNone ∧ (s.isReturner ∨ s.sessionsOver ∨ w.at_ + 2000000 ≤ s.now) then
      let at_ := s.now + 1 + s.draw % 900000
      let s1 := if s.isReturner then s else s.finalSweep
      let s2 := (s1.drawn).onBoot fun k => { k with softWait := some { w with due := some at_ } }
      match w.origin with
      | some o => s2.ok o [64] [at_]
      | none => s2
    else s
  | none => s

/- Self-check and trial (R648, R653 to R655). -/

/-- The conditions of R648. -/
def State.selfCheckOk (s : State) : Bool :=
  !(s.faults.cells.any fun c => c.2.st == 3) && (s.safety.st == 1 || s.safety.st == 2) && s.keys.trng == .ready && !s.faults.book.failed && !s.faults.fatal

/-- A trial fails (R655): the slot is BAD, UPDATE_STATE, and a SOFT reset. -/
def State.trialFails (s : State) (j : Fin 3) (cause : Nat) : State :=
  let s1 := s.onBoot fun k => { k.putSlot j (fun x => { x with st := .bad }) with trialEnd := none }
  (s1.updateState j cause 0).softStart none true

/-- SELF_CHECK (R648). -/
def execSelfCheck (s : State) : Out :=
  .next (if s.host.ready && !s.inLoader && s.boot.selfCheck == 0 then
      let ok := s.selfCheckOk
      let s1 := s.onBoot fun k => { k with selfCheck := if ok then 1 else 2 }
      match s.boot.runSlot with
      | some j =>
        if !ok && s.boot.record.slots[j].st == .trial then s1.trialFails j 2 else s1.updateState j (if ok then 1 else 2) 0
      | none => s1.updateState 0 (if ok then 1 else 2) 0
    else s)

/-- TRIAL_TIMEOUT (R653, R655): the trial window ends without UPDATE_CONFIRM. -/
def execTrialTimeout (s : State) : Out :=
  .next (match s.boot.trialEnd, s.boot.runSlot with
    | some t, some j => if t ≤ s.now ∧ s.boot.record.slots[j].st = .trial then s.trialFails j 3 else s
    | _, _ => s)

/- Writing a bundle (R651, R652). -/

/-- The slot that a bundle is written into (R651): the one of A and B that is neither ACTIVE nor running. -/
def Boot.target (k : Boot) : Fin 3 :=
  let j := k.record.otherSlot
  if k.runSlot = some j then k.record.activeSlot else j

/-- Whether R651 refuses a write: a slot in TRIAL, another write or a ring reception under way. -/
def State.writeBarred (s : State) : Bool := s.boot.record.trialSlot.isSome || s.boot.write.isSome || s.ring.bundleRx.isSome

/-- The erase and the write begin (R651): until they are done the slot is EMPTY. -/
def State.beginWrite (s : State) (o : Option Origin) (j : Fin 3) (img : List Byte) (forward golden : Bool) : State :=
  s.onBoot fun k => { (if golden then k else k.putSlot j fun _ => SlotRec.empty) with
    images := k.images.set j [], write := some ⟨o, j, img, forward, golden⟩ }

/-- BUNDLE_RX (R666). -/
def State.bundleRxEvent (s : State) (what code hash : Nat) : State := s.raiseNow 462 0x1202 (what + 2 ^ 8 * code + 2 ^ 16 * (hash % 2 ^ 16))

/-- Bytes 0 to 15 of a manifest hash as a frame carries them (R652). -/
def hash16 (h : Nat) : Nat := h % 2 ^ 128

/-- The DATA frames that a sender may send: at most 64 unacknowledged, 1,024 bytes each (R652). -/
def bundleFrames (hash : Nat) (img : List Byte) (from_ limit : Nat) : List (RingPort × RingFrame) :=
  ((List.range 64).map fun i => from_ + 1024 * i).filterMap fun off =>
    if off < img.length ∧ off < limit then some (.east, .bundle hash 1 off ((img.drop off).take 1024)) else none

/-- The bundle of a slot goes on to the east neighbour (R652). -/
def State.bundleForward (s : State) (j : Fin 3) : State :=
  let img := s.boot.images[j]
  let h := hash16 (manifestHash img)
  (s.onRing fun k => { k with bundleTx := some (j.val, 0, min img.length 65536) }).ringSend (bundleFrames h img 0 65536)

/-- An ACK moves the window on (R652). -/
def State.bundleAck (s : State) (offset : Nat) : State :=
  match s.ring.bundleTx with
  | some (j, acked, sent) =>
    let img := s.boot.images[(⟨j % 3, by omega⟩ : Fin 3)]
    let a := max acked (min offset img.length)
    let from_ := if offset < acked then offset else max sent a
    (s.onRing fun k => { k with bundleTx := some (j, a, min img.length (max sent (a + 65536))) }).ringSend
      (bundleFrames (hash16 (manifestHash img)) img from_ (a + 65536))
  | none => s

/-- The raises of R654: FW_SVN up to the running bundle's SVN_FLOOR but not above the golden slot's SVN, and KFW_REVOKE but for the golden
slot's key slot. The burns stand in order behind the request. -/
def State.fuseRaises (s : State) (o : Option Origin) : State :=
  match s.boot.runSlot with
  | none => s
  | some j =>
    let m := bundleManifest s.boot.images[j]
    let g := bundleManifest s.boot.images[(0 : Fin 3)]
    let n := min 64 (min (leGet m 9 1) (leGet g 8 1))
    let f := s.keys.fuses
    let s1 := if thermometer f.fwSvn < n then s.queueBurn (.fwSvn n) o else s
    [(0 : Nat), 1].foldl (fun t k =>
      if bitOf (leGet m 10 1) k ∧ leGet g 2 1 ≠ k ∧ leGet m 2 1 ≠ k ∧ !f.revoked k then t.queueBurn (.kfwRevoke k) o else t) s1

/-- The response of BUNDLE_WRITE (R662). -/
def bundleLayout : List Nat := [8, 8, 16, 384]

/-- The response of UPDATE_CONFIRM (R664). -/
def confirmLayout : List Nat := [8, 24]

/-- Whether a request still waits for a burn. -/
def State.burnWaits (s : State) (o : Origin) : Bool := s.keys.burns.any fun b => b.origin == some o

/-- Answer the request that a raise of R654 belongs to: UPDATE_CONFIRM or the golden copy. -/
def State.raiseAnswer (s : State) (o : Origin) (ok : Bool) : State :=
  let st := if ok then stOK else stFAIL
  match (s.mbox o.court o.mbx).running with
  | some r =>
    if r.opcode = 0x1212 then s.answer o.court o.mbx st 0 false (withValues confirmLayout [thermometer s.keys.fuses.fwSvn, 0])
    else s.answer o.court o.mbx st 0 false (withValues bundleLayout [0, 0, 0, manifestHash s.boot.images[(0 : Fin 3)]])
  | none => s

/-- BUNDLE_WRITE_DONE (R651, R652): the slot is STAGED, or EMPTY where the read-back failed; the request is answered and a write with FORWARD
goes on along the ring. `code` is what the slot's verification finds. -/
def execBundleWriteDone (code : Nat) (s : State) : Out :=
  .next (match s.boot.write with
    | none => s
    | some w =>
      let m := bundleManifest w.image
      let h := manifestHash w.image
      let s0 := s.onBoot fun k => { k with write := none }
      if code ≠ 0 then
        let s1 := (s0.onBoot fun k => { (k.putSlot w.slot fun _ => SlotRec.empty) with lastFail := k.lastFail.set w.slot code }).updateState w.slot 0 code
        match w.origin with
        | some o => s1.answer o.court o.mbx stFAIL 0 false (withValues bundleLayout [w.slot.val, code, 0, 0])
        | none => ((s1.bundleRxEvent 3 code h).ringSend [(.west, .bundle (hash16 h) 4 0 [])]).onRing fun k => { k with bundleRx := none }
      else
        let rec_ : SlotRec := { st := if w.golden then .confirmed else .staged, attempts := 0, trialS := 0, svn := leGet m 8 1, hash := h }
        let s1 := (s0.onBoot fun k => { (k.putSlot w.slot fun _ => rec_) with images := k.images.set w.slot w.image }).updateState w.slot 0 0
        let s2 := match w.origin with
          | some o =>
            if w.golden then
              let t := s1.fuseRaises (some o)
              if t.burnWaits o then t else t.ok o bundleLayout [w.slot.val, 0, 0, h]
            else s1.ok o bundleLayout [w.slot.val, 0, 0, h]
          | none => ((s1.bundleRxEvent 1 0 h).onRing fun k => { k with bundleRx := none })
        let s3 := if w.forward then s2.bundleForward w.slot else s2
        if w.origin.isNone then s3.onRing fun k => { k with sent := (.west, .bundle (hash16 h) 3 0 []) :: k.sent } else s3)

/-- A DATA frame of a bundle from the west (R652): the bytes received so far are acknowledged; a bundle held is answered DONE, one that cannot
be written REFUSED; the whole bundle is verified and written. -/
def State.bundleData (s : State) (hash offset : Nat) (data : List Byte) : State :=
  let reply := fun (t : State) (op off : Nat) => t.ringSend [(.west, .bundle hash op off [])]
  let held := (List.finRange 3).any fun j => s.boot.record.slots[j].st != .empty && hash16 (s.boot.record.slots[j].hash) == hash
  let got : Option (List Byte) := match s.ring.bundleRx with
    | some (h, d) => if h = hash then some (if offset = d.length then d ++ data else d) else none
    | none => if offset = 0 then some data else none
  let fresh := s.ring.bundleRx.isNone
  if fresh ∧ held then reply (s.bundleRxEvent 2 0 hash) 3 0
  else if fresh ∧ (s.boot.record.trialSlot.isSome ∨ s.boot.write.isSome) then reply (s.bundleRxEvent 3 0 hash) 4 0
  else match got with
    | none => s
    | some d =>
      let total := leGet (bundleManifest d) 24 4
      let s1 := s.onRing fun k => { k with bundleRx := some (hash, d) }
      if s.boot.write.isNone ∧ (6291456 < d.length ∨ (4096 ≤ total ∧ total ≤ d.length) ∨ data.isEmpty) then
        let code := s.bundleCode true d
        if code ≠ 0 then reply ((s1.onRing fun k => { k with bundleRx := none }).bundleRxEvent 3 code hash) 4 0
        else reply (s1.beginWrite none s.boot.target d true false) 2 d.length
      else reply s1 2 d.length

/-- RING_BUNDLE_FRAME (R652): DATA from the west neighbour; ACK, DONE and REFUSED from the east one. -/
def execRingBundleFrame (p : RingPort) (hash op offset : Nat) (data : List Byte) (s : State) : Out :=
  .next (if !s.ring.en then s
    else
      let s1 := s.ringHeard p
      if op = 1 ∧ p = .west then s1.bundleData hash offset data
      else if p = .east ∧ s.ring.bundleTx.isSome then
        if op = 2 then s1.bundleAck offset
        else if op = 3 then (s1.onRing fun k => { k with bundleTx := none }).bundleRxEvent 4 0 hash
        else if op = 4 then s1.onRing fun k => { k with bundleTx := none }
        else s1
      else s1)

/- Commands with POS (R656, R659 to R664). -/

/-- The check of POS (R656): 0 on an unpaired QN960; on its own mailboxes a returner carries out what names itself. -/
def posChk (pos : Nat) (t : State) : Chk :=
  rng 1 (if t.twin.en then pos ≤ 1 && ((!t.isReturner && !t.inLoader) || t.twin.armAt.isSome || pos == t.twin.pos) else pos == 0)

/-- Whether a command names the other twin (R656). -/
def State.namesOther (t : State) (pos : Nat) : Bool := t.twin.en && pos != t.twin.pos

/-- A command goes to the other twin over class 2 (R656, R613); `limit` is the card's time. -/
def State.forward (t : State) (o : Origin) (opcode limit : Nat) (layout : List Nat) : State :=
  t.onTwin fun w => { w with
    forwards := w.forwards ++ [⟨o, opcode, layout, t.now, limit⟩], xfers := w.xfers ++ [⟨2, w.sendSeq, t.now, 0⟩], sendSeq := (w.sendSeq + 1) % 2 ^ 16 }

/-- A card of group 0x12xx with POS (R656): the server sends on what names the returner, which leaves the mirrored request alone. -/
def cardPos (o : Origin) (opcode limit pos : Nat) (layout : List Nat) (checks : State → List Chk) (body : State → State) (s : State) : State :=
  cardLater o opcode layout (fun t => permit o (if opcode = 0x1202 then [0, 2] else [0]) :: posChk pos t :: (if t.namesOther pos then [] else checks t))
    (fun t => if t.mirrored o then t.leaveTo o else if t.namesOther pos then t.forward o opcode limit layout else body t) s

/-- SYS_RESET (R659). -/
def cardSysReset (o : Origin) (pos : Nat) (s : State) : State :=
  cardPos o 0x1201 3000000 pos [64] (fun _ => []) (fun t => t.softStart (some o) false) s

/-- The command SYS_RESET (R659). -/
def execSysReset (o : Origin) (pos : Nat) (s : State) : Out := .next (cardSysReset o pos s)

/-- The response of BOOT_STATUS (R660). -/
def bootLayout : List Nat := [8, 8, 8, 8, 8, 24, 32] ++ (List.replicate 3 [8, 8, 8, 8, 32, 384, 8, 8, 16]).flatten

/-- The values of BOOT_STATUS; the Myavat fields are zero in the loader (R660). -/
def State.bootValues (t : State) : List Nat :=
  let k := t.boot
  let r := k.record
  let left : Nat := match k.trialEnd with
    | some e => (e - t.now) / 1000000
    | none => 0
  [b2n k.fromHost, k.running, r.active, if t.inLoader then 0 else k.selfCheck, thermometer t.keys.fuses.fwSvn, 0, if t.inLoader then 0 else left] ++
  (List.finRange 3).flatMap fun j =>
    let x := r.slots[j]
    let m := bundleManifest k.images[j]
    [x.st.code, x.attempts, x.svn, k.lastFail[j], x.trialS, x.hash, leGet m 4 1, leGet m 5 1, leGet m 6 2]

/-- BOOT_STATUS (R660). -/
def cardBootStatus (o : Origin) (pos : Nat) (s : State) : State :=
  cardPos o 0x1202 10000 pos bootLayout (fun _ => []) (fun t => t.ok o bootLayout t.bootValues) s

/-- The command BOOT_STATUS (R660). -/
def execBootStatus (o : Origin) (pos : Nat) (s : State) : Out := .next (cardBootStatus o pos s)

/-- The status that a failed check of R643 gives (R661, R662). -/
def bundleStatus (code : Nat) : Nat := if code = 2 ∨ code = 3 then stREJECTED_CRYPTO else if code = 7 then stFAIL else stRANGE

/-- BOOT_HOST (R645, R661): the loader verifies the transfer and boots it; READY is 0 until Myavat runs. -/
def cardBootHost (o : Origin) (transfer : Nat) (s : State) : State :=
  cardLater o 0x1203 [8, 24]
    (fun t => [permit o [0], need t.inLoader stBAD_STATE 0, need (t.xfer? o.court transfer).isSome stBAD_STATE 0])
    (fun t =>
      let img := t.xferData o.court transfer
      let code := t.bundleCode true img
      if code ≠ 0 then t.answer o.court o.mbx (bundleStatus code) 0 false (withValues [8, 24] [code, 0])
      else (((t.consumeXfer o.court transfer).ok o [8, 24] [0, 0]).runBundle img 0 true).myavatStart) s

/-- The command BOOT_HOST (R661). -/
def execBootHost (o : Origin) (transfer : Nat) (s : State) : Out := .next (cardBootHost o transfer s)

/-- BUNDLE_WRITE of an inbound transfer (R651, R662). -/
def cardBundleWrite (o : Origin) (pos source flags transfer : Nat) (s : State) : State :=
  cardPos o 0x1210 60000000 pos bundleLayout
    (fun t => [rng 2 (source == 0), rng 3 (flags < 2), need (!t.writeBarred) stBAD_STATE 0,
      need (t.xfer? o.court transfer).isSome stBAD_STATE 0])
    (fun t =>
      let img := t.xferData o.court transfer
      let u := t.consumeXfer o.court transfer
      let code := t.bundleCode true img
      if code ≠ 0 then t.answer o.court o.mbx (bundleStatus code) 0 false (withValues bundleLayout [t.boot.target.val, code, 0, 0])
      else u.beginWrite (some o) t.boot.target img (bitOf flags 0) false) s

/-- The command BUNDLE_WRITE (R662). -/
def execBundleWrite (o : Origin) (pos source flags transfer : Nat) (s : State) : Out := .next (cardBundleWrite o pos source flags transfer s)

/-- BUNDLE_WRITE with SOURCE 1 (R651, R662): the running slot is copied to golden while it is ACTIVE and CONFIRMED. -/
def cardBundleGoldenCopy (o : Origin) (pos flags transfer : Nat) (s : State) : State :=
  cardPos o 0x1210 60000000 pos bundleLayout
    (fun t => [rng 3 (flags < 2), rng 5 (transfer == 0), need (!t.writeBarred) stBAD_STATE 0,
      need (match t.boot.runSlot with
        | some j => j == t.boot.record.activeSlot && t.boot.record.slots[j].st == .confirmed
        | none => false) stBAD_STATE 0])
    (fun t => match t.boot.runSlot with
      | some j =>
        let img := t.boot.images[j]
        let code := t.bundleCode true img
        if code ≠ 0 then t.answer o.court o.mbx (bundleStatus code) 0 false (withValues bundleLayout [0, code, 0, 0])
        else t.beginWrite (some o) 0 img (bitOf flags 0) true
      | none => t) s

/-- The command BUNDLE_WRITE with SOURCE 1 (R662). -/
def execBundleGoldenCopy (o : Origin) (pos flags transfer : Nat) (s : State) : Out := .next (cardBundleGoldenCopy o pos flags transfer s)

/-- UPDATE_ACTIVATE (R653, R657, R663): the slot goes on trial with one attempt, and a SOFT reset follows. R657 refuses it for the returner while
the epoch is 1. -/
def cardUpdateActivate (o : Origin) (pos slot trialS : Nat) (s : State) : State :=
  cardLater o 0x1211 [64]
    (fun t => [permit o [0], posChk pos t, rng 2 (slot == 1 || slot == 2), rng 4 (trialS == 0 || (60 ≤ trialS && trialS ≤ 86400)),
      need (!(t.namesOther pos && t.twin.server && t.twin.epoch == 1)) stBAD_STATE 0,
      need (t.namesOther pos || t.boot.record.slots[(⟨slot % 3, by omega⟩ : Fin 3)].st == .staged) stBAD_STATE 0])
    (fun t =>
      if t.mirrored o then t.leaveTo o
      else if t.namesOther pos then t.forward o 0x1211 3000000 [64]
      else
        let j : Fin 3 := ⟨slot % 3, by omega⟩
        let u := t.onBoot fun k => k.putSlot j fun x => { x with st := .trial, attempts := 1, trialS := if trialS = 0 then 900 else trialS }
        (u.updateState j 0 0).softStart (some o) true) s

/-- The command UPDATE_ACTIVATE (R663). -/
def execUpdateActivate (o : Origin) (pos slot trialS : Nat) (s : State) : Out := .next (cardUpdateActivate o pos slot trialS s)

/-- UPDATE_CONFIRM (R654, R664): the slot is CONFIRMED and ACTIVE, and the burns of R654 follow. -/
def cardUpdateConfirm (o : Origin) (pos hash : Nat) (s : State) : State :=
  cardPos o 0x1212 100000 pos confirmLayout
    (fun t => [rng 3 (match t.boot.runSlot with
        | some j => t.boot.record.slots[j].hash == hash
        | none => false),
      need (match t.boot.runSlot with
        | some j => t.boot.record.slots[j].st == .trial && t.boot.selfCheck == 1
        | none => false) stBAD_STATE 0])
    (fun t => match t.boot.runSlot with
      | some j =>
        let u := (t.onBoot fun k => { (k.putRecord fun r => { r with
          active := j.val, slots := vmod r.slots j fun x => { x with st := .confirmed } }) with trialEnd := none, trialRun := false }).updateState j 0 0
        let v := u.fuseRaises (some o)
        if v.burnWaits o then v else v.ok o confirmLayout [thermometer v.keys.fuses.fwSvn, 0]
      | none => t) s

/-- The command UPDATE_CONFIRM (R664). -/
def execUpdateConfirm (o : Origin) (pos hash : Nat) (s : State) : Out := .next (cardUpdateConfirm o pos hash s)

/- The swap of a pair whose bundles differ (R658, R665). -/

/-- The first condition of R665 that fails. -/
def State.swapFails (s : State) : Option Nat :=
  match s.twin.peer with
  | none => some 1
  | some p =>
    if s.twin.st ≠ .paired ∨ !s.twin.server then some 1
    else if p.manifest = s.manifest then some 2
    else if p.selfCheck ≠ 1 then some 3
    else if p.major ≠ s.host.myMajor then some 4
    else if !s.safeAgrees p then some 5
    else if !s.gensAgree p then some 6
    else if p.regionFault then some 7
    else none

/-- UPDATE_SWAP (R665): from APPLY_TICK, at least 1,000 tk after the tick of receipt. -/
def cardUpdateSwap (o : Origin) (apply : Nat) (s : State) : State :=
  cardLater o 0x1213 [64, 32]
    (fun t => [permit o [0], rng 2 (t.now + 1000 ≤ apply),
      match t.swapFails with
      | some k => some (stBAD_STATE, k)
      | none => none,
      need t.twin.swapAt.isNone stBAD_STATE 0])
    (fun t => t.onTwin fun w => { w with swapAt := some (apply, o) }) s

/-- The command UPDATE_SWAP (R665). -/
def execUpdateSwap (o : Origin) (apply : Nat) (s : State) : Out := .next (cardUpdateSwap o apply s)

/-- The swap reaches APPLY_TICK at a tick boundary: every session of the server ends with HOST (R658). -/
def State.swapBoundary (s : State) : State :=
  match s.twin.swapAt with
  | some (t, _) => if t = s.now then s.endSessions else s
  | none => s

/-- UPDATE_SWAP_APPLY (R658): at S the returner puts what the server sent in force and takes the serve with the epoch plus 1, ALONE, and the
server yields; a silent returner leaves the serve where it is. -/
def execUpdateSwapApply (answered : Bool) (items : List JoinItem) (s : State) : Out :=
  .next (if s.twin.server then
      match s.twin.swapAt with
      | some (t, o) =>
        let off := allBays.all fun b => s.bays[b].grp.mod.st.code == 0
        if t ≤ s.now ∧ ((s.sessionsOver ∧ off) ∨ t + 2000000 ≤ s.now) then
          let s1 := s.onTwin fun w => { w with swapAt := none }
          if !answered then s1.refuse o stTIMEOUT 0 [64, 32]
          else
            let s2 := s1.finalSweep.ok o [64, 32] [s.now, (s.twin.epoch + 1) % 2 ^ 32]
            ((s2.onTwin fun w => { w with server := false }).lanesDown).raiseNow 456 0x1102 (2 * 4 + 2 ^ 8 * (s.twin.epoch % 2 ^ 24))
        else s
      | none => s
    else if s.twin.en && s.twin.st == .paired && answered then
      (items.foldl State.joinItem s).takeServe 4 (s.twin.twinEpoch + 1) .alone
    else s)

end Sys2Proof.Machine
end

