-- ==== Sys2Proof/Machine/Island.lean ====
section
/-! DEFINITION. The battery island: supply, clock, RTC, tamper inputs, theft watch, record queue, low-power states and wakes (spec file 24). -/

namespace Sys2Proof.Machine

/-- Change the island. -/
def State.onIsland (s : State) (f : Island → Island) : State := { s with island := f s.island }

/-- A wake (R677, R678): the first one while a low-power state holds or is being entered is recorded; ISLAND raises PWR_REQ. -/
def State.wakeBy (s : State) (cause source : Nat) : State :=
  if (s.island.lowPower ≠ 0 ∨ s.boot.entering.isSome) ∧ s.island.wakeCause = 0 then
    s.onIsland fun k => { k with wakeCause := cause, wakeSource := source, pwrReq := true }
  else s

/-- Whether a valid EVT_WAKE entry names a source that can occur in the low-power states (R123, R677). -/
def State.wakeNamed (s : State) (src : Nat) : Bool :=
  463 ≤ src && src ≤ 466 && s.island.wake.toList.any fun e => e.valid && e.source == src

/-- An occurrence of an island source (R677, R685): TICK is 0 while the CELL domain is stopped; a wake-capable one ends a low-power state. -/
def State.islandEvent (s : State) (src kind data : Nat) : State :=
  let s1 := s.raise ⟨src, kind, data % 2 ^ 32, if s.clock.cellRuns then s.now else 0⟩
  if s.wakeNamed src then s1.wakeBy 4 src else s1

/-- ISLAND_HEALTH (R685). -/
def State.islandHealth (s : State) : State :=
  s.islandEvent 466 0x0143 (b2n s.island.vbatLow + 2 * b2n s.island.xtalFail + 2 ^ 16 * s.island.vbatMv)

/-- ISLAND_SUPPLY_SWITCH (R667, R678): the island changes between VIO33 and VBAT with every register and word unchanged. Without VIO33 the main
rails are lost: the CELL domain stops, and QUIET ends without a wake. -/
def execIslandSupplySwitch (toVbat : Bool) (s : State) : Out :=
  .next (if !s.island.running then s
    else if toVbat then
      { s with
        island := { s.island with onVbat := true, lowPower := if s.island.lowPower = 1 then 0 else s.island.lowPower },
        clock := { s.clock with cellRuns := false }, host := { s.host with ready := false, lpState := 0 } }
    else s.onIsland fun k => { k with onVbat := false })

/-- CRYSTAL_STOP (R668): no crystal edge for 2 ms. -/
def execCrystalStop (s : State) : Out :=
  .next (if s.island.running && !s.island.onRc then
      (s.onIsland fun k => { k with onRc := true, rtcValid := false, xtalFail := true }).islandHealth
    else s)

/-- CRYSTAL_RESUME (R668): the crystal has run for 1 s. -/
def execCrystalResume (s : State) : Out := .next (if s.island.running then s.onIsland fun k => { k with onRc := false } else s)

/-- ISLAND_BROWNOUT (R669): the island's supply falls below 1.9 V, and the island stops. -/
def execIslandBrownout (s : State) : Out := .next (s.onIsland fun k => { k with running := false })

/-- ISLAND_FRESH_START (R123, R669): the island starts afresh with words 0x0000 and 0x3000 cleared. -/
def execIslandFreshStart (s : State) : Out :=
  .next (if s.island.running then s
    else
      let keep := s.island
      (({ s with island := { Island.reset with onVbat := keep.onVbat, lowPower := keep.lowPower } }).onLegal fun l => { l with
        mirror := { l.mirror with mark := false } }).onFaults fun x => { x with copy := { x.copy with mark := false, busy := none } })

/-- VBAT_MEASURE (R669): every 60 s from VIO33; ISLAND_HEALTH below 2.3 V and again above 2.4 V. -/
def execVbatMeasure (mv : Nat) (s : State) : Out :=
  .next (if s.island.running && !s.island.onVbat then
      let low := if s.island.vbatLow then decide (mv ≤ 2400) else decide (mv < 2300)
      let s1 := s.onIsland fun k => { k with vbatMv := mv % 2 ^ 12, vbatLow := low }
      if low = s.island.vbatLow then s1 else s1.islandHealth
    else s)

/-- RTC_SET (R671): the RTC takes legal UTC at the boundary of the legal second that follows validity or a second divisible by 3,600. -/
def execRtcSet (s : State) : Out :=
  .next (let l := s.legal
    let u := l.utc s.now
    if s.island.running ∧ l.valid ∧ l.utc (s.now - 1) < u ∧ ((u - 1) % 3600 = 0 ∨ l.utc l.timeValidAt + 1 = u) then
      s.onIsland fun k => { k with rtcSec := u % 2 ^ 40, rtcFrac := 0, rtcValid := true, xtalFail := false }
    else s)

/-- A record into the island's queue (R675): a full queue discards it and counts. -/
def Island.queued (k : Island) (kind data : Nat) : Island :=
  if 16 ≤ k.queue.length then { k with qLost := bump 8 k.qLost }
  else { k with queue := k.queue ++ [⟨kind, k.rtcSec, k.rtcValid, data⟩] }

/-- The tamper kind of an island input (R672). -/
def inputKind (i : Fin 4) : Fin 16 := if i = 0 then 0 else ⟨11 + i.val, by omega⟩

/-- ISL_TAMPER (R685). -/
def State.tamperEvent (s : State) (i : Fin 4) (active : Bool) : State := s.islandEvent 463 0x0140 (i.val + 4 * b2n active)

/-- TAMPER_INPUT (R672): an input is active after two samples high, at an RTC second. The legal court of a returner sees the server's inputs
instead (R608). -/
def execTamperInput (i : Fin 4) (sec : Nat) (s : State) : Out :=
  .next (if s.island.running && !s.island.tampLevel.getLsbD i.val then
      let s1 := s.onIsland fun k => { k with tampLevel := k.tampLevel ||| BitVec.ofNat 4 (2 ^ i.val), rtcSec := sec % 2 ^ 40 }
      let s2 := if s.isReturner && s.mirroring then s1
        else if s.clock.cellRuns then s1.tamper (inputKind i) 0xFF 0 none else s1.onIsland fun k => k.queued (inputKind i).val 0
      s2.tamperEvent i true
    else s)

/-- TAMPER_INPUT_INACTIVE (R672): an input is inactive after two samples low. -/
def execTamperInputInactive (i : Fin 4) (s : State) : Out :=
  .next (if s.island.running && s.island.tampLevel.getLsbD i.val then
      (s.onIsland fun k => { k with tampLevel := k.tampLevel &&& ~~~ BitVec.ofNat 4 (2 ^ i.val) }).tamperEvent i false
    else s)

/-- The RMS current of a channel in mA, rounded down, from the sum of squares of its 1,000 codes and its code weight in uA (R673). -/
def theftMa (sumSq lsbUa : Nat) : Nat := isqrt (sumSq * lsbUa * lsbUa / 1000000000)

/-- THEFT_SECOND (R673, R674): an RTC second of the theft watch ends; `sums` are the sums of squares of the four channels. -/
def execTheftSecond (sec : Nat) (sums : Vector Nat 4) (s : State) : Out :=
  .next (let k := s.island
    if k.running && k.theftEn && !s.clock.cellRuns then
      let ma := fun (n : Fin 4) => theftMa sums[n] k.ctLsbUa[n]
      let hit := (List.finRange 4).filter fun n => k.theftMinMa ≤ ma n
      let s0 := s.onIsland fun k => { k with rtcSec := sec % 2 ^ 40 }
      match hit with
      | [] => s0
      | n :: _ =>
        let s1 := s0.onIsland fun k => { k with
          theftAcc := hit.foldl (fun v c => vmod v c fun a => satN 48 (a + ma c)) k.theftAcc }
        if k.watchOpen then s1
        else ((s1.onIsland fun k => ({ k with watchOpen := true }).queued 7 0)).islandEvent 465 0x0142 (n.val + 2 ^ 8 * (sec % 2 ^ 24))
    else s)

/-- WAKE_N_LOW (R677): held low for 1 ms. -/
def execWakeNLow (s : State) : Out := .next (if s.island.running then s.wakeBy 1 0 else s)

/-- RTC_ALARM (R677, R678): the RTC has reached WAKE_AT. -/
def execRtcAlarm (sec : Nat) (s : State) : Out :=
  .next (let k := s.island
    if k.running ∧ k.wakeAt ≠ 0 ∧ k.wakeAt ≤ sec % 2 ^ 40 ∧ (k.lowPower ≠ 0 ∨ s.boot.entering.isSome) then
      ((s.onIsland fun k => { k with rtcSec := sec % 2 ^ 40 }).wakeBy 3 0).islandEvent 464 0x0141 (sec % 2 ^ 32)
    else s)

/-- WAKE_SOURCE_OCCURRENCE (R677): an occurrence of a source that a valid EVT_WAKE entry names. -/
def execWakeSourceOccurrence (src : Nat) (s : State) : Out :=
  .next (if s.island.running && s.wakeNamed src then s.wakeBy 4 src else s)

/-- DEV_WAKE_WRITE (R677, R681): a write of WAKE over PCI Express ends QUIET. -/
def execDevWakeWrite (value : Nat) (s : State) : Out :=
  .next (if s.host.port == .pcie && bitOf value 0 && s.island.lowPower == 1 then s.wakeBy 2 0 else s)

/-- ISLAND_RAILS_READY (R677): every rail is in range after a wake, and the start follows: 5 for QUIET, 6 for ISLAND. -/
def execIslandRailsReady (i : StartIn) (s : State) : Out :=
  .next (if s.island.lowPower ≠ 0 ∧ s.island.wakeCause ≠ 0 then s.startChip (4 + s.island.lowPower) i else s)

/- Entering QUIET and ISLAND (R676). -/

/-- LOWPOWER_ENTER (R676, R682): sessions end, and the entry completes at a tick boundary. -/
def cardLowPower (o : Origin) (code state flags wakeAt : Nat) (s : State) : State :=
  cardLater o 0x0140 [64]
    (fun t => [permit o [0], rng 1 (state == code), rng 2 (flags < 2),
      need (wakeAt == 0 || t.island.rtcValid) stBAD_STATE 0,
      need (code != 1 || t.host.port == .pcie) stBAD_STATE 0,
      need t.boot.entering.isNone stBAD_STATE 0])
    (fun t =>
      let u := ({ t with host := { t.host with lpState := 1 } }).endSessions
      (u.onIsland fun k => { k with theftEn := bitOf flags 0, wakeAt := wakeAt, wakeCause := 0, wakeSource := 0 }).onBoot fun k => { k with
        entering := some (code, some o, t.now) }) s

/-- LOWPOWER_ENTER with STATE 1 (R682). -/
def execLowpowerEnterQuiet (o : Origin) (state flags wakeAt : Nat) (s : State) : Out := .next (cardLowPower o 1 state flags wakeAt s)

/-- LOWPOWER_ENTER with STATE 2 (R682). -/
def execLowpowerEnterIsland (o : Origin) (state flags wakeAt : Nat) (s : State) : Out := .next (cardLowPower o 2 state flags wakeAt s)

/-- Steps 2 to 6 of R676 at a tick boundary: once no session runs, the sweep, the lanes, links and pairs go down and the response is sent; then the
clocks stop (log 119). -/
def State.lowPowerBoundary (s : State) : State :=
  match s.boot.entering with
  | some (code, some o, since) =>
    if s.sessionsOver ∨ since + 2000000 ≤ s.now then
      let at_ := s.now + 1 + s.draw % 900000
      let s1 := { s.finalSweep.lanesDown.twinLinkDown.drawn with safePairs := 0, safety := { s.safety with st := 0 } }
      let s2 := (s1.onRing fun k => { k with eastUp := false, westUp := false, sent := [] }).onBoot fun k => { k with entering := some (code, none, at_) }
      s2.ok o [64] [at_]
    else s
  | some (code, none, at_) =>
    if at_ ≤ s.now then
      let s1 := (s.onBoot fun k => { k with entering := none }).onIsland fun k => { k with
        lowPower := code, pwrReq := code == 1 || k.wakeCause != 0 }
      { s1 with clock := { s1.clock with cellRuns := false }, host := { s1.host with ready := false, lpState := if code = 1 then 2 else 0 } }
    else s
  | none => s

/- Commands (R683, R684). -/

/-- ISLAND_CONFIG (R683). -/
def cardIslandConfig (o : Origin) (en minMa c0 c1 c2 c3 : Nat) (s : State) : State :=
  let lsb := fun (pos c : Nat) => rng pos (1 ≤ c && c ≤ 10000000)
  card o 0x0142 []
    (fun _ => [permit o [0, 1], rng 1 (en ≤ 1), rng 3 (100 ≤ minMa && minMa ≤ 65535), lsb 4 c0, lsb 5 c1, lsb 6 c2, lsb 7 c3])
    (fun t => (t.onIsland fun k => { k with theftEn := en == 1, theftMinMa := minMa, ctLsbUa := #v[c0, c1, c2, c3] }, [])) s

/-- The command ISLAND_CONFIG (R683). -/
def execIslandConfig (o : Origin) (en minMa c0 c1 c2 c3 : Nat) (s : State) : Out := .next (cardIslandConfig o en minMa c0 c1 c2 c3 s)

/-- The island registers 0x00 to 0x03 (R680). -/
def Island.regs (k : Island) : List Nat :=
  [b2n k.rtcValid + 2 * b2n k.xtalFail + 4 * b2n k.onVbat + 8 * b2n k.fresh + 2 ^ 4 * k.tampLevel.toNat + 2 ^ 8 * k.wakeCause + 2 ^ 11 * k.wakeSource +
     2 ^ 20 * k.vbatMv,
   k.rtcSec % 2 ^ 32, k.rtcSec / 2 ^ 32 % 2 ^ 8 + 2 ^ 8 * k.rtcFrac, k.queue.length + 2 ^ 8 * k.qLost]

/-- ISLAND_STATUS (R684): how far the RTC has run on its own crystal since it was last seen is free (log 125). -/
def cardIslandStatus (o : Origin) (s : State) : State :=
  card o 0x0141 ([32, 32, 32, 32, 64, 8, 8, 16] ++ List.replicate 4 32) (fun _ => [permit o [0, 1, 2]])
    (fun t =>
      let d := t.island.rtcFrac + t.draw
      let u := t.drawn.onIsland fun k => { k with rtcSec := (k.rtcSec + d / 2 ^ 15) % 2 ^ 40, rtcFrac := d % 2 ^ 15 }
      let k := u.island
      (u, k.regs ++ [k.wakeAt, b2n k.theftEn, 0, k.theftMinMa] ++ k.ctLsbUa.toList)) s

/-- The command ISLAND_STATUS (R684). -/
def execIslandStatus (o : Origin) (s : State) : Out := .next (cardIslandStatus o s)

end Sys2Proof.Machine
end

