-- ==== Sys2Proof/Machine/Courts.lean ====
section
/-! DEFINITION. Courts: creation, restart, teardown and report, and the end of a fuse burn (spec files 03 and 20). -/

namespace Sys2Proof.Machine

/-- COURT_STATE (R69, R713). -/
def State.courtGo (s : State) (c : CourtId) (st : CourtState) : State :=
  let old := s.courts[c].state.code
  (s.onCourt c fun k => { k with state := st }).raiseNow (384 + c.val) 0x0201 (st.code + 4 * old)

/- Windows (R67, R68, R70). -/

/-- Remove every byte of a range of addresses: they read as zero. -/
def memClear (m : List Host.Cell) (lo hi : Nat) : List Host.Cell := m.filter fun x => x.1 < lo || hi ≤ x.1

/-- Clear the region windows of a court to zero (R70). -/
def State.clearWindows (s : State) (c : CourtId) : State :=
  allRegions.foldl (fun t r =>
    (t.regions[r].fw.filter fun e => e.courts == BitVec.ofNat 16 (2 ^ c.val)).foldl (fun u e =>
      { u with mem := { u.mem with cells := memClear u.mem.cells (wordAddr r e.base) (wordAddr r (e.limit + 1)) } }) t) s

/-- The free pieces of 64 words of the tenants' part of an exchange area (R68). -/
def freePieces (fw : List FwEntry) : List Nat :=
  ((List.range 96).map fun i => 0xE800 + 64 * i).filter fun a => fw.all fun e => e.limit < a || a + 64 ≤ e.base

/-- Join neighbouring pieces into runs: base and limit. -/
def joinPieces : List Nat → List (Nat × Nat)
  | [] => []
  | a :: t => match joinPieces t with
    | (b, l) :: u => if a + 64 = b then (a, l) :: u else (a, a + 63) :: (b, l) :: u
    | [] => [(a, a + 63)]

/-- The window entries of a tenant in one region, in the lowest free pieces (R68, log 12). -/
def tenantFw (fw : List FwEntry) (c : CourtId) (words : Nat) : List FwEntry :=
  (joinPieces ((freePieces fw).take (words / 64))).map fun p => ⟨p.1, p.2, BitVec.ofNat 16 (2 ^ c.val), true, true, false⟩

/-- A court's entries in every firewall change at a tick boundary (R29). -/
def State.setWindows (s : State) (c : CourtId) (words : Nat) : State :=
  allRegions.foldl (fun t r => t.onRegion r fun x =>
    let rest := x.fw.filter fun e => e.courts != BitVec.ofNat 16 (2 ^ c.val)
    { x with fw := rest ++ tenantFw rest c words }) s

/- Creation (R91). -/

/-- A COURT_CREATE that is armed. -/
def pickCreate : Setting → Option (CourtId × Nat × Nat × BayMask)
  | .courtCreate c sup reg grant _ => some (c, sup, reg, grant)
  | _ => none

/-- What the tenants hold or are about to hold: court, SUP_KW, REGION_WORDS, BAY_GRANT. -/
def State.tenants (s : State) : List (CourtId × Nat × Nat × BayMask) :=
  ((allCourts.filter fun c => 3 ≤ c.val && s.courts[c].state != .absent).map fun c =>
    (c, s.courts[c].supKw, s.courts[c].regionWords, s.courts[c].grant)) ++ s.armed.filterMap fun a => pickCreate a.cmd

/-- COURT_CREATE (R67, R68, R91): a settings change that moves SITE_GEN. -/
def cardCourtCreate (o : Origin) (court sup region grant i0 o0 c0 i1 o1 c1 i2 o2 c2 i3 o3 c3 : Nat) (s : State) : State :=
  let places := [(i0, o0, c0), (i1, o1, c1), (i2, o2, c2), (i3, o3, c3)]
  let placeChk := fun (m : Nat) => match places[m]? with
    | some (i, ob, cf) => [rng (7 + 3 * m) (i % 64 == 0), rng (8 + 3 * m) (ob % 64 == 0), rng (9 + 3 * m) (cfgOk m cf)]
    | none => []
  cardLater o 0x0201 [16, 16, 32, 64]
    (fun t =>
      let held := t.tenants
      [permit o [0], rng 1 (3 ≤ court && court ≤ 15), rng 3 (4 ≤ sup && sup ≤ 64 && sup % 4 == 0), rng 4 (region ≤ 1024 && region % 64 == 0),
       rng 6 (held.all fun x => x.1.val == court || x.2.2.2 &&& BitVec.ofNat 96 grant == 0)] ++ (List.range 4).flatMap placeChk ++
      [need (!held.any fun x => x.1.val == court) stBAD_STATE 0,
       need ((held.map fun x => x.2.1).sum + sup ≤ 208) stNO_RESOURCE 0,
       need (t.poolUsed + 1024 * sup ≤ t.poolSize) stNO_RESOURCE 0,
       need ((held.map fun x => x.2.2.1).sum + region ≤ 6144) stNO_RESOURCE 0,
       need (allRegions.all fun r => t.regions[r].fw.length + (match courtOf court with
         | some c => (tenantFw t.regions[r].fw c region).length
         | none => 0) ≤ 64) stNO_RESOURCE 0,
       need (match courtOf court with
         | some c => !t.retired c
         | none => true) stNO_RESOURCE 0])
    (fun t => match courtOf court with
      | some c => t.arm o (.courtCreate c sup region (BitVec.ofNat 96 grant) places) 0 true false fun _ => false
      | none => t) s

/-- The command COURT_CREATE (R91). -/
def execCourtCreate (o : Origin) (court sup region grant i0 o0 c0 i1 o1 c1 i2 o2 c2 i3 o3 c3 : Nat) (s : State) : Out :=
  .next (cardCourtCreate o court sup region grant i0 o0 c0 i1 o1 c1 i2 o2 c2 i3 o3 c3 s)

/-- COURT_CREATE takes effect (R69, R91, R97): windows cleared and assigned, mailboxes placed, every right enabled. -/
def State.applyCreate (s : State) (c : CourtId) (sup region : Nat) (grant : BayMask) (places : List (Nat × Nat × Nat)) : State :=
  let place := fun (k : Court) (m : Fin 4) => match places[m.val]? with
    | some (i, ob, cf) => { k with mbx := vmod k.mbx m fun _ => Mailbox.reset.placed i ob cf }
    | none => k
  let s2 := s.onCourt c fun _ =>
    (List.finRange 4).foldl place { Court.absent with supKw := sup, regionWords := region, grant := grant }
  let s3 := s2.setWindows c region
  ((s3.clearWindows c).onCourt c fun k => { k with mask := rightsMask s3 c }).courtGo c .active

/- Restart and teardown (R92 to R94). -/

/-- COURT_RESTART (R92): from the next tick boundary; the answer follows completion. -/
def cardCourtRestart (o : Origin) (court : Nat) (s : State) : State :=
  cardLater o 0x0202 [16, 16, 64]
    (fun t => [need (o.court.val != 1 && o.court.val != 2) stNOT_PERMITTED 0, rng 1 (court < 16),
      need (court != 1 && court != 2 && (o.court.val == 0 || o.court.val == court)) stNOT_PERMITTED 1,
      need (match courtOf court with
        | some c => t.courts[c].state == .active && t.courts[c].next.isNone
        | none => false) stBAD_STATE 0])
    (fun t => match courtOf court with
      | some c => t.onCourt c fun k => { k with next := some .restarting, moveBy := if o.court = c then none else some o }
      | none => t) s

/-- The command COURT_RESTART (R92). -/
def execCourtRestart (o : Origin) (court : Nat) (s : State) : Out := .next (cardCourtRestart o court s)

/-- COURT_TEARDOWN (R94): from the next tick boundary; the answer follows completion. With DESTROY_KEYS the generation is burned first (R549). -/
def cardCourtTeardown (o : Origin) (court flags : Nat) (s : State) : State :=
  cardLater o 0x0203 [32]
    (fun t => [permit o [0], rng 1 (3 ≤ court && court ≤ 15), rng 2 (flags < 2),
      need (match courtOf court with
        | some c => t.courts[c].state == .active && t.courts[c].next.isNone && t.ownedMask c == 0
        | none => false) stBAD_STATE 0])
    (fun t => match courtOf court with
      | some c =>
        let burn := bitOf flags 0 && t.courtBurned c < 16
        let u := t.onCourt c fun k => { k with next := some .tearingDown, moveBy := some o, destroy := burn, burnBad := false }
        if burn then u.queueBurn (.teardownGen c) (some o) else u
      | none => t) s

/-- The command COURT_TEARDOWN (R94). -/
def execCourtTeardown (o : Origin) (court flags : Nat) (s : State) : Out := .next (cardCourtTeardown o court flags s)

/-- Step 1 of R93 for a bay: its session ends with COURT_RESTART and the bay is in safe state. -/
def State.bayRestart (s : State) (b : BayId) : State :=
  ((s.sessEnd b 0x09).settleSess b).onBay b fun y => { y with safeHold := true }

/-- Courts change state at a tick boundary (R69, R93, R94). -/
def State.courtBoundary (s : State) : State :=
  allCourts.foldl (fun t c => match t.courts[c].next with
    | none => t
    | some st =>
      let u := (t.onCourt c fun k => { k with next := none }).courtGo c st
      if st = .restarting then (baysIn (u.ownedMask c)).foldl State.bayRestart u else u) s

/-- The cells of a court are loaded anew with empty persistent state (R93): those of its bays, and the site cells for court 0. -/
def State.reloadCells (s : State) (c : CourtId) : State :=
  let s1 := (baysIn (s.ownedMask c)).foldl (fun (t : State) b => t.onBay b fun y => { y with grp := Grp.reset, grpCk := Grp.reset, staged := y.staged.filter fun e =>
    e.1 == 6 || e.1 == 7 || e.1 == 9 }) s
  if c.val = 0 then
    let s2 : State := { s1 with slac := Slac.reset, ledger := { s1.ledger with
      grants := Ledger.reset.grants, grantsCk := Ledger.reset.grants, site := Ledger.reset.site, acc := Ledger.reset.acc } }
    allBays.foldl (fun (t : State) b => t.onBay b fun y => { y with led := LedgerBay.reset, ledCk := LedgerBay.reset }) s2
  else s1

/-- COURT_RESTART_DONE (R93): the steps 2 to 4 are complete, and the court is ACTIVE again. -/
def execCourtRestartDone (c : CourtId) (s : State) : Out :=
  .next (if s.courts[c].state ≠ .restarting then s
    else
      let by_ := s.courts[c].moveBy
      let s1 := (s.reloadCells c).clearWindows c
      let s2 := s1.onCourt c fun k => { k with
        restarts := bump 16 k.restarts, mask := rightsMask s1 c, maskNext := none, mbx := k.mbx.map Mailbox.clear, records := [], lost := 0,
        inXfers := [], outXfers := [], moveBy := none }
      let s3 := s2.courtGo c .active
      match by_ with
      | some o => s3.ok o [16, 16, 64] [s3.courts[c].restarts, 0, s3.now]
      | none => s3)

/-- Whether a burn of a court's teardown is still to come. -/
def State.teardownBurns (s : State) (c : CourtId) : Bool := s.keys.burns.any fun b => b.field == .teardownGen c

/-- COURT_TEARDOWN_DONE (R94): windows cleared, key node closed, generation burned, and the court is ABSENT. -/
def execCourtTeardownDone (c : CourtId) (s : State) : Out :=
  .next (if s.courts[c].state ≠ .tearingDown ∨ s.teardownBurns c then s
    else
      let k := s.courts[c]
      let s1 := (s.clearWindows c).setWindows c 0
      let s2 : State := { s1 with
        certs := s1.certs.filter fun x => x.court != c,
        keys := { s1.keys with nodes := s1.keys.nodes.filter fun n => n.court != c, purposes := s1.keys.purposes.filter fun p => p.court != c } }
      let s3 := (s2.courtGo c .absent).onCourt c fun _ => Court.absent
      match k.moveBy with
      | some o => if k.burnBad then s3.refuse o stFAIL 0 [32] else s3.ok o [32] [0]
      | none => s3)

/-- COURT_STATUS (R95). -/
def cardCourtStatus (o : Origin) (court : Nat) (s : State) : State := courtReport o court (atCourt s) s
where
  /-- KEY_GEN of the court asked for. -/
  atCourt (s : State) : Nat := match courtOf court with
    | some c => s.reportedGen c
    | none => 0

/-- The command COURT_STATUS (R95). -/
def execCourtStatus (o : Origin) (court : Nat) (s : State) : Out := .next (cardCourtStatus o court s)

/- The end of a burn (R542). -/

/-- What a burn leaves where its verification fails: the bits that it set are a free part of those it was to set. -/
def Fuses.partly (old new : Fuses) (d : Nat) : Fuses :=
  { new with
    lifecycle := old.lifecycle ||| (new.lifecycle &&& BitVec.ofNat 64 d), fwSvn := old.fwSvn ||| (new.fwSvn &&& BitVec.ofNat 64 d),
    calKeyHash := old.calKeyHash ||| (new.calKeyHash &&& d), safeKeyHash := old.safeKeyHash ||| (new.safeKeyHash &&& d),
    courtGen := Vector.ofFn fun c : CourtId => old.courtGen[c] ||| (new.courtGen[c] &&& BitVec.ofNat 16 d) }

/-- The answer that a finished burn brings to the command that asked for it (R539, R542, R561, R654). -/
def State.burnAnswer (s : State) (f : BurnField) (o : Origin) (ok : Bool) : State :=
  let gen : Nat := match f with
    | .courtGen c => burnedBits s.keys.fuses.courtGen[c]
    | _ => 0
  match f with
  | .safeCommissioned => if ok then s.safeFused o else s.refuse o stFAIL 0 [32]
  | .teardownGen c => if ok then s else s.onCourt c fun k => { k with burnBad := true }
  | .joinGen _ => s
  | .fwSvn _ => if ok ∧ s.burnWaits o then s else s.raiseAnswer o ok
  | .kfwRevoke _ => if ok ∧ s.burnWaits o then s else s.raiseAnswer o ok
  | _ => if ok then s.ok o [8, 24] [gen, 0] else s.answer o.court o.mbx stFAIL 0 false (withValues [8, 24] [gen, 0])

/-- FUSE_BURN_DONE (R542): the burn at the head of the queue ends and is verified by read-back. -/
def execFuseBurnDone (verified : Bool) (s : State) : Out :=
  .next (match s.keys.burns with
    | [] => s
    | b :: _ =>
      let old := s.keys.fuses
      let s1 := s.burnOne b verified
      let s2 : State := if verified then s1
        else { s1.drawn with keys := { s1.keys with
          fuses := old.partly s1.keys.fuses s1.draw,
          genInForce := Vector.ofFn fun c : CourtId =>
            if 3 ≤ c.val then burnedBits (old.partly s1.keys.fuses s1.draw).courtGen[c] else s1.keys.genInForce[c],
          burns := s1.keys.burns.map fun x => if x.origin == b.origin then { x with origin := none } else x } }
      match b.origin with
      | some o => s2.burnAnswer b.field o verified
      | none => s2)

end Sys2Proof.Machine
end

