-- ==== Sys2Proof/Machine/Events.lean ====
section
/-! DEFINITION. The event controller and the PCI Express function: acknowledgement, hold-off, wake entries, resets of
the function (spec file 04). -/

namespace Sys2Proof.Machine

/-- Whether the windows of the CELL domain answer: READY is 1 and the CELL clock runs (R149). -/
def State.windowsLive (s : State) : Bool := s.host.ready && s.clock.cellRuns

/-- The group of a source. -/
def groupOf (src : Nat) : Fin 32 := ⟨src / 16 % 32, by omega⟩

/-- Acknowledge `count` occurrences of a source and start the hold-off timer of its group (R119, R120). -/
def EvtCtl.ack (e : EvtCtl) (now src count : Nat) : EvtCtl :=
  if h : src < 512 then
    let i : Fin 512 := ⟨src, h⟩
    let left := e.count[i] - count
    let m := BitVec.ofNat 512 (2 ^ src)
    let clears := left == 0 || e.sat.getLsbD src
    let g := groupOf src
    { e with
      count := e.count.set i left
      pend := if clears then e.pend &&& ~~~ m else e.pend
      sat := e.sat &&& ~~~ m
      holdUntil := e.holdUntil.set g (if e.holdoff[g] = 0 then none else some (now + e.holdoff[g])) }
  else e

/-- A write of EVT_ACK (R120, R121). -/
def State.evtAck (s : State) (src count : Nat) : State :=
  ({ s with evt := s.evt.ack s.now (src % 512) (count % 256) }).settleLine true

/-- EVT_ACK (R120). -/
def execEvtAck (src count : Nat) (s : State) : Out := .next (if s.windowsLive then s.evtAck src count else s)

/-- HOLDOFF_EXPIRE: a group's hold-off timer that has run its ticks stops, and the group may become ripe (R119). -/
def execHoldoffExpire (g : Fin 32) (s : State) : Out :=
  .next (match s.evt.holdUntil[g] with
    | some t => if t ≤ s.now then
        ({ s with evt := { s.evt with holdUntil := s.evt.holdUntil.set g none } }).settleLine false
      else s
    | none => s)

/-- A write of an EVT_WAKE entry: the copy changes at once and the write starts into the island (R123). -/
def State.wakeWrite (s : State) (i : Fin 32) (value : Nat) : State :=
  let w : WakeEntry := ⟨bitsOf value 0 9, bitOf value 31⟩
  { s with evt := { s.evt with wake := s.evt.wake.set i w,
                               wakeWrites := s.evt.wakeWrites.filter (fun p => p.1 != i.val) ++ [(i.val, w)] } }

/-- EVT_WAKE_WRITE (R123). -/
def execEvtWakeWrite (i : Fin 32) (value : Nat) (s : State) : Out :=
  .next (if s.windowsLive then s.wakeWrite i value else s)

/-- EVT_WAKE_COMMIT: the island takes the oldest write of an entry in flight (R123, R146). -/
def execEvtWakeCommit (s : State) : Out :=
  .next (match s.evt.wakeWrites with
    | [] => s
    | (i, w) :: rest =>
      if s.island.running then
        { s with evt := { s.evt with wakeWrites := rest },
                 island := { s.island with wake := vmod s.island.wake ⟨i % 32, by omega⟩ fun _ => w } }
      else s)

/-- Reset of the PCI Express function: Bus Master Enable and the MSI-X state (R103, R699). -/
def State.resetPcieFn (s : State) : State :=
  if s.host.port == .pcie then
    { s with host := { s.host with busMaster := false, msixMask := true, msixPending := false, msixAddr := 0,
                                   msixData := 0 } }
  else s

/-- PCIE_HOT_RESET: hot reset, link down or Function Level Reset (R103). -/
def execPcieHotReset (s : State) : Out := .next s.resetPcieFn

/-- PERST_ASSERT: the fundamental reset of the function, with the effect of R103 (R699). -/
def execPerstAssert (s : State) : Out := .next (s.resetPcieFn)

/-- BUS_MASTER_ENABLE (R103). -/
def execBusMasterEnable (on : Bool) (s : State) : Out :=
  .next (if s.host.port == .pcie then { s with host := { s.host with busMaster := on } } else s)

/-- TICK_LO_READ: a read of TICK_LO latches the upper half (R36). -/
def execTickLoRead (s : State) : Out :=
  .next (if s.windowsLive then
      { s with clock := { s.clock with tickHi := s.clock.tick / 2 ^ 32 % 2 ^ 32 },
               host := { s.host with lastRead := s.clock.tick % 2 ^ 32 } }
    else s)

end Sys2Proof.Machine
end

