-- ==== Sys2Proof/Machine/HostPort.lean ====
section
/-! DEFINITION. The register window BAR0: what a read returns and clears and what a write does, host-memory read failures, and the commands that read
and write registers (spec files 01, 02, 03, 04, 21, 24). -/

namespace Sys2Proof.Machine

/-- The word that a list of fields packs. -/
abbrev word32 (fs : List Field) : Nat := packFields fs % 2 ^ 32

/- Reads. -/

/-- DEV (R105, R681). -/
def State.readDev (s : State) (a : Nat) : State × Nat :=
  let h := s.host
  if a = 0x000 then (s, word32 [(16, 0x0960), (8, 0xB1), (2, h.port.code)])
  else if a = 0x004 then (s, word32 [(1, b2n h.ready), (1, b2n s.twin.en), (1, b2n s.twin.server)])
  else if a = 0x008 then (s, word32 [(8, h.myMinor), (8, h.myMajor), (16, h.myBuild)])
  else if a = 0x00C then
    ({ s with host := { h with dmaErrCount := 0 } },
     word32 [(1, b2n h.rdTimeout), (1, b2n h.rdRefused), (1, b2n h.rdPoison), (5, 0), (8, h.dmaErrCount)])
  else if a = 0x010 then (s, word32 [(1, 0), (2, h.lpState)])
  else (s, 0)

/-- The word of a last-word register (R597): `i` its word of three. -/
def LastWord.word (w : LastWord) (i : Nat) : Nat :=
  if i = 0 then w.tick % 2 ^ 32
  else if i = 1 then word32 [(16, w.code), (4, w.region), (3, w.block), (4, w.slot)]
  else w.data % 2 ^ 32

/-- ARCH_BASE (R30, R31, R597). -/
def State.readArch (s : State) (a : Nat) : State × Nat :=
  let k := s.faults.book
  if a = 0x000 then (s, 0xB1180810)
  else if h : 0x100 ≤ a ∧ a < 0x140 then
    let r : RegionId := ⟨(a - 0x100) / 4, by omega⟩
    let g := s.regions[r]
    (s.onRegion r fun g => { g with fwCount := 0 },
     word32 [(8, g.spareUsed.toNat), (8, g.blockFail.toNat), (1, b2n g.regionFail), (1, b2n g.fwViol), (6, 0), (8, g.fwCount)])
  else if a = 0x200 then (s.onFaults fun x => { x with book := { x.book with lwCount := 0 } }, s.faultStat % 2 ^ 32)
  else if a = 0x204 then (s, k.next % 2 ^ 32)
  else if a = 0x208 then (s, k.freezeTick % 2 ^ 32)
  else if a = 0x20C then (s, k.freezeTick / 2 ^ 32 % 2 ^ 32)
  else if 0x210 ≤ a ∧ a < 0x21C then (s, bitsOf s.degradedMask.toNat (8 * (a - 0x210)) 32)
  else if 0x220 ≤ a ∧ a < 0x22C then (s, bitsOf s.outMask.toNat (8 * (a - 0x220)) 32)
  else if h : 0x240 ≤ a ∧ a < 0x2A0 then (s, (k.lw[(a - 0x240) / 12]'(by omega)).word ((a - 0x240) % 12 / 4))
  else (s, 0)

/-- TIME_BASE (R36, R60): a read of TICK_LO latches TICK_HI. -/
def State.readTime (s : State) (a : Nat) : State × Nat :=
  let c := s.clock
  if a = 0x00 then ({ s with clock := { c with tickHi := c.tick / 2 ^ 32 % 2 ^ 32 } }, c.tick % 2 ^ 32)
  else if a = 0x04 then (s, c.tickHi)
  else if a = 0x08 then (s, word32 [(3, c.state.code), (2, c.source), (1, b2n c.epochSet), (1, b2n c.stepped)])
  else if a = 0x0C then (s, ubits 32 (satI 32 c.offsetNs))
  else if a = 0x10 then (s, ubits 32 c.freqPpb)
  else (s, 0)

/-- The groups for which a condition holds, as a word. -/
def groupWord (p : Fin 32 → Bool) : Nat := ((List.finRange 32).map fun g => b2n (p g) * 2 ^ g.val).sum

/-- EVT_TOP (R120, R122). -/
def EvtCtl.top (e : EvtCtl) : Nat :=
  match topSource e with
  | some i => if h : i < 512 then word32 [(9, i), (7, 0), (8, e.count[i]), (1, b2n (e.sat.getLsbD i)), (6, 0), (1, 1)] else 0
  | none => 0

/-- EVT_BASE (R122). -/
def State.readEvt (s : State) (a : Nat) : Nat :=
  let e := s.evt
  if a = 0x000 then e.top
  else if a = 0x008 then word32 [(1, b2n e.lineEn), (1, e.route)]
  else if a = 0x010 then groupWord fun g => ripe e g
  else if a = 0x014 then groupWord fun g => e.holdUntil[g].isSome
  else if h : 0x100 ≤ a ∧ a < 0x180 then e.holdoff[(a - 0x100) / 4]'(by omega)
  else if 0x200 ≤ a ∧ a < 0x240 then bitsOf e.en.toNat (8 * (a - 0x200)) 32
  else if 0x300 ≤ a ∧ a < 0x340 then bitsOf e.pend.toNat (8 * (a - 0x300)) 32
  else if h : 0x400 ≤ a ∧ a < 0x600 then
    word32 ((List.finRange 4).map fun i => (8, e.count[a - 0x400 - a % 4 + i.val]'(by omega)))
  else if h : 0x600 ≤ a ∧ a < 0x680 then
    let w := e.wake[(a - 0x600) / 4]'(by omega)
    word32 [(9, w.source), (22, 0), (1, b2n w.valid)]
  else 0

/-- A mailbox register (R77): its offset within the mailbox. MBX_BELL is write-only and reads as zero. -/
def State.readMbx (s : State) (c : CourtId) (m : MbxId) (a : Nat) : State × Nat :=
  let x := s.mbox c m
  if a = 0x00 then (s, x.inBase % 2 ^ 32)
  else if a = 0x04 then (s, x.inBase / 2 ^ 32 % 2 ^ 32)
  else if a = 0x08 then (s, x.outBase % 2 ^ 32)
  else if a = 0x0C then (s, x.outBase / 2 ^ 32 % 2 ^ 32)
  else if a = 0x10 then (s, word32 [(1, b2n x.en), (7, x.slotUnits), (4, x.inLog2), (4, x.outLog2)])
  else if a = 0x14 then (s, word32 [(16, x.inProd), (16, x.inCons)])
  else if a = 0x18 then (s, word32 [(16, x.outProd), (16, x.outCons)])
  else if a = 0x20 then (s.onMbx c m fun x => { x with crcCount := 0 }, s.mbxStat c m % 2 ^ 32)
  else if a = 0x24 then (s, x.expectSeq)
  else (s, 0)

/-- A court page (R77, R78). -/
def State.readPage (s : State) (c : CourtId) (a : Nat) : State × Nat :=
  if h : a < 0x100 then s.readMbx c ⟨a / 0x40, by omega⟩ (a % 0x40)
  else if a = 0x100 then
    (s, word32 [(2, s.courts[c].state.code), (6, 0), (7, popBays (s.ownedMask c)), (1, 0), (16, s.courts[c].restarts)])
  else (s, 0)

/-- The MSI-X table and pending bit array (R104). -/
def State.readMsix (s : State) (a : Nat) : Nat :=
  let h := s.host
  if a = 0x30000 then h.msixAddr % 2 ^ 32
  else if a = 0x30004 then h.msixAddr / 2 ^ 32 % 2 ^ 32
  else if a = 0x30008 then h.msixData % 2 ^ 32
  else if a = 0x3000C then b2n h.msixMask
  else if a = 0x31000 then b2n h.msixPending
  else 0

/-- A read of BAR0 (R104): the state after it, with read-to-clear fields cleared, and its value. -/
def State.regRead (s : State) (a : Nat) : State × Nat :=
  if a < 0x1000 then s.readDev a
  else if a < 0x2000 then s.readArch (a - 0x1000)
  else if a < 0x3000 then s.readTime (a - 0x2000)
  else if 0x4000 ≤ a ∧ a < 0x5000 then (s, s.readEvt (a - 0x4000))
  else if h : 0x10000 ≤ a ∧ a < 0x20000 then s.readPage ⟨(a - 0x10000) / 0x1000, by omega⟩ (a % 0x1000)
  else (s, s.readMsix a)

/- Writes. -/

/-- DEV (R105, R677, R681). -/
def State.writeDev (s : State) (a v : Nat) : State :=
  if a = 0x00C then
    { s with host := { s.host with
        rdTimeout := s.host.rdTimeout && !bitOf v 0, rdRefused := s.host.rdRefused && !bitOf v 1, rdPoison := s.host.rdPoison && !bitOf v 2 } }
  else if a = 0x010 then (if s.host.port == .pcie && bitOf v 0 && s.island.lowPower == 1 then s.wakeBy 2 0 else s)
  else s

/-- REGION_STAT (R31): FW_VIOL is cleared by writing 1. -/
def State.writeArch (s : State) (a v : Nat) : State :=
  if h : 0x100 ≤ a ∧ a < 0x140 then
    s.onRegion ⟨(a - 0x100) / 4, by omega⟩ fun g => { g with fwViol := g.fwViol && !bitOf v 17 }
  else s

/-- TIME_BASE (R60): STEPPED is cleared by writing 1. -/
def State.writeTime (s : State) (a v : Nat) : State :=
  if a = 0x08 then { s with clock := { s.clock with stepped := s.clock.stepped && !bitOf v 6 } } else s

/-- Replace one 32-bit word of EVT_EN. -/
def putWord512 (m : BitVec 512) (i v : Nat) : BitVec 512 :=
  (m &&& ~~~ (BitVec.ofNat 512 (2 ^ 32 - 1) <<< (32 * i))) ||| (BitVec.ofNat 512 (v % 2 ^ 32) <<< (32 * i))

/-- EVT_BASE (R119 to R123): a hold-off of groups 30 and 31 above 1,000 is stored as 1,000; ROUTE 1 is ignored with host Ethernet. -/
def State.writeEvt (s : State) (a v : Nat) : State :=
  let put := fun (f : EvtCtl → EvtCtl) => ({ s with evt := f s.evt }).settleLine false
  if a = 0x004 then s.evtAck (bitsOf v 0 9) (bitsOf v 16 8)
  else if a = 0x008 then
    put fun e => { e with lineEn := bitOf v 0, route := if bitOf v 1 then (if s.host.port == .pcie then 1 else e.route) else 0 }
  else if h : 0x100 ≤ a ∧ a < 0x180 then
    let g := (a - 0x100) / 4
    put fun e => { e with holdoff := e.holdoff.set g (if 30 ≤ g then min 1000 (v % 2 ^ 16) else v % 2 ^ 16) (by omega) }
  else if 0x200 ≤ a ∧ a < 0x240 then put fun e => { e with en := putWord512 e.en ((a - 0x200) / 4) v }
  else if h : 0x600 ≤ a ∧ a < 0x680 then s.wakeWrite ⟨(a - 0x600) / 4, by omega⟩ v
  else s

/-- CFG of a mailbox of court 0 (R77): all fields while EN is 0, EN alone while it is 1. -/
def State.writeCfg (s : State) (m : MbxId) (v : Nat) : State :=
  if (s.mbox 0 m).en then (if bitOf v 0 then s else s.closeMbx 0 m)
  else
    s.onMbx 0 m fun x =>
      let y := { x with slotUnits := bitsOf v 1 7, inLog2 := bitsOf v 8 4, outLog2 := bitsOf v 12 4 }
      if bitOf v 0 then { y.clear with en := true } else y

/-- A half of a ring base (R77): address bits [5:0] stay zero. -/
def setHalf (old : Nat) (hi : Bool) (v : Nat) : Nat :=
  if hi then old % 2 ^ 32 + 2 ^ 32 * (v % 2 ^ 32) else old / 2 ^ 32 * 2 ^ 32 + (v % 2 ^ 32 - v % 64)

/-- A mailbox register (R77, R79): bases and CFG can be written in court 0's page only, bases only while EN is 0. -/
def State.writeMbx (s : State) (c : CourtId) (m : MbxId) (a v : Nat) : State :=
  let base := c.val == 0 && !(s.mbox c m).en
  if a = 0x00 ∨ a = 0x04 then
    (if base then s.onMbx c m fun x => { x with inBase := setHalf x.inBase (a == 0x04) v } else s)
  else if a = 0x08 ∨ a = 0x0C then
    (if base then s.onMbx c m fun x => { x with outBase := setHalf x.outBase (a == 0x0C) v } else s)
  else if a = 0x10 then (if c.val = 0 then s.writeCfg m v else s)
  else if a = 0x1C then ringBell c m (bitOf v 15) (bitsOf v 0 13) s
  else if a = 0x20 then
    s.onMbx c m fun x => { x with
      crcErr := x.crcErr && !bitOf v 0, bellErr := x.bellErr && !bitOf v 1, evtLost := x.evtLost && !bitOf v 3 }
  else s

/-- The MSI-X table (R121): an entry that is unmasked sends what is pending. -/
def State.writeMsix (s : State) (a v : Nat) : State :=
  let h := s.host
  if a = 0x30000 then { s with host := { h with msixAddr := h.msixAddr / 2 ^ 32 * 2 ^ 32 + v % 2 ^ 32 } }
  else if a = 0x30004 then { s with host := { h with msixAddr := h.msixAddr % 2 ^ 32 + 2 ^ 32 * (v % 2 ^ 32) } }
  else if a = 0x30008 then { s with host := { h with msixData := v % 2 ^ 32 } }
  else if a = 0x3000C then
    let send := !bitOf v 0 && h.msixPending
    { s with host := { h with
        msixMask := bitOf v 0, msixPending := h.msixPending && bitOf v 0, msixSent := h.msixSent + b2n send } }
  else s

/-- A write of BAR0 (R104): an offset not listed ignores it. -/
def State.regWrite (s : State) (a v : Nat) : State :=
  if a < 0x1000 then s.writeDev a v
  else if a < 0x2000 then s.writeArch (a - 0x1000) v
  else if a < 0x3000 then s.writeTime (a - 0x2000) v
  else if 0x4000 ≤ a ∧ a < 0x5000 then s.writeEvt (a - 0x4000) v
  else if h : 0x10000 ≤ a ∧ a < 0x20000 then
    (if g : a % 0x1000 < 0x100 then s.writeMbx ⟨(a - 0x10000) / 0x1000, by omega⟩ ⟨a % 0x1000 / 0x40, by omega⟩ (a % 0x40) v else s)
  else s.writeMsix a v

/-- Whether a host access to an offset reaches its register (R101, R149): over PCI Express, aligned; DEV and the MSI-X structures always, the
other windows while READY is 1 and the CELL clock runs. -/
def State.barReach (s : State) (a : Nat) : Bool :=
  s.host.port == .pcie && a % 4 == 0 && (a < 0x1000 || 0x30000 ≤ a || s.windowsLive)

/-- REGISTER_WRITE (R104). -/
def execRegisterWrite (offset value : Nat) (s : State) : Out :=
  .next (if s.barReach offset then s.regWrite offset value else s)

/-- READ_CLEAR (R8): a host read, which clears the read-to-clear fields of its register. -/
def execReadClear (offset : Nat) (s : State) : Out :=
  .next (if s.barReach offset then
      let r := s.regRead offset
      { r.1 with host := { r.1.host with lastRead := r.2 } }
    else s)

/-- HOST_READ_FAIL (R102): `bit` is the HOST_ERR bit, `served` what the read served (1 mailbox ring, 2 bay table entry, 3 display frame). -/
def execHostReadFail (bit : Fin 3) (served : Fin 4) (c : CourtId) (s : State) : Out :=
  .next (if served = 0 then s
    else
      let h := s.host
      ({ s with host := { h with
          rdTimeout := h.rdTimeout || bit == 0, rdRefused := h.rdRefused || bit == 1, rdPoison := h.rdPoison || bit == 2,
          dmaErrCount := bump 8 h.dmaErrCount } }).raiseNow 470 0x0101 (2 ^ bit.val + 2 ^ 4 * served.val + 2 ^ 8 * c.val))

/- Commands (R108, R109). -/

/-- The range of OFFSET (R108). -/
def offsetOk (a : Nat) : Bool := a % 4 == 0 && a < 0x10000

/-- REG_READ (R108). -/
def cardRegRead (o : Origin) (offset : Nat) (s : State) : State :=
  card o 0x0101 [32] (fun _ => [permit o [0], rng 1 (offsetOk offset)])
    (fun t => let r := t.regRead offset; (r.1, [r.2])) s

/-- The command REG_READ (R108). -/
def execRegRead (o : Origin) (offset : Nat) (s : State) : Out := .next (cardRegRead o offset s)

/-- REG_WRITE (R109). -/
def cardRegWrite (o : Origin) (offset value : Nat) (s : State) : State :=
  card o 0x0102 [] (fun _ => [permit o [0], rng 1 (offsetOk offset)]) (fun t => (t.regWrite offset value, [])) s

/-- The command REG_WRITE (R109). -/
def execRegWrite (o : Origin) (offset value : Nat) (s : State) : Out := .next (cardRegWrite o offset value s)

end Sys2Proof.Machine
end

