-- ==== Sys2Proof/Machine/Modulator.lean ====
section
/-! DEFINITION. Modulator planning and the shoot-through interlock (spec file 10). -/

namespace Sys2Proof.Machine

/-- LEG_MODE of a leg (R276, R289). -/
def Bay.legMode (y : Bay) (l : Nat) : Nat := y.ent 194 2 / 4 ^ l % 4

/-- Whether a leg is used (R276). -/
def Bay.legUsed (y : Bay) (l : Nat) : Bool := y.hasConverter && bitOf (y.ent 192 1) l

/-- The carrier period in units, at least 1. -/
def Bay.carrier (y : Bay) : Nat := max 1 (y.ent 200 4)

/-- A time in ps as units of 1/65,536 tick, rounded up (R279, R280). -/
def psToUnits (ps : Nat) : Nat := (ps * 65536 + 999999) / 1000000

/-- The dead time in units that planner and interlock use (R279, R284). -/
def Bay.dtU (y : Bay) : Nat := psToUnits y.dtPlan

/-- The lowest conduction time in units (R280). -/
def Bay.mpU (y : Bay) : Nat := psToUnits (y.ent 208 4)

/- Planning (R278 to R281). -/

/-- A value of a channel as XSEL picks it (R277). -/
def selectX (l : List Int) (xsel : Nat) : Int :=
  if xsel = 0 then imean l else if xsel = 1 then imean (l.drop 40) else l.getD 79 0

/-- The duty of a leg (R278). -/
def Bay.duty (y : Bay) (d : LegDemand) (x : Int) : Nat :=
  (min (max ((d.d0 : Int) + d.kc * (d.x0 - x) / 65536) (y.ent 204 2)) (y.ent 206 2)).toNat

/-- The first instant from `lo` on at which a carrier period of a leg starts (R279). -/
def Bay.firstStart (y : Bay) (l lo : Nat) : Nat :=
  let p := y.carrier
  let off := y.ent (212 + l) 1 * p / 256
  lo + (off + p - lo % p) % p

/-- The starts of the carrier periods of a leg in [lo, hi), at most `n`. -/
def periodStarts (p hi : Nat) : Nat → Nat → List Nat
  | 0, _ => []
  | n + 1, u => if u < hi then u :: periodStarts p hi n (u + p) else []

/-- The edges of one period (R279, R280), given the state of the leg at its start, and whether it dropped a pulse or its off
interval. -/
def Bay.periodEdges (y : Bay) (l u duty st : Nat) : List (Nat × Nat) × Bool :=
  let p := y.carrier
  let w := duty * p / 65536
  let up := u + p / 2 - w / 2
  let down := up + w
  let dt := y.dtU
  let mp := y.mpU
  let m := y.legMode l
  if m = 0 then
    if w < dt + mp then ([], true)
    else if p < w + dt + mp then (if st = 2 then [] else [(up, 0), (up + dt, 2)], true)
    else ([(up, 0), (up + dt, 2), (down, 0), (down + dt, 1)], false)
  else
    let on := if m = 1 then 2 else 1
    if w < mp then ([], true)
    else if p < w + mp then (if st = on then [] else [(up, on)], true)
    else ([(up, on), (down, 0)], false)

/-- The state of a leg after edges. -/
def stateAfter (st : Nat) (edges : List (Nat × Nat)) : Nat := (edges.getLast?.map Prod.snd).getD st

/-- Add the periods that start in the governed tick to a plan (R279, R280). -/
def Bay.addPeriods (y : Bay) (l duty : Nat) : LegPlan → List Nat → LegPlan
  | pl, [] => pl
  | pl, u :: t =>
    let r := y.periodEdges l u duty (stateAfter pl.st pl.edges)
    y.addPeriods l duty { pl with edges := pl.edges ++ r.1, dropped := if r.2 then bump 32 pl.dropped else pl.dropped } t

/-- An edge that falls at 65,535 of a tick moves to 0 of the next (R281). -/
def moveEdge (e : Nat × Nat) : Nat × Nat := if e.1 % 65536 = 65535 then (e.1 + 1, e.2) else e

/-- Edges that change nothing are left out (R281). -/
def realEdges (st : Nat) : List (Nat × Nat) → List (Nat × Nat)
  | [] => []
  | (i, g) :: t => if g = st then realEdges st t else (i, g) :: realEdges g t

/-- The leg command of up to four edges with instants relative to their tick (R162, R281). -/
def legCmdOf (edges : List (Nat × Nat)) : LegCmd :=
  let four := edges.take 4
  let n := 4 - four.length
  ⟨four.map Prod.snd ++ List.replicate n 0, four.map (·.1 % 65536) ++ List.replicate n 0xFFFF⟩

/-- Hold a leg off: 0b00 at 0 if it conducts, no edge otherwise (R281, R283). -/
def heldOff (conducts : Bool) : LegCmd := if conducts then ⟨[0, 0, 0, 0], [0, 0xFFFF, 0xFFFF, 0xFFFF]⟩ else LegCmd.none

/-- Plan one running leg for governed tick `t` (R279 to R281). -/
def Bay.planLeg (y : Bay) (l t duty from_ : Nat) (pl : LegPlan) : LegPlan × LegCmd :=
  let lo := 65536 * t
  let hi := lo + 65536
  let starts := (periodStarts y.carrier hi 3 (y.firstStart l lo)).filter (from_ ≤ ·)
  let p1 := y.addPeriods l duty pl starts
  let edges := p1.edges.map moveEdge
  let now := realEdges p1.st ((edges.filter fun e => e.1 < hi).filter fun e => lo ≤ e.1)
  ({ p1 with edges := edges.filter fun e => hi ≤ e.1, st := stateAfter p1.st now, edgesSent := p1.edgesSent + now.length },
    legCmdOf now)

/-- The end of a boot pulse in units (R286). -/
def Bay.bootU (y : Bay) : Nat := (y.ent 220 2 * 65536 + 999) / 1000

/-- Whether the legs may switch: the enable conditions of R286, from committed values. -/
def State.modEnabled (s : State) (b : BayId) : Bool :=
  let y := s.bays[b]
  y.hasConverter && (if y.kind = 1 then y.grpCk.session.converter != 0 else y.ledCk.portEn) && y.serving &&
  !y.headStopped && (s.stopCauses b).isEmpty && !y.ilk.trip

/-- The modulator changes its state, with MOD_STATE (R286, R292). -/
def State.modTo (s : State) (b : BayId) (st : ModSt) : State :=
  let old := s.bays[b].grp.mod.st
  if old = st then s
  else (s.onMod b fun m => { m with st := st }).stage b 3 ⟨b.val, 0x0701, st.code + 2 ^ 8 * old.code, s.now⟩

/-- The change of state at the start of a compute tick (R286). -/
def State.modEnter (s : State) (b : BayId) : State :=
  let y := s.bays[b]
  let m := y.grp.mod
  if y.ilk.trip then s.modTo b .tripped
  else if m.st = .tripped then s.modTo b .off
  else if !s.modEnabled b then s.modTo b .off
  else if m.st = .off then
    let n := y.ent 222 1
    (s.onMod b fun m => { m with bootLeft := n, firstPeriod := 0 }).modTo b (if n = 0 then .run else .boot)
  else s

/-- MOD_BOOT_DONE (R286): BOOT_TICKS ticks are done. -/
def execModBootDone (b : BayId) (s : State) : Out :=
  let m := s.bays[b].grp.mod
  .next (if m.st = .boot ∧ m.bootLeft = 0 then s.modTo b .run else s)

/-- The demand record the planner uses: none where its header is older than two ticks (R278). -/
def Bay.demandOf (y : Bay) (now l : Nat) : LegDemand :=
  if y.grpCk.loops.recordTick + 2 < now then LegDemand.off else y.grpCk.loops.record.getD l LegDemand.off

/-- Whether the planner finds the loops tripped: latched, or by its own checks on the frame of this tick (R306, R310). -/
def State.plannerTrip (s : State) (b : BayId) : Bool :=
  let y := s.bays[b]
  let st := y.grp.mod.st
  y.grpCk.loops.trip != 0 ||
  !((y.loopChecks y.grpCk.loops (st == .run || st == .boot) (st == .run) y.grpCk.mod.idle s.now).2).isEmpty

/-- The command of one leg and its plan in a compute tick (R278 to R281, R286, R310). -/
def State.planOne (s : State) (b : BayId) (l : Fin 8) : LegPlan × LegCmd × Bool :=
  let y := s.bays[b]
  let m := y.grp.mod
  let pl := m.plans[l]
  let t := s.now + 1
  let off := ({ pl with edges := [], st := 0 }, heldOff (pl.st != 0), true)
  if !y.legUsed l.val || s.plannerTrip b then off
  else match m.st with
    | .run =>
      let d := y.demandOf s.now l.val
      match d.run, m.lastFrame with
      | true, some f =>
        let r := y.planLeg l.val t (y.duty d (selectX (UpFrame.chan f d.ch) d.xsel)) m.firstPeriod pl
        (r.1, r.2, r.1.dropped != pl.dropped)
      | _, _ => off
    | .boot =>
      if m.bootLeft = 0 ∨ y.legMode l.val = 1 ∨ y.bootU = 0 then off
      else ({ pl with edges := [], st := 0 }, legCmdOf [(0, 1), (y.bootU, 0)], true)
    | _ => off

/-- A MOD_PULSE that is due is staged in place of its leg's command (R291). -/
def State.stagePulse (s : State) (b : BayId) : State :=
  let m := s.bays[b].grp.mod
  match m.pulse with
  | p :: rest =>
    if p.from_ ≤ s.now ∧ p.leg < 8 then
      let end_ := ((p.cmd.tgt.zip p.cmd.edge).filter fun e => e.2 != 0xFFFF).getLast?.map Prod.fst
      s.onMod b fun m => { m with
        pulse := rest, pulseOut := some p, staged := m.staged.set p.leg p.cmd,
        plans := if h : p.leg < 8 then vmod m.plans ⟨p.leg, h⟩ fun x => { x with st := end_.getD x.st } else m.plans }
    else s.onMod b fun m => { m with pulseOut := none }
  | [] => s.onMod b fun m => { m with pulseOut := none }

/-- Whether a leg command commands no conduction. -/
def LegCmd.isOff (c : LegCmd) : Bool := (c.tgt.zip c.edge).all fun e => e.1 == 0 || e.2 == 0xFFFF

/-- REARM (R287). -/
def State.rearmOf (s : State) (b : BayId) : Bool :=
  let y := s.bays[b]
  y.inUse && y.headStopped && y.link.status.isSome && 8 ≤ y.orders.length && (y.orders.take 8).all (·.1 == 0) &&
  y.grp.mod.st == .off && y.grp.mod.staged.all LegCmd.isOff

/-- The compute tick of the modulator planning cell (R278 to R281, R286, R287, R291). -/
def State.modTick (s : State) (b : BayId) : State :=
  let s1 := (s.onMod b fun m => { m with
    lastFrame := match s.bays[b].link.frame with
      | some f => some f
      | none => m.lastFrame }).modEnter b
  let m := s1.bays[b].grp.mod
  let r := (List.finRange 8).map fun l => (l, s1.planOne b l)
  let idleNow := (r.filter fun x => x.2.2.2).map fun x => (x.1.val, s.now + 1)
  let booting := m.st == .boot && m.bootLeft != 0
  let s2 := s1.onMod b fun m => { m with
    plans := Vector.ofFn fun l => (s1.planOne b l).1,
    staged := r.map fun x => x.2.2.1, stagedFor := s.now + 1,
    idle := idleNow ++ m.idle.filter fun x => s.now < x.2 + 96,
    bootLeft := if booting then m.bootLeft - 1 else m.bootLeft,
    firstPeriod := if booting then 65536 * (s.now + 1) + s1.bays[b].bootU + s1.bays[b].dtU else m.firstPeriod }
  let s3 := s2.stagePulse b
  s3.onMod b fun m => { m with rearm := s3.rearmOf b }

/- The interlock (R282 to R285). -/

/-- Whether the slots of a command are in the order that R282 asks for. -/
def slotsOk : Option Nat → Bool → List (Nat × Nat) → Bool
  | _, _, [] => true
  | last, gap, (g, e) :: t =>
    if e = 0xFFFF then g == 0 && slotsOk last true t
    else !gap && (match last with
      | some p => decide (p < e)
      | none => true) && slotsOk (some e) gap t

/-- Whether a leg mode turns a target on (R276, R282). -/
def modeAllows (mode g : Nat) : Bool := g == 0 || (g == 2 && mode != 2) || (g == 1 && mode != 1)

/-- One pass of the check of R282 over the used slots: the history after it, or the code of the first failure. -/
def ilkPass (dt : Nat) (used : Bool) (mode : Nat) : LegHist → List (Nat × Nat) → Except Nat LegHist
  | h, [] => .ok h
  | h, (g, e) :: t =>
    if g = 3 then .error 1
    else if !used || !modeAllows mode g then .error 5
    else if (g = 2 ∧ h.st = 1) ∨ (g = 1 ∧ h.st = 2) then .error 3
    else if g = 2 ∧ h.st ≠ 2 ∧ (e : Int) - h.offLo < dt then .error 3
    else if g = 1 ∧ h.st ≠ 1 ∧ (e : Int) - h.offHi < dt then .error 3
    else
      ilkPass dt used mode
        ⟨g, if h.st = 2 ∧ g ≠ 2 then e else h.offHi, if h.st = 1 ∧ g ≠ 1 then e else h.offLo⟩ t

/-- A history seen from the next tick (R282). -/
def LegHist.shift (h : LegHist) : LegHist := ⟨h.st, max (-262144) (h.offHi - 65536), max (-262144) (h.offLo - 65536)⟩

/-- The used slots of a command. -/
def LegCmd.used (c : LegCmd) : List (Nat × Nat) := (c.tgt.zip c.edge).filter fun e => e.2 != 0xFFFF

/-- The verdict of the interlock on a leg command: 0 passes, else the code of R282. -/
def Bay.ilkCheck (y : Bay) (l : Nat) (h : LegHist) (c : LegCmd) : Nat :=
  if !slotsOk none false (c.tgt.zip c.edge) then 2
  else match ilkPass y.dtU (y.legUsed l) (y.legMode l) h (LegCmd.used c) with
    | .error k => k
    | .ok h1 =>
      match ilkPass y.dtU (y.legUsed l) (y.legMode l) h1.shift (LegCmd.used c) with
      | .error k => if k = 3 ∨ k = 5 then 4 else k
      | .ok _ => 0

/-- The history of a leg after a command that was sent. -/
def LegHist.after (h : LegHist) (c : LegCmd) : LegHist :=
  ((LegCmd.used c).foldl (fun (x : LegHist) e =>
    ⟨e.1, if x.st = 2 ∧ e.1 ≠ 2 then (e.2 : Int) else x.offHi, if x.st = 1 ∧ e.1 ≠ 1 then (e.2 : Int) else x.offLo⟩) h).shift

/-- The history of a leg after a frame that stops it, or that carries no command (R283). -/
def LegHist.stopped : LegHist := ⟨0, 0, 0⟩

/-- Attempts in the window of R285 that ends with a tick. -/
def Ilk.attempts (k : Ilk) (t : Nat) : Nat := (k.stamps.filter fun x => t < x + 1000000 ∧ x ≤ t).length

/-- The entries of the edge report that leg commands cause (R288): EDGE_T, leg, high-side, turn-on. -/
def reportEntries (h : LegHist) (l : Nat) (c : LegCmd) : List (Nat × Nat × Bool × Bool) :=
  ((LegCmd.used c).foldl (fun (x : Nat × List (Nat × Nat × Bool × Bool)) e =>
    if e.1 = x.1 then x
    else (e.1, x.2 ++ (if x.1 = 0 then [] else [(e.2, l, x.1 == 2, false)]) ++
      (if e.1 = 0 then [] else [(e.2, l, e.1 == 2, true)]))) (h.st, [])).2

/-- Insert a report entry by EDGE_T, then by leg (R288). -/
def insertEntry (a : Nat × Nat × Bool × Bool) : List (Nat × Nat × Bool × Bool) → List (Nat × Nat × Bool × Bool)
  | [] => [a]
  | x :: t => if a.1 < x.1 ∨ (a.1 = x.1 ∧ a.2.1 < x.2.1) then a :: x :: t else x :: insertEntry a t

/-- The answer of a MOD_PULSE whose command has passed the outlet (R291). -/
def State.pulseAnswer (s : State) (b : BayId) : State :=
  match s.bays[b].grp.mod.pulseOut with
  | none => s
  | some p =>
    let r := s.bays[b].ilk.result.getD p.leg 0
    let st := if (r != 0) == p.expect_ then stOK else stFAIL
    (s.onMod b fun m => { m with pulseOut := none }).answer p.origin.court p.origin.mbx st 0 false
      [(8, r), (24, 0), (64, s.now + 1)]

/-- The interlock's part of OUTLET_BUILD (R282 to R285, R288). -/
def State.interlock (s : State) (b : BayId) : State :=
  let y := s.bays[b]
  let k := y.ilk
  let m := y.grp.mod
  let t := s.now + 1
  let legs := List.finRange 8
  let cmd := fun (l : Fin 8) => if m.stagedFor = t then m.staged.getD l.val LegCmd.none else heldOff (k.hist[l].st != 0)
  let codes := legs.map fun l => if k.trip then 0 else y.ilkCheck l.val k.hist[l] (cmd l)
  let pulseLeg := m.pulseOut.map (·.leg)
  let sent := legs.map fun l => if k.trip || codes.getD l.val 0 != 0 then heldOff (k.hist[l].st != 0) else cmd l
  let bad := legs.filter fun l => codes.getD l.val 0 != 0
  let tried := bad.filter fun l => pulseLeg != some l.val
  let mask := (bad.map fun l => 2 ^ l.val).sum
  let maskT := (tried.map fun l => 2 ^ l.val).sum
  let code := match tried with
    | l :: _ => codes.getD l.val 0
    | [] => 0
  let stamps := (k.stamps.filter fun x => t < x + 1000000) ++ tried.map fun _ => t
  let k1 : Ilk := { k with
    built := sent, builtFor := t, rejected := mask, stamps := stamps, result := codes,
    lastCode := if tried.isEmpty then k.lastCode else code,
    lastReject := if tried.isEmpty then k.lastReject else t,
    rejects := tried.foldl (fun v l => vmod v l (bump 32)) k.rejects,
    testRejects := satN 32 (k.testRejects + (bad.length - tried.length)) }
  let trips := !tried.isEmpty && 3 ≤ k1.attempts t
  let k2 : Ilk := if trips then { k1 with trip := true, trips := bump 32 k1.trips } else k1
  let entries := (legs.flatMap fun l => reportEntries k.hist[l] l.val (sent.getD l.val LegCmd.none)).foldl
    (fun l e => insertEntry e l) []
  let rep : EdgeReport := ⟨t, mask, entries⟩
  let s1 := (s.onIlk b fun _ => k2).onMod b fun m => { m with
    reports := rep :: m.reports.filter fun r => r.tick % 8 != t % 8 }
  let s2 := if tried.isEmpty then s1
    else s1.raise ⟨96 + b.val, 0x0702, maskT + 2 ^ 8 * code + 2 ^ 16 * satN 8 (k1.attempts t), t⟩
  if trips then s2.raise ⟨96 + b.val, 0x0703, maskT + 2 ^ 8 * code, t⟩ else s2

/-- The history advances with the frame that leaves (R283): 0 a data frame, 1 a hold frame, else one without commands; a stop
leaves every leg off. -/
def Ilk.advance (k : Ilk) (frame : Nat) (stop : Bool) : Ilk :=
  if stop ∨ 1 < frame then { k with hist := Vector.replicate 8 LegHist.stopped, sent := if frame = 0 then k.built else k.sent }
  else if frame = 0 then
    { k with
      sent := k.built, hist := Vector.ofFn fun l => (k.hist[l]).after (k.built.getD l.val LegCmd.none),
      edges := Vector.ofFn fun l => satN 32 (k.edges[l] + (LegCmd.used (k.built.getD l.val LegCmd.none)).length) }
  else { k with hist := Vector.ofFn fun l => (k.hist[l]).after (k.sent.getD l.val LegCmd.none) }

/- The records in the exchange area (R277, R288). -/

/-- The block of a cell of a bay (R15): ten cells a bay, eight a block. -/
def blockOf (b : BayId) (off : Nat) : Nat := (10 * (b.val % 6) + off) / 8

/-- The word address of an offset in a block's store (R22). -/
def blockWord (blk off : Nat) : Nat := 0x10000 + 0x4000 * blk + off

/-- The words of a leg demand record (R277). -/
def recordWords (c : Nat) (legs : List LegDemand) : List Nat :=
  (c % 2 ^ 48) :: legs.map fun d =>
    packFields [(16, d.d0), (32, ubits 32 d.kc), (16, ubits 16 d.x0), (4, d.ch), (2, d.xsel), (1, b2n d.run), (1, 0)]

/-- Three entries to a word, each of 24 bits (R288). -/
def entryWords : Nat → List (Nat × Nat × Bool × Bool) → List Nat
  | 0, _ => []
  | n + 1, l =>
    packFields ((l.take 3).flatMap fun e => [(16, e.1), (3, e.2.1), (1, b2n e.2.2.1), (1, b2n e.2.2.2), (3, 0)]) ::
      entryWords n (l.drop 3)

/-- The words of an edge report (R288). -/
def EdgeReport.words (r : EdgeReport) : List Nat :=
  packFields [(48, r.tick), (6, r.entries.length), (8, r.subst), (10, 0)] :: entryWords 11 r.entries

/-- The records of a bay are written into the exchange areas when its output group is released (R45, R277, R288). -/
def State.modRecords (s : State) (b : BayId) : State :=
  let g := s.bays[b].grp
  let r := regionOf b
  let c := g.loops.recordTick
  let m1 := memPutWords s.mem.cells r (blockWord (blockOf b 3) (0x3080 + 9 * (c % 2))) (recordWords c g.loops.record)
  let m2 := match g.mod.reports.head? with
    | some e => memPutWords m1 r (blockWord (blockOf b 0) (0x3000 + 12 * (e.tick % 8))) e.words
    | none => m1
  { s with mem := { s.mem with cells := m2 } }

/- Commands (R290, R291). -/

/-- MOD_STATUS (R290). -/
def cardModStatus (o : Origin) (bay : Nat) (s : State) : State :=
  card o 0x0701 ([8, 8, 8, 8, 32] ++ List.replicate 24 32 ++ [32, 32, 8, 8, 16, 64, 32])
    (fun t => [bayPermit o [0, 2] 1 bay t, rng 1 (bay < 96)])
    (fun t => (t, atBay bay [] fun b =>
      let y := t.bays[b]
      let m := y.grpCk.mod
      let k := y.ilk
      [m.st.code, if y.hasConverter then y.ent 192 1 else 0, satN 8 (k.attempts t.now), k.lastCode,
        if y.hasConverter then y.dtPlan else 0] ++
      (List.finRange 8).flatMap (fun l => [k.edges[l], k.rejects[l], (m.plans[l]).dropped]) ++
      [k.trips, k.testRejects, (m.lastFrame.map (·.dtClamp)).getD 0, (m.lastFrame.map (·.legRej)).getD 0, 0, k.lastReject,
        t.gens.bay[b]])) s

/-- The command MOD_STATUS (R290). -/
def execModStatus (o : Origin) (bay : Nat) (s : State) : Out := .next (cardModStatus o bay s)

/-- MOD_PULSE (R291). -/
def cardModPulse (o : Origin) (bay leg flags tgt : Nat) (edges : List Nat) (s : State) : State :=
  cardLater o 0x0702 [8, 24, 64]
    (fun t => [permit o [0], rng 1 (bay < 96), rng 2 (leg < 8 && atBay bay true fun b => t.bays[b].legUsed leg),
      rng 3 (flags < 2),
      need (atBay bay true fun b =>
        let y := t.bays[b]
        (y.session.st == .idle || y.session.st == .unavailable) && y.grp.mod.st == .off && y.link.st == .service) stBAD_STATE 0])
    (fun t => atBay bay t fun b =>
      let c : LegCmd := ⟨[bitsOf tgt 0 2, bitsOf tgt 2 2, bitsOf tgt 4 2, bitsOf tgt 6 2], (edges ++ [0, 0, 0, 0]).take 4⟩
      t.onGrpBoth b fun g => { g with
        mod := { g.mod with pulse := g.mod.pulse ++ [⟨o, leg, bitOf flags 0, c, t.now + 1⟩] } }) s

/-- The command MOD_PULSE (R291). -/
def execModPulse (o : Origin) (bay leg flags tgt : Nat) (edges : List Nat) (s : State) : Out :=
  .next (cardModPulse o bay leg flags tgt edges s)

end Sys2Proof.Machine
end

