-- ==== Sys2Proof/Machine/BayTable.lean ====
section
/-! DEFINITION. The bay table: the checks of an entry, BAY_RELOAD, its effect, BAY_TABLE_BASE and BAY_STATUS (spec files 04 and 06 to 17). -/

namespace Sys2Proof.Machine

/- Checks of fields: DETAIL is the byte offset of the field plus 1 (R114). -/

/-- An unsigned field within a range. -/
def fldIn (e : List Byte) (off n lo hi : Nat) : Chk := rng (off + 1) (lo ≤ leGet e off n && leGet e off n ≤ hi)

/-- A signed field within a range. -/
def fldInS (e : List Byte) (off n : Nat) (lo hi : Int) : Chk :=
  let v := sval (8 * n) (leGet e off n)
  rng (off + 1) (lo ≤ v && v ≤ hi)

/-- A field whose defined bits are its lowest `k`. -/
def fldBits (e : List Byte) (off n k : Nat) : Chk := rng (off + 1) (leGet e off n < 2 ^ k)

/-- A field that is zero. -/
def fldZero (e : List Byte) (off n : Nat) : Chk := rng (off + 1) (leGet e off n == 0)

/-- Fields, by offset and length, that are zero. -/
def fldsZero (e : List Byte) (fs : List (Nat × Nat)) : List Chk := fs.map fun f => fldZero e f.1 f.2

/-- Whether the pieces of `w` bits of a value, `n` of them, are within a limit each. -/
def eachLe (v w n hi : Nat) : Bool := (List.range n).all fun i => bitsOf v (w * i) w ≤ hi

/-- What the bay head of a lane has reported, once its lane has come through IDENTIFY (R171, R173). -/
def Link.known (k : Link) : Bool := k.st == .configure || k.st == .ready || k.st == .service

/-- Whether an entry is of a port for vehicles: EV_DC or EV_AC. -/
def entEv (e : List Byte) : Bool := leGet e 1 1 == 1 || leGet e 1 1 == 2

/-- The fields that hold in every entry (R111): bytes 0 to 15. -/
def headChecks (e : List Byte) : List Chk :=
  [fldIn e 0 1 1 1, fldIn e 1 1 0 5, rng 3 (leGet e 2 1 == 0 || (3 ≤ leGet e 2 1 && leGet e 2 1 ≤ 15)), fldBits e 3 1 1, fldIn e 8 1 0 15,
   fldIn e 9 1 0 7, fldZero e 10 6]

/-- The fields from byte 16 to 63 and 496 to 507 (R111). -/
def baseChecks (e : List Byte) : List Chk :=
  [fldIn e 24 4 1 1500000, fldIn e 28 4 1 1000000, fldIn e 32 4 1 4000000, fldIn e 36 4 0 4000000, fldZero e 40 24, fldZero e 496 12]

/-- Pilot and PLC (R210). -/
def pilotChecks (e : List Byte) : List Chk :=
  if entEv e then
    let f := leGet e 64 1
    [rng 65 (f < 16 && (bitOf f 0 || !(bitOf f 2 || bitOf f 3))), fldIn e 65 1 1 16, fldIn e 66 2 500 1400, fldInS e 68 2 (-11500) (-9500),
     fldIn e 70 2 100 10000, fldIn e 72 2 1000 12000, rng 75 (leGet e 74 6 != 0 && !bitOf (leGet e 74 1) 0), fldIn e 80 1 0 63,
     fldIn e 81 1 0 63, fldInS e 82 1 (-32) 31, fldIn e 83 1 1 50, fldIn e 84 1 0x20 0xF0, fldIn e 85 1 0 127, fldZero e 86 42]
  else fldsZero e ([(64, 1), (65, 1), (66, 2), (68, 2), (70, 2), (72, 2), (74, 6), (80, 1), (81, 1), (82, 1), (83, 1), (84, 1), (85, 1), (86, 42)])

/-- The EVSEID field: ASCII, padded with NUL, at most 37 characters (R238). -/
def evseidOk (l : List Byte) : Bool :=
  (l.getD 37 0 == 0) && l.all (fun x => x.toNat < 0x80) && (l.dropWhile (· != 0)).all (· == 0)

/-- Session (R238). -/
def sessionChecks (e : List Byte) : List Chk :=
  let p := leGet e 128 1
  let v := leGet e 129 1
  let pilot := leGet e 64 1
  let k := leGet e 1 1
  [rng 129 (p < 8 && (p == 0 || bitOf pilot 2)),
   rng 130 (v < 32 && (k == 2 || !(bitOf v 0 || bitOf v 2 || bitOf v 4)) && (k == 1 || !(bitOf v 1 || bitOf v 3)) &&
     (!(bitOf v 2 || bitOf v 3) || (bitOf p 2 && leGet e 36 4 != 0)) && (!bitOf v 4 || bitOf pilot 0)),
   fldIn e 130 1 1 31, fldBits e 131 1 2, fldIn e 132 2 5 600, fldBits e 134 2 12, fldIn e 136 4 100 50000, fldIn e 140 4 1000 50000,
   fldIn e 144 1 1 5, fldZero e 145 3,
   rng 149 (evseidOk ((e.drop 148).take 38) && (p == 0 || leGet e 148 1 != 0)), fldZero e 186 6]

/-- Modulator (R289): `k` is the lane, for the legs that the bay head has. -/
def modChecks (e : List Byte) (k : Link) : List Chk :=
  if leGet e 1 1 = 2 then
    fldsZero e ([(192, 1), (193, 1), (194, 2), (196, 4), (200, 4), (204, 2), (206, 2), (208, 4), (212, 8), (220, 2), (222, 1), (223, 33)])
  else
    let used := leGet e 192 1
    let mode := leGet e 194 2
    let p := leGet e 200 4
    let comp := (List.range 8).any fun l => bitOf used l && bitsOf mode (2 * l) 2 == 0
    [rng 193 (!k.known || used < 2 ^ k.legs), fldZero e 193 1, rng 195 (eachLe mode 2 8 2), fldIn e 196 4 20000 2000000,
     rng 201 (p % 2 == 0 && (if comp then 65536 else 32768) ≤ p && p ≤ 65536000), rng 207 (leGet e 204 2 ≤ leGet e 206 2),
     rng 209 (leGet e 208 4 ≤ 1000000 && 4 * (psToUnits (leGet e 196 4) + psToUnits (leGet e 208 4)) ≤ p), fldIn e 220 2 0 900, fldZero e 223 33]

/-- Whether a control channel is taken by the pilot or proximity line (R183, R296). -/
def chanTaken (e : List Byte) (ch : Nat) : Bool :=
  (ch == 15 && bitOf (leGet e 64 1) 0) || (ch == 14 && bitOf (leGet e 64 1) 1)

/-- Loops (R296, R308, R314). -/
def loopsChecks (e : List Byte) : List Chk :=
  let kind := leGet e 1 1
  if kind = 2 then
    fldsZero e ([(256, 1), (257, 1), (258, 4), (262, 2), (264, 1), (265, 1), (266, 4), (270, 4), (274, 4), (278, 4), (282, 4), (286, 4), (290, 4),
      (294, 4), (298, 4), (302, 2), (304, 2), (306, 2), (308, 2), (310, 2), (312, 1), (313, 1), (314, 2), (316, 2), (318, 2)])
  else
    let n := leGet e 256 1
    let f := leGet e 257 1
    let legs := fun (l : Nat) => leGet e (258 + l) 1
    let ch := fun (l : Nat) => bitsOf (leGet e 262 2) (4 * l) 4
    let vout := leGet e 264 1 % 16
    let vlink := leGet e 264 1 / 16
    let volts := if kind = 5 then [vout, vout + 1, vout + 2, vlink] else [vout, vlink]
    [rng 257 (if kind = 5 then n == 3 else 1 ≤ n && n ≤ 4),
     rng 258 (f < 16 && bitsOf f 2 2 ≤ 2 && !(bitOf f 0 && 32 * 65536 < leGet e 200 4)),
     rng 259 ((List.range 4).all fun l =>
       (l < n || legs l == 0) && (legs l &&& leGet e 192 1) == legs l &&
       (List.range 4).all fun m => m == l || (legs l &&& legs m) == 0),
     rng 263 ((List.range 4).all fun l => n ≤ l || !chanTaken e (ch l)), rng 265 (volts.all fun c => !chanTaken e c),
     rng 266 (eachLe (leGet e 265 1) 2 4 2), fldIn e 266 4 1 1000000, fldIn e 270 4 1 1000000, fldBits e 274 4 31, fldBits e 278 4 31,
     fldBits e 282 4 31, fldBits e 286 4 31, fldIn e 290 4 0 1000000, fldBits e 294 4 31, fldBits e 298 4 31, fldIn e 302 2 1 65535,
     fldIn e 304 2 1 65535, fldIn e 306 2 1 32767, fldIn e 308 2 1 32767, fldIn e 310 2 1 65535, fldIn e 312 1 16 255, fldIn e 313 1 16 255,
     rng 319 (kind != 3 || leGet e 318 2 != 0)]

/-- Switch channels (R335). -/
def chanChecks (e : List Byte) (k : Link) : List Chk :=
  let used := leGet e 320 2
  let con := leGet e 134 2
  let within := fun (x : Nat) => (x &&& used) == x
  let f := leGet e 346 1
  let weld := bitsOf f 1 2
  [rng 321 (used < 4096 && (!k.known || used < 2 ^ k.swCh) && within con), rng 323 (within (leGet e 322 2)), rng 325 (within (leGet e 324 2)),
   rng 327 (within (leGet e 326 2) && (leGet e 326 2 &&& con) == 0), rng 329 (eachLe (leGet e 328 6) 4 12 7),
   rng 335 ((List.range 12).all fun i => leGet e (334 + i) 1 != 0), rng 347 (weld ≤ 2 && f < 128),
   rng 348 (leGet e 347 1 < 16 && !(bitOf f 0 && chanTaken e (leGet e 347 1))),
   rng 349 (weld == 0 || !(chanTaken e (leGet e 348 1 % 16) || chanTaken e (leGet e 348 1 / 16))), fldIn e 349 1 0 3, fldIn e 350 2 10 10000,
   fldIn e 352 2 0 2000, fldIn e 354 2 10 10000, fldIn e 356 2 10 1000, fldIn e 358 2 10 8000, fldIn e 360 1 1 90, fldZero e 361 1,
   fldIn e 362 2 1000 60000, rng 365 (1000 ≤ leGet e 364 2 && leGet e 364 2 ≤ 60000 && leGet e 362 2 < leGet e 364 2), fldIn e 366 2 1 60000,
   fldIn e 368 4 1 1000000, fldIn e 372 4 1 1000000, fldIn e 376 2 1000 65535, fldIn e 378 2 1000 65535, fldZero e 380 4]

/-- Whether a switch channel may be an earth or meter channel (R342, R385): in use, no main contactor, no STOP_EXTRA, no AUTO_RESTART. -/
def ownChan (e : List Byte) (ch : Nat) : Bool :=
  bitOf (leGet e 320 2) ch && !bitOf (leGet e 134 2) ch && !bitOf (leGet e 322 2) ch && !bitOf (leGet e 326 2) ch

/-- The earth channels of an entry: those of its enabled earth functions (R342). -/
def earthChans (e : List Byte) : List Nat :=
  (if bitOf (leGet e 384 1) 0 then [leGet e 409 1 % 16] else []) ++
  (if bitOf (leGet e 384 1) 1 then [leGet e 408 1 % 16, leGet e 408 1 / 16] else [])

/-- Earth (R340, R342, R350, R351, R358, R359): what concerns a function only binds where it is enabled (log 127). -/
def earthChecks (e : List Byte) : List Chk :=
  let f := leGet e 384 1
  let kind := leGet e 1 1
  let rc := bitOf f 0
  let imd := bitOf f 1
  let ohm := fun (opv : Nat) => 1000000 ≤ opv * leGet e 24 4 && opv * leGet e 24 4 ≤ 10000000000
  let fault := leGet e 404 2
  let warn := leGet e 406 2
  let bins := (countedBins (leGet e 413 1) (leGet e 414 1) (leGet e 200 4)).length
  [rng 385 (f < 128 && bitsOf f 5 2 ≤ 2 && (!rc || kind == 2 || kind == 5) && (!imd || kind != 2) && (!bitOf f 2 || (kind != 2 && kind != 5))),
   fldIn e 385 1 0 15, fldIn e 386 2 10 300,
   rng 389 (1 ≤ leGet e 388 4 && leGet e 388 4 ≤ 1000000 &&
     (!rc || max 250000000 (8000000 * leGet e 386 2) ≤ 32767 * leGet e 388 4)),
   fldIn e 392 4 1 1000000, fldIn e 396 4 10000 10000000, fldIn e 400 4 100000 1000000000,
   rng 405 (50 ≤ fault && fault ≤ 1000 && (!imd || ohm fault)),
   rng 407 (100 ≤ warn && warn ≤ 2000 && fault < warn && (!imd || ohm warn)),
   rng 409 (leGet e 408 1 % 16 ≤ 11 && leGet e 408 1 / 16 ≤ 11 &&
     (!imd || (ownChan e (leGet e 408 1 % 16) && ownChan e (leGet e 408 1 / 16)))),
   rng 410 (leGet e 409 1 ≤ 11 && (!rc || ownChan e (leGet e 409 1))), fldIn e 410 2 60 500, fldIn e 412 1 12 60, fldIn e 413 1 1 20,
   rng 415 (2 ≤ leGet e 414 1 && leGet e 414 1 ≤ 100 && leGet e 413 1 < leGet e 414 1 && (!bitOf f 2 || 16 ≤ bins)), fldIn e 415 1 1 255]

/-- Metrology (R385, R387). -/
def metroChecks (e : List Byte) (k : Link) : List Chk :=
  let f := leGet e 416 1
  let led := leGet e 417 1
  [rng 417 (f < 16 && !(bitOf f 0 && k.known && k.metroCh == 0)),
   rng 418 (led ≤ 11 && (!bitOf f 2 || (ownChan e led && !(earthChans e).contains led))), fldIn e 418 4 1 100000, fldIn e 422 2 2 100,
   fldIn e 432 4 1000 100000, fldZero e 436 12]

/-- Identification (R268). -/
def identChecks (e : List Byte) (k : Link) : List Chk :=
  if entEv e then
    let f := leGet e 448 1
    let n := leGet e 452 1
    [rng 449 (f < 32 && (!k.known || ((f % 4 == 0 || bitOf k.caps 0) && (!bitOf f 2 || bitOf k.caps 1)))), fldIn e 450 2 50 1000,
     rng 453 (n == 0 || (5 ≤ n && n ≤ 8)), rng 454 ((List.range 8).all fun i => i < n || leGet e (453 + i) 1 == 0), fldIn e 461 1 0 252,
     rng 464 (!bitOf f 2 || 10 ≤ leGet e 463 1)]
  else fldsZero e ([(448, 1), (449, 1), (450, 2), (452, 1), (453, 8), (461, 1), (462, 1), (463, 1)])

/-- Display (R451). -/
def dispChecks (e : List Byte) (k : Link) : List Chk :=
  let f := leGet e 464 1
  let w := leGet e 466 2
  [rng 465 (f < 4 && !(bitOf f 0 && k.known && !bitOf k.caps 2)), fldZero e 465 1, rng 467 (4 ≤ w && w ≤ 480 && w % 4 == 0), fldIn e 468 2 1 320,
   fldZero e 472 8]

/-- Site power (R477). -/
def siteChecks (e : List Byte) : List Chk :=
  let kind := leGet e 1 1
  let f := leGet e 480 1
  let ph := f % 4
  let u := leGet e 482 2
  [rng 481 (f < 32 && (if kind = 2 then ph == 1 || ph == 3 else ph == 0) && (!bitOf f 2 || kind == 1) && bitsOf f 3 2 ≤ 2 &&
     (bitsOf f 3 2 == 0 || kind == 4)), fldZero e 481 1, rng 483 (if kind = 2 then 100 ≤ u && u ≤ 480 else u == 0),
   fldIn e 484 4 0 (leGet e 32 4), fldIn e 488 4 0 1000000, fldIn e 492 4 0 (leGet e 32 4)]

/- Locks: what may not change now. -/

/-- Whether a field differs from that of another entry; without one its fields are zero. -/
def fldMoves (old e : List Byte) (off n : Nat) : Bool := leGet old off n != leGet e off n

/-- A field that a state of the bay locks (R114). -/
def locked (isLocked moves : Bool) (off : Nat) : Chk := need (!(isLocked && moves)) stBAD_STATE (off + 1)

/-- The fields that the state of a bay locks: R210, R237, R289, R314, R335. -/
def lockChecks (y : Bay) (old e : List Byte) : List Chk :=
  let mv := fldMoves old e
  let plc := y.taken_
  let ses := !(y.session.st == .idle || y.session.st == .ended || y.session.st == .unavailable)
  let mod := y.grp.mod.st != .off
  let con := y.contactorOn
  let bits := fun (off lo n : Nat) => bitsOf (leGet old off 1) lo n != bitsOf (leGet e off 1) lo n
  [locked plc (bits 64 2 2) 64, locked plc (mv 74 6) 74, locked ses (mv 134 2) 134, locked ses (mv 136 4) 136, locked mod (mv 192 1) 192,
   locked mod (mv 194 2) 194, locked mod (mv 200 4) 200, locked mod (mv 212 8) 212, locked mod (mv 256 1) 256, locked mod (bits 257 2 2) 257,
   locked mod (mv 258 4) 258, locked mod (mv 262 2) 262, locked mod (mv 264 1) 264, locked con (mv 320 2) 320, locked con (bits 346 1 6) 346,
   locked con (mv 348 1) 348, locked con (mv 372 4) 372, locked con (mv 376 2) 376, locked con (mv 378 2) 378]

/-- METRO_EN and CAL_HASH within a session (R388). -/
def legalChecks (y : Bay) (old e : List Byte) : List Chk :=
  let on := y.calLocked
  [need (!(on && bitOf (leGet old 416 1) 0 != bitOf (leGet e 416 1) 0)) stLEGAL_LOCK 417, need (!(on && fldMoves old e 424 8)) stLEGAL_LOCK 425]

/-- The fields of the earth sub-block (R359). -/
def earthRows : List (Nat × Nat) :=
  [(384, 1), (385, 1), (386, 2), (388, 4), (392, 4), (396, 4), (400, 4), (404, 2), (406, 2), (408, 1), (409, 1), (410, 2), (412, 1), (413, 1),
   (414, 1), (415, 1)]

/-- The earth sub-block equals the earth record of an accepted configuration (R357). -/
def State.safetyChecks (s : State) (b : BayId) (e : List Byte) : List Chk :=
  if s.safeAccepted then earthRows.map fun f => need (leGet e f.1 f.2 == s.safety.bayRec b.val (f.1 - 384) f.2) stSAFETY_LOCK (f.1 + 1)
  else []

/- BAY_RELOAD (R113, R114). -/

/-- The entry that an armed BAY_RELOAD brings to a bay. -/
def pickEntry (b : BayId) : Setting → Option (Option (List Byte))
  | .bayReload es => (es.find? fun x => x.1 == b.val).map fun x => some x.2
  | _ => none

/-- The entry of a bay as every BAY_RELOAD accepted so far leaves it (R114). -/
def State.lastEntry (s : State) (b : BayId) : Option (List Byte) := s.planned (pickEntry b) s.bays[b].entry

/-- Whether an entry's bay is in use (R111). -/
def entUsed (e : List Byte) : Bool := bitOf (leGet e 3 1) 0 && leGet e 1 1 != 0

/-- Whether a bay is in the BAY_GRANT of a court that exists. -/
def State.granted (s : State) (c : CourtId) (b : BayId) : Bool := s.courts[c].state != .absent && s.courts[c].grant.getLsbD b.val

/-- OWNER_COURT of an entry (R114): a tenant within its BAY_GRANT, and for a tenant's request the owner in force, or a granted bay of court 0. -/
def State.ownerChecks (s : State) (o : Origin) (b : BayId) (e : List Byte) : List Chk :=
  let w := leGet e 2 1
  let inGrant := match courtOf w with
    | some c => w < 3 || s.granted c b
    | none => true
  [need inGrant stNOT_PERMITTED 3,
   need (o.court.val < 3 || w == s.owner b || (s.owner b == 0 && s.granted o.court b)) stNOT_PERMITTED 3]

/-- Every check of one entry (R114): of an entry that is UNUSED or not enabled only bytes 0 to 15 and ENTRY_CRC (R111). -/
def State.entryChecks (s : State) (o : Origin) (b : BayId) (e : List Byte) : List Chk :=
  let y := s.bays[b]
  let old := (s.lastEntry b).getD []
  let busy := !y.session.st.isIdle
  headChecks e ++ s.ownerChecks o b e ++
  [locked busy (fldMoves old e 1 1) 1, locked busy (fldMoves old e 2 1) 2, need (leGet e 508 4 == crc32c (e.take 508)) stREJECTED_CRYPTO 509] ++
  (if entUsed e then
    baseChecks e ++ pilotChecks e ++ sessionChecks e ++ modChecks e y.link ++ loopsChecks e ++ chanChecks e y.link ++ earthChecks e ++
    metroChecks e y.link ++ identChecks e y.link ++ dispChecks e y.link ++ siteChecks e ++ lockChecks y old e ++ legalChecks y old e ++
    s.safetyChecks b e
  else [])

/-- The first named entry that fails, in ascending bay order: bay, STATUS, DETAIL. A read that failed gives FAIL with DETAIL 0. -/
def State.entriesFail (s : State) (o : Origin) : List (BayId × List Byte) → Option (BayId × Nat × Nat)
  | [] => none
  | (b, e) :: t =>
    if e.length ≠ 512 then some (b, stFAIL, 0)
    else match firstRefusal (s.entryChecks o b e) with
      | some (st, dt) => some (b, st, dt)
      | none => s.entriesFail o t

/-- The layout of BAY_RELOAD's response for a number of named bays (R113). -/
def reloadLayout (n : Nat) : List Nat := [8, 24, 64] ++ List.replicate n 32

/-- A refusal of BAY_RELOAD with its FAILED_BAY. -/
def State.reloadRefuse (s : State) (o : Origin) (n st dt bay : Nat) : State :=
  s.answer o.court o.mbx st dt false (withValues (reloadLayout n) ([bay, 0, 0] ++ List.replicate n 0))

/-- Whether a bay's generation moves with an entry (R114): it differs from the last one, or the bay waits for its reload after a court restart
(R93). -/
def State.entryMoves (s : State) (b : BayId) (e : List Byte) : Bool :=
  s.lastEntry b != some e || (s.bays[b].safeHold && !s.armed.any fun a => (pickEntry b a.cmd).isSome)

/-- BAY_RELOAD (R113): `reads` are what the host memory returns for the named bays in ascending order, other than 512 bytes where a read
failed. -/
def cardBayReload (o : Origin) (bays : BayMask) (reads : List (List Byte)) (s : State) : State :=
  if s.canTake o.court o.mbx then
    let bs := baysIn bays
    let n := bs.length
    let t := s.take o.court o.mbx 0x0302 (reloadLayout n)
    let rights := o.court.val == 0 || bs.all fun b => t.owns o.court b || t.granted o.court b
    let checks := [need (o.court.val != 1 && o.court.val != 2) stNOT_PERMITTED 0, need rights stNOT_PERMITTED 1, rng 1 (n != 0),
      need t.host.bayBaseSet stBAD_STATE 0]
    match firstRefusal (reserved o :: (modeChecks t 0x0302 ++ checks)) with
    | some (st, dt) => t.reloadRefuse o n st dt 0xFF
    | none =>
      let es := (List.range n).filterMap fun i => (bs[i]?).map fun b => (b, reads.getD i [])
      match t.entriesFail o es with
      | some (b, st, dt) => t.reloadRefuse o n st dt b.val
      | none =>
        let moved := (es.filter fun x => t.entryMoves x.1 x.2).foldl (fun (m : BayMask) x => m ||| bayBit x.1) 0
        t.arm o (.bayReload (es.map fun x => (x.1.val, x.2))) moved false (moved == 0) fun c => es.any fun x => (pickEntry x.1 c).isSome
  else s

/-- The command BAY_RELOAD (R113). -/
def execBayReload (o : Origin) (bays : BayMask) (reads : List (List Byte)) (s : State) : Out := .next (cardBayReload o bays reads s)

/- The effect of a reload. -/

/-- Whether a KIND gives an offset of a bay set an idle image (R14). -/
def kindIdle (kind off : Nat) : Bool :=
  if kind = 1 then false else if kind = 2 then off == 4 || off == 5 else if kind = 0 then off != 9 else off ≤ 2

/-- The cells that change to or from an idle image start with cleared checkpoint buffers (R14). A loop tuning under way is aborted, what the
safety unit and waiting requests hold of the earth cell stays, and the meter keeps its place in the schedule. -/
def Bay.clearIdle (y : Bay) (old new now : Nat) : Bay :=
  let moves := fun (off : Nat) => kindIdle old off != kindIdle new off
  let fix := fun (g : Grp) => { g with
    plc := if moves 0 then Plc.reset else g.plc
    pilot := if moves 2 then Pilot.reset else g.pilot
    session := if moves 2 then Session.reset else g.session
    mod := if moves 3 then Mod.reset else g.mod
    loops := if moves 4 then { Loops.reset with tune := abortTune g.loops.tune now 4 } else g.loops
    ident := if moves 8 then Ident.reset else g.ident
    chans := if moves 8 then Chans.reset else g.chans
    disp := if moves 8 then Disp.reset else g.disp }
  let earth := fun (e : Earth) => if moves 7 then { Earth.reset with trip := e.trip, counted := e.counted, wait := e.wait } else e
  let meter := fun (m : MeterCell) => if moves 6 then { MeterCell.reset with next := m.next, win := MeterWin.empty m.next, st := m.st, reason := m.reason } else m
  { y with
    grp := fix y.grp, grpCk := fix y.grpCk, earth := earth y.earth, earthCk := earth y.earthCk, meter := meter y.meter, meterCk := meter y.meterCk }

/-- What ends before a new entry takes its place (R114, R208, R231): a match where ENABLE is cleared or KIND changes, the session where ENABLE
is cleared; a lasting FAULT may leave (R232). -/
def State.reloadEnds (s : State) (b : BayId) (e : List Byte) : State :=
  let y := s.bays[b]
  let cleared := y.enabled && !bitOf (leGet e 3 1) 0
  let s1 := if cleared ∨ y.kind ≠ leGet e 1 1 then s.slacEnd b 2 else s
  let s2 := if cleared then s1.sessEnd b 0x0A else s1
  let fix := fun (x : Session) => { x with sticky := false }
  s2.onBay b fun y => { y with
    grp := { y.grp with session := fix y.grp.session }, grpCk := { y.grpCk with session := fix y.grp.session, plc := y.grp.plc } }

/-- A change of OWNER_COURT clears the token, EVCCID and certificate state of the last session (R114). -/
def Bay.newOwner (y : Bay) : Bay :=
  let fix := fun (g : Grp) => { g with session := { g.session with
    token := none, heldToken := none, auth := 0, evccid := 0, cert := none, certAnswer := none, chain := [] } }
  { y with grp := fix y.grp, grpCk := fix y.grpCk }

/-- An entry takes force in a bay (R50, R114); `moved` where BAY_GEN moves: latched trips are released (R285, R310, R576), channel wants are
OFF (R322), the earth cell starts what R343 and R346 say, a changed display sub-block starts afresh (R447), and the lane follows (R171, R177). -/
def State.applyEntry (s : State) (b : BayId) (e : List Byte) (moved : Bool) : State :=
  let y := s.bays[b]
  let kind := y.kind
  let rcSet := !bitOf (y.ent 384 1) 0 && bitOf (leGet e 384 1) 0
  let newDisp := moved && fldMoves (y.entry.getD []) e 464 16
  let owner := y.ent 2 1
  let s0 := if newDisp ∨ kind ≠ leGet e 1 1 then s.dispReload b else s
  let s1 := (s0.reloadEnds b e).onBay b fun y =>
    let y1 := { y with entry := some e, safeHold := false }
    let y2 := if owner = leGet e 2 1 then y1 else y1.newOwner
    if kind = leGet e 1 1 then y2 else y2.clearIdle kind (leGet e 1 1) s.now
  let s2 := if moved then
      (s1.onBay b fun y => { y with
        grp := { y.grp with chans := y.grp.chans.reload }, grpCk := { y.grpCk with chans := y.grpCk.chans.reload },
        earth := y.earth.reload rcSet true s.now, earthCk := y.earthCk.reload rcSet true s.now }).clearTrips b
    else s1
  s2.linkReload b

/-- A BAY_RELOAD takes effect (R113): every named bay, `moved` those whose generation moves. -/
def State.applyReload (s : State) (entries : List (Nat × List Byte)) (moved : BayMask) : State :=
  entries.foldl (fun t x => atBay x.1 t fun b => t.applyEntry b x.2 (moved.getLsbD b.val)) s

/- BAY_TABLE_BASE and BAY_STATUS (R110, R116). -/

/-- BAY_TABLE_BASE (R110). -/
def cardBayTableBase (o : Origin) (base : Nat) (s : State) : State :=
  card o 0x0301 [64] (fun _ => [permit o [0], rng 1 (base % 4096 == 0)])
    (fun t => ({ t with host := { t.host with bayBase := base, bayBaseSet := true } }, [t.host.bayBase])) s

/-- The command BAY_TABLE_BASE (R110). -/
def execBayTableBase (o : Origin) (base : Nat) (s : State) : Out := .next (cardBayTableBase o base s)

/-- BAY_STATUS (R116). -/
def cardBayStatus (o : Origin) (bay : Nat) (s : State) : State :=
  card o 0x0303 [8, 8, 8, 8, 32, 32, 32, 64] (fun t => [bayPermit o [0] 1 bay t, rng 1 (bay < 96)])
    (fun t => (t, atBay bay [] fun b =>
      let y := t.bays[b]
      [y.kind, y.ent 2 1, y.ent 3 1, 0, y.ent 4 4, y.ent 508 4, t.gens.bay[b], t.gens.bayTick[b]])) s

/-- The command BAY_STATUS (R116). -/
def execBayStatus (o : Origin) (bay : Nat) (s : State) : Out := .next (cardBayStatus o bay s)

end Sys2Proof.Machine
end

