-- ==== Sys2Proof/Machine/Health.lean ====
section
/-! DEFINITION. Queues, memory health and CRC units (spec file 05). -/

namespace Sys2Proof.Machine

/-- Words a queue holds (R125). -/
def Queue.fill (q : Queue) : Nat := (q.w + 2 ^ (q.k + 1) - q.r) % 2 ^ (q.k + 1)

/-- Put words at the shadow pointer and after (R129). -/
def Queue.store (q : Queue) : Nat → List Nat → List (Nat × Nat)
  | _, [] => q.words
  | p, x :: t => Queue.store { q with words := aset q.words (p % 2 ^ q.k) x } (p + 1) t

/-- What becomes of a packet offered to a queue: committed, rewound, or dropped for want of space (R129, R130). -/
inductive PacketFate where
  | committed | rewound | overflow
  deriving DecidableEq, Repr

/-- A packet offered to a queue: it is committed in one step when its check passes and it is not bad; it is rewound
when bad; a queue that is full before its last word drops it (R129, R130). -/
def Queue.offer (q : Queue) (p : Packet) : Queue × PacketFate :=
  if q.fill + p.words.length > 2 ^ q.k then (q, .overflow)
  else if p.checkOk && p.lenOk && !p.poisoned && !p.aborted then
    ({ q with words := q.store q.w p.words, w := (q.w + p.words.length) % 2 ^ (q.k + 1) }, .committed)
  else (q, .rewound)

/-- One read of a queue: the next word, or with an empty queue the last word delivered and the sticky flag (R132). -/
def Queue.read (q : Queue) : Queue × Bool :=
  if q.w = q.r then ({ q with underrun := true }, true)
  else ({ q with r := (q.r + 1) % 2 ^ (q.k + 1), lastWord := agetD q.words (q.r % 2 ^ q.k) 0 }, false)

/-- Several reads of a queue, with the count of underruns. -/
def Queue.readN (q : Queue) : Nat → Queue × Nat
  | 0 => (q, 0)
  | n + 1 =>
    let a := q.read
    let b := Queue.readN a.1 n
    (b.1, b.2 + b2n a.2)

/-- The queue counts after the fate of a packet (R129, R130, R133). -/
def QCount.book (c : QCount) : PacketFate → QCount
  | .committed => c
  | .rewound => { c with rewinds := bump 32 c.rewinds }
  | .overflow => { c with overflows := bump 32 c.overflows }

/-- QUEUE_PACKET: a packet at a region's queue (none: the twin, ring and host port queues) (R129, R130). -/
def execQueuePacket (r : Option RegionId) (p : Packet) (s : State) : Out :=
  .next (match r with
    | some r =>
      s.onRegion r fun x =>
        let a := x.queue.offer p
        { x with queue := a.1, qcount := x.qcount.book a.2 }
    | none =>
      let a := s.mem.portQueue.offer p
      { s with mem := { s.mem with portQueue := a.1, portCount := s.mem.portCount.book a.2 } })

/-- The counts of a store (R133). -/
def State.health (s : State) (id : Nat) : StoreHealth := agetD s.mem.health id ⟨0, 0, 0⟩

/-- Count a corrected error of a store; source 471 is raised when the count reaches a multiple of 1,024 (R127, R133,
R134, log 18). -/
def State.countCorrected (s : State) (id word : Nat) : State :=
  let h := s.health id
  let n := bump 32 h.corrected
  let t := { s with mem := { s.mem with health := aset s.mem.health id { h with corrected := n, lastWord := word } } }
  if n % 1024 == 0 && n != h.corrected then t.raiseNow 471 id n else t

/-- Count an uncorrectable error of a store (R127, R133). -/
def State.countUncorrected (s : State) (id : Nat) : State :=
  let h := s.health id
  { s with mem := { s.mem with health := aset s.mem.health id { h with uncorrected := bump 16 h.uncorrected } } }

/-- The STORE_IDs that MEM_HEALTH reports for a region or for the chip stores (R135, R136). -/
def storeIds (region : Nat) : List Nat :=
  if region == 0xFF then [0x4000, 0x5000, 0x6000, 0x7000, 0x8000, 0x9000]
  else [0x1000 + 0x100 * region] ++ (List.range 8).map (fun b => 0x2000 + 0x100 * region + 8 * region + b) ++
    (List.range 8).map (fun b => 0x3000 + 0x100 * region + 8 * region + b)

/-- The queue counts of a region, or of the port queues. -/
def State.qcounts (s : State) (region : Nat) : QCount :=
  if h : region < 16 then s.regions[region].qcount else s.mem.portCount

/-- MEM_HEALTH (R136). -/
def cardMemHealth (o : Origin) (region flags : Nat) (s : State) : State :=
  let ids := storeIds region
  card o 0x0130 ([8, 24] ++ ids.flatMap (fun _ => [16, 16, 32, 32]) ++ [32, 32, 32])
    (fun _ => [permit o [0, 2], rng 1 (region < 16 || region == 0xFF), rng 2 (flags < 2),
      need (!(bitOf flags 0) || o.court.val == 0) stNOT_PERMITTED 2])
    (fun t =>
      let q := t.qcounts region
      let vals := [ids.length, 0] ++ ids.flatMap (fun i =>
          let h := t.health i
          [i, h.uncorrected, h.corrected, h.lastWord]) ++ [q.rewinds, q.overflows, q.underruns]
      let u := if bitOf flags 0 then
          let m := { t.mem with health := t.mem.health.filter (fun p => !ids.contains p.1) }
          if h : region < 16 then
            ({ t with mem := m }).onRegion ⟨region, h⟩ fun x => { x with qcount := ⟨0, 0, 0⟩ }
          else { t with mem := { m with portCount := ⟨0, 0, 0⟩ } }
        else t
      (u, vals))
    s

/-- The command MEM_HEALTH (R136). -/
def execMemHealth (o : Origin) (region flags : Nat) (s : State) : Out := .next (cardMemHealth o region flags s)

/-- The number of a CRC unit: chip-wide block and unit within it. -/
def crcIndex (block : Nat) (u : Fin 4) : Nat := 4 * block + u.val

/-- A CRC unit as a cell of a court finds it: granted to another court than its last user, it is at its reset values
(R140). -/
def CrcUnit.granted (u : CrcUnit) (court : Nat) : CrcUnit :=
  if u.user == some court then u else { CrcUnit.reset with user := some court }

/-- One access to a CRC unit of a block by a cell of a court (R138 to R140). -/
def State.crcAccess (s : State) (block court : Nat) (op : CrcOp) : State :=
  let upd := fun (u : Fin 4) (f : CrcUnit → CrcUnit) =>
    let i := crcIndex block u
    { s with mem := { s.mem with crc := aset s.mem.crc i (f ((agetD s.mem.crc i CrcUnit.reset).granted court)) } }
  match op with
  | .config u w => upd u fun x => { x with poly := bitsOf w 0 3, reflect := bitOf w 3, xorOut := bitOf w 4,
                                           bytes := bitsOf w 5 4 }
  | .setRun u r => upd u fun x => { x with run := match crcPreset x.poly with
      | some (n, _) => r % 2 ^ n
      | none => r % 2 ^ 64 }
  | .data u w => upd u fun x => x.feed w

end Sys2Proof.Machine
end

