-- ==== Sys2Proof/Machine/Fabric.lean ====
section
/-! DEFINITION. The fabric, the region firewalls and the scrubber (spec files 01 and 05). -/

namespace Sys2Proof

/-- The words that a transfer touches at its destination: those of its payload, or for a read those that LEN asks for (R21). -/
def Transfer.size (t : Transfer) : Nat := if t.op = 0 then max 1 t.words.length else t.len % 256 + 1

/-- The first word that an access is refused at (R28): the first unmapped one, else the first of the access. -/
def Transfer.refusedAt (t : Transfer) : Nat :=
  if Machine.mappedWord t.addr then
    (match (List.range t.size).find? fun i => !Machine.mappedWord (t.addr + i) with
     | some i => t.addr + i
     | none => t.addr)
  else t.addr

/-- The flow of a transfer: source region, destination region and court (R21, R24). -/
def Transfer.flow (t : Transfer) : Nat := 256 * t.src.val + 16 * t.dst.val + t.court.val

end Sys2Proof

namespace Sys2Proof.Machine

/- Firewalls (R22, R27). -/

/-- Whether one entry covers `n` words from an address and permits a court and an operation (R27). -/
def fwPermits (fw : List FwEntry) (court addr n : Nat) (write : Bool) : Bool :=
  fw.any fun e => e.base ≤ addr && addr + n ≤ e.limit + 1 && e.courts.getLsbD court && (if write then e.write else e.read)

/-- Whether every word from an address on is mapped (R22). -/
def allMapped (addr n : Nat) : Bool := mappedWord addr && mappedWord (addr + n - 1)

/-- Whether a transfer is performed (R22, R27, R586): mapped, and a management transfer, or one that a window of its court admits outside the
local stores while the region is not in region fault. -/
def Region.admits (g : Region) (t : Transfer) : Bool :=
  allMapped t.addr t.size &&
  (t.mgmt || (!g.regionFail && !localWord t.addr && !localWord (t.addr + t.size - 1) && fwPermits g.fw t.court t.addr t.size (t.op == 0)))

/-- A response on its way back to the originator (R28, R142). -/
def State.respond (s : State) (op : Nat) (ws : List Nat) : State := { s with mem := { s.mem with response := some (op, ws) } }

/-- FIREWALL_REFUSAL (R28): the access changes no store, it is counted, and source 400 + c is raised; a read is answered without data. -/
def State.fwRefuse (s : State) (t : Transfer) : State :=
  let s1 := s.onRegion t.dst fun g => { g with fwViol := true, fwCount := bump 8 g.fwCount }
  let s2 := s1.raiseNow (400 + t.court.val) 0x0110
    (t.refusedAt % 2 ^ 20 + 2 ^ 20 * t.dst.val + 2 ^ 24 * (t.op % 4) + 2 ^ 26 * b2n t.ownCell.isSome)
  if t.op = 1 ∨ !mappedWord t.refusedAt then s2.respond 3 [] else s2

/-- A transfer takes the next SEQ of its flow (R21). -/
def State.nextFlow (s : State) (t : Transfer) : State :=
  { s with mem := { s.mem with flows := aset s.mem.flows t.flow ((agetD s.mem.flows t.flow 0 + 1) % 2 ^ 16) } }

/-- FABRIC_TRANSFER (R19 to R28, R142): a third failure of the check word on a link discards it with an error response and a count in REWINDS;
the fabric discards what comes from a region in region fault (R586); else the firewall admits and performs it or refuses it. -/
def State.transfer (s : State) (t : Transfer) : State :=
  let s1 := s.nextFlow t
  if 3 ≤ t.linkFails then
    (s1.onRegion t.dst fun g => { g with qcount := { g.qcount with rewinds := bump 32 g.qcount.rewinds } }).respond 3 []
  else if s.regions[t.src].regionFail && !t.mgmt then s1
  else if t.op = 2 then s1.respond 2 t.words
  else if t.op = 3 then s1.respond 3 []
  else if !s.regions[t.dst].admits t then s1.fwRefuse t
  else if t.op = 0 then { s1 with mem := { s1.mem with cells := memPutWords s1.mem.cells t.dst t.addr t.words } }
  else s1.respond 2 ((List.range t.size).map fun i => memWord s1.mem.cells t.dst (t.addr + i))

/-- The command FABRIC_TRANSFER (R27). -/
def execFabricTransfer (t : Transfer) (s : State) : Out :=
  .next (if s.clock.cellRuns ∧ t.cls < 3 ∧ t.op < 4 ∧ t.words.length ≤ 256 then s.transfer t else s)

/- The scrubber (R127, R128, R134). -/

/-- The cell whose local store holds a word address of its region (R22): the working cell of that slot, or the one that the spare runs. -/
def State.storeCell (s : State) (r : RegionId) (w : Nat) : Option CellId :=
  let n := (w - 0x40000) / 0x800
  let b := n / 9
  if n % 9 < 8 then cellAt r (8 * b + n % 9)
  else
    (List.range 8).findSome? fun q => match cellAt r (8 * b + q) with
      | some c => if s.covered c then some c else none
      | none => none

/-- A corrected word of a local store counts for its cell too (R599). -/
def State.correctedCell (s : State) (id word : Nat) : State :=
  if id / 2 ^ 12 = 3 ∧ localWord word then
    (match s.storeCell ⟨id / 256 % 16, by omega⟩ word with
     | some c => s.onCell c fun x => { x with corrected := bump 32 x.corrected }
     | none => s)
  else s

/-- The level of a store in the scorebook (R591). -/
def storeLevel (id : Nat) : Nat := if id / 2 ^ 12 = 1 then 3 else if id / 2 ^ 12 = 2 then 2 else if id / 2 ^ 12 = 5 then 5 else 4

/-- What an uncorrectable word does by the store it lies in: the scorebook fails (R595), the safety unit goes to FAULT (R482), the legal area is
rewritten from the working copy and MIRROR_FAULT recorded (R422). -/
def State.storeBad (s : State) (id word : Nat) : State :=
  let k := id / 2 ^ 12
  if k = 5 then s.sbFail
  else if k = 8 then (if s.safety.st = 3 then s else s.safeUnit 3 3)
  else if k = 9 ∧ word < 0x3000 then s.mirrorFault
  else s

/-- SCRUB (R127, R128): a single-bit error is corrected and counted, a double-bit error counted and recorded as STORE_UNCORRECTABLE where no
cell owns the store. -/
def execScrub (id word : Nat) (f : ScrubFinding) (s : State) : Out :=
  .next (match f with
    | .clean => s
    | .single =>
      let s1 := (s.countCorrected (id % 2 ^ 16) (word % 2 ^ 32)).correctedCell (id % 2 ^ 16) word
      if id % 2 ^ 16 / 2 ^ 12 = 8 then s1.onSafety fun k => { k with ecc := bump 32 k.ecc } else s1
    | .double =>
      let i := id % 2 ^ 16
      let s1 := s.countUncorrected i
      if i / 2 ^ 12 = 3 then s1
      else
        let r := siteSb s.now (storeLevel i) 0x010B (i / 256 % 16) (i % 8) word 0
        (s1.sbNote { r with store := i }).storeBad i word)

end Sys2Proof.Machine
end

