-- ==== Sys2Proof/Machine/Head.lean ====
section
/-! DEFINITION. The bay head: what it makes of downlink frames, its stops and their release, its register block and its safe
connections (spec file 06; R184 to R186, R198, R247, R318 to R321, R444 to R448, R525, R526, R617). -/

namespace Sys2Proof.Machine

/-- Change one bay head. -/
def State.onHead (s : State) (b : BayId) (f : Head → Head) : State := { s with heads := vmod s.heads b f }

/-- The instant of a tick boundary, in units of 1/1,024 ps. -/
def headInstant (tick : Nat) : Nat := tick * 1024000000

/-- The fields of a word that the bay head's maker fixes (R176, R525). -/
def headWord (b : BayId) (addr : Nat) : Nat := Config.headWord b.val addr

/-- DT of a bay head in units of 1/1,024 ps (R166). -/
def Head.dt (h : Head) (b : BayId) : Nat := 1024 * max h.dtSet (headWord b 4 % 2 ^ 32)

/-- Whether a bay head has two ports (R176). -/
def twoPorts (b : BayId) : Bool := bitOf (headWord b 1) 43

/- Legs (R165, R166). -/

/-- A leg with its delayed turn-on done where its instant has come. -/
def HeadLeg.settle (l : HeadLeg) (at_ : Nat) : HeadLeg :=
  match l.wait with
  | some (w, i) => if i ≤ at_ then { l with out := w, wait := none } else l
  | none => l

/-- A leg with both switches off from an instant. -/
def HeadLeg.off (l : HeadLeg) (at_ : Nat) : HeadLeg :=
  { out := 0, lowOff := if l.out = 1 then some at_ else l.lowOff, highOff := if l.out = 2 then some at_ else l.highOff, wait := none }

/-- One edge of a leg: the switch that the target does not keep turns off, the one it names turns on as the dead time allows; also
whether the turn-on is delayed (R165, R166). -/
def HeadLeg.edge (l : HeadLeg) (dt at_ tgt : Nat) : HeadLeg × Bool :=
  let l0 : HeadLeg := { l.settle at_ with wait := none }
  let l1 := if l0.out = tgt then l0 else l0.off at_
  if tgt = 0 ∨ l1.out = tgt then (l1, false)
  else
    let free := match (if tgt = 1 then l1.highOff else l1.lowOff) with
      | some t => t + dt
      | none => 0
    if free ≤ at_ then ({ l1 with out := tgt }, false) else ({ l1 with wait := some (tgt, free) }, true)

/-- The edges of a leg command in their order; also how many turn-ons were delayed. -/
def HeadLeg.edges (l : HeadLeg) (dt start : Nat) : List (Nat × Nat) → HeadLeg × Nat
  | [] => (l, 0)
  | (t, g) :: r =>
    let a := l.edge dt (start + 15625 * t) g
    let c := HeadLeg.edges a.1 dt start r
    (c.1, c.2 + b2n a.2)

/-- Whether a leg command is well formed (R165): used slots first with strictly ascending times, no target 0b11, unused slots with target
0b00. -/
def legOk : Option Nat → Bool → List (Nat × Nat) → Bool
  | _, _, [] => true
  | last, open_, (t, g) :: r =>
    if t = 0xFFFF then g == 0 && legOk last false r
    else open_ && g != 3 && (match last with
      | some u => decide (u < t)
      | none => true) && legOk (some t) true r

/-- The slots of a leg command: time and target. -/
def LegCmdSlots (c : LegCmd) : List (Nat × Nat) := c.edge.zip c.tgt

/-- One leg in one tick under a command (R165): refused, the leg is both-off for the tick. -/
def HeadLeg.tick (l : HeadLeg) (dt t : Nat) (c : LegCmd) : HeadLeg × Nat × Bool :=
  let start := headInstant t
  let ok := legOk none true (LegCmdSlots c)
  let used := (LegCmdSlots c).filter fun p => p.1 != 0xFFFF
  let r := if ok then l.edges dt start used else (l.off start, 0)
  (r.1.settle (headInstant (t + 1) - 1), r.2, !ok)

/- Stops (R165, R167, R168). -/

/-- Whether a stop of a scope takes a channel off (R163, R168). -/
def Head.chanStopped (h : Head) (k : Nat) : Bool := h.stopped && (bitOf h.scope 2 || (bitOf h.scope 1 && bitOf h.stopMask k))

/-- A stop acts: legs and channels in scope go off; it holds until it is released (R168). -/
def Head.stop (h : Head) (scope : Nat) (own : Bool) : Head :=
  let sc := h.scope * b2n h.stopped ||| (if scope % 8 = 0 then 7 else scope % 8)
  let h1 : Head := { h with
    stopped := true, localTrip := (h.stopped && h.localTrip) || own, scope := sc, freshRun := 0, ready := none }
  { h1 with
    legs := if bitOf sc 0 then h1.legs.map fun l => l.off (headInstant h.tick) else h1.legs,
    chans := Vector.ofFn fun k => let c := h1.chans[k]; { c with on := c.on && !h1.chanStopped k.val } }

/- Commands of a frame. -/

/-- The legs under a frame's commands: a refused command stops the bay head with SCOPE 0x01 from the end of the tick (R165). -/
def Head.runLegs (h : Head) (b : BayId) (f : DownFrame) : Head :=
  if h.stopped ∧ bitOf h.scope 0 then h
  else
    let rs : Vector (HeadLeg × Nat × Bool) 8 := Vector.ofFn fun i =>
      (h.legs[i]).tick (h.dt b) h.tick (f.legs.getD i.val ⟨[0, 0, 0, 0], [0xFFFF, 0xFFFF, 0xFFFF, 0xFFFF]⟩)
    let rej := (rs.toList.filter fun r => r.2.2).length
    let h1 : Head := { h with
      legs := rs.map Prod.fst, dtClamp := (h.dtClamp + (rs.toList.map fun r => r.2.1).sum) % 256, legRej := (h.legRej + rej) % 256 }
    if rej = 0 then h1 else h1.stop 1 true

/-- The switch channels under a frame's commands; RESET_LATCH acts only in the frame that carries it (R318, R319, R321). -/
def Head.runChans (h : Head) (f : DownFrame) (fresh : Bool) : Head :=
  { h with chans := Vector.ofFn fun k =>
      let c := h.chans[k]
      let w := f.sw.getD k.val 0
      let lat := c.latched && !(fresh && bitOf w 1)
      ⟨bitOf w 0 && !lat && !h.chanStopped k.val, bitsOf w 2 3, lat⟩ }

/-- The pilot fields of a fresh frame (R185, R186). -/
def Head.runPilot (h : Head) (mode duty : Nat) : Head :=
  if mode ≠ 2 then { h with pilotMode := mode, pilotNext := none }
  else if h.pilotMode = 2 ∧ h.pilotDuty = duty then { h with pilotNext := none }
  else { h with pilotNext := some duty }

/-- The start of a pilot period takes a waiting duty (R185). -/
def Head.pilotPeriod (h : Head) : Head :=
  match h.pilotNext with
  | some d => if h.tick % 1000 = 0 then { h with pilotMode := 2, pilotDuty := d, pilotNext := none } else h
  | none => h

/-- IDENT_TX of a fresh frame (R246, R247). -/
def Head.runIdent (h : Head) (x : List Nat) : Head :=
  { h with env := x.getD 0 0, hfField := x.getD 1 0 == 1, uhfField := x.getD 2 0 == 1, sel := x.getD 3 0, depth := x.getD 4 0,
           channel := x.getD 5 0, power := x.getD 6 0, idGain := x.getD 7 0 }

/-- The DISPLAY section of a fresh frame (R444, R445). -/
def Head.runDisp (h : Head) (d : DispSection) : Head :=
  let first := bitOf d.flags 0
  let full := bitOf d.flags 2
  let opened : Option HeadXfer :=
    if first then
      some { image := { gen := d.gen, lines := if full then [] else h.front.lines, rects := d.words.take 4 },
             broken := !full && h.front.gen != d.words.getD 4 0 % 2 ^ 16 }
    else h.back.map fun x => { x with broken := x.broken || d.gen != x.image.gen }
  let written : Option HeadXfer := opened.map fun x =>
    if first ∨ d.line = 0xFFFF then x else { x with image := { x.image with lines := aset x.image.lines d.line d.words } }
  if d.line = 0xFFFF ∧ d.flags = 0 then h
  else if bitOf d.flags 1 then
    match written with
    | some x => { h with back := none, present := if x.broken then h.present else some x.image }
    | none => h
  else { h with back := written }

/-- The FIRMWARE section of a fresh frame: bytes in order are kept, bytes beyond are discarded (R178). -/
def Head.runFw (h : Head) (x : FwSection) : Head :=
  if x.xfer = 0 then h
  else
    let got := if x.xfer = h.fwXfer then h.fwData else []
    { h with fwXfer := x.xfer, fwData := if x.offset = got.length then got ++ x.data else got }

/-- Everything of a fresh frame that no stop holds back. -/
def Head.runFresh (h : Head) (f : DownFrame) : Head :=
  let h1 := (h.runPilot f.pilotMode f.pilotDuty).runIdent f.ident
  let h2 : Head := { h1 with rxGain := bitsOf f.plcCtl 8 8, cmd := some f, appliedTick := f.tick % 256 }
  let h3 := match f.disp with
    | some d => h2.runDisp d
    | none => h2
  match f.fw with
  | some x => h3.runFw x
  | none => h3

/-- The commands of the last fresh frame in a held tick, without modulation; an open display transfer is broken (R167, R186, R247, R321,
R445). -/
def Head.runHeld (h : Head) (b : BayId) : Head :=
  let h1 : Head := { h with
    dlBad := (h.dlBad + 1) % 256, heldRun := h.heldRun + 1, freshRun := 0, env := 0,
    back := h.back.map fun x => { x with broken := true } }
  match h1.cmd with
  | some f => (h1.runLegs b f).runChans f false
  | none => h1

/- Choosing the frame (R167, R169, R617). -/

/-- Whether a frame is recognised: data, hold or idle (R131). -/
def recognised (f : DownFrame) : Bool := f.ftype == 2 || f.ftype == 3 || f.ftype == 4

/-- Whether a frame carries ORDER RUN (R163). -/
def runs (f : DownFrame) : Bool := f.whistle.order == 0x6C93

/-- Whether a frame meets the conditions of R167 but for ALIVE, carries SERVER 1 and no lower epoch than the highest obeyed (R169). -/
def Head.qualifies (h : Head) (f : DownFrame) : Bool :=
  f.ftype == 2 && f.crcOk && f.whistle.crcOk && f.early && f.tick == h.tick % 2 ^ 48 && f.whistle.server && h.epoch ≤ f.whistle.epoch

/-- The frame that a bay head obeys, and its port (R169). -/
def Head.choose (h : Head) (fs : List (Nat × DownFrame)) : Option (Nat × DownFrame) :=
  (fs.filter fun p => h.qualifies p.2).foldl (fun (m : Option (Nat × DownFrame)) p => match m with
    | none => some p
    | some q => if q.2.whistle.epoch < p.2.whistle.epoch ∨
        (q.2.whistle.epoch = p.2.whistle.epoch ∧ p.2.whistle.node < q.2.whistle.node) then some p else some q) none

/-- A port after a governed tick's frame or none (R617). -/
def HeadPort.frame (p : HeadPort) (f : Option DownFrame) : HeadPort :=
  match f with
  | some f =>
    if recognised f then { p with noFrame := 0, inService := p.inService || (f.ftype == 2 && f.crcOk && runs f) }
    else { p with noFrame := p.noFrame + 1 }
  | none => { p with noFrame := p.noFrame + 1 }

/-- Whether any connection of a bay head is set up, and whether one is OK (R526). -/
def Head.safeOk (h : Head) : Bool :=
  h.ports.toList.all (fun p => p.peer == 0) || h.ports.toList.any fun p => p.peer != 0 && p.conn.st == 2

/-- The watch over a bay head's safe connections: WATCHDOG, the return to STARTING, the stop while none is OK (R520, R521, R526). -/
def Head.safeWatch (h : Head) : Head :=
  let ports := h.ports.map fun p =>
    let x := p.conn
    if p.peer = 0 then p
    else if (x.st = 1 ∨ x.st = 2) ∧ x.lastSeq.isSome ∧ x.lastAt + 1000 < h.tick then { p with conn := (x.count 6 1).go 3 6 h.tick }
    else if x.st = 3 ∧ x.since + 1000 ≤ h.tick then { p with conn := x.go 1 0 h.tick }
    else p
  let h1 : Head := { h with ports := ports }
  if h1.safeOk then { h1 with safeStop := false }
  else if h1.safeStop then h1 else { h1.stop 7 true with safeStop := true }

/-- HEAD_FRAME_APPLY (R167): the frames of a governed tick on both ports; `trips` names the channels whose own protection has latched them
off (R319). -/
def Head.apply (h0 : Head) (b : BayId) (t : Nat) (f0 f1 : Option DownFrame) (trips : Nat) : Head :=
  let f1 := if twoPorts b then f1 else none
  let h1 : Head := { h0 with
    tick := t, ports := #v[(h0.ports[(0 : Fin 2)]).frame f0, (h0.ports[(1 : Fin 2)]).frame f1],
    front := h0.present.getD h0.front, present := none,
    chans := Vector.ofFn fun k => let c := h0.chans[k]; if bitOf trips k.val then { c with on := false, latched := true } else c }
  let fs : List (Nat × DownFrame) := (f0.toList.map fun f => (0, f)) ++ (f1.toList.map fun f => (1, f))
  let stops := fs.filter fun p => recognised p.2 && !runs p.2 && (if p.1 = 0 then (h1.ports[(0 : Fin 2)]).inService else (h1.ports[(1 : Fin 2)]).inService)
  let h2 := (stops.foldl (fun h p => h.stop p.2.whistle.scope false) h1).safeWatch
  let pick := h2.choose fs
  let h3 : Head := match pick with
    | some (p, f) => { h2 with selected := p + 1, epoch := f.whistle.epoch }
    | none => { h2 with selected := 0 }
  let h4 : Head := match pick with
    | some (_, f) =>
      let alive : Bool := match h3.lastAlive with
        | some a => f.alive == (a + 1) % 256
        | none => true
      if alive then
        let clean := stops.isEmpty && runs f
        let ready : Bool := h3.stopped && clean && f.rearm && decide (8 ≤ h3.freshRun) && h3.safeOk
        let h := { h3.runFresh f with lastAlive := some f.alive, heldRun := 0, freshRun := if clean then h3.freshRun + 1 else 0 }
        let h := { h with ready := if ready then some f else none }
        (h.runLegs b f).runChans f true
      else { h3.runHeld b with ready := none }
    | none => { h3.runHeld b with ready := none }
  h4.pilotPeriod

/-- The command HEAD_FRAME_APPLY. -/
def execHeadFrameApply (b : BayId) (t : Nat) (f0 f1 : Option DownFrame) (trips : Nat) (s : State) : Out :=
  .next (s.onHead b fun h => h.apply b t f0 f1 trips)

/-- HEAD_RELEASE (R168): the stop is released at the start of the governed tick, and that frame's commands act; the next fresh frame may
carry any ALIVE (R167). -/
def execHeadRelease (b : BayId) (s : State) : Out :=
  .next (s.onHead b fun h => match h.ready with
    | some f =>
      let h1 : Head := { h with stopped := false, localTrip := false, scope := 0, ready := none, lastAlive := none, freshRun := 0 }
      (h1.runLegs b f).runChans f true
    | none => h)

/-- HEAD_POWER_UP (R168, R176): the bay head starts stopped; `fwWord` is word 0x0002 of the image it runs. -/
def execHeadPowerUp (b : BayId) (fwWord : Nat) (s : State) : Out := .next (s.onHead b fun _ => Head.reset (fwWord % 2 ^ 64))

/-- HEAD_HELD_LIMIT (R167): the fifth consecutive held tick. -/
def execHeadHeldLimit (b : BayId) (s : State) : Out := .next (s.onHead b fun h => if 5 ≤ h.heldRun then h.stop 7 true else h)

/-- HEAD_PILOT_HOLD_LIMIT (R186): 1,000 consecutive held ticks. -/
def execHeadPilotHoldLimit (b : BayId) (s : State) : Out :=
  .next (s.onHead b fun h => if 1000 ≤ h.heldRun then { h with pilotMode := 0, pilotNext := none } else h)

/-- HEAD_IDENT_HOLD_LIMIT (R247): 1,000 consecutive held ticks. -/
def execHeadIdentHoldLimit (b : BayId) (s : State) : Out :=
  .next (s.onHead b fun h => if 1000 ≤ h.heldRun then { h with hfField := false, uhfField := false } else h)

/-- HEAD_WHISTLE_STOP (R168): a stop ORDER received on a port in SERVICE. -/
def execHeadWhistleStop (b : BayId) (p : Fin 2) (scope : Nat) (s : State) : Out :=
  .next (s.onHead b fun h => if (h.ports[p]).inService then h.stop scope false else h)

/-- HEAD_PORT_OUT_OF_SERVICE (R617): 16 downlink ticks without a recognised frame, or with `lost` a loss of block lock or a training
frame. -/
def execHeadPortOutOfService (b : BayId) (p : Fin 2) (lost : Bool) (s : State) : Out :=
  .next (s.onHead b fun h =>
    if lost ∨ 16 ≤ (h.ports[p]).noFrame then { h with ports := vmod h.ports p fun x => { x with inService := false } } else h)

/- The register block (R175, R176, R525, R617). -/

/-- A change of one port. -/
def Head.onPort (h : Head) (p : Fin 2) (f : HeadPort → HeadPort) : Head := { h with ports := vmod h.ports p f }

/-- What a read of a word gives, or nothing for an unknown address (R176, R525, R617); a write-only word reads as zero. -/
def Head.word (h : Head) (b : BayId) (p : Fin 2) (addr : Nat) : Option Nat :=
  let x := h.ports[p]
  if addr = 0 then some (headWord b 0 % 2 ^ 64)
  else if addr = 1 then some (headWord b 1 % 2 ^ 48 / 2 ^ 40 * 2 ^ 40 + 16 * 2 ^ 32 + headWord b 1 % 2 ^ 32 / 256 * 256 + 1)
  else if addr = 2 then some h.fwWord
  else if addr = 3 then some (headWord b 3 % 2 ^ 64)
  else if addr = 4 then some (headWord b 4 % 2 ^ 32)
  else if addr = 0x10 then some h.dtSet
  else if addr = 0x11 then some h.stopMask
  else if addr = 0x12 then some h.delay
  else if addr = 0x13 ∨ (0x14 ≤ addr ∧ addr ≤ 0x17) then some 0
  else if 0x18 ≤ addr ∧ addr ≤ 0x1B then some (leGet (if addr = 0x18 then x.ul else x.ulLatch) (8 * (addr - 0x18)) 8)
  else if addr = 0x1C then some (headWord b 0x1C % 2 ^ 32)
  else if addr = 0x1D then some x.peer
  else if addr = 0x1E then some h.epoch
  else none

/-- Whether a word is written on either port, obeyed or not: its own half of HEAD_DELAY_PS and the port-banked words (R175, R525). -/
def bothPorts (addr : Nat) : Bool := addr == 0x12 || (0x14 ≤ addr && addr ≤ 0x1B) || addr == 0x1D

/-- A write that is accepted (R175, R176, R525). -/
def Head.put (h : Head) (p : Fin 2) (addr d : Nat) : Head :=
  if addr = 0x10 then { h with dtSet := d % 2 ^ 32 }
  else if addr = 0x11 then { h with stopMask := d % 2 ^ 12 }
  else if addr = 0x12 then
    { h with delay := if p.val = 0 then h.delay / 2 ^ 32 * 2 ^ 32 + d % 2 ^ 32 else h.delay % 2 ^ 32 + d / 2 ^ 32 % 2 ^ 32 * 2 ^ 32 }
  else if addr = 0x13 then { h with restart := h.restart || bitOf d 0 }
  else if 0x14 ≤ addr ∧ addr ≤ 0x17 then
    h.onPort p fun x =>
      let ws := x.dl.set (addr - 0x14) (d % 2 ^ 64)
      { x with dl := ws, dlDone := if addr = 0x17 then some (ws.flatMap fun w => leBytes w 8) else x.dlDone }
  else if addr = 0x1D then
    h.onPort p fun x =>
      let v := d % 2 ^ 32
      { x with peer := v, conn := if v = 0 then SafeConn.reset else if v = x.peer then x.conn else SafeConn.reset.go 1 0 h.tick }
  else h

/-- HEAD_CONFIG_REQUEST (R175): the request of an idle or data frame that passed its CRC, on the port it arrived on, and its answer. -/
def Head.config (h : Head) (b : BayId) (p : Fin 2) (r : MgmtReq) : Head :=
  let obeyed := h.selected == 0 || h.selected == p.val + 1
  let known := h.word b p r.addr
  let writable := (0x10 ≤ r.addr && r.addr ≤ 0x17) || r.addr == 0x1D
  let answer := fun (h : Head) (st d : Nat) =>
    h.onPort p fun x => { x with answer := some ⟨r.tag, st, r.addr, d, h.fwData.length⟩ }
  if r.op = 1 then
    match known with
    | none => answer h 1 0
    | some d =>
      let h1 := if r.addr = 0x18 then h.onPort p fun x => { x with ulLatch := x.ul } else h
      answer h1 0 d
  else if r.op = 2 then
    (if known.isNone then answer h 1 0
     else if !writable then answer h 2 0
     else if !obeyed && !bothPorts r.addr then answer h 3 0
     else answer (h.put p r.addr r.data) 0 r.data)
  else h

/-- The command HEAD_CONFIG_REQUEST. -/
def execHeadConfigRequest (b : BayId) (p : Fin 2) (r : MgmtReq) (s : State) : Out := .next (s.onHead b fun h => h.config b p r)

/-- HEAD_SAFE_FRAME (R526): the frame complete on a port is checked; each accepted frame latches a new SAFE_UL frame. `demand` says whether
the bay head's own safety input demands, `ok` whether its safety input circuit passes its tests. -/
def Head.safeFrame (h : Head) (b : BayId) (p : Fin 2) (demand ok : Bool) : Head :=
  let x := h.ports[p]
  match x.dlDone with
  | none => h
  | some f =>
    let own := headWord b 0x1C % 2 ^ 32
    let fate := x.conn.judge f own x.peer 1000 h.tick
    let c := x.conn.after f h.tick fate
    let st := if demand then 3 else h.stretch - 1
    let bit := demand || h.stretch != 0
    let h1 : Head := match fate with
      | .accepted _ _ =>
        let c1 : SafeConn := { c with
          seq := (c.seq + 1) % 2 ^ 16, sentAt := h.tick, stamps := if c.st = 1 then (h.tick % 2 ^ 32) :: c.stamps else [] }
        let ul := Sys2Proof.Machine.safeFrame own x.peer c.seq h.tick c.lastStamp (b2n bit) (if ok then 2 else 3)
        { h.onPort p fun x => { x with dlDone := none, conn := c1, ul := ul } with demanding := demand, stretch := st }
      | _ => h.onPort p fun x => { x with dlDone := none, conn := c }
    h1.safeWatch

/-- The command HEAD_SAFE_FRAME. -/
def execHeadSafeFrame (b : BayId) (p : Fin 2) (demand ok : Bool) (s : State) : Out :=
  .next (s.onHead b fun h => h.safeFrame b p demand ok)

end Sys2Proof.Machine
end

