-- ==== Sys2Proof/Machine/Ident.lean ====
section
/-! DEFINITION. Cards and vehicle tags (spec file 09). -/

namespace Sys2Proof.Machine

/-- A flag of the identification sub-block (R268): 0 TYPE_A, 1 TYPE_B, 2 KYT_EN. -/
def Bay.identFlag (y : Bay) (i : Nat) : Bool := y.isEv && bitOf (y.ent 448 1) i

/-- Raise an identification event of a bay (R275). -/
def State.identEvent (s : State) (b : BayId) (kind data : Nat) : State :=
  s.stage b 8 ⟨288 + b.val / 3, kind, b.val + data, s.now⟩

/- Card exchanges (R249 to R254). -/

/-- Whether a KYT forward frame or its reply window is in progress (R249): an ACK, READ or WRITE that is not resolved, or a CALL
of 1,062.5 us behind 100 us unmodulated. -/
def Ident.kytBusy (x : Ident) (now : Nat) : Bool :=
  match x.inv with
  | some v => v.ackPhase || (v.next == 0 && decide (now < v.frameAt + 1163))
  | none => false

/-- A card exchange starts, or waits for the KYT step in progress (R249). -/
def Ident.startOp (x : Ident) (op : CardOp) (now : Nat) : Ident :=
  if x.kytBusy now then { x with opNext := some op } else { x with op := some op, opNext := none, hfField := true, sel := 0 }

/-- The end of a KYT step lets a waiting card exchange start (R249). -/
def Ident.kytStepEnd (x : Ident) : Ident :=
  match x.opNext with
  | some op => { x with op := some op, opNext := none, hfField := true, sel := 0 }
  | none => x

/-- CARD_POLL (R251): every POLL_MS while no card is held and no exchange is under way. -/
def execCardPoll (b : BayId) (s : State) : Out :=
  let y := s.bays[b]
  let x := y.ident
  .next (if (y.identFlag 0 ∨ y.identFlag 1) ∧ x.card.isNone ∧ x.op.isNone ∧ x.opNext.isNone ∧
      (x.lastPoll = 0 ∨ x.lastPoll + 1000 * y.ent 450 2 ≤ s.now) then
      s.onIdent b fun x => ({ x with lastPoll := s.now }.count 0).startOp .poll s.now
    else s)

/-- A hold ends: the card is halted, CARD_GONE is raised, and its UID is remembered (R254). -/
def State.cardGone (s : State) (b : BayId) : State :=
  match s.bays[b].ident.card with
  | some c =>
    (s.onIdent b fun x => { x with
      card := none, cardCode := 0, hfField := false,
      gone := (c.uid, s.now) :: x.gone.filter fun g => g.1 != c.uid && s.now < g.2 + 1000000 }).identEvent b 0x0641 0
  | none => s

/-- The CARD code of a card (R269). -/
def cardCodeOf (c : CardFound) : Nat := (if c.typeB then 3 else 1) + b2n c.isoDep

/-- Whether the session of a bay would take a token of a kind now (R229). -/
def Bay.takesToken (y : Bay) (kind : Nat) : Bool :=
  if y.session.st = .idle then authSource (y.ent 130 1) kind
  else y.session.st.beforeCharge && authSource (y.ses 130 1) kind

/-- The result of a poll (R251 to R254). -/
def State.pollDone (s : State) (b : BayId) (cards : List CardFound) (error : Bool) : State :=
  let y := s.bays[b]
  let s1 := if error then s.onIdent b fun x => x.count 2 else s
  match cards.filter fun c => if c.typeB then y.identFlag 1 else y.identFlag 0 with
  | [] => s1.onIdent b fun x => { x with cardCode := 0, hfField := false }
  | [c] =>
    let known := y.ident.gone.any fun g => g.1 == c.uid && s.now < g.2 + 1000000
    if known then
      s1.onIdent b fun x => { x with
        cardCode := 0, hfField := false, gone := (c.uid, s.now) :: x.gone.filter fun g => g.1 != c.uid }
    else
      let app := match c.app with
        | some d => if c.isoDep && y.ent 452 1 != 0 && !d.isEmpty then some (d.take 64) else none
        | none => none
      let tok := app.getD c.uid
      let code := cardCodeOf c
      let off := y.takesToken 1
      let s2 := s1.onIdent b fun x => { x.count 1 with cardCode := code, card := some ⟨code, c.uid, s.now, s.now⟩ }
      let s3 := s2.offerToken b ⟨1, tok, s.now⟩
      s3.identEvent b 0x0640 (2 ^ 8 * code + 2 ^ 12 * b2n app.isSome + 2 ^ 13 * b2n off)
  | _ =>
    (s1.onIdent b fun x => { x with cardCode := 5, hfField := false }).identEvent b 0x0640 (2 ^ 8 * 5 + 2 ^ 11)

/-- The response of a CARD_APDU (R270): SW, RLEN and the data. -/
def State.apduAnswer (s : State) (o : Origin) (sw : Nat) (data : List Byte) : State :=
  if 440 < data.length then s.refuse o stFAIL 0 [16, 16]
  else s.answer o.court o.mbx stOK 0 false ([(16, sw), (16, data.length)] ++ bytesAsFields data)

/-- The end of an exchange restarts the hold and lets a release that waits follow (R254, R270, R271). -/
def State.apduDone (s : State) (b : BayId) (r : CardResult) (o : Origin) : State :=
  let keep := s.onIdent b fun x => { x with card := x.card.map fun c => { c with since := s.now, lastCheck := s.now } }
  match r with
  | .apdu sw data => keep.apduAnswer o sw data
  | .apduTimeout gone => (if gone then s.cardGone b else keep).refuse o stTIMEOUT 0 [16, 16]
  | _ => keep.refuse o stFAIL 0 [16, 16]

/-- CARD_EXCHANGE_DONE (R249): a poll, a presence check or an APDU ends, and the receive path returns to KYT work. -/
def execCardExchangeDone (b : BayId) (r : CardResult) (s : State) : Out :=
  let s0 := s.onIdent b fun x => { x with op := none, inv := x.inv.map fun v => { v with frameAt := s.now } }
  .next (match s.bays[b].ident.op, r with
    | some .poll, .poll cards error => s0.pollDone b cards error
    | some .presence, .presence true =>
      s0.onIdent b fun x => { x with card := x.card.map fun c => { c with lastCheck := s.now } }
    | some .presence, .presence false => s0.cardGone b
    | some (.apdu o _), .apdu sw data => s0.apduDone b (.apdu sw data) o
    | some (.apdu o _), .apduFailed => s0.apduDone b .apduFailed o
    | some (.apdu o _), .apduTimeout gone => s0.apduDone b (.apduTimeout gone) o
    | _, _ => s)

/-- CARD_PRESENCE_CHECK (R254): every 200 ms, and not during an exchange. -/
def execCardPresenceCheck (b : BayId) (s : State) : Out :=
  let x := s.bays[b].ident
  .next (match x.card with
    | some c => if x.op.isNone ∧ x.opNext.isNone ∧ c.lastCheck + 200000 ≤ s.now then
        s.onIdent b fun x => x.startOp .presence s.now
      else s
    | none => s)

/-- CARD_HOLD_EXPIRE (R254): 30 s after the token was formed or the last APDU. -/
def execCardHoldExpire (b : BayId) (s : State) : Out :=
  let x := s.bays[b].ident
  .next (match x.card with
    | some c => if x.op.isNone ∧ c.since + 30000000 ≤ s.now then s.cardGone b else s
    | none => s)

/- Kerale Yard Tags (R255 to R267). -/

/-- The Q in force (R260). -/
def Ident.qForce (x : Ident) : Nat := (x.acc + 10) / 20

/-- A CALL goes out with the Q in force (R260, R261). -/
def Ident.call (x : Ident) (now : Nat) : Ident :=
  { x with uhfField := true, sel := if x.op.isSome then x.sel else 1,
           inv := some { q := x.qForce, next := 0, kept := [], busy := false, ackPhase := false, openTag := none, frameAt := now } }

/-- KYT_INVENTORY (R260, R261): every KYT_PERIOD an inventory starts with the next ROUND. -/
def execKytInventory (b : BayId) (s : State) : Out :=
  let y := s.bays[b]
  let x := y.ident
  .next (if y.identFlag 2 ∧ x.inv.isNone ∧ x.op.isNone ∧ (!x.started ∨ x.lastInv + 10000 * y.ent 463 1 ≤ s.now) then
      s.onIdent b fun x =>
        ({ x with
          acc := if x.started then max x.acc 40 else x.acc,
          round := (x.round + 1) % 256, started := true, lastInv := s.now, ackedNow := [] }.count 3).call s.now
    else s)

/-- The tag that is the token of the running or last session, 0 for none (R267). -/
def Bay.tagToken (y : Bay) : Nat :=
  match y.session.token with
  | some t => if t.kind = 2 then leGet t.bytes 0 12 else 0
  | none => 0

/-- The entry of the highest RSSI, of equal ones the lower ID (R267). -/
def bestTag : List TagEntry → Option TagEntry
  | [] => none
  | e :: t =>
    match bestTag t with
    | none => some e
    | some f => if f.rssi < e.rssi ∨ (f.rssi = e.rssi ∧ e.id ≤ f.id) then some e else some f

/-- Requests of tags that were not acknowledged in two inventories end with TIMEOUT (R273). -/
def State.tagTimeouts (s : State) (b : BayId) : State :=
  let x := s.bays[b].ident
  let late := x.cmds.filter fun c => 2 ≤ c.inventories
  late.foldl (fun t c => t.refuse c.origin stTIMEOUT 0 (if c.write then [8, 8, 16, 16, 16] else [8, 24, 16, 16]))
    (s.onIdent b fun x => { x with cmds := x.cmds.filter fun c => c.inventories < 2 })

/-- An inventory ends (R261, R267): the runs of acknowledgements and absences of every entry move on, and the best tag that
qualifies is offered. -/
def State.inventoryEnd (s : State) (b : BayId) : State :=
  let y := s.bays[b]
  let x := y.ident
  let tok := y.tagToken
  let away := !x.ackedNow.contains tok
  let absent := if tok ≠ x.lastToken then b2n away else if away then x.lastAbsent + 1 else if 3 ≤ x.lastAbsent then 3 else 0
  let tags := x.tags.map fun e =>
    if x.ackedNow.contains e.id then { e with seen := if -160 ≤ e.rssi then e.seen + 1 else 0, absent := 0 }
    else { e with seen := 0, absent := e.absent + 1 }
  let cmds := x.cmds.map fun c => if c.from_ ≤ x.lastInv then { c with inventories := c.inventories + 1 } else c
  let best := bestTag (tags.filter fun e => 2 ≤ e.seen ∧ (e.id ≠ tok ∨ 3 ≤ absent))
  let s1 := s.onIdent b fun x => { x with
    inv := none, uhfField := false, tags := tags, cmds := cmds, lastToken := tok, lastAbsent := absent }
  let s2 := match best with
    | some e =>
      if y.takesToken 2 then
        let s2 := s1.onIdent b fun x => { x with tags := x.tags.map fun (f : TagEntry) => if f.id = e.id then { f with offered := true } else f }
        (s2.offerToken b ⟨2, leBytes e.id 12, s.now⟩).identEvent b 0x0642 (2 ^ 8 * ubits 16 e.rssi)
      else s1
    | none => s1
  s2.tagTimeouts b

/-- A round with its ACK phase is over: the inventory ends after one with no single and no collision, else a new CALL goes out
(R261). -/
def State.roundEnd (s : State) (b : BayId) (busy : Bool) : State :=
  if busy then s.onIdent b fun x => x.kytStepEnd.call s.now else s.inventoryEnd b

/-- The count of a slot's class, its change of ACC and the handle it gives (R259, R260). -/
def kytClass : KytSlot → Fin 11 × Int × List Nat
  | .single h => (5, 0, [h % 65536])
  | .collision => (6, 7, [])
  | .empty => (4, -3, [])

/-- KYT_SLOT (R258 to R261): a slot ends. During a card exchange it is skipped and changes nothing. A round ends after its last
slot, or when Q in force is 2 or more away from its own. -/
def execKytSlot (b : BayId) (c : KytSlot) (s : State) : Out :=
  let x := s.bays[b].ident
  .next (match x.inv with
    | none => s
    | some v =>
      if v.ackPhase ∨ 2 ^ v.q ≤ v.next then s
      else
        let skip := x.op.isSome
        let k := kytClass c
        let acc := if skip then x.acc else (clampI 0 300 ((x.acc : Int) + k.2.1)).toNat
        let v1 : Inventory := { v with
          next := v.next + 1, kept := if skip then v.kept else v.kept ++ k.2.2,
          busy := v.busy || (!skip && k.1 != 4) }
        let x1 : Ident := { x.count (if skip then 7 else k.1) with acc := acc, inv := some v1 }
        let q := x1.qForce
        let excess := 2 ^ v.q ≤ v1.next || decide (q + 2 ≤ v.q) || decide (v.q + 2 ≤ q)
        let s1 := s.onIdent b fun _ => x1
        if !excess then s1
        else if v1.kept.isEmpty then s1.roundEnd b v1.busy
        else s1.onIdent b fun x => { x with inv := some { v1 with ackPhase := true, frameAt := s.now } })

/-- The next ACK, or the end of the round after the last (R261, R262). -/
def State.nextAck (s : State) (b : BayId) : State :=
  match s.bays[b].ident.inv with
  | none => s
  | some v =>
    let rest := v.kept.drop 1
    if rest.isEmpty then s.roundEnd b v.busy
    else s.onIdent b fun x => { x.kytStepEnd with inv := some { v with kept := rest, openTag := none, frameAt := s.now } }

/-- The next command for the tag that is open, if one waits (R262, R273). -/
def Ident.cmdFor (x : Ident) (id now : Nat) : Option TagCmd := x.cmds.find? fun c => c.tag == id && decide (c.from_ ≤ now)

/-- Put an acknowledged tag into the list (R266). -/
def Ident.listTag (x : Ident) (e : TagEntry) : Ident :=
  let rest := x.tags.filter (·.id != e.id)
  let oldest := rest.foldl (fun m f => min m f.last) (rest.headD e).last
  let kept := if rest.length < 64 then rest
    else match rest.find? fun f => f.last == oldest with
      | some f => rest.filter (·.id != f.id)
      | none => rest
  { x with tags := kept ++ [e] }

/-- KYT_ACK_REPLY (R262, R266): a valid reply to the ACK opens the tag and updates its entry; one that fails its CRC is counted. -/
def execKytAckReply (b : BayId) (handle id status blocks : Nat) (rssi : Int) (crcOk : Bool) (s : State) : Out :=
  let x := s.bays[b].ident
  .next (match x.inv with
    | none => s
    | some v =>
      if !v.ackPhase ∨ v.openTag.isSome ∨ v.kept.head? ≠ some (handle % 65536) then s
      else if !crcOk then s.onIdent b fun x => x.count 10
      else
        let old := x.tags.find? fun e => e.id == id
        let low := bitOf status 8
        let was := match old with
          | some e => e.lowRaised
          | none => false
        let e : TagEntry :=
          { id := id, status := status % 65536, blocks := blocks % 65536, rssi := rssi,
            reads := bump 16 ((old.map (·.reads)).getD 0), last := s.now, ackRound := some x.round,
            seen := (old.map (·.seen)).getD 0, absent := 0, offered := (old.map (·.offered)).getD false, lowRaised := low }
        let s1 := s.onIdent b fun x => { (x.count 8).listTag e with
          ackedNow := id :: x.ackedNow, inv := some { v with openTag := some id, frameAt := s.now } }
        let s2 := if low && !was then s1.identEvent b 0x0643 (2 ^ 8 * (status % 256)) else s1
        if (x.cmdFor id s.now).isSome then s2 else s2.nextAck b)

/-- KYT_ACK_TIMEOUT (R262): no valid reply to an ACK of 962.5 us behind 100 us, 40 us turnaround and 60 us more. -/
def execKytAckTimeout (b : BayId) (s : State) : Out :=
  let x := s.bays[b].ident
  .next (match x.inv with
    | none => s
    | some v =>
      if v.ackPhase ∧ v.openTag.isNone ∧ v.frameAt + 1163 ≤ s.now then (s.onIdent b fun x => x.count 9).nextAck b else s)

/-- The STATUS that a tag last reported. -/
def Ident.statusOf (x : Ident) (id : Nat) : Nat := ((x.tags.find? fun e => e.id == id).map (·.status)).getD 0

/-- A command for the open tag ends: its request is answered, and the next command or ACK follows (R262, R273, R274). -/
def State.tagDone (s : State) (b : BayId) (write : Bool) (answer : State → TagCmd → State) : State :=
  let x := s.bays[b].ident
  match x.inv with
  | none => s
  | some v =>
    match v.openTag with
    | none => s
    | some id =>
      match x.cmdFor id s.now with
      | none => s
      | some c =>
        if c.write ≠ write then s
        else
          let s1 := answer (s.onIdent b fun x => { x with cmds := x.cmds.erase c, inv := some { v with frameAt := s.now } }) c
          if (s1.bays[b].ident.cmdFor id s.now).isSome then s1 else s1.nextAck b

/-- KYT_READ_REPLY (R263, R273): the reply to a READ, or none within 60 us. -/
def execKytReadReply (b : BayId) (got : Bool) (rstatus : Nat) (data : List Byte) (crcOk : Bool) (s : State) : Out :=
  .next (s.tagDone b false fun t c =>
    let t1 := if got && !crcOk then t.onIdent b fun x => x.count 10 else t
    if got && crcOk then
      t1.answer c.origin.court c.origin.mbx stOK 0 false
        ([(8, rstatus), (24, 0), (16, t.bays[b].ident.statusOf c.tag), (16, 0)] ++
          (if rstatus = 0 then bytesAsFields ((data ++ List.replicate (8 * c.count) 0).take (8 * c.count)) else []))
    else t1.refuse c.origin stTIMEOUT 0 [8, 24, 16, 16])

/-- KYT_WRITE_REPLY (R263 to R265, R274): the reply to a WRITE, or none within 25 ms. -/
def execKytWriteReply (b : BayId) (got : Bool) (rstatus written : Nat) (crcOk : Bool) (s : State) : Out :=
  .next (s.tagDone b true fun t c =>
    let t1 := if got && !crcOk then t.onIdent b fun x => x.count 10 else t
    if got && crcOk then
      t1.ok c.origin [8, 8, 16, 16, 16] [rstatus, written, 0, t.bays[b].ident.statusOf c.tag, 0]
    else t1.refuse c.origin stTIMEOUT 0 [8, 8, 16, 16, 16])

/-- TAG_ENTRY_EXPIRE (R266): entries not updated for 60 s are removed. -/
def execTagEntryExpire (b : BayId) (s : State) : Out :=
  .next (s.onIdent b fun x => { x with tags := x.tags.filter fun e => s.now < e.last + 60000000 })

/- The tick work of identification. -/

/-- The code of RF_BB held constant with the selected field on (R275). -/
def State.identFront (s : State) (b : BayId) : State :=
  match s.bays[b].link.frame with
  | none => s
  | some f =>
    let x := s.bays[b].ident
    let fieldOn := if x.sel = 0 then x.hfField else x.uhfField
    let flat := fieldOn && f.rfBb.all (fun c => some c == f.rfBb.head?) && x.rfLast == some f.rfBb
    let run := if flat then x.rfRun + 1 else 1
    let s1 := s.onIdent b fun x => { x with rfLast := if fieldOn then some f.rfBb else none, rfRun := run }
    if flat ∧ run = 10000 then s1.identEvent b 0x0644 (2 ^ 8 * b2n (x.sel == 0) + 2 ^ 9 * b2n (x.sel != 0)) else s1

/-- APDUs and releases that wait: an APDU starts when no exchange is under way, and a release follows the APDUs (R270, R271). -/
def State.identWaiting (s : State) (b : BayId) : State :=
  let x := s.bays[b].ident
  match x.waitApdu, x.op with
  | (o, d, t) :: rest, none =>
    if s.now < t then s
    else
      let s1 := s.onIdent b fun x => { x with waitApdu := rest }
      if x.card.isNone then s1.refuse o stTIMEOUT 0 [16, 16]
      else if x.opNext.isSome then s
      else s1.onIdent b fun x => x.startOp (.apdu o d) s.now
  | [], none =>
    match x.waitRelease with
    | (o, t) :: rest =>
      if s.now < t then s
      else ((s.onIdent b fun x => { x with waitRelease := rest }).cardGone b).answer o.court o.mbx stOK 0 false []
    | [] => s
  | _, some _ => s

/-- The compute tick of the auxiliary cell as far as identification goes: the transmit envelope of a frame under way is not given
bit by bit (log 48). -/
def State.identTick (s : State) (b : BayId) : State :=
  let s1 := (s.identFront b).identWaiting b
  let x := s1.bays[b].ident
  let env := if x.op.isSome || x.inv.isSome then [s1.draw % 2 ^ 256] else [0]
  let depth := if x.sel = 0 then 10 + s1.drawAt 1 % 91 else 90
  (s1.drawnN 2).onIdent b fun x => { x with env := env, depth := depth }

/-- The fields of IDENT_TX (R246); RX_GAIN is the reader's own choice (log 48). -/
def Bay.identTx (y : Bay) (gain : Nat) : List Nat :=
  let x := y.ident
  if y.isEv then
    [x.env.headD 0, b2n x.hfField, b2n x.uhfField, x.sel, x.depth, y.ent 461 1, y.ent 462 1 / 16, gain % 256]
  else List.replicate 8 0

/- Commands (R269 to R274). -/

/-- IDENT_STATUS (R269). -/
def cardIdentStatus (o : Origin) (bay : Nat) (s : State) : State :=
  card o 0x0601 ([8, 8, 8, 8] ++ List.replicate 12 32)
    (fun t => [bayPermit o [0] 1 bay t, rng 1 (bay < 96)])
    (fun t => (t, atBay bay [] fun b =>
      let x := t.bays[b].grpCk.ident
      [x.cardCode, x.tags.length, x.qForce, 0] ++ x.counts.toList ++ [t.gens.bay[b]])) s

/-- The command IDENT_STATUS (R269). -/
def execIdentStatus (o : Origin) (bay : Nat) (s : State) : Out := .next (cardIdentStatus o bay s)

/-- Change the identification of a bay between ticks. -/
def State.onIdentBoth (s : State) (b : BayId) (f : Ident → Ident) : State :=
  s.onGrpBoth b fun g => { g with ident := f g.ident }

/-- Whether a card is held, and whether it is an ISO-DEP card. -/
def Ident.holds (x : Ident) (isoDep : Bool) : Bool :=
  match x.card with
  | some c => !isoDep || c.code == 2 || c.code == 4
  | none => false

/-- CARD_APDU (R270). -/
def cardCardApdu (o : Origin) (bay len : Nat) (apdu : List Byte) (s : State) : State :=
  cardLater o 0x0602 [16, 16]
    (fun t => [ownPermit o 1 bay t, rng 1 (bay < 96), rng 3 (4 ≤ len && len ≤ 1024),
      need (atBay bay true fun b => t.bays[b].ident.holds true) stBAD_STATE 0])
    (fun t => atBay bay t fun b => t.onIdentBoth b fun x => { x with waitApdu := x.waitApdu ++ [(o, apdu, t.now + 1)] }) s

/-- The command CARD_APDU (R270). -/
def execCardApdu (o : Origin) (bay len : Nat) (apdu : List Byte) (s : State) : Out := .next (cardCardApdu o bay len apdu s)

/-- CARD_RELEASE (R271). -/
def cardCardRelease (o : Origin) (bay : Nat) (s : State) : State :=
  cardLater o 0x0603 []
    (fun t => [ownPermit o 1 bay t, rng 1 (bay < 96), need (atBay bay true fun b => t.bays[b].ident.holds false) stBAD_STATE 0])
    (fun t => atBay bay t fun b => t.onIdentBoth b fun x => { x with waitRelease := x.waitRelease ++ [(o, t.now + 1)] }) s

/-- The command CARD_RELEASE (R271). -/
def execCardRelease (o : Origin) (bay : Nat) (s : State) : Out := .next (cardCardRelease o bay s)

/-- One entry of TAG_LIST (R272). -/
def TagEntry.fields (e : TagEntry) : List Field :=
  [(96, e.id), (16, e.status), (16, e.blocks), (16, ubits 16 e.rssi), (16, e.reads), (8, b2n e.offered), (24, 0), (64, e.last)]

/-- TAG_LIST (R272). -/
def cardTagList (o : Origin) (bay : Nat) (s : State) : State :=
  cardBulk o 0x0610 [16, 16]
    (fun t => [ownPermit o 1 bay t, rng 1 (bay < 96), need (atBay bay true fun b => t.bays[b].identFlag 2) stBAD_STATE 0])
    (fun t => atBay bay (t, [], [], []) fun b =>
      let l := t.bays[b].grpCk.ident.tags
      (t, [], [], fieldBytes ([(8, l.length), (24, 0)] ++ l.flatMap TagEntry.fields))) s

/-- The command TAG_LIST (R272). -/
def execTagList (o : Origin) (bay : Nat) (s : State) : Out := .next (cardTagList o bay s)

/-- A tag command that is queued (R273, R274). -/
def tagQueue (o : Origin) (opcode bay count addr tag : Nat) (write : Bool) (data : List Byte) (s : State) : State :=
  cardLater o opcode (if write then [8, 8, 16, 16, 16] else [8, 24, 16, 16])
    (fun t => [ownPermit o 1 bay t, rng 1 (bay < 96), rng 2 (1 ≤ count && count ≤ (if write then 4 else 16)),
      rng 3 (addr ≤ 1023),
      need (atBay bay true fun b => t.bays[b].identFlag 2) stBAD_STATE 0,
      need (atBay bay true fun b => t.bays[b].ident.cmds.length < 4) stNO_RESOURCE 0])
    (fun t => atBay bay t fun b => t.onIdentBoth b fun x => { x with
      cmds := x.cmds ++ [⟨o, write, count, addr, tag, data, t.now + 1, 0⟩] }) s

/-- TAG_READ (R273). -/
def cardTagRead (o : Origin) (bay count addr tag : Nat) (s : State) : State := tagQueue o 0x0611 bay count addr tag false [] s

/-- The command TAG_READ (R273). -/
def execTagRead (o : Origin) (bay count addr tag : Nat) (s : State) : Out := .next (cardTagRead o bay count addr tag s)

/-- TAG_WRITE (R274). -/
def cardTagWrite (o : Origin) (bay count addr tag : Nat) (data : List Byte) (s : State) : State :=
  tagQueue o 0x0612 bay count addr tag true data s

/-- The command TAG_WRITE (R274). -/
def execTagWrite (o : Origin) (bay count addr tag : Nat) (data : List Byte) (s : State) : Out :=
  .next (cardTagWrite o bay count addr tag data s)

end Sys2Proof.Machine
end

