-- ==== Sys2Proof/Machine/Pilot.lean ====
section
/-! DEFINITION. Control pilot, Green PHY and bay matching (spec file 07). -/

namespace Sys2Proof.Machine

/- The pilot (R185 to R195). -/

/-- PILOT_MODE and PILOT_DUTY acting at the bay head in a tick (R185); before any command steady -12 V. -/
def Pilot.actingAt (p : Pilot) (t : Nat) : Nat × Nat :=
  match p.hist.find? (fun h => h.1 ≤ t) with
  | some h => h.2
  | none => (0, 0)

/-- Whether the output changed at an instant of a period other than its start (R189). -/
def Pilot.changedIn (p : Pilot) (start : Nat) : Bool := p.hist.any fun h => start < h.1 && h.1 < start + 1000

/-- Note the pilot fields of a data frame that governs tick `t`: a PWM duty acts at the next period start, a steady mode at
once (R185). -/
def Pilot.command (p : Pilot) (mode duty t : Nat) : Pilot :=
  let at_ := if mode = 2 then (t + 999) / 1000 * 1000 else t
  let old := p.hist.filter fun h => h.1 < at_
  let same := match old with
    | h :: _ => h.2 == (mode, duty)
    | [] => (mode, duty) == ((0 : Nat), (0 : Nat))
  { p with mode := mode, duty := duty, hist := (if same then old else (at_, mode, duty) :: old).take 8 }

/-- The line state of a valid V_HI, none for Invalid (R190). State F is expected in steady -12 V mode only. -/
def lineState (mode : Nat) (w v : Int) : Option Nat :=
  if 12000 - w ≤ v ∧ v < 12000 + w then some 0
  else if ((v - 9000).natAbs : Int) < w then some 1
  else if ((v - 6000).natAbs : Int) < w then some 2
  else if ((v - 3000).natAbs : Int) < w then some 3
  else if (v.natAbs : Int) < w then some 4
  else if mode = 0 ∧ ((v + 12000).natAbs : Int) < w then some 5
  else none

/-- Whether an evaluation is discarded (R189). -/
def Bay.discards (y : Bay) (m : PilotMeas) (mode : Nat) : Bool :=
  let w := y.ent 66 2
  y.pilot.changedIn (m.tick / 1000 * 1000) || w < m.spreadHi ||
  (mode == 2 && (m.nHi < 20 || m.nLo < 20 || w < m.spreadLo))

/-- The reported pilot state changes: PILOT_STATE is raised, and DIODE_FAULT clears (R191, R193, R216). -/
def State.pilotTo (s : State) (b : BayId) (st first tick : Nat) : State :=
  let old := s.bays[b].pilot.st
  (s.onPilot b fun p => { p with st := st, cand := none, diode := false, diodeRun := 0 }).stage b 2
    ⟨b.val, 0x0401, st + 2 ^ 8 * old + 2 ^ 16 * satN 16 (tick - first), tick⟩

/-- An evaluation that is Invalid or discarded: the hundredth in a row makes the state X (R192). -/
def State.pilotBadEval (s : State) (b : BayId) (tick : Nat) : State :=
  let p := s.bays[b].pilot
  let first := if p.bad = 0 then tick else p.badFirst
  let s1 := s.onPilot b fun p => { p with bad := p.bad + 1, badFirst := first }
  if p.bad + 1 = 100 ∧ p.st ≠ 6 then
    (s1.stage b 2 ⟨96 + b.val, 0x0422, ubits 16 p.lastHi, tick⟩).pilotTo b 6 first tick
  else s1

/-- An evaluation with a line state: it confirms, begins or continues a run (R191). -/
def State.pilotLine (s : State) (b : BayId) (ls tick : Nat) : State :=
  let y := s.bays[b]
  let p := y.pilot
  let s1 := s.onPilot b fun p => { p with bad := 0 }
  if ls = p.st then s1.onPilot b fun p => { p with cand := none }
  else
    let c : Cand := match p.cand with
      | some c => if c.code = ls then { c with run := c.run + 1 } else ⟨ls, 1, tick⟩
      | none => ⟨ls, 1, tick⟩
    if y.ent 65 1 ≤ c.run then s1.pilotTo b ls c.first tick
    else s1.onPilot b fun p => { p with cand := some c }

/-- The diode check (R193). -/
def State.diodeCheck (s : State) (b : BayId) (m : PilotMeas) : State :=
  let y := s.bays[b]
  let p := y.pilot
  if p.st = 1 ∨ p.st = 2 ∨ p.st = 3 then
    let run := if y.entS 68 2 ≤ m.vLo then p.diodeRun + 1 else 0
    let s1 := s.onPilot b fun p => { p with diodeRun := run }
    if run = y.ent 65 1 ∧ !p.diode then
      (s1.onPilot b fun p => { p with diode := true, diodeNew := true, diodeFaults := bump 32 p.diodeFaults }).stage b 2
        ⟨96 + b.val, 0x0420, ubits 16 m.vLo, m.tick⟩
    else s1
  else s.onPilot b fun p => { p with diodeRun := 0 }

/-- A failure of the generator or steady-mode check has lasted three evaluations (R193). -/
def State.genFault (s : State) (b : BayId) (bits tick : Nat) : State :=
  (s.onPilot b fun p => { p with genFault := true, genFaults := bump 32 p.genFaults }).stage b 2
    ⟨96 + b.val, 0x0421, bits, tick⟩

/-- The generator check and the steady-mode check (R193). -/
def State.genCheck (s : State) (b : BayId) (m : PilotMeas) (mode duty : Nat) (ls : Option Nat) : State :=
  let p := s.bays[b].pilot
  if mode = 2 then
    let badEdge := 1000 < m.riseNs.natAbs
    let badHigh := 5000 < (m.highNs - 100 * (duty : Int)).natAbs
    let run := if badEdge ∨ badHigh then p.edgeRun + 1 else 0
    let s1 := s.onPilot b fun p => { p with edgeRun := run, steadyRun := 0 }
    if run = 3 then s1.genFault b (b2n badEdge + 2 * b2n badHigh) m.tick else s1
  else
    let ok := match ls with
      | some l => if mode = 1 then decide (l ≤ 3) else if mode = 0 then l == 5 else l == 4
      | none => false
    let run := if ok then 0 else p.steadyRun + 1
    let s1 := s.onPilot b fun p => { p with steadyRun := run, edgeRun := 0 }
    if run = 3 then s1.genFault b 4 m.tick else s1

/-- One evaluation of the pilot (R188 to R193). -/
def State.pilotEval (s : State) (b : BayId) (m : PilotMeas) : State :=
  let y := s.bays[b]
  let a := y.pilot.actingAt (m.tick / 1000 * 1000)
  let s0 := s.onPilot b fun p => { p with lastEval := m.tick }
  if y.discards m a.1 then (s0.onPilot b fun p => { p with discarded := bump 32 p.discarded }).pilotBadEval b m.tick
  else
    let lo := if a.1 = 2 then m.vLo else y.pilot.vLo
    let s1 := s0.onPilot b fun p => { p with vHi := m.vHi, vLo := lo, lastHi := m.vHi }
    let ls := lineState a.1 y.halfW m.vHi
    let s2 := match ls with
      | some l => s1.pilotLine b l m.tick
      | none => (s1.onPilot b fun p => { p with invalid := bump 32 p.invalid, cand := none }).pilotBadEval b m.tick
    let s3 := if a.1 = 2 then s2.diodeCheck b m else s2
    s3.genCheck b m a.1 a.2 ls

/-- PILOT_EVALUATION (R188): only while PILOT_EN is 1 and the lane is in SERVICE. -/
def execPilotEvaluation (b : BayId) (m : PilotMeas) (s : State) : Out :=
  .next (let y := s.bays[b]
    if y.pilotFlag 0 ∧ y.pilot.st ≠ 7 ∧ y.serving then s.pilotEval b m else s)

/-- The PP class of a proximity voltage in mV: the resistance is PULLUP x V / (SUPPLY - V) (R195). -/
def ppClass (pull supply : Nat) (v : Int) : Nat :=
  let den := (supply : Int) - v
  let num := (pull : Int) * v
  if den ≤ 0 then 1
  else if 3000 * den < num then 1
  else if 1200 * den ≤ num ∧ num ≤ 1800 * den then 2
  else if 544 * den ≤ num ∧ num ≤ 816 * den then 3
  else if 176 * den ≤ num ∧ num ≤ 264 * den then 4
  else if 80 * den ≤ num ∧ num ≤ 120 * den then 5
  else 6

/-- PP_OHM, saturating (R195, R211). -/
def ppOhms (pull supply : Nat) (v : Int) : Nat :=
  let den := (supply : Int) - v
  if den ≤ 0 then 0xFFFF else satN 16 ((pull : Int) * v / den).toNat

/-- PP_EVALUATION (R195): the mean of channel 14 over a period, in mV. -/
def execPpEvaluation (b : BayId) (tick : Nat) (mean : Int) (s : State) : Out :=
  .next (let y := s.bays[b]
    let p := y.pilot
    if y.pilotFlag 1 ∧ p.pp ≠ 0 ∧ y.serving then
      let cls := ppClass (y.ent 70 2) (y.ent 72 2) mean
      let s1 := s.onPilot b fun p => { p with ppOhm := ppOhms (y.ent 70 2) (y.ent 72 2) mean }
      if cls = p.pp then s1.onPilot b fun p => { p with ppCand := none }
      else
        let c : Cand := match p.ppCand with
          | some c => if c.code = cls then { c with run := c.run + 1 } else ⟨cls, 1, tick⟩
          | none => ⟨cls, 1, tick⟩
        if y.ent 65 1 ≤ c.run then
          (s1.onPilot b fun p => { p with pp := cls, ppCand := none }).stage b 2 ⟨b.val, 0x0402, cls + 2 ^ 8 * p.pp, tick⟩
        else s1.onPilot b fun p => { p with ppCand := some c }
    else s)

/- Excision and impulses (R199 to R202). -/

/-- The EDGE_T of the pilot edges that R185 places in a bay head tick. -/
def Pilot.edgesIn (p : Pilot) (t : Nat) : List Nat :=
  let a := p.actingAt t
  let start := t / 1000 * 1000
  let fall := 100 * a.2
  (if p.hist.any (·.1 == t) || (a.1 == 2 && t == start) then [0] else []) ++
  (if a.1 == 2 && t == start + fall / 1000 then [fall % 1000 * 65536 / 1000] else [])

/-- The edge report that applies to a tick: its own, or the last before it (R199, R200). -/
def Mod.reportFor (m : Mod) (t : Nat) : Option EdgeReport := m.reports.find? fun r => r.tick ≤ t

/-- The sample indices, relative to a tick, that are excised around its edges (R199). -/
def Bay.exciseIdx (y : Bay) (t : Nat) : List Int :=
  let legs := match y.grpCk.mod.reportFor t with
    | some r => r.entries.map (·.1)
    | none => []
  let pre := y.ent 80 1
  let n := pre + y.ent 81 1 + 1
  (legs ++ y.pilot.edgesIn t).flatMap fun e =>
    let c := ((e * 75 / 65536 : Nat) : Int) + y.entS 82 1
    (List.range n).map fun (i : Nat) => c - (pre : Int) + (i : Int)

/-- Whether STOPPED, DT_CLAMP or LEG_REJ of a frame, as one number, changed from the frame before (R200). -/
def stopWordOf (f : UpFrame) : Nat := b2n f.stopped + 2 * (f.dtClamp % 256) + 512 * (f.legRej % 256)

/-- The indices within `k` samples of a marked one. -/
def nearAny (marks : List Nat) (k i : Nat) : Bool := marks.any fun m => m ≤ i + k && i ≤ m + k

/-- Release the samples of a tick: excision, then blanking, with their counts; the squares of the samples left as they are go
into the running RMS (R199 to R201). -/
def Plc.release (x : Plc) (k : Nat) (p : PlcTick) : Plc :=
  let n := p.samples.length
  let ex := if p.uncertain then List.range n else (List.range n).filter p.excised.contains
  let sum := isum x.squares
  let cnt : Int := x.squares.length
  let hot := (List.range n).filter fun i =>
    let v := p.samples.getD i 0
    (!ex.contains i && cnt != 0 && decide ((k : Int) * k * sum < 256 * v * v * cnt)) ||
    (p.clip != 0 && (v == -2048 || v == 2047))
  let bl := (List.range n).filter fun i => nearAny hot 4 i && !ex.contains i
  let keep := fun i => !ex.contains i && !bl.contains i
  let sq := ((List.range n).filter keep).map fun i => p.samples.getD i 0 * p.samples.getD i 0
  let out := (List.range n).map fun i => if keep i then p.samples.getD i 0 else 0
  (((({ x with
    squares := (sq.reverse ++ x.squares).take 3072,
    released := if x.txTicks.contains p.tick then [] else out }).count 6 ex.length).count 7 bl.length).count 8
      (b2n p.uncertain))

/-- Close the second of the erasure count: PLC_ERASURES when more than a quarter of its symbols were erased (R202). -/
def State.plcSecond (s : State) (b : BayId) : State :=
  let x := s.bays[b].plc
  if x.secIndex = s.now / 1000000 then s
  else
    let s1 := s.onPlc b fun x => { x with secIndex := s.now / 1000000, secSymbols := 0, secErased := 0 }
    if x.secSymbols < 4 * x.secErased then
      s1.stage b 0 ⟨96 + b.val, 0x0423, satN 16 x.secErased + 2 ^ 16 * satN 16 x.secSymbols, s.sampleTick⟩
    else s1

/-- The tick work of PLC cell A (R199 to R201): the samples of the frame published, and the release of those before. -/
def State.plcTickA (s : State) (b : BayId) : State :=
  let s0 := s.plcSecond b
  let y := s0.bays[b]
  if !y.pilotFlag 2 then s0
  else match y.link.frame with
    | none => s0.onPlc b fun x => match x.prev with
        | some p => { x.release (y.ent 84 1) p with prev := none, carry := [], lastStatus := none }
        | none => { x with carry := [], lastStatus := none }
    | some f =>
      let w := stopWordOf f
      let changed := y.plc.lastStatus.isSome && y.plc.lastStatus != some w
      let idx := y.exciseIdx f.tick
      let back := (idx.filter (· < 0)).map fun i => (75 + i).toNat
      let own := ((idx.filter fun i => 0 ≤ i && i < 75).map Int.toNat) ++ y.plc.carry
      let next := (idx.filter (75 ≤ ·)).map fun i => (i - 75).toNat
      let stop := (y.orders.getD 2 (0, 0)).1 != 0 || (y.orders.getD 3 (0, 0)).1 != 0
      let cur : PlcTick := ⟨f.tick, f.plc.map (sval 12), own, changed || stop, f.clip⟩
      s0.onPlc b fun x =>
        let x1 := match x.prev with
          | some p => x.release (y.ent 84 1) { p with excised := p.excised ++ back, uncertain := p.uncertain || changed }
          | none => x
        { x1 with
          prev := some cur, carry := next, lastStatus := some w,
          gain := x1.gain.add f.agc (s.gens.bay[b]) s.sampleTick }

/-- The tick work of PLC cell B: the samples of the next tick to transmit go out (R196). -/
def State.plcTickB (s : State) (b : BayId) : State :=
  s.onPlc b fun x => match x.tx with
    | [] => { x with txNow := [] }
    | w :: t => { x with tx := t, txNow := w, txTicks := ((s.now + 1) :: x.txTicks).take 8 }

/-- A symbol in the receive chain: erased when more than EXCISE_MAX percent of its window is excised or blanked (R202). -/
def State.plcSymbol (s : State) (b : BayId) (marked : Nat) : State :=
  let y := s.bays[b]
  let erased := y.ent 83 1 * 3072 < 100 * marked
  s.onPlc b fun x => ({ x with secSymbols := x.secSymbols + 1, secErased := x.secErased + b2n erased }).count 9 (b2n erased)

/-- RX_GAIN changes only while no frame is being received and TX_EN is 0 (R198). -/
def State.plcRxGain (s : State) (b : BayId) (g : Nat) : State :=
  s.onPlc b fun x => if !x.receiving && x.tx.isEmpty then { x with rxGain := g % 256 } else x

/-- PLC cell B sends a message. -/
def State.plcSend (s : State) (b : BayId) (m : PlcMsg) : State :=
  s.onPlc b fun x => ({ x with sent := some m }).count 5 1

/-- PLC_FRAME_RX (R196, R197): a frame is checked, acknowledged and handed over. -/
def execPlcFrameRx (b : BayId) (f : PlcRx) (s : State) : Out :=
  .next (if s.bays[b].pilotFlag 2 then
      let s0 := s.onPlc b fun x => { x with receiving := false }
      let tally := fun (i : Fin 10) => s0.onPlc b (·.count i 1)
      if s.assistFailed (plcBlock b) 0 || s.assistFailed (plcBlock b) 1 then tally 3
      else if !f.fcOk then tally 1
      else if !f.robo then tally 3
      else if !f.payloadOk then tally 2
      else if !(s.bays[b].plc.matched && f.src == s.bays[b].plc.mac) then tally 4
      else
        let s1 := (tally 0).onPlc b fun x => { x with
          snr := x.snr.add f.snr (s.gens.bay[b]) s.sampleTick, handed := f.data }
        if f.ack then s1.plcSend b .sack else s1
    else s)

/- Bay matching (R203 to R209). -/

/-- Change one slot of the matrix. -/
def State.onSlot (s : State) (i : Fin 16) (f : SlacSlot → SlacSlot) : State :=
  { s with slac := { s.slac with slots := vmod s.slac.slots i f } }

/-- The slot that holds a RunID. -/
def Slac.slotOf (x : Slac) (runId : Nat) : Option (Fin 16) :=
  (List.finRange 16).find? fun i => x.slots[i].st != 0 && x.slots[i].runId == runId

/-- The pilot state of a bay is B, C or D (R203, R206). -/
def Bay.pluggedIn (y : Bay) : Bool := y.pilot.st == 1 || y.pilot.st == 2 || y.pilot.st == 3

/-- A bay answers CM_SLAC_PARM.REQ where R203 lets it; a session in CONNECTED goes to MATCHING (R224). -/
def State.answerParm (s : State) (b : BayId) (runId : Nat) : State :=
  let y := s.bays[b]
  if y.pilotFlag 2 ∧ y.pluggedIn ∧ !y.plc.matched then
    let s1 := s.plcSend b (.slacParmCnf runId)
    if y.session.st = .connected ∧ y.hlc then
      (s1.onSess b fun x => { x with matchFrom := s.now }).sessTo b .matching
    else s1
  else s

/-- SLAC_PARM_REQ (R203, R204): a RunID with a slot is answered; another is noted until its slot is given. -/
def execSlacParmReq (b : BayId) (tick runId mac : Nat) (s : State) : Out :=
  .next (if !s.bays[b].pilotFlag 2 then s
    else match s.slac.slotOf runId with
      | some _ => s.answerParm b runId
      | none =>
        let known := s.slac.heard.any (·.runId == runId)
        let heard := if known then
            s.slac.heard.map fun h => if h.runId = runId then { h with bays := h.bays ||| bayBit b, tick := min h.tick tick } else h
          else s.slac.heard ++ [⟨runId, mac, tick, bayBit b⟩]
        { s with slac := { s.slac with heard := heard } })

/-- Insert a heard RunID by its tick, then by its RunID (R204). -/
def insertHeard (h : SlacHeard) : List SlacHeard → List SlacHeard
  | [] => [h]
  | x :: t => if h.tick < x.tick ∨ (h.tick = x.tick ∧ h.runId < x.runId) then h :: x :: t else x :: insertHeard h t

/-- Whether something raised at most once per second may be raised now. -/
def dueAgain (last : Option Nat) (now : Nat) : Bool :=
  match last with
  | some u => decide (u + 1000000 ≤ now)
  | none => true

/-- Give one heard RunID the lowest free slot and answer on the bays that heard it, or raise SLAC_NO_SLOT (R204). -/
def State.giveSlot (s : State) (h : SlacHeard) : State :=
  let s0 := { s with slac := { s.slac with heard := s.slac.heard.filter (·.runId != h.runId) } }
  match (List.finRange 16).find? (fun i => s.slac.slots[i].st == 0) with
  | some i =>
    let s1 := s0.onSlot i fun _ => { SlacSlot.free with runId := h.runId, mac := h.mac, st := 1 }
    (baysIn h.bays).foldl (fun (t : State) b => t.answerParm b h.runId) s1
  | none =>
    (baysIn h.bays).foldl (fun (t : State) b =>
      if dueAgain t.bays[b].plc.noSlotAt s.now then
        (t.onPlc b fun x => { x with noSlotAt := some s.now }).stage b 1 ⟨96 + b.val, 0x0424, h.runId % 2 ^ 32, h.tick⟩
      else t) s0

/-- SLAC_SLOT_ASSIGN (R204): the RunIDs first heard 32 ticks ago or more get their slots. -/
def execSlacSlotAssign (s : State) : Out :=
  .next (((s.slac.heard.filter fun h => h.tick + 32 ≤ s.now).foldl (fun l h => insertHeard h l) []).foldl State.giveSlot s)

/-- START_ATTEN_CHAR (R205): the first one heard for a RunID opens its window. -/
def execStartAttenChar (b : BayId) (tick runId : Nat) (s : State) : Out :=
  .next (match s.slac.slotOf runId with
    | some i => if s.bays[b].pilotFlag 2 then
        s.onSlot i fun x => { x with first := some (x.first.getD tick) } else s
    | none => s)

/-- The end of a slot's window (R205). -/
def SlacSlot.closeAt (x : SlacSlot) : Option Nat :=
  match x.close, x.first with
  | some c, _ => some c
  | none, some f => some (f + 600000)
  | none, none => none

/-- MNBC_SOUND (R205): a sound within the window adds the attenuations of its 58 carrier groups (0.25 dB); the one with count
0 closes the window 10,000 tk later. -/
def execMnbcSound (b : BayId) (tick runId count : Nat) (groups : List Nat) (s : State) : Out :=
  .next (match s.slac.slotOf runId with
    | none => s
    | some i =>
      let x := s.slac.slots[i]
      match x.first, x.closeAt with
      | some f, some c =>
        if s.bays[b].pilotFlag 2 ∧ f ≤ tick ∧ tick < c then
          s.onSlot i fun x => { x with
            sums := vmod x.sums b fun p => (p.1 + (groups.take 58).sum, p.2 + 1),
            close := if count = 0 && x.close.isNone then some (min (f + 600000) (tick + 10000)) else x.close }
        else s
      | _, _ => s)

/-- The entry of a bay: the mean over all groups and sounds, 0xFFFF with fewer than 5 sounds (R205). -/
def SlacSlot.entry (x : SlacSlot) (b : BayId) : Nat :=
  if x.sums[b].2 < 5 then 0xFFFF else satN 16 (rdiv x.sums[b].1 (58 * x.sums[b].2)).toNat

/-- The candidates of a slot, ascending (R206). -/
def State.candidates (s : State) (x : SlacSlot) : List BayId :=
  allBays.filter fun b =>
    let y := s.bays[b]
    x.entry b != 0xFFFF && y.pilotFlag 3 && y.pluggedIn && !y.taken_

/-- The candidate with the lowest entry, the lower bay number first. -/
def bestOf (x : SlacSlot) : List BayId → Option BayId
  | [] => none
  | b :: t =>
    match bestOf x t with
    | none => some b
    | some c => if x.entry b ≤ x.entry c then some b else some c

/-- Whether every other slot that is still sounding and has a valid entry on a bay has one at least 6 dB above (R206, log
33). -/
def State.clearOf (s : State) (i : Fin 16) (b : BayId) : Bool :=
  let e := s.slac.slots[i].entry b
  (List.finRange 16).all fun j =>
    let z := s.slac.slots[j]
    j == i || z.st != 1 || z.entry b == 0xFFFF || e + 24 ≤ z.entry b

/-- A slot is RESOLVED to a bay: it alone reports to the vehicle (R207). -/
def State.resolveSlot (s : State) (i : Fin 16) (b : BayId) (byAssign : Bool) : State :=
  let x := s.slac.slots[i]
  let s1 := (s.onSlot i fun x => { x with st := 2, bay := b.val }).onPlc b fun p => { p with
    slot := some i.val, mac := x.mac, attenAt := some s.now }
  (s1.plcSend b (.attenCharInd x.runId (x.entry b))).stage b 1
    ⟨b.val, 0x0410, i.val + 16 * b2n byAssign + 2 ^ 8 * (x.mac % 2 ^ 24), s.now⟩

/-- The other candidate with the smallest margin to a bay, and that margin (R216). -/
def nearestOther (x : SlacSlot) (b : BayId) : List BayId → Option (Nat × Nat)
  | [] => none
  | c :: t =>
    let m := ((x.entry c : Int) - x.entry b).natAbs
    if c = b then nearestOther x b t
    else match nearestOther x b t with
      | none => some (c.val, m)
      | some (d, k) => if m ≤ k then some (c.val, m) else some (d, k)

/-- A slot is AMBIGUOUS: every candidate bay raises it, and its matching counts as failed (R207, R225). With one candidate
there is no other to name: those fields are open (log 42). -/
def State.ambiguousSlot (s : State) (i : Fin 16) (cs : List BayId) : State :=
  let x := s.slac.slots[i]
  let s1 := s.onSlot i fun x => { x with st := 3 }
  cs.foldl (fun (t : State) b =>
    let o := (nearestOther x b cs).getD (t.draw % 256, t.drawAt 1 % 65536)
    let t1 := (t.drawnN 2).stage b 1 ⟨b.val, 0x0411, i.val + 2 ^ 8 * o.1 + 2 ^ 16 * satN 16 o.2, s.now⟩
    if t1.bays[b].session.st = .matching ∧ t1.bays[b].session.pauseUntil.isNone then t1.matchFail b else t1) s1

/-- SLAC_DECISION (R206, R207, R209): at close + 32 the slot is decided; an assignment counts from the tick boundary after it was made (R215). -/
def execSlacDecision (i : Fin 16) (s : State) : Out :=
  .next (let x := s.slac.slots[i]
    match x.closeAt with
    | none => s
    | some c =>
      if x.st ≠ 1 ∨ s.now < c + 32 then s
      else
        let s1 := s.onSlot i fun x => { x with close := some c }
        let cs := s1.candidates x
        let inForce := fun (a : SlacAssign) => a.mac == x.mac && decide (a.expires ≤ s.now + 60000000)
        let asg := s1.slac.assigns.find? inForce
        let s2 := { s1 with slac := { s1.slac with assigns := s1.slac.assigns.filter fun a => !inForce a } }
        match asg.bind (fun a => cs.find? (·.val == a.bay)) with
        | some b => s2.resolveSlot i b true
        | none =>
          match bestOf x cs with
          | none => s2.onSlot i fun x => { x with st := 4 }
          | some b1 =>
            let margin : Bool := match bestOf x (cs.filter (· != b1)) with
              | none => true
              | some b2 => decide (x.entry b1 + 24 ≤ x.entry b2)
            if margin ∧ s2.clearOf i b1 then s2.resolveSlot i b1 false else s2.ambiguousSlot i cs)

/-- SLAC_MATCH_REQ (R197, R207): the resolved bay answers with a new NMK and network identifier, the slot is matched and the
session goes to SETUP (R224). -/
def execSlacMatchReq (b : BayId) (runId : Nat) (s : State) : Out :=
  .next (match s.slac.slotOf runId with
    | none => s
    | some i =>
      let x := s.slac.slots[i]
      if x.st = 2 ∧ x.bay = b.val ∧ s.bays[b].plc.slot = some i.val then
        let nmk := s.random 128
        let nid := Config.randomBits (s.free + 1) % 2 ^ 54
        let s1 := (s.drawnN 2).onSlot i fun x => { x with st := 5 }
        let s2 := (s1.onPlc b fun p => { p with matched := true, attenAt := none, nmk := some nmk, nid := some nid }).plcSend b
          (.slacMatchCnf nmk nid)
        let s3 := s2.stage b 1 ⟨b.val, 0x0412, i.val + 2 ^ 8 * (x.mac % 2 ^ 24), s.now⟩
        if s3.bays[b].session.st = .matching then
          (s3.onSess b fun x => { x with setupFrom := some s.now, pauseUntil := none }).sessTo b .setup
        else s3
      else s)

/-- SLAC_VALIDATE (R203): CM_VALIDATE is answered as by an EVSE that does not perform validation. -/
def execSlacValidate (b : BayId) (s : State) : Out :=
  .next (if s.bays[b].pilotFlag 2 then s.plcSend b .validateCnf else s)

/-- SLAC_SLOT_FREE (R204): a matched slot, or one whose window closed 2 s ago, is freed. -/
def execSlacSlotFree (i : Fin 16) (s : State) : Out :=
  .next (let x := s.slac.slots[i]
    let old : Bool := match x.close with
      | some c => decide (c + 2000000 ≤ s.now)
      | none => false
    if x.st = 5 ∨ (x.st ≠ 0 ∧ old) then s.freeSlot i.val else s)

/-- SLAC_MATCH_TIMEOUT (R208): no CM_SLAC_MATCH.REQ within 2 s of CM_ATTEN_CHAR.IND. -/
def execSlacMatchTimeout (b : BayId) (s : State) : Out :=
  .next (match s.bays[b].plc.attenAt with
    | some t => if t + 2000000 ≤ s.now then s.slacEnd b 4 else s
    | none => s)

/-- SLAC_ASSIGN_LAPSE (R209): assignments lapse 60 s after they were made. -/
def execSlacAssignLapse (s : State) : Out :=
  .next { s with slac := { s.slac with assigns := s.slac.assigns.filter fun a => s.now < a.expires } }

/- Commands (R211 to R215). -/

/-- PILOT_STATUS (R211). -/
def cardPilotStatus (o : Origin) (bay : Nat) (s : State) : State :=
  card o 0x0401 [8, 8, 16, 16, 16, 8, 8, 16, 16, 32, 64, 32, 32, 32, 32]
    (fun t => [bayPermit o [0] 1 bay t, rng 1 (bay < 96)])
    (fun t => (t, atBay bay [] fun b =>
      let p := t.bays[b].pilot
      let a := p.actingAt t.now
      [p.st, a.1, a.2, ubits 16 p.vHi, ubits 16 p.vLo, p.pp, b2n p.diode, p.ppOhm, 0, t.gens.bay[b], p.lastEval,
       p.discarded, p.invalid, p.diodeFaults, p.genFaults])) s

/-- The command PILOT_STATUS (R211). -/
def execPilotStatus (o : Origin) (bay : Nat) (s : State) : Out := .next (cardPilotStatus o bay s)

/-- What a settings command says of a bay's availability. -/
def pickUnavail (bay : Nat) : Setting → Option Bool
  | .pilotUnavailable b v => if b = bay then some (v = 1) else none
  | _ => none

/-- PILOT_UNAVAILABLE (R212). -/
def cardPilotUnavailable (o : Origin) (bay set : Nat) (s : State) : State :=
  cardLater o 0x0402 [32, 64]
    (fun t => [bayPermit o [0] 1 bay t, rng 1 (bay < 96), rng 2 (set ≤ 1),
      need (atBay bay true fun b =>
        let y := t.bays[b]
        let st := y.session.st
        set == 0 || (y.pilotFlag 0 && (st == .idle || st == .ended || st == .unavailable))) stBAD_STATE 0])
    (fun t => atBay bay t fun b =>
      let same := t.planned (pickUnavail bay) t.bays[b].unavail == (set == 1)
      t.arm o (.pilotUnavailable bay set) (bayBit b) false same fun c => (pickUnavail bay c).isSome) s

/-- The command PILOT_UNAVAILABLE (R212). -/
def execPilotUnavailable (o : Origin) (bay set : Nat) (s : State) : Out := .next (cardPilotUnavailable o bay set s)

/-- PILOT_UNAVAILABLE takes effect: the session enters UNAVAILABLE, or returns to IDLE (R212). -/
def State.applyUnavail (s : State) (bay set : Nat) : State :=
  atBay bay s fun b =>
    let s1 := s.onBay b fun y => { y with unavail := set == 1 }
    let st := s.bays[b].session.st
    let s2 := if set = 1 ∧ (st = .idle ∨ st = .ended) then s1.sessTo b .unavailable
      else if set = 0 ∧ st = .unavailable then s1.sessTo b .idle
      else s1
    s2.onBay b fun y => { y with grpCk := { y.grpCk with session := y.grp.session } }

/-- The mean of a statistic; with no value it is open (log 43). -/
def Accum.mean (a : Accum) (open_ : Nat) : Nat := if a.n = 0 then open_ else (a.sum / (a.n : Int)).toNat

/-- PLC_STATUS (R213). -/
def cardPlcStatus (o : Origin) (bay : Nat) (s : State) : State :=
  card o 0x0410 (List.replicate 10 32 ++ [16, 8, 8, 32, 64, 64])
    (fun t => [bayPermit o [0] 1 bay t, rng 1 (bay < 96)])
    (fun t => (t.drawnN 2, atBay bay [] fun b =>
      let p := t.bays[b].plc
      p.counts.toList ++ [satN 16 (p.snr.mean (t.draw % 65536)), satN 8 (p.gain.mean (t.drawAt 1 % 256)), 0,
        p.gain.gen, p.gain.first, p.gain.last])) s

/-- The command PLC_STATUS (R213). -/
def execPlcStatus (o : Origin) (bay : Nat) (s : State) : Out := .next (cardPlcStatus o bay s)

/-- One slot of SLAC_MATRIX (R214). -/
def SlacSlot.fields (x : SlacSlot) : List Field :=
  [(64, x.runId), (48, x.mac), (8, x.st), (8, x.bay), (64, x.first.getD 0), (64, x.close.getD 0)] ++
  allBays.map fun b => (16, x.entry b)

/-- SLAC_MATRIX (R214). -/
def cardSlacMatrix (o : Origin) (s : State) : State :=
  cardBulk o 0x0420 [16, 16] (fun _ => [permit o [0]])
    (fun t => (t, [], [], fieldBytes (t.slac.slots.toList.flatMap SlacSlot.fields))) s

/-- The command SLAC_MATRIX (R214). -/
def execSlacMatrix (o : Origin) (s : State) : Out := .next (cardSlacMatrix o s)

/-- SLAC_ASSIGN (R215). -/
def cardSlacAssign (o : Origin) (mac bay : Nat) (s : State) : State :=
  card o 0x0421 [64]
    (fun t =>
      let mine := t.slac.assigns.all fun a => a.mac != mac || a.court == o.court
      let others := (t.slac.assigns.filter (·.mac != mac)).length
      [if bay = 0xFF then need (o.court.val == 0 || (3 ≤ o.court.val && mine)) stNOT_PERMITTED (if o.court.val < 3 then 0 else 1)
        else bayPermit o [0] 2 bay t,
       rng 2 (bay < 96 || bay == 0xFF),
       need (bay == 0xFF || atBay bay true fun b => t.bays[b].pilotFlag 3 && !t.bays[b].plc.matched) stBAD_STATE 0,
       need (bay == 0xFF || others < 32) stNO_RESOURCE 0])
    (fun t =>
      let rest := t.slac.assigns.filter (·.mac != mac)
      let exp := if bay = 0xFF then 0 else t.now + 60000001
      let new : List SlacAssign := if bay = 0xFF then [] else [⟨mac, bay, o.court, exp⟩]
      ({ t with slac := { t.slac with assigns := rest ++ new } }, [exp])) s

/-- The command SLAC_ASSIGN (R215). -/
def execSlacAssign (o : Origin) (mac bay : Nat) (s : State) : Out := .next (cardSlacAssign o mac bay s)

end Sys2Proof.Machine
end

