-- ==== Sys2Proof/Machine/Time.lean ====
section
/-! DEFINITION. Site time: PTP, its states, steps, and the commands that configure and set it (spec file 02). -/

namespace Sys2Proof.Machine

/-- Change the clock. -/
def State.onClock (s : State) (f : Clock → Clock) : State := { s with clock := f s.clock }

/-- The time state moves, under a SOURCE of R60: TIME_STATE where it changes (R59). -/
def State.timeGo (s : State) (st : TimeState) (source : Nat) : State :=
  let old := s.clock.state
  let s1 := s.onClock fun c => { c with state := st, source := source }
  if st = old then s1 else s1.raiseNow 468 0x0120 (st.code + 2 ^ 3 * old.code + 2 ^ 6 * source)

/-- The SOURCE code of R60 of a SOURCE of TIME_CONFIG (R61). -/
def sourceCode (source : Nat) : Nat := min 2 source

/-- Whether this QN960 takes time from PTP: its source is PTP on a port that runs, and it does not follow the other twin (R56). -/
def State.ptpRuns (s : State) : Bool :=
  s.clock.cellRuns && s.clock.cfg.source != 0 && s.clock.source != 3 &&
  (s.clock.cfg.source != 1 || s.host.port == .eth10g || s.host.port == .sgmii)

/-- A change of SITE_EPOCH - OFFSET that the legal court meets where the UTC offset moves (R64, R408). -/
def State.offsetMoved (s : State) (old : Int) : State := s.legalShift (-(s.utcOffset - old) * nsPerS) s.now

/-- A step of SITE_EPOCH at the boundary of the tick in progress (R58): STEPPED, TIME_STEP, and what the legal court does of it. `bySet` says that
TIME_SET made it. -/
def State.stepTime (s : State) (epoch : Nat) (bySet : Bool) : State :=
  let d : Int := (epoch : Int) - s.clock.siteEpoch
  let s1 := s.onClock fun c => { c with siteEpoch := epoch, stepped := true, within := 0, beyond := 0 }
  (s1.raiseNow 469 0x0121 (b2n bySet + 2 * ubits 31 (satI 31 (d.tdiv 1000)))).legalShift d s.now

/-- PTP_SYNC (R55, R57 to R59): the first valid Sync sets SITE_EPOCH; a later one is measured, and the frequency adjustment, which the spec
bounds and does not otherwise give, takes force at the next tick boundary (log 130). -/
def State.ptpSync (s : State) (m : SyncMsg) : State :=
  let old := s.utcOffset
  let c0 := s.clock
  let off : Int := (m.arrivalNs : Int) - m.masterNs - c0.pathDelayNs
  let resumes := c0.state == .holdover || c0.state == .free
  let adj : Int := (s.draw % 200001 : Nat) - 100000
  let s1 := s.drawn.onClock fun c => { c with lastSync := s.now, ptpUtcOffset := some m.utcOffset, freqNext := some adj }
  let s2 := if c0.epochSet then
      s1.onClock fun c => { c with
        offsetNs := satI 32 off
        within := if off.natAbs ≤ 1000 then c.within + 1 else 0
        beyond := if 1000 * c.cfg.stepLimitUs < off.natAbs then c.beyond + 1 else 0 }
    else
      s1.onClock fun c => { c with epochSet := true, siteEpoch := ubits 64 ((c.siteEpoch : Int) - off), within := 0, beyond := 0 }
  let s3 := if c0.epochSet then s2.offsetMoved old else s2
  if resumes then s3.timeGo .locking (sourceCode c0.cfg.source) else s3

/-- A mirrored setting of site time (R608): a new UTC offset, and a step where SITE_EPOCH moves while it was set. -/
def State.timeInput (s : State) (epoch : Nat) (isSet : Bool) (freq off : Int) (utc : Option Int) : State :=
  let old := s.utcOffset
  let was := s.clock.epochSet
  let d : Int := (epoch : Int) - s.clock.siteEpoch
  let s1 := s.onClock fun c => { c with
    epochSet := isSet, siteEpoch := if was then c.siteEpoch else epoch, freqNext := some freq, offsetNs := off, ptpUtcOffset := utc }
  let s2 := if was then s1.offsetMoved old else s1
  if was ∧ d ≠ 0 then s2.stepTime epoch false else s2

/-- What a valid Sync does on a mirroring server (R608, R611): its measurement is the server's own, and site time goes to both twins. -/
def State.ptpSyncMirrored (s : State) (m : SyncMsg) : State :=
  let t := s.ptpSync m
  let k := t.clock
  let s1 := s.drawn.onClock fun c => { c with lastSync := k.lastSync, offsetNs := k.offsetNs, within := k.within, beyond := k.beyond }
  let s2 := if s.clock.state == .holdover || s.clock.state == .free then s1.timeGo .locking (sourceCode s.clock.cfg.source) else s1
  s2.postMirror (.time k.siteEpoch k.epochSet (k.freqNext.getD k.freqPpb) k.offsetNs k.ptpUtcOffset)

/-- The command PTP_SYNC (R58): a Sync that is not valid is ignored. -/
def execPtpSync (m : SyncMsg) (s : State) : Out :=
  .next (if m.valid && s.ptpRuns then (if s.mirroring && s.twin.server then s.ptpSyncMirrored m else s.ptpSync m) else s)

/-- PTP_DELAY_RESP (R57): the mean path delay of the delay request-response mechanism, from the Sync's origin and arrival and the Delay_Req's
departure and receipt. -/
def execPtpDelayResp (origin arrival departure receipt : Nat) (s : State) : Out :=
  .next (if s.ptpRuns then
      s.onClock fun c => { c with pathDelayNs := (((arrival : Int) - origin) + ((receipt : Int) - departure)) / 2 }
    else s)

/-- SITE_TIME_STEP (R58); a mirroring server steps with its returner (R608). -/
def execSiteTimeStep (s : State) : Out :=
  .next (if s.ptpRuns && s.clock.epochSet && 16 ≤ s.clock.beyond then
      let e := ubits 64 ((s.clock.siteEpoch : Int) - s.clock.offsetNs)
      if s.mirroring && s.twin.server then
        (s.onClock fun c => { c with within := 0, beyond := 0 }).postMirror
          (.time e true (s.clock.freqNext.getD s.clock.freqPpb) s.clock.offsetNs s.clock.ptpUtcOffset)
      else s.stepTime e false
    else s)

/-- TIME_LOCKED (R59). -/
def execTimeLocked (s : State) : Out :=
  .next (if s.ptpRuns && s.clock.state == .locking && 16 ≤ s.clock.within then s.timeGo .locked s.clock.source else s)

/-- SYNC_TIMEOUT (R59): no valid Sync for 3 s; the last adjustment is kept. -/
def execSyncTimeout (s : State) : Out :=
  .next (if s.ptpRuns && (s.clock.state == .locking || s.clock.state == .locked) && s.clock.lastSync + 3000000 ≤ s.now then
      (s.onClock fun c => { c with within := 0, beyond := 0 }).timeGo .holdover s.clock.source
    else s)

/- TIME_CONFIG (R61). -/

/-- The time configuration of a setting. -/
def pickTime : Setting → Option (Option TimeCfg)
  | .timeConfig c => some (some c)
  | _ => none

/-- TIME_CONFIG (R61). -/
def cardTimeConfig (o : Origin) (source domain transport step : Nat) (s : State) : State :=
  cardLater o 0x0120 [32, 64]
    (fun _ => [permit o [0], rng 1 (source ≤ 3), rng 2 (domain ≤ 127), rng 3 (transport ≤ 1), rng 4 (100 ≤ step && step ≤ 1000000)])
    (fun t =>
      let c : TimeCfg := ⟨source, domain, transport, step⟩
      let force := if t.clock.cfgSet then some t.clock.cfg else none
      t.arm o (.timeConfig c) 0 true (t.planned pickTime force == some c) fun k => (pickTime k).isSome) s

/-- The command TIME_CONFIG (R61). -/
def execTimeConfig (o : Origin) (source domain transport step : Nat) (s : State) : Out :=
  .next (cardTimeConfig o source domain transport step s)

/-- The time state under the configuration in force: FREE with the host as source, else LOCKING (R61). -/
def State.timeByConfig (s : State) : State :=
  let src := s.clock.cfg.source
  let s1 := s.onClock fun c => { c with
    within := 0, beyond := 0, lastSync := s.now, freqNext := if src = 0 then some 0 else c.freqNext }
  s1.timeGo (if src = 0 then .free else .locking) (sourceCode src)

/-- TIME_CONFIG takes effect (R56, R61): a change of source moves STATE; with the host as source the adjustment is 0. -/
def State.applyTime (s : State) (cfg : TimeCfg) : State :=
  let old := s.utcOffset
  let moved := s.clock.cfg.source != cfg.source
  let s1 := s.onClock fun c => { c with
    cfg := cfg, cfgSet := true, ptpUtcOffset := if moved && cfg.source == 0 then none else c.ptpUtcOffset }
  let s2 := s1.offsetMoved old
  if moved ∧ s.clock.source ≠ 3 then s2.timeByConfig else s2

/- TIME_SET (R62). -/

/-- TIME_SET (R62): APPLY_TICK is at least 1,000 tk after the tick of receipt. -/
def cardTimeSet (o : Origin) (siteNs apply : Nat) (s : State) : State :=
  cardLater o 0x0121 [64, 64] (fun t => [permit o [0], rng 2 (t.now + 1000 ≤ apply)])
    (fun t => t.onClock fun c => { c with timeSet := c.timeSet ++ [⟨siteNs, apply, o⟩] }) s

/-- The command TIME_SET (R62). -/
def execTimeSet (o : Origin) (siteNs apply : Nat) (s : State) : Out := .next (cardTimeSet o siteNs apply s)

/-- TIME_SET_APPLY (R62): site time shows SITE_NS at APPLY_TICK; a step where EPOCH_SET was already 1. -/
def execTimeSetApply (s : State) : Out :=
  .next (match s.clock.timeSet.find? fun w => w.applyTick ≤ s.now with
    | none => s
    | some w =>
      let s1 := s.onClock fun c => { c with timeSet := c.timeSet.filter (· != w) }
      let epoch := ubits 64 ((w.siteNs : Int) - 1000 * w.applyTick)
      let old := if s.clock.epochSet then s.clock.siteEpoch else 0
      let s2 := if s.clock.epochSet then s1.stepTime epoch true
        else s1.onClock fun c => { c with siteEpoch := epoch, epochSet := true, within := 0, beyond := 0 }
      s2.ok w.origin [64, 64] [old, epoch])

/- Tick boundaries. -/

/-- Whether a returner follows its server's tick count (R35, R56, R624). -/
def State.follows (s : State) : Bool := s.isReturner && (s.inStep || (s.twin.st == .joining && 2 ≤ s.twin.joinPhase))

/-- Site time at a tick boundary (R34, R56): a new adjustment takes force, and a returner takes time from its twin. -/
def State.timeBoundary (s : State) : State :=
  let s1 := match s.clock.freqNext with
    | some a => s.onClock fun c => { c with freqPpb := clampI (-100000) 100000 a, freqNext := none }
    | none => s
  if s1.follows then (if s1.clock.source = 3 then s1 else s1.timeGo .twin 3)
  else if s1.clock.source = 3 then s1.timeByConfig
  else s1

end Sys2Proof.Machine
end

