-- ==== Sys2Proof/Machine/Requests.lean ====
section
/-! DEFINITION. Requests as the mailboxes bring them: the rounds of Myavat, trailer, sequence and precedence, and the reading of the fields of
each command from its payload (spec file 03). -/

namespace Sys2Proof.Machine

/- Fields of a payload. -/

/-- The fields of a payload in order, from the least significant bit on (R5). -/
def splitFields : List Nat → Nat → List Nat
  | [], _ => []
  | w :: t, v => v % 2 ^ w :: splitFields t (v / 2 ^ w)

/-- A field by its place from 0. -/
abbrev fld (f : List Nat) (i : Nat) : Nat := f.getD i 0

/-- The first of some positions, counted from 1, at which a field is not zero; 0 where there is none (R82). -/
def firstNonzero (fs : List Nat) : List Nat → Nat
  | [] => 0
  | p :: t => if fld fs (p - 1) = 0 then firstNonzero fs t else p

/-- The origin of a request whose payload has `len` bytes where its card has `n`, with its first reserved field that is not zero. -/
def shaped (o : Origin) (len n rsv : Nat) : Origin := { o with badLen := o.badLen || len != n, rsv := rsv }

/-- Run a card of fields of widths `ws`, reserved at the positions `rs`. -/
def withFields (o : Origin) (ws rs : List Nat) (p : List Byte) (f : Origin → List Nat → State → State) (s : State) : State :=
  let n := (ws.sum + 7) / 8
  let fs := splitFields ws (leGet p 0 n)
  f (shaped o p.length n (firstNonzero fs rs)) fs s

/-- Run a card whose fields are followed by as many bytes as they say. -/
def withTail (o : Origin) (ws rs : List Nat) (tail : List Nat → Nat) (p : List Byte) (f : Origin → List Nat → List Byte → State → State)
    (s : State) : State :=
  let n := (ws.sum + 7) / 8
  let fs := splitFields ws (leGet p 0 n)
  f (shaped o p.length (n + tail fs) (firstNonzero fs rs)) fs ((p.drop n).take (tail fs)) s

/-- A request whose opcode is unknown or not valid on its mailbox (R85). -/
def State.badOpcode (s : State) (o : Origin) (op : Nat) : State :=
  if s.canTake o.court o.mbx then (s.take o.court o.mbx op []).answer o.court o.mbx stBAD_OPCODE 0 false [] else s

/-- A request whose OP or TARGET field, at a position, names no operation of its card (R85). -/
def cardBadOp (o : Origin) (opcode : Nat) (layout cs : List Nat) (pos : Nat) (s : State) : State :=
  cardLater o opcode layout (fun _ => [permit o cs, rng pos false]) id s

/-- Every court number. -/
def allCourtNumbers : List Nat := List.range 16

/- The commands by opcode (R86). -/

/-- Requests of group 0x01: the chip, time and power. -/
def requestGroup01 (o : Origin) (op : Nat) (p : List Byte) (s : State) : State :=
  if op = 0x0101 then
    withFields o [32] [] p (fun o f => cardRegRead o (fld f 0)) s
  else if op = 0x0102 then
    withFields o [32, 32] [] p (fun o f => cardRegWrite o (fld f 0) (fld f 1)) s
  else if op = 0x0120 then
    withFields o [8, 8, 8, 32, 8] [5] p (fun o f => cardTimeConfig o (fld f 0) (fld f 1) (fld f 2) (fld f 3)) s
  else if op = 0x0121 then
    withFields o [64, 64] [] p (fun o f => cardTimeSet o (fld f 0) (fld f 1)) s
  else if op = 0x0130 then
    withFields o [8, 8, 16] [3] p (fun o f => cardMemHealth o (fld f 0) (fld f 1)) s
  else if op = 0x0140 then
    withFields o [8, 8, 16, 64] [3] p (fun o f =>
      cardLowPower o (if fld f 0 = 2 then 2 else 1) (fld f 0) (fld f 1) (fld f 3)) s
  else if op = 0x0141 then
    withFields o [32] [1] p (fun o _ => cardIslandStatus o) s
  else if op = 0x0142 then
    withFields o [8, 8, 16, 32, 32, 32, 32] [2] p (fun o f =>
      cardIslandConfig o (fld f 0) (fld f 2) (fld f 3) (fld f 4) (fld f 5) (fld f 6)) s
  else s.badOpcode o op

/-- Requests of group 0x02: courts and mailboxes. -/
def requestGroup02 (o : Origin) (op : Nat) (p : List Byte) (s : State) : State :=
  if op = 0x0200 then
    cardMbxEcho (shaped o p.length (min p.length 444) 0) p s
  else if op = 0x0201 then
    withFields o [8, 8, 16, 16, 16, 96, 64, 64, 32, 64, 64, 32, 64, 64, 32, 64, 64, 32] [2, 5] p (fun o f =>
      cardCourtCreate o (fld f 0) (fld f 2) (fld f 3) (fld f 5) (fld f 6) (fld f 7) (fld f 8) (fld f 9) (fld f 10) (fld f 11) (fld f 12) (fld f 13) (fld f 14) (fld f 15) (fld f 16) (fld f 17)) s
  else if op = 0x0202 then
    withFields o [8, 24] [2] p (fun o f => cardCourtRestart o (fld f 0)) s
  else if op = 0x0203 then
    withFields o [8, 8, 16] [3] p (fun o f => cardCourtTeardown o (fld f 0) (fld f 1)) s
  else if op = 0x0204 then
    withFields o [8, 24] [2] p (fun o f => cardCourtStatus o (fld f 0)) s
  else if op = 0x0205 then
    withFields o [8, 8, 16, 64, 64, 32] [3] p (fun o f => cardMbxPlace o (fld f 0) (fld f 1) (fld f 3) (fld f 4) (fld f 5)) s
  else if op = 0x0206 then
    withFields o [512] [] p (fun o f => cardEvtMask o (BitVec.ofNat 512 (fld f 0))) s
  else s.badOpcode o op

/-- Requests of group 0x03: bays and links. -/
def requestGroup03 (o : Origin) (op : Nat) (p : List Byte) (reads : List (List Byte)) (s : State) : State :=
  if op = 0x0301 then
    withFields o [64] [] p (fun o f => cardBayTableBase o (fld f 0)) s
  else if op = 0x0302 then
    withFields o [96, 32] [2] p (fun o f => cardBayReload o (BitVec.ofNat 96 (fld f 0)) reads) s
  else if op = 0x0303 then
    withFields o [8, 24] [2] p (fun o f => cardBayStatus o (fld f 0)) s
  else if op = 0x0310 then
    withFields o [8, 24] [2] p (fun o f => cardLinkStatus o (fld f 0)) s
  else if op = 0x0311 then
    withFields o [96, 32] [2] p (fun o f => cardLinkRetrain o (BitVec.ofNat 96 (fld f 0))) s
  else if op = 0x0312 then
    withFields o [96, 16, 16, 32, 384] [3] p (fun o f => cardHeadFwLoad o (BitVec.ofNat 96 (fld f 0)) (fld f 1) (fld f 3) (fld f 4)) s
  else s.badOpcode o op

/-- Requests of group 0x04: pilot, PLC and SLAC. -/
def requestGroup04 (o : Origin) (op : Nat) (p : List Byte) (s : State) : State :=
  if op = 0x0401 then
    withFields o [8, 24] [2] p (fun o f => cardPilotStatus o (fld f 0)) s
  else if op = 0x0402 then
    withFields o [8, 8, 16] [3] p (fun o f => cardPilotUnavailable o (fld f 0) (fld f 1)) s
  else if op = 0x0410 then
    withFields o [8, 24] [2] p (fun o f => cardPlcStatus o (fld f 0)) s
  else if op = 0x0420 then
    withFields o [32] [1] p (fun o _ => cardSlacMatrix o) s
  else if op = 0x0421 then
    withFields o [48, 8, 8] [3] p (fun o f => cardSlacAssign o (fld f 0) (fld f 1)) s
  else s.badOpcode o op

/-- Requests of group 0x05: sessions. -/
def requestGroup05 (o : Origin) (op : Nat) (p : List Byte) (s : State) : State :=
  if op = 0x0501 then
    withFields o [8, 24] [2] p (fun o f => cardSessionStatus o (fld f 0)) s
  else if op = 0x0502 then
    withFields o [8, 8, 16, 64, 32, 32] [3] p (fun o f => cardSessionAuth o (fld f 0) (fld f 1) (fld f 3) (fld f 4) (fld f 5)) s
  else if op = 0x0503 then
    withFields o [8, 24, 64] [2] p (fun o f => cardSessionStop o (fld f 0) (fld f 2)) s
  else if op = 0x0504 then
    withFields o [8, 24, 64, 32, 32] [2] p (fun o f => cardSessionLimit o (fld f 0) (fld f 2) (fld f 3) (fld f 4)) s
  else if op = 0x0510 then
    withFields o [8, 8, 16, 32] [] p (fun o f => cardCertLoad o (fld f 0) (fld f 1) (fld f 2) (fld f 3)) s
  else if op = 0x0511 then
    withFields o [8, 8, 16, 64] [] p (fun o f => cardCertResponse o (fld f 0) (fld f 1) (fld f 2) (fld f 3)) s
  else s.badOpcode o op

/-- Requests of group 0x06: cards and tags. -/
def requestGroup06 (o : Origin) (op : Nat) (p : List Byte) (s : State) : State :=
  if op = 0x0601 then
    withFields o [8, 24] [2] p (fun o f => cardIdentStatus o (fld f 0)) s
  else if op = 0x0602 then
    withTail o [8, 8, 16] [2] (fun f => fld f 2) p (fun o f d => cardCardApdu o (fld f 0) (fld f 2) d) s
  else if op = 0x0603 then
    withFields o [8, 24] [2] p (fun o f => cardCardRelease o (fld f 0)) s
  else if op = 0x0610 then
    withFields o [8, 24] [2] p (fun o f => cardTagList o (fld f 0)) s
  else if op = 0x0611 then
    withFields o [8, 8, 16, 96] [] p (fun o f => cardTagRead o (fld f 0) (fld f 1) (fld f 2) (fld f 3)) s
  else if op = 0x0612 then
    withTail o [8, 8, 16, 96] [] (fun f => 8 * fld f 1) p (fun o f d =>
      cardTagWrite o (fld f 0) (fld f 1) (fld f 2) (fld f 3) d) s
  else s.badOpcode o op

/-- Requests of group 0x07: modulator and loops. -/
def requestGroup07 (o : Origin) (op : Nat) (p : List Byte) (s : State) : State :=
  if op = 0x0701 then
    withFields o [8, 24] [2] p (fun o f => cardModStatus o (fld f 0)) s
  else if op = 0x0702 then
    withFields o [8, 8, 8, 8, 16, 16, 16, 16] [] p (fun o f =>
      cardModPulse o (fld f 0) (fld f 1) (fld f 2) (fld f 3) (f.drop 4)) s
  else if op = 0x0710 then
    withFields o [8, 24] [2] p (fun o f => cardLoopStatus o (fld f 0)) s
  else if op = 0x0711 then
    withFields o [8, 8, 16, 16, 16, 32] [3] p (fun o f => cardLoopTune o (fld f 0) (fld f 1) (fld f 3) (fld f 4) (fld f 5)) s
  else s.badOpcode o op

/-- Requests of group 0x08: channels. -/
def requestGroup08 (o : Origin) (op : Nat) (p : List Byte) (s : State) : State :=
  if op = 0x0801 then
    withFields o [8, 24] [2] p (fun o f => cardChanStatus o (fld f 0)) s
  else if op = 0x0802 then
    withFields o [8, 8, 16, 16] [2] p (fun o f => cardChanSet o (fld f 0) (fld f 2) (fld f 3)) s
  else if op = 0x0803 then
    withFields o [8, 8, 16] [2] p (fun o f => cardChanReset o (fld f 0) (fld f 2)) s
  else s.badOpcode o op

/-- Requests of group 0x09: earth leakage. -/
def requestGroup09 (o : Origin) (op : Nat) (p : List Byte) (s : State) : State :=
  if op = 0x0901 then
    withFields o [8, 24] [2] p (fun o f => cardEarthStatus o (fld f 0)) s
  else if op = 0x0902 then
    withFields o [8, 24] [2] p (fun o f => cardEarthReset o (fld f 0)) s
  else if op = 0x0903 then
    withFields o [8, 24] [2] p (fun o f => cardEarthTest o (fld f 0)) s
  else s.badOpcode o op

/-- Requests of group 0x0A: metrology. -/
def requestGroup0A (o : Origin) (op : Nat) (p : List Byte) (s : State) : State :=
  if op = 0x0A01 then
    withFields o [8, 24] [2] p (fun o f => cardMeterStatus o (fld f 0)) s
  else if op = 0x0A02 then
    withFields o [8, 24] [2] p (fun o f => cardMeterRead o (fld f 0)) s
  else if op = 0x0A03 then
    withFields o [8, 8, 16] [3] p (fun o f => cardMeterHarmonics o (fld f 0) (fld f 1)) s
  else if op = 0x0A10 then
    withFields o [8, 8, 16] [2] p (fun o f => cardCalLoad o (fld f 0) (fld f 2)) s
  else if op = 0x0A20 then
    withFields o [8, 8, 8, 8, 32, 16, 16] [7] p (fun o f => cardPulseMap o (fld f 0) (fld f 1) (fld f 2) (fld f 3) (fld f 4) (fld f 5)) s
  else if op = 0x0A21 then
    withFields o [8, 8, 16, 32] [] p (fun o f => cardS0Config o (fld f 0) (fld f 1) (fld f 2) (fld f 3)) s
  else if op = 0x0A22 then
    withFields o [32] [1] p (fun o _ => cardS0Read o) s
  else s.badOpcode o op

/-- Requests of group 0x0B: the legal court. -/
def requestGroup0B (o : Origin) (op : Nat) (p : List Byte) (s : State) : State :=
  if op = 0x0B01 then
    withFields o [8, 24] [2] p (fun o f => cardLegalRead o (fld f 0)) s
  else if op = 0x0B02 then
    withFields o [8, 8, 8, 8, 256] [4] p (fun o f =>
      cardLegalSign o (fld f 0) (fld f 1) (fld f 2) (leBytes (fld f 4) 32)) s
  else if op = 0x0B03 then
    withFields o [32] [1] p (fun o _ => cardTamperRead o) s
  else if op = 0x0B04 then
    withFields o [32, 16, 8, 8] [4] p (fun o f => cardLogRead o (fld f 0) (fld f 1) (fld f 2)) s
  else if op = 0x0B05 then
    withFields o [32] [1] p (fun o _ => cardLegalStatus o) s
  else if op = 0x0B10 then
    withFields o [8, 8, 16, 64] [2] p (fun o f =>
      if fld f 0 = 0 then cardCalendarLoadActive o (fld f 2) (fld f 3)
      else if fld f 0 = 1 then cardCalendarLoadPassive o (fld f 2) (fld f 3)
      else cardBadOp o 0x0B10 [384, 64] [1] 1) s
  else if op = 0x0B11 then
    withFields o [16, 16] [2] p (fun o f => cardLegalConfig o (fld f 0)) s
  else if op = 0x0B20 then
    withFields o [32] [1] p (fun o _ => cardLegalCheckpoint o) s
  else if op = 0x0B21 then
    withFields o [16, 16] [2] p (fun o f => cardLegalRestore o (fld f 0)) s
  else s.badOpcode o op

/-- Requests of group 0x0C: displays. -/
def requestGroup0C (o : Origin) (op : Nat) (p : List Byte) (s : State) : State :=
  if op = 0x0C01 then
    withFields o [8, 8, 16, 64, 72, 72, 72, 72] [] p (fun o f =>
      cardDispShow o (fld f 0) (fld f 1) (fld f 2) (fld f 3) (fld f 4) (fld f 5) (fld f 6) (fld f 7)) s
  else if op = 0x0C02 then
    withFields o [8, 24] [2] p (fun o f => cardDispStatus o (fld f 0)) s
  else if op = 0x0C10 then
    withFields o [8, 24] [2] p (fun o f => cardDispStressRead o (fld f 0)) s
  else if op = 0x0C11 then
    withFields o [8, 8, 16] [2] p (fun o f => cardDispStressLoad o (fld f 0) (fld f 2)) s
  else s.badOpcode o op

/-- Requests of group 0x0D: the ledger. -/
def requestGroup0D (o : Origin) (op : Nat) (p : List Byte) (s : State) : State :=
  if op = 0x0D01 then
    withFields o [32, 32, 32, 32, 32, 32, 16, 16] [] p (fun o f =>
      cardLedgerConfig o (fld f 0) (fld f 1) (fld f 2) (fld f 3) (fld f 4) (fld f 5) (fld f 6) (fld f 7)) s
  else if op = 0x0D02 then
    withFields o [32] [1] p (fun o _ => cardLedgerStatus o) s
  else if op = 0x0D03 then
    withFields o [8, 24] [2] p (fun o f => cardLedgerBay o (fld f 0)) s
  else if op = 0x0D10 then
    withFields o [32] [] p (fun o f => cardSiteBase o (fld f 0)) s
  else if op = 0x0D11 then
    withFields o [8, 24, 32, 32, 32, 32] [2] p (fun o f => cardLedgerStore o (fld f 0) (fld f 2) (fld f 3) (fld f 4) (fld f 5)) s
  else if op = 0x0D12 then
    withFields o [8, 24, 32, 32, 32] [2] p (fun o f => cardLedgerGrid o (fld f 0) (fld f 2) (fld f 3) (fld f 4)) s
  else s.badOpcode o op

/-- Requests of group 0x0E: the safety court. -/
def requestGroup0E (o : Origin) (op : Nat) (p : List Byte) (s : State) : State :=
  if op = 0x0E01 then
    withFields o [32] [1] p (fun o _ => cardSafetyStatus o) s
  else if op = 0x0E02 then
    withFields o [32] [1] p (fun o _ => cardEncRead o) s
  else if op = 0x0E10 then
    withFields o [16, 16, 16, 8, 8, 512] [5] p (fun o f =>
      cardSafetyConfigLoad o (fld f 0) (fld f 1) (fld f 2) (fld f 3) (leBytes (fld f 5) 64)) s
  else if op = 0x0E11 then
    withFields o [32] [] p (fun o f => cardSafetyLogRead o (fld f 0)) s
  else if op = 0x0E12 then
    withFields o [32] [1] p (fun o _ => cardSafeConnStatus o) s
  else if op = 0x0E13 then
    withFields o [8, 24, 512] [2] p (fun o f => cardSafetyCommission o (fld f 0) (leBytes (fld f 2) 64)) s
  else s.badOpcode o op

/-- Requests of group 0x0F: keys and attestation. -/
def requestGroup0F (o : Origin) (op : Nat) (p : List Byte) (s : State) : State :=
  if op = 0x0F01 then
    withFields o [32] [1] p (fun o _ => cardFuseRead o) s
  else if op = 0x0F02 then
    withFields o [8, 24, 384] [2] p (fun o f => cardFuseBurn o (fld f 0) (fld f 2)) s
  else if op = 0x0F03 then
    withTail o [8, 8, 16] [2] (fun f => fld f 2) p (fun o f d =>
      if fld f 0 = 0 then cardDebugChallenge o (fld f 2)
      else if fld f 0 = 1 then cardDebugUnlock o d (Config.debugTokenSerial d) (Config.debugTokenChallenge d)
      else cardBadOp o 0x0F03 [256] [0] 1) s
  else if op = 0x0F10 then
    withFields o [8, 8, 16, 768] [3] p (fun o f =>
      if fld f 0 = 0 then cardSiteRootGenerate o (fld f 1) (fld f 3)
      else if fld f 0 = 1 then cardSiteRootLoad o (fld f 1) (leBytes (fld f 3) 96)
      else if fld f 0 = 2 then cardSiteRootExport o (fld f 1) (fld f 3)
      else cardBadOp o 0x0F10 [128, 768] [0] 1) s
  else if op = 0x0F11 then
    withFields o [8, 24, 32] [2] p (fun o f => cardKeyPurposeGen o (fld f 0) (fld f 2)) s
  else if op = 0x0F12 then
    withFields o [32, 8, 8, 16] [4] p (fun o f => cardKeyCreate o (fld f 0) (fld f 1) (fld f 2)) s
  else if op = 0x0F20 then
    withTail o [32, 8, 8, 16] [3] (fun f => fld f 3) p (fun o f d => cardKeySign o (fld f 0) (fld f 1) d) s
  else if op = 0x0F21 then
    withTail o [32, 16, 16] [3] (fun f => fld f 1) p (fun o f d => cardKeyEcdh o (fld f 0) d) s
  else if op = 0x0F22 then
    withTail o [32, 8, 8, 16, 16, 16, 96] [3, 6] (fun f => fld f 3 + fld f 4) p (fun o f d =>
      if fld f 1 = 0 then cardKeyAeadSeal o (fld f 0) (fld f 6) (d.take (fld f 3)) (d.drop (fld f 3))
      else if fld f 1 = 1 then cardKeyAeadOpen o (fld f 0) (fld f 6) (d.take (fld f 3)) (d.drop (fld f 3))
      else cardBadOp o 0x0F22 [8, 8, 16, 96] allCourtNumbers 2) s
  else if op = 0x0F30 then
    withFields o [16, 8, 8] [3] p (fun o f => cardRngRead o (fld f 0) (fld f 1)) s
  else if op = 0x0F40 then
    withFields o [8, 24, 256] [2] p (fun o f => cardAttest o (fld f 0) (leBytes (fld f 2) 32)) s
  else s.badOpcode o op

/-- Requests of group 0x10: faults. -/
def requestGroup10 (o : Origin) (op : Nat) (p : List Byte) (s : State) : State :=
  if op = 0x1001 then
    withFields o [32] [1] p (fun o _ => cardFaultStatus o) s
  else if op = 0x1002 then
    withFields o [8, 8, 8, 8] [4] p (fun o f => cardCellStatus o (fld f 0) (fld f 1) (fld f 2)) s
  else if op = 0x1010 then
    withFields o [8, 8, 16, 32] [2] p (fun o f => cardScorebookRead o (fld f 0) (fld f 2) (fld f 3)) s
  else if op = 0x1011 then
    withFields o [8, 24] [2] p (fun o f t => cardScorebookRelease o (fld f 0) (t.draw % 2 == 0) t.drawn) s
  else if op = 0x1020 then
    withFields o [8, 8, 8, 8] [] p (fun o f => cardFaultInject o (fld f 0) (fld f 1) (fld f 2) (fld f 3)) s
  else s.badOpcode o op

/-- Requests of group 0x11: twins and the ring. -/
def requestGroup11 (o : Origin) (op : Nat) (p : List Byte) (s : State) : State :=
  if op = 0x1101 then
    withFields o [32] [1] p (fun o _ => cardTwinStatus o) s
  else if op = 0x1102 then
    withFields o [8, 24, 64] [2] p (fun o f =>
      if fld f 0 = 0 then cardTwinJoin o (fld f 2)
      else if fld f 0 = 1 then cardTwinHandover o (fld f 2)
      else if fld f 0 = 2 then cardTwinTake o (fld f 2)
      else if fld f 0 = 3 then cardTwinLeave o (fld f 2)
      else cardBadOp o 0x1102 [64] [0] 1) s
  else if op = 0x1110 then
    withFields o [8, 24, 32] [2] p (fun o f => cardRingConfig o (fld f 0) (fld f 2)) s
  else if op = 0x1111 then
    withFields o [32] [1] p (fun o _ => cardRingStatus o) s
  else s.badOpcode o op

/-- Requests of group 0x12: boot and update. -/
def requestGroup12 (o : Origin) (op : Nat) (p : List Byte) (s : State) : State :=
  if op = 0x1201 then
    withFields o [8, 24] [2] p (fun o f => cardSysReset o (fld f 0)) s
  else if op = 0x1202 then
    withFields o [8, 24] [2] p (fun o f => cardBootStatus o (fld f 0)) s
  else if op = 0x1203 then
    withFields o [16, 16] [2] p (fun o f => cardBootHost o (fld f 0)) s
  else if op = 0x1210 then
    withFields o [8, 8, 8, 8, 16, 16] [4, 6] p (fun o f =>
      if fld f 1 = 1 then cardBundleGoldenCopy o (fld f 0) (fld f 2) (fld f 4)
      else cardBundleWrite o (fld f 0) (fld f 1) (fld f 2) (fld f 4)) s
  else if op = 0x1211 then
    withFields o [8, 8, 16, 32] [3] p (fun o f => cardUpdateActivate o (fld f 0) (fld f 1) (fld f 3)) s
  else if op = 0x1212 then
    withFields o [8, 24, 384] [2] p (fun o f => cardUpdateConfirm o (fld f 0) (fld f 2)) s
  else if op = 0x1213 then
    withFields o [32, 64] [1] p (fun o f => cardUpdateSwap o (fld f 1)) s
  else s.badOpcode o op

/-- The command that a request on a command mailbox names (R85): its card with the fields of the payload. -/
def runRequest (o : Origin) (op : Nat) (p : List Byte) (reads : List (List Byte)) (s : State) : State :=
  let g := op / 256
  if g = 0x01 then requestGroup01 o op p s
  else if g = 0x02 then requestGroup02 o op p s
  else if g = 0x03 then requestGroup03 o op p reads s
  else if g = 0x04 then requestGroup04 o op p s
  else if g = 0x05 then requestGroup05 o op p s
  else if g = 0x06 then requestGroup06 o op p s
  else if g = 0x07 then requestGroup07 o op p s
  else if g = 0x08 then requestGroup08 o op p s
  else if g = 0x09 then requestGroup09 o op p s
  else if g = 0x0A then requestGroup0A o op p s
  else if g = 0x0B then requestGroup0B o op p s
  else if g = 0x0C then requestGroup0C o op p s
  else if g = 0x0D then requestGroup0D o op p s
  else if g = 0x0E then requestGroup0E o op p s
  else if g = 0x0F then requestGroup0F o op p s
  else if g = 0x10 then requestGroup10 o op p s
  else if g = 0x11 then requestGroup11 o op p s
  else if g = 0x12 then requestGroup12 o op p s
  else s.badOpcode o op

/-- BULK_PUT on a bulk mailbox (R89): its transfer, offset and data, with FIRST and LAST of the header. -/
def requestBulk (o : Origin) (p : List Byte) (first last : Bool) (s : State) : State :=
  let fs := splitFields [16, 16, 32] (leGet p 0 8)
  bulkPut (shaped o p.length (max 8 p.length) (firstNonzero fs [2])) (fld fs 0) (fld fs 2) first last (p.drop 8) s

/- Messages (R74 to R76). -/

/-- LEN of a message. -/
def msgLen (b : List Byte) : Nat := leGet b 10 2

/-- SEQ of a message. -/
def msgSeq (b : List Byte) : Nat := leGet b 4 4

/-- OPCODE of a message. -/
def msgOpcode (b : List Byte) : Nat := leGet b 8 2

/-- Whether a message fits its slot (R74). -/
def State.msgFits (s : State) (c : CourtId) (m : MbxId) (b : List Byte) : Bool :=
  s.host.port != .pcie || 20 + msgLen b ≤ 64 * (s.mbox c m).slotUnits

/-- Whether a message's trailer is right (R76); a datagram holds exactly one message (R106). -/
def State.trailerOk (s : State) (b : List Byte) : Bool :=
  let n := 16 + msgLen b
  (if s.host.port == .pcie then n + 4 ≤ b.length else b.length == n + 4) && leGet b n 4 == crc32c (b.take n)

/-- What is amiss with a message's header (R75, R85): COURT or MBX, else reserved fields, HDR_VER, DIR or TICK_LO. -/
def hdrFault (c : CourtId) (m : MbxId) (b : List Byte) : Nat :=
  let b0 := leGet b 0 1
  let fl := leGet b 2 2
  if b0 % 16 ≠ c.val ∨ b0 / 16 % 4 ≠ m.val then 1
  else if b0 / 64 ≠ 0 ∨ leGet b 1 1 ≠ 3 ∨ bitOf fl 0 ∨ fl / 16 ≠ 0 ∨ leGet b 12 4 ≠ 0 then 2
  else 0

/-- Execute or refuse a request whose sequence number is to be executed (R83, R85). -/
def State.handleRequest (s : State) (c : CourtId) (m : MbxId) (b : List Byte) (late : Bool) (reads : List (List Byte)) : State :=
  let o : Origin := { court := c, mbx := m, rsv := 0, late := late, badLen := !s.msgFits c m b, hdr := hdrFault c m b }
  let op := msgOpcode b
  let p := (b.drop 16).take (msgLen b)
  let fl := leGet b 2 2
  if m.val = 3 then (if op = 0x0290 then requestBulk o p (bitOf fl 1) (bitOf fl 2) s else s.badOpcode o op)
  else runRequest o op p reads s

/-- A cached response sent again with STATUS DUP and the tick in progress (R83, R84). -/
def dupOf (x : OutMsg) (now : Nat) : OutMsg :=
  match x.fields with
  | _ :: t => { x with fields := (8, stDUP) :: t, tick := now }
  | [] => { x with tick := now }

/-- A request by its sequence number (R83): executed, or first mirrored on a pair (R87, R611); answered from the cache; or a gap. -/
def State.sequenced (s : State) (c : CourtId) (m : MbxId) (b : List Byte) (late : Bool) (reads : List (List Byte)) : State :=
  let x := s.mbox c m
  let q := msgSeq b
  if q = x.expectSeq then
    if s.mirroring && s.twin.server then s.postMirror (.request c m b reads) else s.handleRequest c m b late reads
  else
    let gap : OutMsg := { opcode := msgOpcode b, seq := q, first := false, last := false, bulkRef := false, tick := s.now,
                          fields := [(8, stSEQ_GAP), (8, stSEQ_GAP), (16, 0), (32, x.expectSeq)] }
    let back := (x.expectSeq + 2 ^ 32 - q) % 2 ^ 32
    match x.cache.find? fun e => e.1 == q with
    | some e => s.post c m (if back ≤ 64 then dupOf e.2 s.now else gap)
    | none => s.post c m gap

/- Rounds (R72). -/

/-- The mailbox that a place of a round visits: court by court, mailbox 1, then 0, then 3. -/
def roundSlot (p : Nat) : CourtId × MbxId := (⟨p / 3 % 16, by omega⟩, if p % 3 = 0 then 1 else if p % 3 = 1 then 0 else 3)

/-- The place of a mailbox in a round. -/
def roundPlace (c : CourtId) (m : MbxId) : Nat := 3 * c.val + (if m.val = 1 then 0 else if m.val = 0 then 1 else 2)

/-- Whether a mailbox has an inbound message to read: in its ring while the QN960 may read host memory, or held (R74, R103, R106). -/
def State.hasMessage (s : State) (c : CourtId) (m : MbxId) : Bool :=
  let x := s.mbox c m
  if s.host.port == .pcie then s.host.busMaster && ahead x.inLog2 x.inProd x.inCons != 0 else !x.held.isEmpty

/-- Whether a request of a mailbox is being mirrored (R611). -/
def State.mirrorWaits (s : State) (c : CourtId) (m : MbxId) : Bool :=
  s.twin.mirrors.any fun x => match x.input with
    | .request d n _ _ => d == c && n == m
    | _ => false

/-- Whether Myavat would take a request from a mailbox that its round visits now (R72). -/
def State.canVisit (s : State) (c : CourtId) (m : MbxId) : Bool := m.val != 2 && s.canTake c m && s.hasMessage c m && !s.mirrorWaits c m

/-- Whether a mailbox is the first, from the place of the round on, from which a request can be taken (R72, log 133). -/
def State.isTurn (s : State) (c : CourtId) (m : MbxId) : Bool :=
  let d := (roundPlace c m + 48 - s.roundPos % 48) % 48
  s.canVisit c m && (List.range d).all fun (i : Nat) => let q := roundSlot ((s.roundPos + i) % 48); !s.canVisit q.1 q.2

/-- The request is taken out of the ring or the held datagrams, and the round goes on behind its mailbox. -/
def State.fetched (s : State) (c : CourtId) (m : MbxId) : State :=
  { s.onMbx c m fun x =>
      if s.host.port == .pcie then { x with inCons := (x.inCons + 1) % 2 ^ (x.inLog2 + 1) } else { x with held := x.held.drop 1 } with
    roundPos := (roundPlace c m + 1) % 48 }

/-- A message with a bad trailer is skipped and counted (R76). -/
def State.badTrailer (s : State) (c : CourtId) (m : MbxId) : State :=
  let n := bump 8 (s.mbox c m).crcCount
  (s.onMbx c m fun x => { x with crcErr := true, crcCount := n }).raiseNow (384 + c.val) 0x0202 (m.val + 2 ^ 8 * n)

/-- MBX_REQUEST (R72, R76, R83, R85): Myavat takes the next inbound message of a mailbox whose turn it is. `bytes` is the slot as host memory holds
it (a held datagram is its own), `reads` is what host memory gives the command, `late` says that its settings are armed at cycle 950 or later. -/
def execMbxRequest (c : CourtId) (m : MbxId) (bytes : List Byte) (late : Bool) (reads : List (List Byte)) (s : State) : Out :=
  .next (if s.isTurn c m then
      let b := if s.host.port == .pcie then bytes else (s.mbox c m).held.headD []
      let t := s.fetched c m
      if t.msgFits c m b && !t.trailerOk b then t.badTrailer c m else t.sequenced c m b late reads
    else s)

end Sys2Proof.Machine
end

