-- ==== Sys2Proof/Machine/TwinLate.lean ====
section
/-! DEFINITION. What reaches a twin over the twin link: mirrored inputs, tick control blocks, forwarded commands and their results (spec files 22
and 23). -/

namespace Sys2Proof.Machine

/- Mirrored inputs (R608, R611). -/

/-- The verdict of both twins on a safety configuration load (R534): applied if the returner accepts it too, else answered as the returner does. -/
def State.loadVerdict (s : State) (st dt : Nat) : State :=
  match s.safety.load with
  | some l =>
    if !l.waits then s
    else if st = stOK then { s with safety := { s.safety with load := some { l with waits := false, tick := s.now + 1 } } }
    else
      let s1 := { s with safety := { s.safety with load := none } }
      match l.origin with
      | some o => s1.refuse o st dt safeLoadLayout
      | none => s1
  | none => s

/-- A mirrored request (R611): both twins execute it and arm it for its tick; the returner's EXPECT_SEQ is the server's (R87). A load that the server
refuses leaves the returner's without effect (R534). -/
def State.mirrorRequest (s : State) (t : Nat) (c : CourtId) (m : MbxId) (b : List Byte) (reads : List (List Byte)) : State :=
  let s1 := s.onTwin fun w => { w with armAt := if s.mirroring then some t else none }
  let s2 := if s1.isReturner then s1.onMbx c m fun x => { x with expectSeq := msgSeq b } else s1
  let s3 := (s2.handleRequest c m b false reads).onTwin fun w => { w with armAt := none }
  if s3.twin.server && s3.inStep && msgOpcode b == 0x0E10 && s3.safety.load.isNone then s3.postMirror (.loaded stBAD_STATE 0) else s3

/-- A mirrored input acts (R611). -/
def State.mirrorRun (s : State) (x : Mirror) : State :=
  match x.input with
  | .request c m b reads => s.mirrorRequest x.tick c m b reads
  | .time e f q o u => s.timeInput e f q o u
  | .draws n => if s.isReturner then { s with free := n } else s
  | .lines b img => s.dispGot b img
  | .loaded st dt => s.loadVerdict st dt

/-- Whether an input acts at the boundary into the tick in progress: one that is armed for a tick acts on the state at the boundary before (R50),
site time and draws at their tick. -/
def mirrorReady (now : Nat) (x : Mirror) : Bool :=
  match x.input with
  | .time .. => x.tick ≤ now
  | .draws .. => x.tick ≤ now
  | _ => x.tick ≤ now + 1

/-- The inputs that act at this tick boundary (R611): the acknowledged ones at their tick; a server alone waits for no acknowledgement. -/
def State.mirrorDue (s : State) : List Mirror :=
  if s.mirroring then s.twin.mirrors.filter fun x => x.acked && mirrorReady s.now x
  else if s.twin.server then s.twin.mirrors.filter fun x => !x.acked || mirrorReady s.now x
  else []

/-- A load that waits for the other twin when step is left (log 134): the server applies it alone, a returner drops it. -/
def State.loadAlone (s : State) : State :=
  match s.safety.load with
  | some l =>
    if !l.waits || s.mirroring then s
    else if s.twin.server then s.loadVerdict stOK 0
    else s.loadVerdict stBAD_STATE 0
  | none => s

/-- Mirrored inputs at a tick boundary (R611). -/
def State.mirrorBoundary (s : State) : State :=
  let due := s.mirrorDue
  let keep := s.mirroring || s.twin.server
  let s1 := s.onTwin fun w => { w with mirrors := if keep then w.mirrors.filter fun x => !due.contains x else [] }
  (due.foldl State.mirrorRun s1).loadAlone

/-- MIRROR_MESSAGE (R611): the returner holds the next mirrored input. While it loads the server's state in a join, the first message gives the
point in the sequence that follows that state (R624). -/
def execMirrorMessage (seq tick : Nat) (input : MirrorInput) (s : State) : Out :=
  .next (let w := s.twin
    let next := seq == (w.mirrorSeq + 1) % 2 ^ 32 || (w.st == .joining && w.joinPhase ≤ 3 && w.mirrors.isEmpty)
    if s.isReturner && s.mirroring && w.linkUp && next then
      s.onTwin fun w => { w with mirrorSeq := seq % 2 ^ 32, mirrors := w.mirrors ++ [⟨seq % 2 ^ 32, tick, input, true, s.now⟩] }
    else s)

/-- MIRROR_ACK_TIMEOUT (R611, R627): no acknowledgement within 1,000 tk; the server acts alone from the next tick boundary. -/
def execMirrorAckTimeout (s : State) : Out :=
  .next (if s.twin.server && s.mirroring && s.twin.mirrors.any (fun x => !x.acked && x.sentAt + 1000 ≤ s.now) then s.leaveStep 1 else s)

/- Tick control blocks (R607, R608, R612). -/

/-- Whether a control block is valid (R607). Before the TICK phase of a join the twins share no tick count (R624), and TICK is not compared (log
135). -/
def State.blockValid (s : State) (t : Tcb) : Bool := t.crcOk && t.cycle ≤ 90 && (!s.maskedIntake || t.tick == s.now)

/-- Whether every region of a block is sound. -/
def blockSound (t : Tcb) : Bool := t.regionOk == BitVec.allOnes 16

/-- What a valid block tells of the other twin, and the transfers it acknowledges (R613). -/
def State.blockNoted (s : State) (t : Tcb) (acks : List (Nat × Nat)) : State :=
  s.onTwin fun w => { w with
    block := some t, blockTick := s.now + 1,
    twinEpoch := if t.server then t.epoch else w.twinEpoch,
    xfers := w.xfers.filter fun x => !acks.contains (x.cls, x.seq),
    peer := w.peer.map fun p => { p with server := t.server, epoch := t.epoch, safeRun := t.safeRun, regionFault := !blockSound t } }

/-- Why the other twin has left step, as far as its block tells: a region fault, else a reason this twin does not see (R627, log 136). -/
def State.leftBy (s : State) (t : Tcb) : State := (s.leaveStep (if blockSound t then 1 + s.draw % 7 else 5)).drawn

/-- What the server does with its returner's block: acknowledged inputs, step reached or left (R611, R624, R627). -/
def State.serverBlock (s : State) (t : Tcb) : State :=
  let s1 := s.onTwin fun w => { w with
    mirrors := w.mirrors.map fun x => if (t.mirrorSeq + 2 ^ 32 - x.seq) % 2 ^ 32 < 2 ^ 31 then { x with acked := true } else x }
  if s1.twin.st = .joining ∧ t.state = 4 then
    let s2 := s1.joined
    s2.postMirror (.draws s2.free)
  else if s1.mirroring ∧ t.state ≤ 2 ∧ (s1.inStep ∨ s1.twin.joinStart + 2 < s1.now) then s1.leftBy t
  else s1

/-- The legal court of a returner sees the server's tamper inputs (R608, R610, R672). -/
def State.chipInputs (s : State) (was now : Nat) : State :=
  (List.finRange 4).foldl (fun u (i : Fin 4) => if bitOf now i.val && !bitOf was i.val then u.tamper (inputKind i) 0xFF 0 none else u) s

/-- The regions whose digest differs from the server's: those that both REGION_OK fields show, without a cut-in in progress (R612). -/
def State.differing (s : State) (t : Tcb) : List RegionId :=
  allRegions.filter fun r => t.regionOk.getLsbD r.val && !s.regions[r].regionFail && !s.cutInRegion r.val &&
    t.digests.getD r.val 0 != s.twin.digests.getD r.val 0

/-- DIGEST_MISMATCH of a region (R612): its cut-ins are repeated; the third within 1,000,000 tk takes the returner out of step. -/
def State.mismatch (s : State) (r : RegionId) : State :=
  let l := (r.val, s.now) :: s.twin.mismatchTicks.filter fun x => s.now < x.2 + 1000000
  let n := (l.filter fun x => x.1 == r.val).length
  let s1 := (s.onTwin fun w => { w with
    mismatchTicks := l, digestMismatches := bump 32 w.digestMismatches,
    recut := if w.recut.contains r.val then w.recut else w.recut ++ [r.val] }).raiseNow 457 0x1103 (r.val + 2 ^ 8 * satN 8 n)
  if 3 ≤ n then (s1.onTwin fun w => { w with lastRegion := r.val }).leaveStep 2 else s1

/-- What a returner does with its server's block (R608, R612, R624, R627). -/
def State.returnerBlock (s : State) (t : Tcb) (wasIn : Nat) : State :=
  if s.twin.st = .paired ∧ t.state = 3 then s.joinStart none
  else if s.mirroring ∧ t.state ≤ 2 then s.leftBy t
  else
    let s1 := if s.mirroring then s.chipInputs wasIn t.chipIn else s
    if s1.inStep then (s1.differing t).foldl (fun u r => if u.inStep then u.mismatch r else u) s1
    else if s1.twin.st = .joining ∧ s1.twin.joinPhase = 4 ∧ s1.twin.cutDone.length = unitCount ∧ (s1.differing t).isEmpty ∧
        s1.twin.cuts.all (fun c => c.2 + 2 ≤ s1.now) then s1.joined
    else s1

/-- TICK_CONTROL_BLOCK (R607 to R612): a valid block of the other twin. `acks` are the transfers it acknowledges. -/
def execTickControlBlock (t : Tcb) (acks : List (Nat × Nat)) (s : State) : Out :=
  .next (if s.twin.en && s.twin.linkUp && s.blockValid t then
      let was : Nat := match s.twin.block with
        | some b => b.chipIn
        | none => 0
      let s1 := s.blockNoted t acks
      if s1.twin.server && t.server then s1.settleRoles true t.epoch
      else if s1.twin.server then s1.serverBlock t
      else if t.server then s1.returnerBlock t was
      else s1
    else s)

/- Forwarded commands (R656). -/

/-- Whether a command can be forwarded: one of group 0x12xx that carries POS, or EXPORT of the site root (R563, R656). -/
def forwardable (opcode : Nat) : Bool := (opcode / 256 == 0x12 && opcode != 0x1203 && opcode != 0x1213) || opcode == 0x0F10

/-- TWIN_FORWARDED_COMMAND (R656): the returner carries out a command whose POS names it, with the transfer that came with it; its answer goes back in
`results`. -/
def execTwinForwardedCommand (opcode : Nat) (payload : List Byte) (bulk : Option (Nat × List Byte)) (s : State) : Out :=
  .next (if s.isReturner && s.twin.linkUp && forwardable opcode then
      let s1 := match bulk with
        | some (n, d) => s.onCourt 0 fun k => { k with
            inXfers := (k.inXfers.filter fun (x : InXfer) => x.number != n) ++ [(⟨n, d, true, s.now, false, false⟩ : InXfer)] }
        | none => s
      let s2 := s1.onTwin fun w => { w with armAt := some (s.now + 1) }
      let o : Origin := { court := 0, mbx := 2, rsv := 0, late := false, badLen := false, hdr := 0 }
      (runRequest o opcode payload [] s2).onTwin fun w => { w with armAt := none }
    else s)

/-- TWIN_FORWARD_RESULT (R534, R656): the returner's result is the server's response; its verdict on a safety configuration goes to both twins. -/
def execTwinForwardResult (opcode st dt : Nat) (vals : List Nat) (s : State) : Out :=
  .next (if s.twin.server && s.twin.linkUp then
      if opcode = 0x0E10 then
        match s.safety.load with
        | some l => if l.waits && s.inStep then s.postMirror (.loaded st dt) else s
        | none => s
      else match s.twin.forwards.find? fun f => f.opcode == opcode with
        | some f =>
          (s.onTwin fun w => { w with forwards := w.forwards.erase f }).answer f.origin.court f.origin.mbx st dt false
            (withValues f.layout (vals ++ List.replicate f.layout.length 0))
        | none => s
    else s)

/-- TWIN_FORWARD_TIMEOUT (R656): no answer within the card's time plus 100 ms. -/
def execTwinForwardTimeout (s : State) : Out :=
  .next (match s.twin.forwards.find? fun f => f.sentAt + f.limit + 100000 ≤ s.now with
    | some f => (s.onTwin fun w => { w with forwards := w.forwards.erase f }).refuse f.origin stTIMEOUT 0 f.layout
    | none => s)

end Sys2Proof.Machine
end

