-- ==== Sys2Proof/Machine/Tick.lean ====
section
/-! DEFINITION. The phases of a tick: intake publication, the tick work of the cells, background slices, the building of downlink
frames, the commit and the tick boundary (spec files 01, 02, 06, 21 and 22). -/

namespace Sys2Proof.Machine

/- Intake publication (R43, R584, R609, R610). -/

/-- Whether the decimation bank of a block that holds a cell of the bay has failed (R584, log 116). -/
def State.bankFailed (s : State) (b : BayId) : Bool :=
  (List.range 10).any fun (i : Nat) => s.assistFailed (8 * (b.val / 6) + (10 * (b.val % 6) + i) / 8) 3

/-- Whether the intake of a bay holds the frame of sample tick now - 2. -/
def State.holdsFrame (s : State) (b : BayId) : Bool :=
  match s.bays[b].link.held with
  | some f => (f.tick + 2) % 2 ^ 48 == s.now % 2 ^ 48
  | none => false

/-- What the twin's control block withholds (R609), and what the cells see of lane service and stops (R610). -/
def State.twinIntake (s : State) (b : BayId) : State :=
  let svc := decide (s.bays[b].link.st = .service)
  let stop := s.bays[b].busScope != 0
  if s.maskedIntake then
    match s.blockNow with
    | some t =>
      let server := if s.twin.server then svc else t.svcMask.getLsbD b.val
      let s1 := s.onBay b fun y => { y with seen := some (server, stop || t.stopSet.getLsbD b.val) }
      if s.holdsFrame b && !t.rxMask.getLsbD b.val then
        (s1.onTwin fun w => { w with rxDisagree := bump 32 w.rxDisagree }).onLink b fun k => { k with held := none }
      else s1
    | none => s
  else s.onBay b fun y => { y with seen := none }

/-- INTAKE_PUBLISH at one bay. -/
def State.intakeBay (s : State) (b : BayId) : State :=
  let s1 := s.twinIntake b
  let s2 := if s1.bankFailed b then s1.onLink b fun k => { k with held := none } else s1
  (s2.publishBay b).dispPublish b

/-- INTAKE_PUBLISH (R43): the frames of sample tick now - 2 are published or marked missing. -/
def execIntakePublish (s : State) : Out := .next (if s.clock.cellRuns then allBays.foldl State.intakeBay s else s)

/- Tick work (R38). -/

/-- The unit of a cut-in that holds a cell (R625). -/
def unitOf : CellId → CutUnit
  | .bay b off => if off.val = 6 then .meter b else .bay b
  | .site r _ => .site r

/-- Whether a cell can run in the tick in progress: not uncovered, not being taken over (R577), not withheld by a cut-in (R625). -/
def State.cellUp (s : State) (c : CellId) : Bool :=
  (s.cellRec c).st != 3 && !(s.faults.takeovers.any fun t => t.cell == c) && !s.cutWithholds (unitOf c)

/-- The functions of the cells of a bay set by offset (R15). -/
def State.bayWork (s : State) (b : BayId) (off : Nat) (line : Option (List Nat)) : State :=
  match off with
  | 0 => s.plcTickA b
  | 1 => s.plcTickB b
  | 2 => s.sessTick b
  | 3 => s.modTick b
  | 4 => s.currentTick b
  | 5 => s.voltageTick b
  | 7 => s.earthTick b
  | 8 => ((s.identTick b).chansTick b).dispTick b line
  | 9 => s.guardTick b
  | _ => s

/-- The function of a cell: an idle image does nothing (R14); the meter cell works index by index (METER_INDEX), and bay matching, grid-port
and housekeeping cells at their own commands. -/
def State.cellWork (s : State) (c : CellId) (line : Option (List Nat)) : State :=
  if s.idleCell c then s
  else match c with
    | .bay b off => s.bayWork b off.val line
    | .site r k => if k.val = 0 then s.shardTick r else s

/-- Reads of the region's queue by a cell (R132): whether one found it empty. -/
def State.queueReads (s : State) (r : RegionId) (n : Nat) : State × Bool :=
  let a := s.regions[r].queue.readN n
  (s.onRegion r fun x => { x with queue := a.1, qcount := { x.qcount with underruns := satN 32 (x.qcount.underruns + a.2) } }, a.2 != 0)

/-- CELL_TICK_WORK (R38): a cell does its work of the tick, once; how it ends counts at the commit. -/
def execCellTickWork (c : CellId) (d : TickDone) (line : Option (List Nat)) (s : State) : Out :=
  .next (if s.clock.cellRuns && s.cellUp c && !(s.faults.marks.any fun m => m.cell == c) then
      let r := s.queueReads c.region d.reads
      (r.1.cellWork c line).onFaults fun x => { x with marks := x.marks ++ [⟨c, d.cycle.getD 0, d.poison, r.2⟩] }
    else s)

/-- BACKGROUND_SLICE (R39): what the slice brings to the cells of a bay, or an access to a CRC unit. -/
def execBackgroundSlice (c : CellId) (w : BgWork) (s : State) : Out :=
  .next (if s.clock.cellRuns && s.cellUp c then
      match w, c with
      | .crc op, c => s.crcAccess c.block (s.cellTag c) op
      | .symbol n, .bay b off => if off.val = 0 ∧ s.bays[b].pilotFlag 2 then s.plcSymbol b n else s
      | .preamble, .bay b off => if off.val = 0 ∧ s.bays[b].pilotFlag 2 then s.onPlc b fun x => { x with receiving := true } else s
      | .rxGain g, .bay b off => if off.val ≤ 1 ∧ s.bays[b].pilotFlag 2 then s.plcRxGain b g else s
      | .transmit ts, .bay b off => if off.val = 1 ∧ s.bays[b].pilotFlag 2 then s.onPlc b fun x => { x with tx := x.tx ++ ts } else s
      | _, _ => s
    else s)

/-- OUTLET_BUILD (R46, R282): the interlock checks the staged commands of every bay, once a tick. -/
def State.buildBay (s : State) (b : BayId) : State := if s.bays[b].ilk.builtFor = s.now + 1 then s else s.interlock b

/-- OUTLET_BUILD (R46). -/
def execOutletBuild (s : State) : Out := .next (if s.clock.cellRuns then allBays.foldl State.buildBay s else s)

/- The commit (R45 to R47). -/

/-- Whether a cell's outputs may be released: it runs, it has not overrun, and it holds no uncorrectable error (R46). -/
def State.cellOk (s : State) (c : CellId) : Bool :=
  s.cellUp c && match s.faults.marks.find? fun m => m.cell == c with
    | some m => m.cycle != 0 && m.cycle ≤ 849 && m.poison.isNone
    | none => true

/-- Whether a cell of a bay is of its output group (R45). -/
def inGroup (off : Nat) : Bool := off ≤ 5 || off == 8

/-- Whether the output group of a bay is released (R45, R46). -/
def State.groupOk (s : State) (b : BayId) : Bool :=
  (List.finRange 10).all fun i : Fin 10 => !inGroup i.val || s.cellOk (.bay b i)

/-- Whether the commit releases what is tagged with an offset: 6, 7, 9 lone cells, 10 the ledger shard, others the output group. -/
def State.tagOk (s : State) (b : BayId) (tag : Nat) : Bool :=
  if tag = 6 then s.cellOk (.bay b 6)
  else if tag = 7 then s.cellOk (.bay b 7)
  else if tag = 9 then s.cellOk (.bay b 9)
  else if tag = 10 then s.cellOk (.site (regionOf b) 0)
  else s.groupOk b

/-- Whether a cell read a queue's UNDERRUN value in this tick (R132). -/
def State.cellUnder (s : State) (c : CellId) : Bool := s.faults.marks.any fun m => m.cell == c && m.under

/-- What a cell of offsets 0 to 8 commits as liveness word (R576). -/
def State.liveWord (s : State) (b : BayId) (i : Fin 9) : Nat :=
  if !s.tagOk b i.val then 0 else if s.cellUnder (.bay b ⟨i.val, by omega⟩) then 2 else 1

/-- Whether a request is still in execution. -/
def State.waits (s : State) (o : Origin) : Bool := (s.mbox o.court o.mbx).running.isSome

/-- A checkpoint to resume from keeps no request that has been answered meanwhile. -/
def State.settledGrp (s : State) (g : Grp) : Grp :=
  let op := fun (x : Option CardOp) => match x with
    | some (.apdu o _) => if s.waits o then x else none
    | _ => x
  { g with
    ident := { g.ident with
      waitApdu := g.ident.waitApdu.filter fun e => s.waits e.1, waitRelease := g.ident.waitRelease.filter fun e => s.waits e.1,
      cmds := g.ident.cmds.filter fun e => s.waits e.origin, op := op g.ident.op, opNext := op g.ident.opNext },
    mod := { g.mod with pulse := g.mod.pulse.filter fun p => s.waits p.origin } }

/-- The events of a bay that the commit releases, in their order (R47). -/
def State.releasedEvents (s : State) (b : BayId) : List Ev := (s.bays[b].staged.filter fun e => s.tagOk b e.1).map Prod.snd

/-- The commit of a bay's output group and lone cells, each as a whole (R46, R47). A guard in region fault keeps ALIVE (R164). -/
def State.commitBay (s : State) (b : BayId) : State :=
  let y := s.bays[b]
  let go := s.groupOk b
  let g := if go then y.grp else s.settledGrp y.grpCk
  let m := if s.tagOk b 6 then y.meter else y.meterCk
  let e := if s.tagOk b 7 then y.earth else y.earthCk
  let k := if !s.tagOk b 9 then y.guardCk
    else if s.regions[regionOf b].regionFail then { y.guard with alive := y.guardCk.alive } else y.guard
  let lv : Vector Nat 9 := Vector.ofFn fun i => s.liveWord b i
  let evs := s.releasedEvents b
  let s1 := s.onBay b fun y => { y with
    grp := g, grpCk := g, meter := m, meterCk := m, earth := e, earthCk := e, guard := k, guardCk := k, live := lv, staged := [] }
  let s2 := if go && !s.idleCell (.bay b 3) then (s1.modRecords b).pulseAnswer b else s1
  s2.raiseAll evs

/-- A ledger shard that is withheld keeps what it committed before. -/
def State.shardHold (s : State) (r : RegionId) : State :=
  let s1 := (baysOf r).foldl (fun (t : State) b => t.onBay b fun y => { y with led := y.ledCk }) s
  if s.ledger.root = r.val then { s1 with ledger := { s1.ledger with grants := s1.ledger.grantsCk } } else s1

/-- The commit of a region's ledger shard. -/
def State.commitShard (s : State) (r : RegionId) : State := if s.cellOk (.site r 0) then s.shardCommit r else s.shardHold r

/-- Overruns of the tick before that no lockup has claimed (R574, R575). -/
def State.lateOverruns (s : State) : State :=
  let due := s.faults.late
  due.foldl (fun t x => t.overrun x.1 x.2 0) (s.onFaults fun x => { x with late := [] })

/-- What the ends of the tick work count (R38, R46, R573 to R575): overruns, cells not yet done, poisoned words. -/
def State.countMarks (s : State) : State :=
  s.faults.marks.foldl (fun t m =>
    let t1 := match m.poison with
      | some (id, w) =>
        (((t.onCell m.cell fun x => { x with poison := bump 32 x.poison }).faultCount 4).countUncorrected id).sbWrite m.cell.key
          { t.cellSb m.cell t.now 1 0x0102 w 0 with store := id % 2 ^ 16 }
      | none => t
    if m.cycle = 0 then t1.onFaults fun x => { x with late := x.late ++ [(m.cell, t.now)] }
    else if 850 ≤ m.cycle then t1.overrun m.cell t.now m.cycle
    else t1) s

/- Downlink frames (R41, R157 to R164, R171, R178). -/

/-- The whistle of a bay's frame (R163, R164). -/
def State.whistle (s : State) (stop : Option (Nat × Nat)) : Whistle :=
  { order := if stop.isSome then 0x936C else 0x6C93, scope := (stop.map Prod.fst).getD 0, cause := (stop.map Prod.snd).getD 0,
    epoch := s.twin.epoch, node := if s.twin.en then s.twin.pos else 0, server := s.twin.server, crcOk := true }

/-- A frame that carries nothing but its head (R162). -/
def State.bareFrame (s : State) (b : BayId) (ftype : Nat) (w : Whistle) : DownFrame :=
  { crcOk := true, early := true, tick := (s.now + 1) % 2 ^ 48, alive := s.bays[b].guardCk.alive, ftype := ftype, whistle := w, legs := [], sw := [],
    rearm := false, plcTx := [], plcCtl := 0, pilotMode := 0, pilotDuty := 0, disp := none, ident := [], config := none, fw := none }

/-- The management request that goes out with the frame of this tick: sent once, then again by each repeat (R175). -/
def State.configOut (s : State) (b : BayId) : Option MgmtReq :=
  match s.bays[b].link.req with
  | some q => if q.sentAt = s.now then some q.req else none
  | none => none

/-- The firmware bytes that go out with a data frame, from the server only (R178). -/
def State.fwOut (s : State) (b : BayId) : Option FwSection :=
  match s.bays[b].link.fw, s.fwLoad with
  | some f, some l =>
    if s.isReturner || f.restartAt.isSome || l.image.length ≤ f.next then none
    else some ⟨l.transfer, f.next, (l.image.drop f.next).take 1016⟩
  | _, _ => none

/-- The data frame of a bay from its committed output group (R162). -/
def State.dataFrame (s : State) (b : BayId) (w : Whistle) : DownFrame :=
  let y := s.bays[b]
  let x := y.grpCk
  let p := y.pilotOut
  let plc := if y.pilotFlag 2 then x.plc.txNow else []
  { s.bareFrame b 2 w with
    legs := y.ilk.built, sw := (List.finRange 12).map fun k => (x.chans.ch[k]).byte, rearm := x.mod.rearm, plcTx := plc,
    plcCtl := b2n (!plc.isEmpty) + 2 * (if plc.isEmpty then 0 else y.ent 85 1 % 128) + 2 ^ 8 * (x.plc.rxGain % 256),
    pilotMode := p.1, pilotDuty := p.2, disp := x.disp.section_, ident := y.identTx (s.draw % 256), config := s.configOut b, fw := s.fwOut b }

/-- What a sent frame leaves at the lane: the frame, its stop order, the firmware bytes sent, the advance of the interlock's history
(R283), the pilot fields of a data frame (R185). -/
def State.noteFrame (s : State) (b : BayId) (f : Option DownFrame) (code : Nat) (stop : Option (Nat × Nat)) : State :=
  let gone : Nat := match f with
    | some d => (d.fw.map fun x => x.data.length).getD 0
    | none => 0
  let pilot := fun (p : Pilot) => match f with
    | some d => if code = 0 then p.command d.pilotMode d.pilotDuty (s.now + 1) else p
    | none => p
  s.onBay b fun y => { y with
    link := { y.link with sent := f, fw := y.link.fw.map fun x => { x with next := x.next + gone } },
    orders := if f.isNone ∨ code = 3 then [] else ((stop.getD (0, 0)) :: y.orders).take 8,
    ilk := y.ilk.advance code stop.isSome,
    grp := { y.grp with pilot := pilot y.grp.pilot }, grpCk := { y.grpCk with pilot := pilot y.grpCk.pilot } }

/-- The frame of a bay leaves right after the commit (R41, R171): a data frame where its output group was released, else a hold frame (R46);
hold frames in region fault (R164) and out of service (R581). -/
def State.sendFrame (s : State) (b : BayId) : State :=
  let y := s.bays[b]
  let stop := s.stopOf b
  let w := s.whistle stop
  match y.link.st with
  | .down => s.noteFrame b none 2 stop
  | .measure => s.noteFrame b (some (s.bareFrame b 5 { w with order := y.link.exchanges.length, scope := 0, cause := 0 })) 3 stop
  | .ready | .service =>
    if y.live[(0 : Fin 9)] = 0 ∨ s.regions[regionOf b].regionFail ∨ y.outOfService then s.noteFrame b (some (s.bareFrame b 3 w)) 1 stop
    else (s.noteFrame b (some (s.dataFrame b w)) 0 stop).drawn
  | _ => s.noteFrame b (some { s.bareFrame b 4 w with config := s.configOut b }) 2 stop

/- Output digests (R612). -/

/-- The bytes of the leg commands (R162). -/
def legBytes (legs : List LegCmd) : List Byte :=
  (List.range 8).flatMap fun (l : Nat) => match legs[l]? with
    | some c => leBytes (packFields (c.tgt.map (fun t => ((2, t) : Field)) ++ c.edge.map fun e => ((16, e) : Field))) 9
    | none => List.replicate 9 (0 : Byte)

/-- The bytes of the DISPLAY section: LINE is 0xFFFF in a data frame without one (R162). -/
def dispBytes (data : Bool) (d : Option DispSection) : List Byte :=
  match d with
  | some x => leBytes (packFields [(16, x.line), (16, x.gen), (16, x.flags), (16, 0)]) 8 ++
      (List.range 120).flatMap fun (i : Nat) => leBytes (x.words.getD i 0 % 2 ^ 72) 9
  | none => leBytes (if data then 0xFFFF else 0) 2 ++ List.replicate 1086 (0 : Byte)

/-- Frame bits 0 to 63 and 208 to 27,231 as bytes (R157, R162). -/
def downBytes (f : DownFrame) : List Byte :=
  let data := f.ftype == 2
  let id := fun (i : Nat) => f.ident.getD i 0
  leBytes (packFields [(48, f.tick), (8, f.alive), (4, f.ftype), (4, 1)]) 8 ++
  legBytes f.legs ++ leBytes (packFields ((List.range 12).map fun (k : Nat) => ((8, f.sw.getD k 0) : Field))) 12 ++ leBytes (b2n f.rearm) 2 ++
  List.replicate 16 (0 : Byte) ++
  leBytes (packFields ((List.range 75).map (fun (i : Nat) => ((12, f.plcTx.getD i 0) : Field)) ++
    [(16, f.plcCtl), (2, f.pilotMode), (14, f.pilotDuty), (28, 0)])) 120 ++
  dispBytes data f.disp ++
  leBytes (packFields [(256, id 0), (1, id 1), (1, id 2), (1, id 3), (1, 0), (7, id 4), (1, 0), (8, id 5), (4, id 6), (8, id 7)]) 64 ++
  leBytes (match f.config with
    | some q => packFields [(8, q.op), (8, q.tag), (16, q.addr), (64, q.data)]
    | none => 0) 64 ++
  (match f.fw with
    | some x => leBytes (packFields [(16, x.xfer), (16, x.data.length), (32, x.offset)]) 8 ++ (x.data ++ List.replicate (1016 - x.data.length) (0 : Byte))
    | none => List.replicate 1024 (0 : Byte)) ++
  List.replicate 916 (0 : Byte)

/-- The four words of an energy record (R376). -/
def EnergyRec.bytes (r : EnergyRec) : List Byte :=
  let v := fun (i : Nat) => r.varh.getD i 0
  leBytes (packFields [(48, r.stamp), (8, r.flags), (4, r.state)]) 9 ++
  leBytes (packFields [(16, r.whImp), (16, r.whExp), (16, v 0), (16, v 1)]) 9 ++
  leBytes (packFields [(16, v 2), (16, v 3), (16, r.vahImp), (16, r.vahExp)]) 9 ++ leBytes (r.gen % 2 ^ 32) 9

/-- The energy records that the commit releases of a bay. -/
def State.releasedRecords (s : State) (b : BayId) : List EnergyRec :=
  let y := s.bays[b]
  if s.tagOk b 6 then y.meter.records.drop y.meterCk.records.length else []

/-- The output digest of a region: `s` before the commit, `t` with the frames sent (R612). -/
def regionDigest (s t : State) (r : RegionId) : Nat :=
  let frames := (baysOf r).flatMap fun b => match t.bays[b].link.sent with
    | some f => downBytes f
    | none => []
  let events := (baysOf r).flatMap fun b => (s.releasedEvents b).flatMap fun e => fieldBytes e.fields
  let recs := (baysOf r).flatMap fun b => (s.releasedRecords b).flatMap EnergyRec.bytes
  (frames ++ events ++ recs).foldl (crcByte 64 0x42F0E1EBA9EA3693 false) 0

/-- The control block that a paired twin sends at the boundary into the tick in progress (R607). -/
def State.tcbOut (s : State) : Tcb :=
  let mask := fun (p : BayId → Bool) => allBays.foldl (fun (m : BayMask) b => if p b then m ||| bayBit b else m) 0
  { tick := s.now, epoch := s.twin.epoch, state := s.twin.st.code, server := s.twin.server, position := s.twin.pos, safeRun := s.safety.st == 2,
    yields := s.twin.yieldSet, rxMask := mask s.holdsFrame, svcMask := mask fun b => s.bays[b].link.st == .service,
    stopSet := mask fun b => s.bays[b].busScope != 0, chipIn := s.island.tampLevel.toNat, mirrorSeq := s.twin.mirrorSeq,
    regionOk := allRegions.foldl (fun (m : BitVec 16) r => if s.regions[r].regionFail then m else m ||| BitVec.ofNat 16 (2 ^ r.val)) 0,
    digests := s.twin.digests, crcOk := true, cycle := 0 }

/- The tick boundary. -/

/-- Event masks take force (R71, R97). -/
def State.masksBoundary (s : State) : State :=
  { s with courts := s.courts.map fun k => match k.maskNext with
      | some m => { k with mask := m, maskNext := none }
      | none => k }

/-- The next tick begins: the events of the tick are released (R47, R118), the count rises (R35), TWHB_OUT inverts unless a fatal event has occurred (R606), and what waits for a boundary takes
place. -/
def State.nextTick (s : State) : State :=
  let t := s.releaseEvents
  let s0 : State := { t with
    clock := { t.clock with tick := (t.clock.tick + 1) % 2 ^ 64 }, twin := { t.twin with twhbOut := !t.faults.fatal && !t.twin.twhbOut } }
  let s1 := (s0.onFaults fun x => { x with marks := [] }).masksBoundary
  let s2 := allBays.foldl (fun (t : State) b => (t.onLink b fun k => { k with frame := none }).earthBoundary b) s1
  let s3 := (s2.ledgerBoundary.timeBoundary.twinBoundary.mirrorBoundary.placeBoundary.retrainBoundary.courtBoundary.swapBoundary.legalBoundary.softBoundary.lowPowerBoundary).injectNow
  if s3.twin.en then s3.onTwin fun w => { w with sent := some s3.tcbOut } else s3

/-- The commit of a tick: outputs, events and frames (R46, R41). -/
def State.commitTick (s : State) : State :=
  let s1 := allBays.foldl State.buildBay s.lateOverruns
  let s2 := allRegions.foldl State.commitShard (allBays.foldl State.commitBay s1)
  let s3 := allBays.foldl State.sendFrame s2.countMarks
  if s3.twin.en then s3.onTwin fun w => { w with digests := allRegions.map (regionDigest s1 s3) } else s3

/-- TICK_COMMIT (R46): each output group and each lone cell is released or withheld, the downlink frames leave, and the next tick begins. -/
def execTickCommit (s : State) : Out := .next (if s.clock.cellRuns then s.commitTick.nextTick else s)

end Sys2Proof.Machine
end

