-- ==== Sys2Proof/Machine/Settings.lean ====
section
/-! DEFINITION. Armed settings take effect (spec file 02). -/

namespace Sys2Proof.Machine

/-- One armed change takes force (R50). A change that is the same as what is in force leaves statistics and accumulators alone. -/
def State.applySetting (s : State) (a : Armed) : State :=
  match a.cmd with
  | .calLoad c bay x => if a.same then s.consumeXfer c x else atBay bay s fun b => s.applyCal a.origin b x
  | .pulseMap ball bay src pol const width => if a.same then s else s.applyPulseMap ball bay src pol const width
  | .s0Config i pol ms const => s.applyS0 i pol ms const
  | .pilotUnavailable bay set => s.applyUnavail bay set
  | .sessionAuth bay decision id limit energy => s.applyAuth bay decision id limit energy
  | .sessionStop bay id => s.applyStop bay id
  | .sessionLimit bay id limit energy => s.applyLimit bay id limit energy
  | .ledgerConfig c => s.applyLedger c
  | .ringConfig en prio => s.applyRing en prio
  | .timeConfig c => s.applyTime c
  | .bayReload entries => s.applyReload entries a.bays
  | .courtCreate c sup region grant places => s.applyCreate c sup region grant places

/-- The generation of a bay, by number. -/
def State.bayGen (s : State) (bay : Nat) : Nat := atBay bay 0 fun b => s.gens.bay[b]

/-- The response of a settings command once its tick has begun (R50): the generation and the tick. KEY_NODE of a new court is free (log 126). -/
def State.answerSetting (s : State) (a : Armed) : State :=
  let bay := fun (n : Nat) => s.ok a.origin [32, 64] [s.bayGen n, s.now]
  let site := s.ok a.origin [32, 64] [s.gens.site, s.now]
  match a.cmd with
  | .calLoad _ n _ => bay n
  | .pilotUnavailable n _ => bay n
  | .sessionLimit n _ _ _ => bay n
  | .sessionAuth _ _ _ _ _ => s.ok a.origin [64] [s.now]
  | .sessionStop _ _ => s.ok a.origin [64] [s.now]
  | .pulseMap _ _ _ _ _ _ => site
  | .s0Config _ _ _ _ => site
  | .ledgerConfig _ => site
  | .ringConfig _ _ => site
  | .timeConfig _ => site
  | .bayReload entries => s.ok a.origin (reloadLayout entries.length) ([0xFF, 0, s.now] ++ entries.map fun e => s.bayGen e.1)
  | .courtCreate _ _ _ _ _ => s.drawn.ok a.origin [16, 16, 32, 64] [s.draw % 2 ^ 16, 0, s.gens.site, s.now]

/-- SETTINGS_EFFECTIVE (R49, R50): every change whose tick has come takes force in its order; each generation rises by one for the tick, and the
responses follow. -/
def State.settingsEffective (s : State) : State :=
  let due := s.armed.filter fun a => a.tick ≤ s.now
  let moves := due.filter fun a => !a.same
  let s1 : State := { s with armed := s.armed.filter fun a => s.now < a.tick }
  let s2 := s1.bumpBays (moves.foldl (fun (m : BayMask) a => m ||| a.bays) 0)
  let s3 := if moves.any (·.site) then s2.bumpSite else s2
  due.foldl State.answerSetting (due.foldl State.applySetting s3)

/-- The command SETTINGS_EFFECTIVE (R50). -/
def execSettingsEffective (s : State) : Out := .next s.settingsEffective

end Sys2Proof.Machine
end

