-- ==== Sys2Proof/Machine/Dispatch.lean ====
section
/-! DEFINITION. One arm for each constructor of Instr: a direct call of its meaning. -/

namespace Sys2Proof.Machine

/-- The effect of a command on everything but the queue of waiting commands. -/
def exec (i : Instr) (s : State) : Host.Outcome State Fault Refusal :=
  match i with
  | .powerOnReset input => Sys2Proof.Machine.execPowerOnReset input s
  | .pinReset input => Sys2Proof.Machine.execPinReset input s
  | .softReset input => Sys2Proof.Machine.execSoftReset input s
  | .wdogReset input => Sys2Proof.Machine.execWdogReset input s
  | .selfCheck => Sys2Proof.Machine.execSelfCheck s
  | .intakePublish => Sys2Proof.Machine.execIntakePublish s
  | .uplinkFrame b f => Sys2Proof.Machine.execUplinkFrame b f s
  | .cellTickWork c d line => Sys2Proof.Machine.execCellTickWork c d line s
  | .backgroundSlice c w => Sys2Proof.Machine.execBackgroundSlice c w s
  | .outletBuild => Sys2Proof.Machine.execOutletBuild s
  | .tickCommit => Sys2Proof.Machine.execTickCommit s
  | .settingsEffective => Sys2Proof.Machine.execSettingsEffective s
  | .mbxRequest c m bytes late reads => Sys2Proof.Machine.execMbxRequest c m bytes late reads s
  | .outboundWrite c m => Sys2Proof.Machine.execOutboundWrite c m s
  | .eventBatchWrite c => Sys2Proof.Machine.execEventBatchWrite c s
  | .mbxBellInbound c m index => Sys2Proof.Machine.execMbxBellInbound c m index s
  | .mbxBellOutbound c m index => Sys2Proof.Machine.execMbxBellOutbound c m index s
  | .mbxOpen m => Sys2Proof.Machine.execMbxOpen m s
  | .mbxClose m => Sys2Proof.Machine.execMbxClose m s
  | .bulkPut o num off first last data => Sys2Proof.Machine.execBulkPut o num off first last data s
  | .flashPutDone verified => Sys2Proof.Machine.execFlashPutDone verified s
  | .bulkTransferExpire c num => Sys2Proof.Machine.execBulkTransferExpire c num s
  | .hostReadFail bit served c => Sys2Proof.Machine.execHostReadFail bit served c s
  | .pcieHotReset => Sys2Proof.Machine.execPcieHotReset s
  | .perstAssert => Sys2Proof.Machine.execPerstAssert s
  | .registerWrite offset value => Sys2Proof.Machine.execRegisterWrite offset value s
  | .readClear offset => Sys2Proof.Machine.execReadClear offset s
  | .tickLoRead => Sys2Proof.Machine.execTickLoRead s
  | .evtAck src count => Sys2Proof.Machine.execEvtAck src count s
  | .holdoffExpire g => Sys2Proof.Machine.execHoldoffExpire g s
  | .evtWakeWrite idx value => Sys2Proof.Machine.execEvtWakeWrite idx value s
  | .evtWakeCommit => Sys2Proof.Machine.execEvtWakeCommit s
  | .devWakeWrite value => Sys2Proof.Machine.execDevWakeWrite value s
  | .fabricTransfer t => Sys2Proof.Machine.execFabricTransfer t s
  | .queuePacket r p => Sys2Proof.Machine.execQueuePacket r p s
  | .scrub id word f => Sys2Proof.Machine.execScrub id word f s
  | .ptpSync m => Sys2Proof.Machine.execPtpSync m s
  | .siteTimeStep => Sys2Proof.Machine.execSiteTimeStep s
  | .timeLocked => Sys2Proof.Machine.execTimeLocked s
  | .syncTimeout => Sys2Proof.Machine.execSyncTimeout s
  | .timeSetApply => Sys2Proof.Machine.execTimeSetApply s
  | .legalTimeValid => Sys2Proof.Machine.execLegalTimeValid s
  | .signalDetect b => Sys2Proof.Machine.execSignalDetect b s
  | .blockLockGained b => Sys2Proof.Machine.execBlockLockGained b s
  | .blockLockLost b => Sys2Proof.Machine.execBlockLockLost b s
  | .alignmentBlockRx b pos tick => Sys2Proof.Machine.execAlignmentBlockRx b pos tick s
  | .lockTimeout b => Sys2Proof.Machine.execLockTimeout b s
  | .measureTimeout b => Sys2Proof.Machine.execMeasureTimeout b s
  | .downHoldExpire b => Sys2Proof.Machine.execDownHoldExpire b s
  | .trainingAnswer b seq roundTrip turnPs crcOk => Sys2Proof.Machine.execTrainingAnswer b seq roundTrip turnPs crcOk s
  | .configResponse b r => Sys2Proof.Machine.execConfigResponse b r s
  | .configRetryTimeout b => Sys2Proof.Machine.execConfigRetryTimeout b s
  | .linkLost b => Sys2Proof.Machine.execLinkLost b s
  | .headFwLoaded b => Sys2Proof.Machine.execHeadFwLoaded b s
  | .headFwTimeout b => Sys2Proof.Machine.execHeadFwTimeout b s
  | .headReject b => Sys2Proof.Machine.execHeadReject b s
  | .headPowerUp b fwWord => Sys2Proof.Machine.execHeadPowerUp b fwWord s
  | .headFrameApply b t f0 f1 trips => Sys2Proof.Machine.execHeadFrameApply b t f0 f1 trips s
  | .headHeldLimit b => Sys2Proof.Machine.execHeadHeldLimit b s
  | .headPilotHoldLimit b => Sys2Proof.Machine.execHeadPilotHoldLimit b s
  | .headIdentHoldLimit b => Sys2Proof.Machine.execHeadIdentHoldLimit b s
  | .headWhistleStop b p scope => Sys2Proof.Machine.execHeadWhistleStop b p scope s
  | .headRelease b => Sys2Proof.Machine.execHeadRelease b s
  | .headConfigRequest b p r => Sys2Proof.Machine.execHeadConfigRequest b p r s
  | .headPortOutOfService b p lost => Sys2Proof.Machine.execHeadPortOutOfService b p lost s
  | .headSafeFrame b p demand ok => Sys2Proof.Machine.execHeadSafeFrame b p demand ok s
  | .pilotEvaluation b m => Sys2Proof.Machine.execPilotEvaluation b m s
  | .ppEvaluation b tick mean => Sys2Proof.Machine.execPpEvaluation b tick mean s
  | .plcFrameRx b f => Sys2Proof.Machine.execPlcFrameRx b f s
  | .slacParmReq b tick runId mac => Sys2Proof.Machine.execSlacParmReq b tick runId mac s
  | .startAttenChar b tick runId => Sys2Proof.Machine.execStartAttenChar b tick runId s
  | .mnbcSound b tick runId count groups => Sys2Proof.Machine.execMnbcSound b tick runId count groups s
  | .slacMatchReq b runId => Sys2Proof.Machine.execSlacMatchReq b runId s
  | .slacValidate b => Sys2Proof.Machine.execSlacValidate b s
  | .slacSlotAssign => Sys2Proof.Machine.execSlacSlotAssign s
  | .slacDecision idx => Sys2Proof.Machine.execSlacDecision idx s
  | .slacSlotFree idx => Sys2Proof.Machine.execSlacSlotFree idx s
  | .slacMatchTimeout b => Sys2Proof.Machine.execSlacMatchTimeout b s
  | .slacAssignLapse => Sys2Proof.Machine.execSlacAssignLapse s
  | .sessionPilotChange b => Sys2Proof.Machine.execSessionPilotChange b s
  | .sdpRequest b secure => Sys2Proof.Machine.execSdpRequest b secure s
  | .tlsHandshake b h => Sys2Proof.Machine.execTlsHandshake b h s
  | .v2gRequest b r => Sys2Proof.Machine.execV2gRequest b r s
  | .contactorConfirmTimeout b => Sys2Proof.Machine.execContactorConfirmTimeout b s
  | .weldVerdictTimeout b => Sys2Proof.Machine.execWeldVerdictTimeout b s
  | .matchingTimeout b => Sys2Proof.Machine.execMatchingTimeout b s
  | .matchPauseEnd b => Sys2Proof.Machine.execMatchPauseEnd b s
  | .sessionTimeout b row => Sys2Proof.Machine.execSessionTimeout b row s
  | .authTimeout b => Sys2Proof.Machine.execAuthTimeout b s
  | .tokenHoldExpire b => Sys2Proof.Machine.execTokenHoldExpire b s
  | .acOvercurrent b => Sys2Proof.Machine.execAcOvercurrent b s
  | .basicPauseTimeout b => Sys2Proof.Machine.execBasicPauseTimeout b s
  | .basicPwmRestore b => Sys2Proof.Machine.execBasicPwmRestore b s
  | .faultPilotTimer b => Sys2Proof.Machine.execFaultPilotTimer b s
  | .tlsCloseTimer b => Sys2Proof.Machine.execTlsCloseTimer b s
  | .cardPoll b => Sys2Proof.Machine.execCardPoll b s
  | .cardExchangeDone b r => Sys2Proof.Machine.execCardExchangeDone b r s
  | .cardPresenceCheck b => Sys2Proof.Machine.execCardPresenceCheck b s
  | .cardHoldExpire b => Sys2Proof.Machine.execCardHoldExpire b s
  | .kytInventory b => Sys2Proof.Machine.execKytInventory b s
  | .kytSlot b c => Sys2Proof.Machine.execKytSlot b c s
  | .kytAckReply b handle id status blocks rssi crcOk => Sys2Proof.Machine.execKytAckReply b handle id status blocks rssi crcOk s
  | .kytAckTimeout b => Sys2Proof.Machine.execKytAckTimeout b s
  | .kytReadReply b got rstatus data crcOk => Sys2Proof.Machine.execKytReadReply b got rstatus data crcOk s
  | .kytWriteReply b got rstatus written crcOk => Sys2Proof.Machine.execKytWriteReply b got rstatus written crcOk s
  | .tagEntryExpire b => Sys2Proof.Machine.execTagEntryExpire b s
  | .modBootDone b => Sys2Proof.Machine.execModBootDone b s
  | .gainSetReturn b l => Sys2Proof.Machine.execGainSetReturn b l s
  | .loopTuneDone b => Sys2Proof.Machine.execLoopTuneDone b s
  | .shortRetry b k => Sys2Proof.Machine.execShortRetry b k s
  | .retryCountReset b k => Sys2Proof.Machine.execRetryCountReset b k s
  | .openLoadDetect b k => Sys2Proof.Machine.execOpenLoadDetect b k s
  | .uvRestart b => Sys2Proof.Machine.execUvRestart b s
  | .freewheelVerdict b k => Sys2Proof.Machine.execFreewheelVerdict b k s
  | .contactorLost b => Sys2Proof.Machine.execContactorLost b s
  | .weldBlock b => Sys2Proof.Machine.execWeldBlock b s
  | .earthTrip b => Sys2Proof.Machine.execEarthTrip b s
  | .rcTestStart b => Sys2Proof.Machine.execRcTestStart b s
  | .rcTestEnd b => Sys2Proof.Machine.execRcTestEnd b s
  | .rcTestOverdue b => Sys2Proof.Machine.execRcTestOverdue b s
  | .imdHalfSwitch b => Sys2Proof.Machine.execImdHalfSwitch b s
  | .imdCycleEnd b => Sys2Proof.Machine.execImdCycleEnd b s
  | .arcSpectrum b power mag => Sys2Proof.Machine.execArcSpectrum b power mag s
  | .arcSelftest b ok => Sys2Proof.Machine.execArcSelftest b ok s
  | .meterIndex b => Sys2Proof.Machine.execMeterIndex b s
  | .energyRecord b => Sys2Proof.Machine.execEnergyRecord b s
  | .meterCellTimeout b => Sys2Proof.Machine.execMeterCellTimeout b s
  | .pulseStart p => Sys2Proof.Machine.execPulseStart p s
  | .pulseEnd p => Sys2Proof.Machine.execPulseEnd p s
  | .s0Pulse inp inactive active => Sys2Proof.Machine.execS0Pulse inp inactive active s
  | .demandIntervalEnd => Sys2Proof.Machine.execDemandIntervalEnd s
  | .tariffSwitch => Sys2Proof.Machine.execTariffSwitch s
  | .calendarActivate => Sys2Proof.Machine.execCalendarActivate s
  | .sessionReading b => Sys2Proof.Machine.execSessionReading b s
  | .mirrorSweep => Sys2Proof.Machine.execMirrorSweep s
  | .pfailFall => Sys2Proof.Machine.execPfailFall s
  | .finalSweepDone => Sys2Proof.Machine.execFinalSweepDone s
  | .dispFrameRead b img => Sys2Proof.Machine.execDispFrameRead b img s
  | .dispStressMinute => Sys2Proof.Machine.execDispStressMinute s
  | .dispGainDaily => Sys2Proof.Machine.execDispGainDaily s
  | .ledgerFallback b => Sys2Proof.Machine.execLedgerFallback b s
  | .ledgerStale => Sys2Proof.Machine.execLedgerStale s
  | .ledgerOver => Sys2Proof.Machine.execLedgerOver s
  | .safetyStartupDone ok mon => Sys2Proof.Machine.execSafetyStartupDone ok mon s
  | .safetyLoop m1 m2 ns => Sys2Proof.Machine.execSafetyLoop m1 m2 ns s
  | .discrepancyTimeout f second => Sys2Proof.Machine.execDiscrepancyTimeout f second s
  | .stop1Expire f => Sys2Proof.Machine.execStop1Expire f s
  | .twoHandWindowExpire f => Sys2Proof.Machine.execTwoHandWindowExpire f s
  | .muteLimit f => Sys2Proof.Machine.execMuteLimit f s
  | .resetEdge idx => Sys2Proof.Machine.execResetEdge idx s
  | .resetStuck idx => Sys2Proof.Machine.execResetStuck idx s
  | .encFault n => Sys2Proof.Machine.execEncFault n s
  | .encReference n => Sys2Proof.Machine.execEncReference n s
  | .pairSohOn p srb srl => Sys2Proof.Machine.execPairSohOn p srb srl s
  | .pairTest p first second => Sys2Proof.Machine.execPairTest p first second s
  | .monitorFault mon => Sys2Proof.Machine.execMonitorFault mon s
  | .stopBusToggleLost r => Sys2Proof.Machine.execStopBusToggleLost r s
  | .safeFrameSend p => Sys2Proof.Machine.execSafeFrameSend p s
  | .safeFrameRx p bytes => Sys2Proof.Machine.execSafeFrameRx p bytes s
  | .safeWatchdog p => Sys2Proof.Machine.execSafeWatchdog p s
  | .safeConnRestart p => Sys2Proof.Machine.execSafeConnRestart p s
  | .configLockoutEnd => Sys2Proof.Machine.execConfigLockoutEnd s
  | .trngReady => Sys2Proof.Machine.execTrngReady s
  | .trngStartupFail => Sys2Proof.Machine.execTrngStartupFail s
  | .trngContinuousFail => Sys2Proof.Machine.execTrngContinuousFail s
  | .trngRetryReset => Sys2Proof.Machine.execTrngRetryReset s
  | .drbgReseed predRes => Sys2Proof.Machine.execDrbgReseed predRes s
  | .debugChallengeExpire => Sys2Proof.Machine.execDebugChallengeExpire s
  | .cellFailure c cause data0 data1 copy => Sys2Proof.Machine.execCellFailure c cause data0 data1 copy s
  | .spareResume c => Sys2Proof.Machine.execSpareResume c s
  | .degradedClear g => Sys2Proof.Machine.execDegradedClear g s
  | .guardStale b => Sys2Proof.Machine.execGuardStale b s
  | .blockStoreLost r block cond => Sys2Proof.Machine.execBlockStoreLost r block cond s
  | .assistJobFault r block assist symbol => Sys2Proof.Machine.execAssistJobFault r block assist symbol s
  | .regionFault r cause => Sys2Proof.Machine.execRegionFault r cause s
  | .islandCopyDone => Sys2Proof.Machine.execIslandCopyDone s
  | .watchdogStage1 core tj => Sys2Proof.Machine.execWatchdogStage1 core tj s
  | .watchdogStage2 core => Sys2Proof.Machine.execWatchdogStage2 core s
  | .refclkLoss => Sys2Proof.Machine.execRefclkLoss s
  | .refclkReturn => Sys2Proof.Machine.execRefclkReturn s
  | .tempWarning tj => Sys2Proof.Machine.execTempWarning tj s
  | .thermalStop tj => Sys2Proof.Machine.execThermalStop tj s
  | .tickControlBlock t acks => Sys2Proof.Machine.execTickControlBlock t acks s
  | .mirrorMessage seq tick input => Sys2Proof.Machine.execMirrorMessage seq tick input s
  | .mirrorAckTimeout => Sys2Proof.Machine.execMirrorAckTimeout s
  | .twinResendTimeout cls seq => Sys2Proof.Machine.execTwinResendTimeout cls seq s
  | .twinLinkUp p => Sys2Proof.Machine.execTwinLinkUp p s
  | .heartbeatCheck twhbInverted => Sys2Proof.Machine.execHeartbeatCheck twhbInverted s
  | .takeover => Sys2Proof.Machine.execTakeover s
  | .handoverApply => Sys2Proof.Machine.execHandoverApply s
  | .yieldTake => Sys2Proof.Machine.execYieldTake s
  | .joinPhaseDone items => Sys2Proof.Machine.execJoinPhaseDone items s
  | .cutIn u => Sys2Proof.Machine.execCutIn u s
  | .joinTimeout => Sys2Proof.Machine.execJoinTimeout s
  | .autoRejoin => Sys2Proof.Machine.execAutoRejoin s
  | .kickoffWaitEnd => Sys2Proof.Machine.execKickoffWaitEnd s
  | .ringClaim p id => Sys2Proof.Machine.execRingClaim p id s
  | .ringMaster => Sys2Proof.Machine.execRingMaster s
  | .ringAnnounce p id => Sys2Proof.Machine.execRingAnnounce p id s
  | .ringCheckSend => Sys2Proof.Machine.execRingCheckSend s
  | .ringCheck p hops => Sys2Proof.Machine.execRingCheck p hops s
  | .ringCheckLost => Sys2Proof.Machine.execRingCheckLost s
  | .ringFrameForward p f => Sys2Proof.Machine.execRingFrameForward p f s
  | .ringBundleFrame p hash op offset data => Sys2Proof.Machine.execRingBundleFrame p hash op offset data s
  | .trialTimeout => Sys2Proof.Machine.execTrialTimeout s
  | .updateSwapApply answered items => Sys2Proof.Machine.execUpdateSwapApply answered items s
  | .courtRestartDone c => Sys2Proof.Machine.execCourtRestartDone c s
  | .courtTeardownDone c => Sys2Proof.Machine.execCourtTeardownDone c s
  | .islandSupplySwitch toVbat => Sys2Proof.Machine.execIslandSupplySwitch toVbat s
  | .crystalStop => Sys2Proof.Machine.execCrystalStop s
  | .crystalResume => Sys2Proof.Machine.execCrystalResume s
  | .islandBrownout => Sys2Proof.Machine.execIslandBrownout s
  | .islandFreshStart => Sys2Proof.Machine.execIslandFreshStart s
  | .vbatMeasure mv => Sys2Proof.Machine.execVbatMeasure mv s
  | .rtcSet => Sys2Proof.Machine.execRtcSet s
  | .tamperInput inp sec => Sys2Proof.Machine.execTamperInput inp sec s
  | .theftSecond sec sums => Sys2Proof.Machine.execTheftSecond sec sums s
  | .wakeNLow => Sys2Proof.Machine.execWakeNLow s
  | .rtcAlarm sec => Sys2Proof.Machine.execRtcAlarm sec s
  | .wakeSourceOccurrence src => Sys2Proof.Machine.execWakeSourceOccurrence src s
  | .islandRailsReady input => Sys2Proof.Machine.execIslandRailsReady input s
  | .regRead o offset => Sys2Proof.Machine.execRegRead o offset s
  | .regWrite o offset value => Sys2Proof.Machine.execRegWrite o offset value s
  | .timeConfig o source domain transport step => Sys2Proof.Machine.execTimeConfig o source domain transport step s
  | .timeSet o siteNs apply => Sys2Proof.Machine.execTimeSet o siteNs apply s
  | .memHealth o region flags => Sys2Proof.Machine.execMemHealth o region flags s
  | .lowpowerEnterQuiet o state flags wakeAt => Sys2Proof.Machine.execLowpowerEnterQuiet o state flags wakeAt s
  | .lowpowerEnterIsland o state flags wakeAt => Sys2Proof.Machine.execLowpowerEnterIsland o state flags wakeAt s
  | .islandStatus o => Sys2Proof.Machine.execIslandStatus o s
  | .islandConfig o en minMa c0 c1 c2 c3 => Sys2Proof.Machine.execIslandConfig o en minMa c0 c1 c2 c3 s
  | .mbxEcho o data => Sys2Proof.Machine.execMbxEcho o data s
  | .courtCreate o court sup region grant i0 o0 c0 i1 o1 c1 i2 o2 c2 i3 o3 c3 => Sys2Proof.Machine.execCourtCreate o court sup region grant i0 o0 c0 i1 o1 c1 i2 o2 c2 i3 o3 c3 s
  | .courtRestart o court => Sys2Proof.Machine.execCourtRestart o court s
  | .courtTeardown o court flags => Sys2Proof.Machine.execCourtTeardown o court flags s
  | .courtStatus o court => Sys2Proof.Machine.execCourtStatus o court s
  | .mbxPlace o court mbx inBase outBase cfg => Sys2Proof.Machine.execMbxPlace o court mbx inBase outBase cfg s
  | .evtMask o mask => Sys2Proof.Machine.execEvtMask o mask s
  | .bayTableBase o base => Sys2Proof.Machine.execBayTableBase o base s
  | .bayReload o bays reads => Sys2Proof.Machine.execBayReload o bays reads s
  | .bayStatus o bay => Sys2Proof.Machine.execBayStatus o bay s
  | .linkStatus o bay => Sys2Proof.Machine.execLinkStatus o bay s
  | .linkRetrain o bays => Sys2Proof.Machine.execLinkRetrain o bays s
  | .headFwLoad o bays transfer size hash => Sys2Proof.Machine.execHeadFwLoad o bays transfer size hash s
  | .pilotStatus o bay => Sys2Proof.Machine.execPilotStatus o bay s
  | .pilotUnavailable o bay set => Sys2Proof.Machine.execPilotUnavailable o bay set s
  | .plcStatus o bay => Sys2Proof.Machine.execPlcStatus o bay s
  | .slacMatrix o => Sys2Proof.Machine.execSlacMatrix o s
  | .slacAssign o mac bay => Sys2Proof.Machine.execSlacAssign o mac bay s
  | .sessionStatus o bay => Sys2Proof.Machine.execSessionStatus o bay s
  | .sessionAuth o bay decision id limit energy => Sys2Proof.Machine.execSessionAuth o bay decision id limit energy s
  | .sessionStop o bay id => Sys2Proof.Machine.execSessionStop o bay id s
  | .sessionLimit o bay id limit energy => Sys2Proof.Machine.execSessionLimit o bay id limit energy s
  | .certLoad o type_ protocol transfer keyId => Sys2Proof.Machine.execCertLoad o type_ protocol transfer keyId s
  | .certResponse o bay result transfer id => Sys2Proof.Machine.execCertResponse o bay result transfer id s
  | .identStatus o bay => Sys2Proof.Machine.execIdentStatus o bay s
  | .cardApdu o bay len apdu => Sys2Proof.Machine.execCardApdu o bay len apdu s
  | .cardRelease o bay => Sys2Proof.Machine.execCardRelease o bay s
  | .tagList o bay => Sys2Proof.Machine.execTagList o bay s
  | .tagRead o bay count addr tag => Sys2Proof.Machine.execTagRead o bay count addr tag s
  | .tagWrite o bay count addr tag data => Sys2Proof.Machine.execTagWrite o bay count addr tag data s
  | .modStatus o bay => Sys2Proof.Machine.execModStatus o bay s
  | .modPulse o bay leg flags tgt edges => Sys2Proof.Machine.execModPulse o bay leg flags tgt edges s
  | .loopStatus o bay => Sys2Proof.Machine.execLoopStatus o bay s
  | .loopTune o bay loop step fcHz maxDev => Sys2Proof.Machine.execLoopTune o bay loop step fcHz maxDev s
  | .chanStatus o bay => Sys2Proof.Machine.execChanStatus o bay s
  | .chanSet o bay mask on => Sys2Proof.Machine.execChanSet o bay mask on s
  | .chanReset o bay mask => Sys2Proof.Machine.execChanReset o bay mask s
  | .earthStatus o bay => Sys2Proof.Machine.execEarthStatus o bay s
  | .earthReset o bay => Sys2Proof.Machine.execEarthReset o bay s
  | .earthTest o bay => Sys2Proof.Machine.execEarthTest o bay s
  | .meterStatus o bay => Sys2Proof.Machine.execMeterStatus o bay s
  | .meterRead o bay => Sys2Proof.Machine.execMeterRead o bay s
  | .meterHarmonics o bay channel => Sys2Proof.Machine.execMeterHarmonics o bay channel s
  | .calLoad o bay transfer => Sys2Proof.Machine.execCalLoad o bay transfer s
  | .pulseMap o ball bay source polarity const width => Sys2Proof.Machine.execPulseMap o ball bay source polarity const width s
  | .s0Config o input polarity minMs const => Sys2Proof.Machine.execS0Config o input polarity minMs const s
  | .s0Read o => Sys2Proof.Machine.execS0Read o s
  | .legalRead o meter => Sys2Proof.Machine.execLegalRead o meter s
  | .legalSign o meter reg nonceLen nonce => Sys2Proof.Machine.execLegalSign o meter reg nonceLen nonce s
  | .tamperRead o => Sys2Proof.Machine.execTamperRead o s
  | .logRead o fromSeq count flags => Sys2Proof.Machine.execLogRead o fromSeq count flags s
  | .legalStatus o => Sys2Proof.Machine.execLegalStatus o s
  | .calendarLoadActive o transfer activate => Sys2Proof.Machine.execCalendarLoadActive o transfer activate s
  | .calendarLoadPassive o transfer activate => Sys2Proof.Machine.execCalendarLoadPassive o transfer activate s
  | .legalConfig o transfer => Sys2Proof.Machine.execLegalConfig o transfer s
  | .legalCheckpoint o => Sys2Proof.Machine.execLegalCheckpoint o s
  | .legalRestore o transfer => Sys2Proof.Machine.execLegalRestore o transfer s
  | .dispShow o bay flags gen addr r0 r1 r2 r3 => Sys2Proof.Machine.execDispShow o bay flags gen addr r0 r1 r2 r3 s
  | .dispStatus o bay => Sys2Proof.Machine.execDispStatus o bay s
  | .dispStressRead o bay => Sys2Proof.Machine.execDispStressRead o bay s
  | .dispStressLoad o bay transfer => Sys2Proof.Machine.execDispStressLoad o bay transfer s
  | .ledgerConfig o imp exp res peak floor_ bmax btime excess => Sys2Proof.Machine.execLedgerConfig o imp exp res peak floor_ bmax btime excess s
  | .ledgerStatus o => Sys2Proof.Machine.execLedgerStatus o s
  | .ledgerBay o bay => Sys2Proof.Machine.execLedgerBay o bay s
  | .siteBase o base => Sys2Proof.Machine.execSiteBase o base s
  | .ledgerStore o bay chg dis pSet vLow => Sys2Proof.Machine.execLedgerStore o bay chg dis pSet vLow s
  | .ledgerGrid o bay pSet vLink phi => Sys2Proof.Machine.execLedgerGrid o bay pSet vLink phi s
  | .safetyStatus o => Sys2Proof.Machine.execSafetyStatus o s
  | .encRead o => Sys2Proof.Machine.execEncRead o s
  | .safetyConfigLoad o transfer tail0 tail1 passLen pass => Sys2Proof.Machine.execSafetyConfigLoad o transfer tail0 tail1 passLen pass s
  | .safetyConfigApply => Sys2Proof.Machine.execSafetyConfigApply s
  | .safetyLogRead o fromSeq => Sys2Proof.Machine.execSafetyLogRead o fromSeq s
  | .safeConnStatus o => Sys2Proof.Machine.execSafeConnStatus o s
  | .safetyCommission o passLen pass => Sys2Proof.Machine.execSafetyCommission o passLen pass s
  | .fuseRead o => Sys2Proof.Machine.execFuseRead o s
  | .fuseBurn o field value => Sys2Proof.Machine.execFuseBurn o field value s
  | .debugChallenge o tokenLen => Sys2Proof.Machine.execDebugChallenge o tokenLen s
  | .debugUnlock o token serial challenge => Sys2Proof.Machine.execDebugUnlock o token serial challenge s
  | .siteRootGenerate o pos blob => Sys2Proof.Machine.execSiteRootGenerate o pos blob s
  | .siteRootLoad o pos blob => Sys2Proof.Machine.execSiteRootLoad o pos blob s
  | .siteRootExport o pos blob => Sys2Proof.Machine.execSiteRootExport o pos blob s
  | .keyPurposeGen o purpose gen => Sys2Proof.Machine.execKeyPurposeGen o purpose gen s
  | .keyCreate o keyId alg flags => Sys2Proof.Machine.execKeyCreate o keyId alg flags s
  | .keySign o keyId flags data => Sys2Proof.Machine.execKeySign o keyId flags data s
  | .keyEcdh o keyId peer => Sys2Proof.Machine.execKeyEcdh o keyId peer s
  | .keyAeadSeal o keyId nonce aad data => Sys2Proof.Machine.execKeyAeadSeal o keyId nonce aad data s
  | .keyAeadOpen o keyId nonce aad data => Sys2Proof.Machine.execKeyAeadOpen o keyId nonce aad data s
  | .rngRead o count flags => Sys2Proof.Machine.execRngRead o count flags s
  | .attest o nonceLen nonce => Sys2Proof.Machine.execAttest o nonceLen nonce s
  | .faultStatus o => Sys2Proof.Machine.execFaultStatus o s
  | .cellStatus o region block slot => Sys2Proof.Machine.execCellStatus o region block slot s
  | .scorebookRead o source count from_ => Sys2Proof.Machine.execScorebookRead o source count from_ s
  | .scorebookRelease o flags testOk => Sys2Proof.Machine.execScorebookRelease o flags testOk s
  | .faultInject o region block slot kind => Sys2Proof.Machine.execFaultInject o region block slot kind s
  | .twinStatus o => Sys2Proof.Machine.execTwinStatus o s
  | .twinJoin o apply => Sys2Proof.Machine.execTwinJoin o apply s
  | .twinHandover o apply => Sys2Proof.Machine.execTwinHandover o apply s
  | .twinTake o apply => Sys2Proof.Machine.execTwinTake o apply s
  | .twinLeave o apply => Sys2Proof.Machine.execTwinLeave o apply s
  | .ringConfig o en prio => Sys2Proof.Machine.execRingConfig o en prio s
  | .ringStatus o => Sys2Proof.Machine.execRingStatus o s
  | .sysReset o pos => Sys2Proof.Machine.execSysReset o pos s
  | .bootStatus o pos => Sys2Proof.Machine.execBootStatus o pos s
  | .bootHost o transfer => Sys2Proof.Machine.execBootHost o transfer s
  | .bundleWrite o pos source flags transfer => Sys2Proof.Machine.execBundleWrite o pos source flags transfer s
  | .bundleGoldenCopy o pos flags transfer => Sys2Proof.Machine.execBundleGoldenCopy o pos flags transfer s
  | .updateActivate o pos slot trialS => Sys2Proof.Machine.execUpdateActivate o pos slot trialS s
  | .updateConfirm o pos hash => Sys2Proof.Machine.execUpdateConfirm o pos hash s
  | .updateSwap o apply => Sys2Proof.Machine.execUpdateSwap o apply s
  | .requestDatagram bytes sender => Sys2Proof.Machine.execRequestDatagram bytes sender s
  | .arpIcmpEcho address => Sys2Proof.Machine.execArpIcmpEcho address s
  | .ptpDelayResp origin arrival departure receipt => Sys2Proof.Machine.execPtpDelayResp origin arrival departure receipt s
  | .busMasterEnable on => Sys2Proof.Machine.execBusMasterEnable on s
  | .lossOfSignal b => Sys2Proof.Machine.execLossOfSignal b s
  | .tamperInputInactive inp => Sys2Proof.Machine.execTamperInputInactive inp s
  | .twinTrainingAnswer roundTrip turnPs crcOk => Sys2Proof.Machine.execTwinTrainingAnswer roundTrip turnPs crcOk s
  | .twinForwardedCommand opcode payload bulk => Sys2Proof.Machine.execTwinForwardedCommand opcode payload bulk s
  | .twinForwardResult opcode st dt vals => Sys2Proof.Machine.execTwinForwardResult opcode st dt vals s
  | .twinForwardTimeout => Sys2Proof.Machine.execTwinForwardTimeout s
  | .bundleWriteDone code => Sys2Proof.Machine.execBundleWriteDone code s
  | .fuseBurnDone verified => Sys2Proof.Machine.execFuseBurnDone verified s

end Sys2Proof.Machine
end

