-- ==== Sys2Proof/Safety.lean ====
section
/-! DEFINITION. The words in which the statements speak: what every step keeps, when a request is served, what a response leaves, and how little a
command may change. -/

namespace Sys2Proof.Machine

/-- What every step keeps: the memory of the regions is in its canonical form, so that equal memories are equal data. -/
def State.Inv (s : State) : Prop := Memory.wf s.mem.cells = true

/-- A byte of the regions' memory as it reads (R5, R22). -/
def State.byte (s : State) (a : Nat) : Byte := memGet s.mem.cells a

/-- A request of a mailbox that is taken and not turned away before its card is looked at (R69, R72, R80, R82, R85): the mailbox can take a request,
the message is well formed, Myavat runs, and this QN960 is no returner and executes no input of its twin (R611, R645). -/
abbrev Serves (o : Origin) (s : State) : Prop :=
  s.canTake o.court o.mbx = true ∧ s.twin.armAt = none ∧ reserved o = none ∧ s.isReturner = false ∧ s.inLoader = false

/-- The court of a request is one of some courts (R85). -/
abbrev FromCourt (o : Origin) (cs : List Nat) : Prop := o.court.val ∈ cs

/-- What a request that is answered at once leaves of its mailbox, and of nothing else (R80, R82 to R84): its sequence number is consumed, the
response is cached and waits to be written. -/
def State.replied (s : State) (o : Origin) (opcode st dt : Nat) (bulk : Bool) (fs : List Field) : State :=
  s.onMbx o.court o.mbx fun x =>
    let msg := responseMsg opcode x.expectSeq st dt bulk fs s.now
    { x with expectSeq := (x.expectSeq + 1) % 2 ^ 32, running := none, cache := ((x.expectSeq, msg) :: x.cache).take 64, out := x.out ++ [msg] }

/-- The OK response of a card with its response fields (R82, R86). -/
def State.repliedOk (s : State) (o : Origin) (opcode : Nat) (layout vals : List Nat) : State :=
  s.replied o opcode stOK 0 false (withValues layout vals)

/-- The response of a card that refuses a request: the status, its DETAIL, and zero in every field (R82). -/
def State.repliedNo (s : State) (o : Origin) (opcode st dt : Nat) (layout : List Nat) : State :=
  s.replied o opcode st dt false (zeroFields layout)

/-- The events that a command raises, in order, and no other (R47). -/
abbrev Raised (es : List Ev) (s t : State) : Prop := t.evt.fresh = s.evt.fresh ++ es

/-- Nothing but a bay and the events raised differs. -/
abbrev OnlyBay (b : BayId) (s t : State) : Prop :=
  ∃ y es, t = { s with bays := s.bays.set b y, evt := { s.evt with fresh := s.evt.fresh ++ es } }

/-- Nothing but a bay differs. -/
abbrev BayOnly (b : BayId) (s t : State) : Prop := t = { s with bays := s.bays.set b t.bays[b] }

/-- The events that the cells of a bay raise and its commit is to release, in order, and no other (R46). -/
abbrev Staged (b : BayId) (es : List (Nat × Ev)) (s t : State) : Prop := t.bays[b].staged = s.bays[b].staged ++ es

/-- A request that changes a setting arms it and is answered later (R50, R87): nothing else changes. -/
abbrev Arms (o : Origin) (op : Nat) (lay : List Nat) (cmd : Setting) (s t : State) : Prop :=
  ∃ a, t = { s.take o.court o.mbx op lay with armed := insertArmed a s.armed } ∧ a.cmd = cmd ∧ a.origin = o ∧ s.now < a.tick

/-- A request is answered: one response more of its mailbox waits to be written (R80, R82). -/
abbrev Answered (o : Origin) (op st dt : Nat) (bulk : Bool) (s t : State) : Prop :=
  ∃ fs, (t.mbox o.court o.mbx).out = (s.mbox o.court o.mbx).out ++ [responseMsg op (s.mbox o.court o.mbx).expectSeq st dt bulk fs s.now]

end Sys2Proof.Machine
end

