-- ==== Sys2Proof/Certificates/Slice0/Obligations.lean ====
section
/-! DEFINITION. What is claimed of the model, statement by statement, in the spec's words where the spec has a rule for it. A clause about a command says
for which states and operands it answers a next state, what that state holds, and what it leaves as it was. -/

open Sys2Proof Sys2Proof.Machine

/-- A step takes the command at the front of the queue and runs it with the rest; on an empty queue the block idles (the model's choice, log 1). -/
def Obligations.StepTakesFront : Prop :=
  (∀ s c rest, s.pending = c :: rest → step s = exec c { s with pending := rest }) ∧ (∀ s : State, s.pending = [] → step s = .next s)

/-- No command ever stops the machine: each answers a next state in every state. -/
def Obligations.EveryCommandCompletes : Prop := ∀ (c : Instr) (s : State), ∃ t, exec c s = .next t

/-- No command touches the queue of waiting commands. -/
def Obligations.CommandsLeaveQueue : Prop := ∀ (c : Instr) (s t : State), exec c s = .next t → t.pending = s.pending

/-- Every step keeps the memory of the regions in its canonical form. -/
def Obligations.StepKeepsInvariant : Prop := ∀ s t : State, s.Inv → step s = .next t → t.Inv

/-- The machine right after reset has its memory in canonical form and no command waiting. -/
def Obligations.ResetKeepsInvariant : Prop := State.reset.Inv ∧ State.reset.pending = []

/-- R35, R49, R69, R77, R83, R119, R466, R483, R521, R557: what reset leaves: the tick count and every generation at 0, the fixed courts 0 to 2 active and
every other absent, each mailbox expecting sequence number 1, no event pending, the ledger without configuration and every grant 0, the safety unit
without a configuration, no output pair on, every safe connection DOWN. -/
def Obligations.ResetLeaves : Prop :=
  State.reset.clock.tick = 0 ∧ State.reset.gens.site = 0 ∧ (∀ b : BayId, State.reset.gens.bay[b] = 0) ∧
  (∀ c : CourtId, State.reset.courts[c].state = if c.val < 3 then .active else .absent) ∧
  (∀ (c : CourtId) (m : MbxId), (State.reset.mbox c m).expectSeq = 1 ∧ (State.reset.mbox c m).running = none) ∧
  State.reset.evt.pend = 0 ∧ State.reset.evt.fresh = [] ∧ State.reset.ledger.cfg = none ∧ (∀ b : BayId, State.reset.ledger.grants[b] = Grant.zero) ∧
  State.reset.safety.cfg = none ∧ State.reset.safeAccepted = false ∧ (∀ p : Fin 8, (State.reset.safety.pairs[p]).sol = false ∧ (State.reset.safety.pairs[p]).soh = false) ∧
  (∀ c : Fin 8, (State.reset.safety.conns[c]).st = 0) ∧ (∀ b : BayId, State.reset.bays[b].entry = none ∧ State.reset.bays[b].link.st = .down)

/-- R190: the line state of a valid V_HI. Where HALF_W is at most 1.5 V the bands do not meet, so a V_HI lies in at most one; A, B, C, D and E are the
bands around 12, 9, 6, 3 and 0 V, F is confirmed within HALF_W of -12 V in steady -12 V mode, and the rest is Invalid. -/
def Obligations.PilotBands : Prop := ∀ (mode : Nat) (w v : Int), 0 < w → w ≤ 1500 →
  (lineState mode w v = some 0 ↔ 12000 - w ≤ v ∧ v < 12000 + w) ∧ (lineState mode w v = some 1 ↔ 9000 - w < v ∧ v < 9000 + w) ∧
  (lineState mode w v = some 2 ↔ 6000 - w < v ∧ v < 6000 + w) ∧ (lineState mode w v = some 3 ↔ 3000 - w < v ∧ v < 3000 + w) ∧
  (lineState mode w v = some 4 ↔ -w < v ∧ v < w) ∧ (lineState mode w v = some 5 ↔ mode = 0 ∧ -12000 - w < v ∧ v < -12000 + w) ∧
  (lineState mode w v = none ↔ ¬(12000 - w ≤ v ∧ v < 12000 + w) ∧ (∀ k : Int, 0 ≤ k → k ≤ 3 → ¬(3000 * k - w < v ∧ v < 3000 * k + w)) ∧
    ¬(mode = 0 ∧ -12000 - w < v ∧ v < -12000 + w))

/-- R596: the ring of the eight last-word registers. The register at LW_NEXT takes the record's tick, code with location and first data word, and LW_NEXT
moves on modulo 8; the other seven registers stay. -/
def Obligations.LastWordRing : Prop := ∀ (k : Scorebook) (r : SbRec) (i : Fin 8), k.lwNext < 8 →
  (k.lastWord r).lw[i] = (if i.val = k.lwNext then ⟨r.tick % 2 ^ 32, r.code, r.region, r.block, r.slot, r.data0 % 2 ^ 32⟩ else k.lw[i]) ∧
  (k.lastWord r).lwNext = (k.lwNext + 1) % 8 ∧ (k.lastWord r).recs = k.recs

/-- Status and read commands change nothing but their own mailbox, whatever they answer: every bay, register, key and memory byte stays (`free` counts the
free values drawn, and `twin` holds the answer to a command that the other twin forwarded). -/
def Obligations.ReadsChangeNothing : Prop := ∀ (o : Origin) (bay n : Nat) (s : State),
  (∀ c, c ∈ [Instr.linkStatus o bay, .pilotStatus o bay, .plcStatus o bay, .modStatus o bay, .chanStatus o bay, .earthStatus o bay, .meterStatus o bay,
      .meterRead o bay, .meterHarmonics o bay n, .s0Read o, .tamperRead o, .legalStatus o, .dispStatus o bay, .ledgerStatus o, .ledgerBay o bay,
      .safetyStatus o, .encRead o, .safeConnStatus o, .twinStatus o, .ringStatus o, .fuseRead o] →
    ∃ t, exec c s = .next t ∧ t = { s with courts := t.courts, twin := { s.twin with results := t.twin.results } } ∧
      ∀ c' : CourtId, c' ≠ o.court → t.courts[c'] = s.courts[c']) ∧
  (∀ c, c ∈ [Instr.loopStatus o bay, .legalRead o bay] →
    ∃ t, exec c s = .next t ∧ t = { s with courts := t.courts, free := t.free, twin := { s.twin with results := t.twin.results } })

/-- R35, R38, R39, R43, R46, R47: the phases of a tick. Intake publishes the frame of the sample tick two back or marks the bay's tick missing; a cell's
work is marked once and an idle cell does nothing else; the interlock builds every bay's frame once; the commit raises the tick count by one; nothing
of this happens while the cells do not run. -/
def Obligations.TickPhases : Prop :=
  (∀ s b f, s.clock.cellRuns = true → s.maskedIntake = false → s.bankFailed b = false → s.bays[(b : BayId)].link.held = some f →
      (f.tick + 2) % 2 ^ 48 = s.now % 2 ^ 48 →
    ∃ t, exec .intakePublish s = .next t ∧ t.bays[b].link.frame = some f ∧ t.bays[b].link.held = none ∧
      t.bays[b].link.counts.missing = s.bays[b].link.counts.missing ∧ t.clock = s.clock) ∧
  (∀ s b, s.clock.cellRuns = true → s.bays[(b : BayId)].link.held = none →
    ∃ t, exec .intakePublish s = .next t ∧ t.bays[b].link.frame = none ∧ t.bays[b].link.counts.missing = bump 32 s.bays[b].link.counts.missing) ∧
  (∀ s c d line, s.clock.cellRuns = true → s.cellUp c = true → s.faults.marks = [] → s.idleCell c = true → d.reads = 0 →
    ∃ t, exec (.cellTickWork c d line) s = .next t ∧ t = { s with
        faults := { s.faults with marks := [⟨c, d.cycle.getD 0, d.poison, false⟩] }, regions := t.regions }) ∧
  (∀ s b d line, s.clock.cellRuns = true → s.cellUp (.bay b 7) = true → s.faults.marks = [] → s.idleCell (.bay b 7) = false → d.reads = 0 →
    ∃ t, exec (.cellTickWork (.bay b 7) d line) s = .next t ∧ (∀ b' : BayId, b' ≠ b → t.bays[b'] = s.bays[b']) ∧ t.clock = s.clock ∧ t.legal = s.legal ∧
      t.faults.marks.length = 1) ∧
  (∀ s c d line m, m ∈ s.faults.marks → m.cell = c → exec (.cellTickWork c d line) s = .next s) ∧
  (∀ s b, s.clock.cellRuns = true → s.cellUp (.bay b 0) = true → s.bays[(b : BayId)].pilotFlag 2 = true →
    ∃ t, exec (.backgroundSlice (.bay b 0) .preamble) s = .next t ∧ BayOnly b s t ∧ t.bays[b].grp.plc = { s.bays[b].grp.plc with receiving := true }) ∧
  (∀ s c, exec (.backgroundSlice c .idle) s = .next s) ∧
  (∀ s, s.clock.cellRuns = true →
    ∃ t, exec .outletBuild s = .next t ∧ t = { s with bays := t.bays, evt := t.evt } ∧ (∀ b : BayId, t.bays[b].ilk.builtFor = s.now + 1) ∧
      (∀ b : BayId, s.bays[b].ilk.builtFor = s.now + 1 → t.bays[b] = s.bays[b])) ∧
  (∀ s, s.clock.cellRuns = true → s.twin.en = false → s.twin.mirrors = [] → s.twin.todo = [] →
    ∃ t, exec .tickCommit s = .next t ∧ t.clock.tick = (s.clock.tick + 1) % 2 ^ 64) ∧
  (∀ s, s.clock.cellRuns = false → exec .tickCommit s = .next s ∧ exec .intakePublish s = .next s ∧ exec .outletBuild s = .next s ∧
    ∀ c d line w, exec (.cellTickWork c d line) s = .next s ∧ exec (.backgroundSlice c w) s = .next s)

/-- R49, R50, R72, R76, R83, R85: settings and requests. A change whose tick has come takes force, moves the generation once and is answered; others wait.
A request whose turn it is and whose message is right is run as its command; a bad trailer is counted and skipped; a wrong sequence number is answered
with the number expected. -/
def Obligations.SettingsAndRequests : Prop :=
  (∀ s, (∀ a, a ∈ s.armed → s.now < a.tick) → exec .settingsEffective s = .next s) ∧
  (∀ s a c, s.armed = [a] → a.tick ≤ s.now → a.cmd = .ledgerConfig c → a.same = false → a.site = true → a.bays = 0 →
      s.gens.siteTick ≠ s.now → (s.mbox a.origin.court a.origin.mbx).running.isSome = true →
    ∃ t, exec .settingsEffective s = .next t ∧ t.armed = [] ∧ t.ledger = { s.ledger with cfg := some c } ∧ t.gens.site = nextGen s.gens.site ∧
      (t.mbox a.origin.court a.origin.mbx).running = none ∧ t.bays = s.bays ∧ t.legal = s.legal) ∧
  (∀ s c m (b : List Byte) late reads, s.isTurn c m = true → s.host.port = .pcie → s.msgFits c m b = true → s.trailerOk b = true → hdrFault c m b = 0 →
      m.val < 2 → s.mirroring = false → msgSeq b = (s.mbox c m).expectSeq → msgOpcode b = 0x0B03 → msgLen b = 4 → leGet b 16 4 = 0 →
    exec (.mbxRequest c m b late reads) s = exec (.tamperRead ⟨c, m, 0, late, false, 0⟩) (s.fetched c m)) ∧
  (∀ s c m (b : List Byte) late reads, s.isTurn c m = true → s.host.port = .pcie → s.msgFits c m b = true → s.trailerOk b = false →
    ∃ t, exec (.mbxRequest c m b late reads) s = .next t ∧ (t.mbox c m).crcErr = true ∧ (t.mbox c m).crcCount = bump 8 (s.mbox c m).crcCount ∧
      (t.mbox c m).expectSeq = (s.mbox c m).expectSeq ∧ (t.mbox c m).out = (s.mbox c m).out ∧ ∃ d, Raised [⟨384 + c.val, 0x0202, d, s.now⟩] s t) ∧
  (∀ s c m (b : List Byte) late reads, s.isTurn c m = true → s.host.port = .pcie → s.msgFits c m b = true → s.trailerOk b = true →
      msgSeq b ≠ (s.mbox c m).expectSeq → (s.mbox c m).cache = [] →
    ∃ t, exec (.mbxRequest c m b late reads) s = .next t ∧ (t.mbox c m).expectSeq = (s.mbox c m).expectSeq ∧
      (t.mbox c m).out = (s.mbox c m).out ++ [⟨msgOpcode b, msgSeq b, false, false, false, [(8, stSEQ_GAP), (8, stSEQ_GAP), (16, 0), (32, (s.mbox c m).expectSeq)],
        s.now⟩]) ∧
  (∀ s c m b late reads, s.isTurn c m = false → exec (.mbxRequest c m b late reads) s = .next s)

/-- R55 to R59, R61, R62: site time. The first valid Sync sets the site epoch; a later one measures the offset; a delay response sets the path delay;
sixteen offsets beyond the limit step the epoch, sixteen within lock; three seconds without a Sync are a holdover; TIME_CONFIG is armed; TIME_SET
waits for its tick, at least 1,000 ticks on, and sets the epoch there. -/
def Obligations.SiteTime : Prop :=
  (∀ s (m : SyncMsg), m.valid = true → s.ptpRuns = true → s.mirroring = false → s.clock.epochSet = false →
    ∃ t, exec (.ptpSync m) s = .next t ∧ t.clock.epochSet = true ∧ t.clock.lastSync = s.now ∧ t.clock.ptpUtcOffset = some m.utcOffset ∧
      t.clock.siteEpoch = ubits 64 ((s.clock.siteEpoch : Int) - ((m.arrivalNs : Int) - m.masterNs - s.clock.pathDelayNs)) ∧ t.clock.tick = s.clock.tick ∧
      t.bays = s.bays) ∧
  (∀ s (m : SyncMsg), m.valid = true → s.ptpRuns = true → s.mirroring = false → s.clock.epochSet = true → s.clock.state = .locked →
    ∃ t, exec (.ptpSync m) s = .next t ∧ t.clock.offsetNs = satI 32 ((m.arrivalNs : Int) - m.masterNs - s.clock.pathDelayNs) ∧
      t.clock.siteEpoch = s.clock.siteEpoch ∧ t.clock.state = .locked ∧ t.clock.lastSync = s.now) ∧
  (∀ s (m : SyncMsg), m.valid = false → exec (.ptpSync m) s = .next s) ∧
  (∀ s origin arrival departure receipt, s.ptpRuns = true →
    exec (.ptpDelayResp origin arrival departure receipt) s = .next { s with clock := { s.clock with
      pathDelayNs := (((arrival : Int) - origin) + ((receipt : Int) - departure)) / 2 } }) ∧
  (∀ s, s.ptpRuns = true → s.clock.epochSet = true → 16 ≤ s.clock.beyond → s.mirroring = false →
    ∃ t, exec .siteTimeStep s = .next t ∧ t.clock = { s.clock with
        siteEpoch := ubits 64 ((s.clock.siteEpoch : Int) - s.clock.offsetNs), stepped := true, within := 0, beyond := 0 } ∧ t.bays = s.bays ∧
      ∃ d es, Raised (⟨469, 0x0121, d, s.now⟩ :: es) s t) ∧
  (∀ s, s.clock.beyond < 16 → exec .siteTimeStep s = .next s) ∧
  (∀ s, s.ptpRuns = true → s.clock.state = .locking → 16 ≤ s.clock.within →
    ∃ t, exec .timeLocked s = .next t ∧ t = { s with clock := { s.clock with state := .locked }, evt := t.evt } ∧ ∃ d, Raised [⟨468, 0x0120, d, s.now⟩] s t) ∧
  (∀ s, s.ptpRuns = true → s.clock.state = .locked → s.clock.lastSync + 3000000 ≤ s.now →
    ∃ t, exec .syncTimeout s = .next t ∧ t = { s with clock := { s.clock with state := .holdover, within := 0, beyond := 0 }, evt := t.evt } ∧
      ∃ d, Raised [⟨468, 0x0120, d, s.now⟩] s t) ∧
  (∀ s w, s.clock.timeSet = [w] → w.applyTick ≤ s.now → s.clock.epochSet = false → (s.mbox w.origin.court w.origin.mbx).running.isSome = true →
    ∃ t, exec .timeSetApply s = .next t ∧ t.clock = { s.clock with
        timeSet := [], siteEpoch := ubits 64 ((w.siteNs : Int) - 1000 * w.applyTick), epochSet := true, within := 0, beyond := 0 } ∧
      (t.mbox w.origin.court w.origin.mbx).running = none ∧ t.bays = s.bays) ∧
  (∀ s w, s.clock.timeSet = [w] → s.now < w.applyTick → exec .timeSetApply s = .next s) ∧
  (∀ o s source domain transport step, Serves o s → FromCourt o [0] → source ≤ 3 → domain ≤ 127 → transport ≤ 1 → 100 ≤ step → step ≤ 1000000 →
    ∃ t, exec (.timeConfig o source domain transport step) s = .next t ∧ Arms o 0x0120 [32, 64] (.timeConfig ⟨source, domain, transport, step⟩) s t) ∧
  (∀ o s siteNs apply, Serves o s → FromCourt o [0] → s.now + 1000 ≤ apply →
    exec (.timeSet o siteNs apply) s = .next { s.take o.court o.mbx 0x0121 [64, 64] with
      clock := { s.clock with timeSet := s.clock.timeSet ++ [⟨siteNs, apply, o⟩] } }) ∧
  (∀ o s siteNs apply, Serves o s → FromCourt o [0] → apply < s.now + 1000 →
    exec (.timeSet o siteNs apply) s = .next (s.repliedNo o 0x0121 stRANGE 2 [64, 64]))

/-- R77, R79: mailboxes of court 0 open and close, and bells move the indices. Opening resets the indices, EXPECT_SEQ and the cache; an inbound bell sets
IN_PROD and an outbound bell OUT_CONS where the index is legal, and a bell that is not sets BELL_ERR and raises it; no other mailbox changes. -/
def Obligations.MailboxBells : Prop :=
  (∀ s m, s.host.ready = true → s.host.port = .pcie → (s.mbox 0 m).en = false →
    exec (.mbxOpen m) s = .next (s.onMbx 0 m fun _ => { s.mbox 0 m with
      en := true, inProd := 0, inCons := 0, outProd := 0, outCons := 0, expectSeq := 1, outSeq := 0, cache := [], running := none, out := [], held := [] })) ∧
  (∀ s m, s.host.ready = true → s.host.port = .pcie →
    ∃ t, exec (.mbxClose m) s = .next t ∧ t = { s with courts := t.courts } ∧ (t.mbox 0 m).en = false ∧ (t.mbox 0 m).out = [] ∧
      (t.mbox 0 m).expectSeq = 1 ∧ (t.mbox 0 m).cache = [] ∧ (∀ c : CourtId, c ≠ 0 → t.courts[c] = s.courts[c]) ∧
      (∀ m', m' ≠ m → t.mbox 0 m' = s.mbox 0 m') ∧ t.courts[(0 : Fin 16)].mask = s.courts[(0 : Fin 16)].mask ∧ t.courts[(0 : Fin 16)].state = s.courts[(0 : Fin 16)].state) ∧
  (∀ s c (m : MbxId) index, s.host.ready = true → s.host.port = .pcie → s.courts[c].state = .active → s.mbxOpen c m = true → m.val ≠ 2 →
      ahead (s.mbox c m).inLog2 index (s.mbox c m).inCons ≤ 2 ^ (s.mbox c m).inLog2 →
      ahead (s.mbox c m).inLog2 (s.mbox c m).inProd (s.mbox c m).inCons ≤ ahead (s.mbox c m).inLog2 index (s.mbox c m).inCons →
    exec (.mbxBellInbound c m index) s = .next (s.onMbx c m fun x => { x with inProd := index % 2 ^ (x.inLog2 + 1) })) ∧
  (∀ s c m index, s.host.ready = true → s.host.port = .pcie → s.courts[c].state = .active → s.mbxOpen c m = true →
      ahead (s.mbox c m).outLog2 (s.mbox c m).outProd index ≤ 2 ^ (s.mbox c m).outLog2 →
      ahead (s.mbox c m).outLog2 index (s.mbox c m).outCons ≤ ahead (s.mbox c m).outLog2 (s.mbox c m).outProd (s.mbox c m).outCons →
    exec (.mbxBellOutbound c m index) s = .next (s.onMbx c m fun x => { x with outCons := index % 2 ^ (x.outLog2 + 1) })) ∧
  (∀ s c (m : MbxId) index, s.host.ready = true → s.host.port = .pcie → s.courts[c].state = .active →
      (s.mbxOpen c m = false ∨ m.val = 2 ∨ 2 ^ (s.mbox c m).inLog2 < ahead (s.mbox c m).inLog2 index (s.mbox c m).inCons) →
    ∃ t, exec (.mbxBellInbound c m index) s = .next t ∧ t = { s with courts := t.courts, evt := t.evt } ∧
      t.courts = (s.onMbx c m fun x => { x with bellErr := true }).courts ∧ ∃ d, Raised [⟨384 + c.val, 0x0203, d, s.now⟩] s t)

/-- R80, R84, R88, R106: outbound messages. The first unsent message of a mailbox goes into a free slot, OUT_PROD advances and source 384 + c is raised;
the event stream writes its records in order; over host Ethernet a good datagram is held and sets the reply address, and an echo request is answered.
R89, R90: bulk transfers. A FIRST BULK_PUT opens a transfer and is acknowledged with its byte count, a later one extends it, LAST closes it; a
BULK_PUT from a wrong offset is refused with RANGE; a verified flash write is acknowledged; a transfer that is never named is discarded after 60 s. -/
def Obligations.MessagesAndBulk : Prop :=
  (∀ s c (m : MbxId) msg rest, (s.mbox c m).out = msg :: rest → msg.opcode ≠ 0x0291 → m.val ≠ 2 → s.outSlotFree c m = true → s.host.port = .pcie →
    ∃ t, exec (.outboundWrite c m) s = .next t ∧ t = { s with courts := t.courts, evt := t.evt } ∧
      t.courts = (s.onMbx c m fun x => { x with
        out := rest, outProd := (x.outProd + 1) % 2 ^ (x.outLog2 + 1), lastOut := some msg }).courts ∧
      ∃ d, Raised [⟨384 + c.val, 0x0204, d, s.now⟩] s t) ∧
  (∀ s c, s.outSlotFree c 2 = true → s.courts[c].lost = 0 → s.courts[c].records ≠ [] → 255 ≤ (64 * (s.mbox c 2).slotUnits - 20) / 16 →
      s.courts[c].records.length ≤ 255 →
    ∃ t, exec (.eventBatchWrite c) s = .next t ∧ t = { s with courts := t.courts, free := s.free + 1 } ∧ t.courts[c].records = [] ∧ t.courts[c].lost = 0 ∧
      (∀ c', c' ≠ c → t.courts[c'] = s.courts[c']) ∧ (t.mbox c 2).outSeq = ((s.mbox c 2).outSeq + 1) % 2 ^ 32 ∧
      ∃ msg, (t.mbox c 2).lastOut = some msg ∧ msg.opcode = 0x0280 ∧ msg.fields = s.courts[c].records.flatMap Ev.fields) ∧
  (∀ s bytes sender, s.host.ready = true → s.host.port = .eth10g → bytes.length = 20 + leGet bytes 10 2 →
      leGet bytes (16 + leGet bytes 10 2) 4 = crc32c (bytes.take (16 + leGet bytes 10 2)) → leGet bytes 0 1 = 0 → (s.mbox 0 0).held.length < 8 →
    ∃ t, exec (.requestDatagram bytes sender) s = .next t ∧ t = { s with courts := t.courts } ∧
      (t.mbox 0 0) = { s.mbox 0 0 with replyTo := some sender, held := (s.mbox 0 0).held ++ [bytes] } ∧ (∀ c : CourtId, c ≠ 0 → t.courts[c] = s.courts[c])) ∧
  (∀ s, (s.host.port = .eth10g ∨ s.host.port = .sgmii) →
    exec (.arpIcmpEcho 0xA9FE6001) s = .next { s with host := { s.host with echoes := s.host.echoes + 1 } }) ∧
  (∀ o s num off data last, s.canTake o.court 3 = true → s.twin.armAt = none → reserved o = none → s.isReturner = false → s.inLoader = false →
      s.heldXfer o.court num = none → 1 ≤ data.length → data.length ≤ 4072 → 1 ≤ num → num < 0xFF00 → off = 0 → s.courts[o.court].inXfers.length < 4 →
      s.poolUsed + poolWords data.length ≤ s.poolSize →
    ∃ t, exec (.bulkPut o num off true last data) s = .next t ∧ t = { s with courts := t.courts } ∧
      t.courts[o.court].inXfers = s.courts[o.court].inXfers ++ [⟨num, data, last, s.now, false, false⟩] ∧ (t.mbox o.court 3).running = none ∧
      (t.mbox o.court 3).expectSeq = ((s.mbox o.court 3).expectSeq + 1) % 2 ^ 32 ∧ (∀ c, c ≠ o.court → t.courts[c] = s.courts[c]) ∧
      (t.mbox o.court 3).out = (s.mbox o.court 3).out ++ [responseMsg 0x0290 (s.mbox o.court 3).expectSeq stOK 0 false (bulkAck num data.length) s.now]) ∧
  (∀ s x, s.courts[(0 : Fin 16)].inXfers = [x] → x.writing = true → (s.mbox 0 3).running.isSome = true →
    ∃ t, exec (.flashPutDone true) s = .next t ∧ t.courts[(0 : Fin 16)].inXfers = [{ x with writing := false }] ∧ (t.mbox 0 3).running = none ∧
      t.mem = s.mem ∧ t.bays = s.bays ∧ t.evt = s.evt ∧ t.clock = s.clock) ∧
  (∀ s c x, s.courts[c].inXfers = [x] → x.closed = true → x.writing = false → x.forDisplay = false → x.closedAt + 60000000 ≤ s.now →
    exec (.bulkTransferExpire c x.number) s = .next (s.onCourt c fun k => { k with inXfers := [] }))

/-- R95 to R97: COURT_STATUS reports a court to itself and to court 0 and clears its CRC_COUNTs; MBX_PLACE is for court 0 and takes force at the next tick
boundary; EVT_MASK is refused for a source outside the issuing court's rights and else replaces the whole mask from the next tick boundary. -/
def Obligations.MailboxCards : Prop :=
  (∀ o s (c : CourtId), Serves o s → (o.court.val = 0 ∨ o.court = c) →
    ∃ t, exec (.courtStatus o c.val) s = .next t ∧ t = { s with courts := t.courts } ∧ t.courts[c].state = s.courts[c].state ∧
      (∀ m, (t.mbox c m).crcCount = 0) ∧ (t.mbox o.court o.mbx).out.length = (s.mbox o.court o.mbx).out.length + 1) ∧
  (∀ o s (c : CourtId), Serves o s → o.court.val ≠ 0 → o.court ≠ c →
    exec (.courtStatus o c.val) s = .next (s.repliedNo o 0x0204 stNOT_PERMITTED 1 [8, 8, 16, 96, 96, 16, 16, 8, 24, 32, 32, 32, 32, 32, 32, 32])) ∧
  (∀ o s (c : CourtId) (m : MbxId) ib ob cfg, Serves o s → FromCourt o [0] → 1 ≤ c.val → ib % 64 = 0 → ob % 64 = 0 → cfgOk m.val cfg = true →
      s.courts[c].state ≠ .absent →
    exec (.mbxPlace o c.val m.val ib ob cfg) s = .next ((s.onCourt c fun k => { k with placeNext := k.placeNext ++ [(m, ib, ob, cfg)] }).repliedOk o 0x0205 [] [])) ∧
  (∀ o s mask, Serves o s → mask &&& ~~~ rightsMask s o.court = 0 →
    exec (.evtMask o mask) s = .next ((s.onCourt o.court fun k => { k with maskNext := some mask }).repliedOk o 0x0206 [512] [mask.toNat])) ∧
  (∀ o s mask, Serves o s → mask &&& ~~~ rightsMask s o.court ≠ 0 →
    exec (.evtMask o mask) s = .next (s.repliedNo o 0x0206 stNOT_PERMITTED 1 [512]))

/-- R98: MBX_ECHO of any court on a command mailbox returns its payload unchanged, at once; a payload of more than 444 bytes is answered with BAD_LEN and
no payload. Nothing but the mailbox changes. -/
def Obligations.EchoReturnsPayload : Prop :=
  (∀ o s data, Serves o s → data.length ≤ 444 →
    exec (.mbxEcho o data) s = .next (s.replied o 0x0200 stOK 0 false (bytesAsFields data))) ∧
  (∀ o s data, Serves o s → 444 < data.length → exec (.mbxEcho o data) s = .next (s.replied o 0x0200 stBAD_LEN 0 false []))

/-- R36, R101 to R105, R108, R109: the register window. Written ones clear the error bits of HOST_ERR and an offset not listed ignores a write; a read of
REGION_STAT or HOST_ERR clears its count; TICK_LO latches TICK_HI; a failed host read is counted and raised; a reset of the PCI Express function
clears Bus Master Enable and the MSI-X state. -/
def Obligations.HostRegisters : Prop :=
  (∀ s v, s.host.port = .pcie →
    exec (.registerWrite 0x00C v) s = .next { s with host := { s.host with
      rdTimeout := s.host.rdTimeout && !bitOf v 0, rdRefused := s.host.rdRefused && !bitOf v 1, rdPoison := s.host.rdPoison && !bitOf v 2 } }) ∧
  (∀ s a v, (0x20000 ≤ a ∧ a < 0x30000 ∨ 0x5000 ≤ a ∧ a < 0x10000 ∨ 0x3000 ≤ a ∧ a < 0x4000) → exec (.registerWrite a v) s = .next s) ∧
  (∀ s (r : RegionId), s.host.port = .pcie → s.host.ready = true → s.clock.cellRuns = true →
    ∃ t, exec (.readClear (0x1100 + 4 * r.val)) s = .next t ∧ t = { s with regions := t.regions, host := t.host } ∧
      t.regions[r] = { s.regions[r] with fwCount := 0 } ∧ (∀ q : RegionId, q ≠ r → t.regions[q] = s.regions[q]) ∧
      t.host = { s.host with lastRead := packFields [(8, s.regions[r].spareUsed.toNat), (8, s.regions[r].blockFail.toNat),
        (1, b2n s.regions[r].regionFail), (1, b2n s.regions[r].fwViol), (6, 0), (8, s.regions[r].fwCount)] % 2 ^ 32 }) ∧
  (∀ s, s.host.port = .pcie → ∃ t, exec (.readClear 0x00C) s = .next t ∧ t = { s with host := t.host } ∧ t.host.dmaErrCount = 0 ∧
      t.host.rdTimeout = s.host.rdTimeout ∧ t.host.rdRefused = s.host.rdRefused ∧ t.host.rdPoison = s.host.rdPoison) ∧
  (∀ s, s.host.ready = true → s.clock.cellRuns = true →
    exec .tickLoRead s = .next { s with
      clock := { s.clock with tickHi := s.clock.tick / 2 ^ 32 % 2 ^ 32 }, host := { s.host with lastRead := s.clock.tick % 2 ^ 32 } }) ∧
  (∀ s served c, served ≠ 0 →
    ∃ t, exec (.hostReadFail 0 served c) s = .next t ∧ t = { s with host := t.host, evt := t.evt } ∧
      t.host = { s.host with rdTimeout := true, dmaErrCount := bump 8 s.host.dmaErrCount } ∧ ∃ d, Raised [⟨470, 0x0101, d, s.now⟩] s t) ∧
  (∀ s, s.host.port = .pcie → exec .pcieHotReset s = .next { s with host := { s.host with
      busMaster := false, msixMask := true, msixPending := false, msixAddr := 0, msixData := 0 } }) ∧
  (∀ s, s.host.port = .pcie → exec .perstAssert s = .next { s with host := { s.host with
      busMaster := false, msixMask := true, msixPending := false, msixAddr := 0, msixData := 0 } }) ∧
  (∀ s on, s.host.port = .pcie → exec (.busMasterEnable on) s = .next { s with host := { s.host with busMaster := on } }) ∧
  (∀ o s, Serves o s → FromCourt o [0] → exec (.regRead o 0x1000) s = .next (s.repliedOk o 0x0101 [32] [0xB1180810])) ∧
  (∀ o s v, Serves o s → FromCourt o [0] → exec (.regWrite o 0x2008 v) s = .next
      ({ s with clock := { s.clock with stepped := s.clock.stepped && !bitOf v 6 } }.repliedOk o 0x0102 [] [])) ∧
  (∀ o s a, Serves o s → FromCourt o [0] → (a % 4 ≠ 0 ∨ 0x10000 ≤ a) → exec (.regRead o a) s = .next (s.repliedNo o 0x0101 stRANGE 1 [32])) ∧
  (∀ o s a v, Serves o s → FromCourt o [0] → (a % 4 ≠ 0 ∨ 0x10000 ≤ a) → exec (.regWrite o a v) s = .next (s.repliedNo o 0x0102 stRANGE 1 []))

/-- R118 to R123: the event controller. An acknowledgement takes its count from the source alone and starts the group's hold-off timer; the source is no
longer pending once nothing is left or it had saturated; a hold-off that has run ends; a wake entry changes its copy at once and the island later. -/
def Obligations.EventControl : Prop :=
  (∀ s (i : Fin 512) n, s.host.ready = true → s.clock.cellRuns = true → n < 256 →
    ∃ t, exec (.evtAck i.val n) s = .next t ∧ t = { s with evt := t.evt, host := t.host } ∧ t.evt.count = s.evt.count.set i (s.evt.count[i] - n) ∧
      t.evt.sat.getLsbD i.val = false ∧ (s.evt.count[i] ≤ n → t.evt.pend.getLsbD i.val = false) ∧
      (∀ j : Fin 512, j ≠ i → t.evt.pend.getLsbD j.val = s.evt.pend.getLsbD j.val ∧ t.evt.sat.getLsbD j.val = s.evt.sat.getLsbD j.val) ∧
      t.evt.holdUntil = s.evt.holdUntil.set (groupOf i.val) (if s.evt.holdoff[groupOf i.val] = 0 then none else some (s.now + s.evt.holdoff[groupOf i.val])) ∧
      t.evt.en = s.evt.en ∧ t.evt.wake = s.evt.wake ∧ t.evt.fresh = s.evt.fresh) ∧
  (∀ s g n, s.evt.holdUntil[(g : Fin 32)] = some n → n ≤ s.now →
    ∃ t, exec (.holdoffExpire g) s = .next t ∧ t = { s with evt := t.evt, host := t.host } ∧ t.evt.holdUntil = s.evt.holdUntil.set g none ∧
      t.evt.pend = s.evt.pend ∧ t.evt.count = s.evt.count ∧ t.evt.fresh = s.evt.fresh) ∧
  (∀ s i v, s.host.ready = true → s.clock.cellRuns = true →
    exec (.evtWakeWrite i v) s = .next { s with evt := { s.evt with
      wake := s.evt.wake.set i ⟨bitsOf v 0 9, bitOf v 31⟩,
      wakeWrites := s.evt.wakeWrites.filter (fun p => p.1 != i.val) ++ [(i.val, ⟨bitsOf v 0 9, bitOf v 31⟩)] } }) ∧
  (∀ s (i : Fin 32) w rest, s.evt.wakeWrites = (i.val, w) :: rest → s.island.running = true →
    exec .evtWakeCommit s = .next { s with evt := { s.evt with wakeWrites := rest }, island := { s.island with wake := s.island.wake.set i w } }) ∧
  (∀ (s : State) (e : Ev) (i : Fin 512), e.source = i.val → s.evt.count[i] < 255 →
    (s.releaseEvent e).evt.count = s.evt.count.set i (s.evt.count[i] + 1) ∧ (s.releaseEvent e).evt.pend.getLsbD i.val = true)

/-- R91 to R94: the life of a court. COURT_CREATE arms a settings change of the site; COURT_RESTART and COURT_TEARDOWN take the court down from the next
tick boundary; a restart ends with a new count, the full mask and empty mailboxes, a teardown with the court ABSENT. -/
def Obligations.CourtLife : Prop :=
  (∀ o s (c : CourtId) sup reg grant cfg, Serves o s → FromCourt o [0] → 3 ≤ c.val → 4 ≤ sup → sup ≤ 64 → sup % 4 = 0 → reg ≤ 1024 → reg % 64 = 0 →
      s.tenants = [] → s.poolUsed + 1024 * sup ≤ s.poolSize → s.retired c = false → cfgOk 0 cfg = true →
      (∀ r : RegionId, s.regions[r].fw.length + (tenantFw s.regions[r].fw c reg).length ≤ 64) →
    ∃ t a, exec (.courtCreate o c.val sup reg grant 0 0 cfg 0 0 cfg 0 0 cfg 0 0 cfg) s = .next t ∧
      t = { s.take o.court o.mbx 0x0201 [16, 16, 32, 64] with armed := insertArmed a s.armed } ∧
      a.cmd = .courtCreate c sup reg (BitVec.ofNat 96 grant) [(0, 0, cfg), (0, 0, cfg), (0, 0, cfg), (0, 0, cfg)] ∧
      a.site = true ∧ a.origin = o ∧ s.now < a.tick) ∧
  (∀ o s (c : CourtId), Serves o s → FromCourt o [0] → c.val ≠ 1 → c.val ≠ 2 → s.courts[c].state = .active → s.courts[c].next = none →
    exec (.courtRestart o c.val) s = .next ((s.take o.court o.mbx 0x0202 [16, 16, 64]).onCourt c fun k => { k with
      next := some .restarting, moveBy := if o.court = c then none else some o })) ∧
  (∀ o s (c : CourtId), Serves o s → FromCourt o [0] → 3 ≤ c.val → s.courts[c].state = .active → s.courts[c].next = none → s.ownedMask c = 0 →
    exec (.courtTeardown o c.val 0) s = .next ((s.take o.court o.mbx 0x0203 [32]).onCourt c fun k => { k with
      next := some .tearingDown, moveBy := some o, destroy := false, burnBad := false })) ∧
  (∀ o s (c : CourtId), Serves o s → o.court.val ≠ 0 →
    exec (.courtTeardown o c.val 0) s = .next (s.repliedNo o 0x0203 stNOT_PERMITTED 0 [32])) ∧
  (∀ s c, s.courts[(c : CourtId)].state = .restarting → s.courts[c].moveBy = none →
    ∃ t, exec (.courtRestartDone c) s = .next t ∧ t.courts[c].state = .active ∧ t.courts[c].restarts = bump 16 s.courts[c].restarts ∧
      t.courts[c].records = [] ∧ t.courts[c].inXfers = [] ∧ t.courts[c].maskNext = none ∧ (∀ m, (t.mbox c m).expectSeq = 1 ∧ (t.mbox c m).cache = []) ∧
      (∃ d, Raised [⟨384 + c.val, 0x0201, d, s.now⟩] s t) ∧ (∀ c' : CourtId, c' ≠ c → t.courts[c'] = s.courts[c']) ∧
      t.keys = s.keys ∧ t.legal = s.legal ∧ t.safety = s.safety ∧ t.clock = s.clock) ∧
  (∀ s c, s.courts[(c : CourtId)].state = .tearingDown → s.teardownBurns c = false → s.courts[c].moveBy = none →
    ∃ t, exec (.courtTeardownDone c) s = .next t ∧ t = { s with
        courts := t.courts, regions := t.regions, mem := t.mem, certs := t.certs, keys := t.keys, evt := t.evt } ∧
      t.courts = s.courts.set c Court.absent ∧ t.keys = { s.keys with
        nodes := s.keys.nodes.filter fun n => n.court != c, purposes := s.keys.purposes.filter fun p => p.court != c } ∧
      t.certs = s.certs.filter (fun x => x.court != c) ∧ ∃ d, Raised [⟨384 + c.val, 0x0201, d, s.now⟩] s t)

/-- R110 to R116: the bay table. Its base is set at once; BAY_RELOAD arms a settings change of the bays whose entry changes, refuses the first bad entry
with its bay, and is for court 0 or a tenant with the bays; BAY_STATUS reports the entry in force to court 0 and to the bay's owner. -/
def Obligations.BayTableCards : Prop :=
  (∀ o s base, Serves o s → FromCourt o [0] → base % 4096 = 0 →
    exec (.bayTableBase o base) s = .next ({ s with host := { s.host with bayBase := base, bayBaseSet := true } }.repliedOk o 0x0301 [64] [s.host.bayBase])) ∧
  (∀ o s base, Serves o s → FromCourt o [0] → base % 4096 ≠ 0 → exec (.bayTableBase o base) s = .next (s.repliedNo o 0x0301 stRANGE 1 [64])) ∧
  (∀ o s bays (b : BayId) e, Serves o s → FromCourt o [0] → baysIn bays = [b] → s.host.bayBaseSet = true →
      (s.take o.court o.mbx 0x0302 (reloadLayout 1)).entriesFail o [(b, e)] = none → s.entryMoves b e = true →
    ∃ t a, exec (.bayReload o bays [e]) s = .next t ∧ t = { s.take o.court o.mbx 0x0302 (reloadLayout 1) with armed := insertArmed a s.armed } ∧
      a.cmd = .bayReload [(b.val, e)] ∧ a.bays = bayBit b ∧ a.site = false ∧ a.origin = o ∧ s.now < a.tick) ∧
  (∀ o s bays (b : BayId) e st dt, Serves o s → FromCourt o [0] → baysIn bays = [b] → s.host.bayBaseSet = true →
      (s.take o.court o.mbx 0x0302 (reloadLayout 1)).entriesFail o [(b, e)] = some (b, st, dt) →
    exec (.bayReload o bays [e]) s = .next (s.replied o 0x0302 st dt false (withValues (reloadLayout 1) [b.val, 0, 0, 0]))) ∧
  (∀ o s (b : BayId), Serves o s → (o.court.val = 0 ∨ 3 ≤ o.court.val ∧ s.owner b = o.court.val) →
    exec (.bayStatus o b.val) s = .next (s.repliedOk o 0x0303 [8, 8, 8, 8, 32, 32, 32, 64]
      [s.bays[b].kind, s.owner b, s.bays[b].ent 3 1, 0, s.bays[b].ent 4 4, s.bays[b].ent 508 4, s.gens.bay[b], s.gens.bayTick[b]])) ∧
  (∀ o s (b : BayId), Serves o s → 3 ≤ o.court.val → s.owner b ≠ o.court.val →
    exec (.bayStatus o b.val) s = .next (s.repliedNo o 0x0303 stNOT_PERMITTED 1 [8, 8, 8, 8, 32, 32, 32, 64]))

/-- R19 to R28, R127 to R136: the fabric, queues and memory health. An admitted write stores its words and nothing else; a refused access changes no
store, is counted and raised; a read answers what the store holds; a queue commits a good packet, rewinds a bad one and drops one that does not fit;
the scrubber counts; MEM_HEALTH reports a region. -/
def Obligations.FabricAndMemory : Prop :=
  (∀ s (x : Transfer), s.clock.cellRuns = true → x.cls < 3 → x.op = 0 → x.words.length ≤ 256 → x.linkFails < 3 → s.regions[x.src].regionFail = false →
      s.regions[x.dst].admits x = true →
    ∃ t, exec (.fabricTransfer x) s = .next t ∧ t = { s with mem := t.mem } ∧ t.mem = { s.mem with flows := t.mem.flows, cells := t.mem.cells } ∧
      t.mem.cells = memPutWords s.mem.cells x.dst x.addr x.words ∧
      (∀ a, (a < wordAddr x.dst x.addr ∨ wordAddr x.dst (x.addr + x.words.length) ≤ a) → t.byte a = s.byte a)) ∧
  (∀ s (x : Transfer), s.clock.cellRuns = true → x.cls < 3 → x.op = 1 → x.words.length ≤ 256 → x.linkFails < 3 → s.regions[x.src].regionFail = false →
      s.regions[x.dst].admits x = true →
    ∃ t, exec (.fabricTransfer x) s = .next t ∧ t = { s with mem := t.mem } ∧ t.mem.cells = s.mem.cells ∧
      t.mem.response = some (2, (List.range (x.len % 256 + 1)).map fun i => memWord s.mem.cells x.dst (x.addr + i))) ∧
  (∀ s (x : Transfer), s.clock.cellRuns = true → x.cls < 3 → x.op < 2 → x.words.length ≤ 256 → x.linkFails < 3 → s.regions[x.src].regionFail = false →
      s.regions[x.dst].admits x = false →
    ∃ t, exec (.fabricTransfer x) s = .next t ∧ t = { s with mem := t.mem, regions := t.regions, evt := t.evt } ∧ t.mem.cells = s.mem.cells ∧
      t.regions[x.dst] = { s.regions[x.dst] with fwViol := true, fwCount := bump 8 s.regions[x.dst].fwCount } ∧
      (∀ q : RegionId, q ≠ x.dst → t.regions[q] = s.regions[q]) ∧ ∃ d, Raised [⟨400 + x.court.val, 0x0110, d, s.now⟩] s t) ∧
  (∀ s r (p : Packet), s.regions[(r : RegionId)].queue.fill + p.words.length ≤ 2 ^ s.regions[r].queue.k →
      p.checkOk = true → p.lenOk = true → p.poisoned = false → p.aborted = false →
    ∃ t, exec (.queuePacket (some r) p) s = .next t ∧ t = { s with regions := t.regions } ∧ (∀ q : RegionId, q ≠ r → t.regions[q] = s.regions[q]) ∧
      t.regions[r].queue.w = (s.regions[r].queue.w + p.words.length) % 2 ^ (s.regions[r].queue.k + 1) ∧ t.regions[r].queue.r = s.regions[r].queue.r ∧
      t.regions[r].qcount = s.regions[r].qcount) ∧
  (∀ s r (p : Packet), s.regions[(r : RegionId)].queue.fill + p.words.length ≤ 2 ^ s.regions[r].queue.k → (p.checkOk = false ∨ p.lenOk = false) →
    ∃ t, exec (.queuePacket (some r) p) s = .next t ∧ t = { s with regions := t.regions } ∧ t.regions[r] = { s.regions[r] with
      qcount := { s.regions[r].qcount with rewinds := bump 32 s.regions[r].qcount.rewinds } }) ∧
  (∀ s id word, exec (.scrub id word .clean) s = .next s) ∧
  (∀ s id word, id < 2 ^ 16 → id / 2 ^ 12 = 1 → word < 2 ^ 32 → (bump 32 (s.health id).corrected) % 1024 ≠ 0 →
    exec (.scrub id word .single) s = .next { s with mem := { s.mem with
      health := aset s.mem.health id { s.health id with corrected := bump 32 (s.health id).corrected, lastWord := word } } }) ∧
  (∀ s id word, id < 2 ^ 16 → id / 2 ^ 12 = 3 →
    exec (.scrub id word .double) s = .next { s with mem := { s.mem with
      health := aset s.mem.health id { s.health id with uncorrected := bump 16 (s.health id).uncorrected } } }) ∧
  (∀ o s (r : RegionId), Serves o s → FromCourt o [0, 2] →
    exec (.memHealth o r.val 0) s = .next (s.repliedOk o 0x0130
      ([8, 24] ++ (storeIds r.val).flatMap (fun _ => [16, 16, 32, 32]) ++ [32, 32, 32])
      ([(storeIds r.val).length, 0] ++ (storeIds r.val).flatMap (fun i =>
        [i, (s.health i).uncorrected, (s.health i).corrected, (s.health i).lastWord]) ++
        [s.regions[r].qcount.rewinds, s.regions[r].qcount.overflows, s.regions[r].qcount.underruns])))

/-- R151, R153, R171, R172, R174: the life of a lane up to IDENTIFY. A signal takes a DOWN lane whose hold has passed to LOCK, three alignment blocks in
order to MEASURE, sixteen exchanges to IDENTIFY; 10 ms in LOCK or MEASURE, a lost signal or a lost block lock take it DOWN for 100 ms. -/
def Obligations.LinkLane : Prop :=
  (∀ s b, s.bays[(b : BayId)].link.st = .down → s.bays[b].link.holdUntil ≤ s.now → s.lanesHeld = false →
    ∃ t, exec (.signalDetect b) s = .next t ∧ t = { s with bays := s.bays.set b t.bays[b] } ∧
      t.bays[b] = { s.bays[b] with link := { s.bays[b].link with signal := true, st := .lock, enteredAt := s.now } }) ∧
  (∀ s b, s.bays[(b : BayId)].link.st = .down → s.bays[b].link.signal = true → s.bays[b].link.holdUntil ≤ s.now → s.lanesHeld = false →
    ∃ t, exec (.downHoldExpire b) s = .next t ∧ t = { s with bays := s.bays.set b t.bays[b] } ∧
      t.bays[b] = { s.bays[b] with link := { s.bays[b].link with st := .lock, enteredAt := s.now } }) ∧
  (∀ s b, s.bays[(b : BayId)].link.blockLock = false → s.bays[b].link.st = .down →
    ∃ t, exec (.lossOfSignal b) s = .next t ∧ t = { s with bays := s.bays.set b t.bays[b] } ∧
      t.bays[b] = { s.bays[b] with link := { s.bays[b].link with signal := false } }) ∧
  (∀ s b, s.bays[(b : BayId)].link.st ≠ .down →
    ∃ t, exec (.blockLockGained b) s = .next t ∧ t = { s with bays := s.bays.set b t.bays[b] } ∧
      t.bays[b] = { s.bays[b] with link := { s.bays[b].link with blockLock := true } }) ∧
  (∀ s b, s.bays[(b : BayId)].link.st ≠ .down → s.bays[b].link.blockLock = true → s.bays[b].link.fw = none →
    ∃ t, exec (.blockLockLost b) s = .next t ∧ t = { s with bays := s.bays.set b t.bays[b], evt := t.evt, legal := t.legal } ∧
      t.bays[b].link = s.bays[b].link.toDown s.now ∧
      ⟨96 + b.val, 0x0601, s.bays[b].link.st.code + 2 ^ 8, s.now⟩ ∈ t.evt.fresh) ∧
  (∀ s b pos tick, s.bays[(b : BayId)].link.st = .lock → s.bays[b].link.blockLock = true → (pos = 0 ∨ pos = 8 ∨ pos = 15) → tick % 22 = pos →
      s.bays[b].link.alignNext = some pos → s.bays[b].link.alignCount = 2 →
    ∃ t, exec (.alignmentBlockRx b pos tick) s = .next t ∧ t = { s with bays := s.bays.set b t.bays[b] } ∧
      t.bays[b] = { s.bays[b] with link := { s.bays[b].link with
        st := .measure, enteredAt := s.now, alignNext := none, alignCount := 0, exchanges := [] } }) ∧
  (∀ s b, s.bays[(b : BayId)].link.st = .lock → s.bays[b].link.enteredAt + 10000 ≤ s.now → s.bays[b].link.fw = none →
    ∃ t, exec (.lockTimeout b) s = .next t ∧ t = { s with bays := s.bays.set b t.bays[b], evt := t.evt, legal := t.legal } ∧
      t.bays[b].link = s.bays[b].link.toDown s.now) ∧
  (∀ s b, s.bays[(b : BayId)].link.st = .measure → s.bays[b].link.enteredAt + 10000 ≤ s.now → s.bays[b].link.fw = none →
    ∃ t, exec (.measureTimeout b) s = .next t ∧ t = { s with bays := s.bays.set b t.bays[b], evt := t.evt, legal := t.legal } ∧
      t.bays[b].link = s.bays[b].link.toDown s.now ∧ ⟨96 + b.val, 0x0603, 0xFFFFFFFF, s.now⟩ ∈ t.evt.fresh) ∧
  (∀ s b seq rt turn, s.bays[(b : BayId)].link.st = .measure → seq = s.bays[b].link.exchanges.length → seq < 15 →
    ∃ t, exec (.trainingAnswer b seq rt turn true) s = .next t ∧ t = { s with bays := s.bays.set b t.bays[b] } ∧
      t.bays[b] = { s.bays[b] with link := { s.bays[b].link with exchanges := s.bays[b].link.exchanges ++ [(rt, turn)] } }) ∧
  (∀ s b rt turn, s.bays[(b : BayId)].link.st = .measure → s.bays[b].link.exchanges.length = 15 →
    ∃ t, exec (.trainingAnswer b 15 rt turn true) s = .next t ∧ t = { s with bays := s.bays.set b t.bays[b] } ∧
      t.bays[b].link.st = .identify ∧ t.bays[b].link.enteredAt = s.now ∧
      t.bays[b].link.exchanges = s.bays[b].link.exchanges ++ [(rt, turn)])

/-- R170, R174, R175, R178, R181, R182: management, the intake and firmware delivery. An unanswered request is repeated after 8 ticks, sixteen times, then
the lane goes DOWN; sixteen missing ticks lose it; a good frame is held for its tick and one that fails its CRC only counted; the answer to a delivery
comes when the last bay head has returned or failed. -/
def Obligations.LinkTraffic : Prop :=
  (∀ s b q r, s.bays[(b : BayId)].link.req = some q → q.req.op = 2 → q.req.addr = 0x11 → r.tag = q.req.tag → r.addr = q.req.addr → r.status = 0 →
      s.bays[b].link.st = .service → s.bays[b].link.queue = [] → s.bays[b].link.fw = none →
    ∃ t, exec (.configResponse b r) s = .next t ∧ t = { s with bays := s.bays.set b t.bays[b] } ∧
      t.bays[b] = { s.bays[b] with link := { s.bays[b].link with req := none } }) ∧
  (∀ s b q r, s.bays[(b : BayId)].link.req = some q → (r.tag ≠ q.req.tag ∨ r.addr ≠ q.req.addr) → exec (.configResponse b r) s = .next s) ∧
  (∀ s b q, s.bays[(b : BayId)].link.req = some q → q.sentAt + 8 ≤ s.now → q.repeats < 16 →
    ∃ t, exec (.configRetryTimeout b) s = .next t ∧ t = { s with bays := s.bays.set b t.bays[b] } ∧
      t.bays[b] = { s.bays[b] with link := { s.bays[b].link with req := some { q with sentAt := s.now, repeats := q.repeats + 1 } } }) ∧
  (∀ s b q, s.bays[(b : BayId)].link.req = some q → q.sentAt + 8 ≤ s.now → 16 ≤ q.repeats → s.bays[b].link.fw = none →
    ∃ t, exec (.configRetryTimeout b) s = .next t ∧ t = { s with bays := s.bays.set b t.bays[b], evt := t.evt, legal := t.legal } ∧
      t.bays[b].link = s.bays[b].link.toDown s.now) ∧
  (∀ s b, s.bays[(b : BayId)].link.st = .service → 16 ≤ s.bays[b].link.missRun → s.bays[b].link.fw = none →
    ∃ t, exec (.linkLost b) s = .next t ∧ t = { s with bays := s.bays.set b t.bays[b], evt := t.evt, legal := t.legal } ∧
      t.bays[b].link = s.bays[b].link.toDown s.now ∧ ⟨96 + b.val, 0x0601, 6, s.now⟩ ∈ t.evt.fresh) ∧
  (∀ s b f, s.bays[(b : BayId)].link.st = .service → f.dropped = false → f.crcOk = true → f.ftype = 1 → f.tick ∉ s.bays[b].link.accepted →
      (f.tick + 1) % 2 ^ 48 = s.now % 2 ^ 48 → (f.tick + 2) % 2 ^ 48 ≠ s.now % 2 ^ 48 → s.bays[b].link.lastAlive ≠ some f.alive →
    ∃ t, exec (.uplinkFrame b f) s = .next t ∧ t = { s with bays := s.bays.set b t.bays[b] } ∧
      t.bays[b] = { s.bays[b] with link := { s.bays[b].link with
        held := some f, lastAlive := some f.alive, accepted := f.tick :: s.bays[b].link.accepted } }) ∧
  (∀ s b f, s.bays[(b : BayId)].link.st = .service → f.dropped = false → f.crcOk = false →
    ∃ t, exec (.uplinkFrame b f) s = .next t ∧ t = { s with bays := s.bays.set b t.bays[b] } ∧
      t.bays[b] = { s.bays[b] with link := { s.bays[b].link with
        counts := { s.bays[b].link.counts with crcFail := bump 32 s.bays[b].link.counts.crcFail } } }) ∧
  (∀ s b last, s.bays[(b : BayId)].link.rejAt = some last → last + 1000 ≤ s.now → 0 < s.bays[b].link.rejLeg →
    ∃ t, exec (.headReject b) s = .next t ∧ t = { s with bays := s.bays.set b t.bays[b], evt := t.evt } ∧
      t.bays[b] = { s.bays[b] with link := { s.bays[b].link with rejLeg := 0, rejDt := 0, rejAt := some s.now } } ∧
      Raised [⟨96 + b.val, 0x0606, s.bays[b].link.rejLeg + 2 ^ 8 * s.bays[b].link.rejDt, s.now - 2⟩] s t) ∧
  (∀ s b l f at_, s.fwLoad = some l → s.bays[(b : BayId)].link.fw = some f → f.restartAt = some at_ → s.bays[b].link.st = .ready →
      s.bays[b].link.fwHash = l.hash % 2 ^ 32 → l.bays = bayBit b → l.failed = none →
    ∃ t, exec (.headFwLoaded b) s = .next t ∧ t.fwLoad = none ∧ t.bays[b].link.fw = none ∧ (t.mbox l.origin.court l.origin.mbx).running = none ∧
      (∀ d : BayId, d ≠ b → t.bays[d] = s.bays[d]) ∧ Raised [⟨96 + b.val, 0x0607, s.bays[b].link.fwHash, s.now⟩] s t) ∧
  (∀ s b l f at_, s.fwLoad = some l → s.bays[(b : BayId)].link.fw = some f → f.restartAt = some at_ → at_ + 2000000 ≤ s.now →
      l.bays = bayBit b → l.failed = none →
    ∃ t, exec (.headFwTimeout b) s = .next t ∧ t.fwLoad = none ∧ t.bays[b].link.fw = none ∧ (t.mbox l.origin.court l.origin.mbx).running = none ∧
      (∀ d : BayId, d ≠ b → t.bays[d] = s.bays[d]) ∧ t.evt = s.evt)

/-- R179 to R181: LINK_STATUS reports a lane to courts 0 and 2 and to the owner of its bay; LINK_RETRAIN takes named lanes DOWN from the next tick
boundary where no session runs; HEAD_FW_LOAD starts a delivery to named lanes and answers later, and a wrong hash is REJECTED_CRYPTO. -/
def Obligations.LinkCards : Prop :=
  (∀ o s (b : BayId), Serves o s → (FromCourt o [0, 2] ∨ 3 ≤ o.court.val ∧ s.owner b = o.court.val) →
    exec (.linkStatus o b.val) s = .next (s.repliedOk o 0x0310 ([8, 24, 32, 32, 64, 32, 32, 64] ++ List.replicate 8 32)
      [s.bays[b].link.st.code, 0, s.bays[b].link.dUp, s.bays[b].link.dDown, s.bays[b].link.headId, s.bays[b].link.fwVer, s.bays[b].link.fwHash,
       s.bays[b].link.lastStatus, s.bays[b].link.counts.missing, s.bays[b].link.counts.crcFail, s.bays[b].link.counts.late,
       s.bays[b].link.counts.duplicate, s.bays[b].link.counts.tickErr, s.bays[b].link.counts.aliveStall, s.bays[b].link.counts.overflows,
       s.bays[b].link.counts.retrains])) ∧
  (∀ o s bays (b : BayId), Serves o s → FromCourt o [0] → bays ≠ 0 → baysIn bays = [b] → s.bays[b].session.st.isIdle = true →
    exec (.linkRetrain o bays) s = .next ((s.onLink b fun k => { k with retrain := true }).repliedOk o 0x0311 [] [])) ∧
  (∀ o s, Serves o s → FromCourt o [0] → exec (.linkRetrain o 0) s = .next (s.repliedNo o 0x0311 stRANGE 1 [])) ∧
  (∀ o s bays (b : BayId) num d, Serves o s → FromCourt o [0] → bays ≠ 0 → baysIn bays = [b] →
      s.courts[o.court].inXfers.find? (fun x => x.number == num && x.closed) = some d →
      1 ≤ d.data.length → d.data.length ≤ 4194304 → s.fwLoad = none → s.bays[b].link.st = .ready → s.bays[b].session.st.isIdle = true →
    ∃ t, exec (.headFwLoad o bays num d.data.length (Config.sha384 d.data)) s = .next t ∧
      t = (({ s with fwLoad := some ⟨o, num, d.data, Config.sha384 d.data, bays, none⟩ }).take o.court o.mbx 0x0312 [8, 24]).onLink b fun k =>
        { k with fw := some ⟨0, none⟩ })

/-- R167, R168, R184 to R186, R247, R526, R617: a bay head stops and is released. It starts stopped with legs and channels off; five held ticks, a stop
order on a port in service or a refused leg command stop it; a thousand held ticks take the pilot to steady and the fields off; a ready frame releases
it. No command to a bay head touches anything else. R165, R167, R169, R175, R525, R526: what a bay head does with frames. Without a frame that
qualifies it runs on in a held tick and counts it; a read of a word answers its value, a write of an unknown word and a write from the port not obeyed
are refused; a safe frame is consumed. -/
def Obligations.BayHeads : Prop :=
  (∀ s b w, exec (.headPowerUp b w) s = .next { s with heads := s.heads.set b (Head.reset (w % 2 ^ 64)) }) ∧
  (∀ s b, 5 ≤ s.heads[(b : BayId)].heldRun →
    ∃ t, exec (.headHeldLimit b) s = .next t ∧ t = { s with heads := s.heads.set b t.heads[b] } ∧ t.heads[b].stopped = true ∧
      t.heads[b].localTrip = true ∧ t.heads[b].legs = s.heads[b].legs.map (fun l => l.off (headInstant s.heads[b].tick)) ∧
      (∀ k : Fin 12, (t.heads[b].chans[k]).on = false) ∧ t.heads[b].pilotMode = s.heads[b].pilotMode) ∧
  (∀ s b, 1000 ≤ s.heads[(b : BayId)].heldRun →
    exec (.headPilotHoldLimit b) s = .next { s with heads := s.heads.set b { s.heads[b] with pilotMode := 0, pilotNext := none } }) ∧
  (∀ s b, 1000 ≤ s.heads[(b : BayId)].heldRun →
    exec (.headIdentHoldLimit b) s = .next { s with heads := s.heads.set b { s.heads[b] with hfField := false, uhfField := false } }) ∧
  (∀ s b p, (s.heads[(b : BayId)].ports[(p : Fin 2)]).inService = true →
    ∃ t, exec (.headWhistleStop b p 1) s = .next t ∧ t = { s with heads := s.heads.set b t.heads[b] } ∧ t.heads[b].stopped = true ∧
      t.heads[b].legs = s.heads[b].legs.map (fun l => l.off (headInstant s.heads[b].tick))) ∧
  (∀ s b p, (s.heads[(b : BayId)].ports[(p : Fin 2)]).inService = false → ∀ scope,
    ∃ t, exec (.headWhistleStop b p scope) s = .next t ∧ t = s) ∧
  (∀ s b f, s.heads[(b : BayId)].ready = some f →
    ∃ t, exec (.headRelease b) s = .next t ∧ t = { s with heads := s.heads.set b t.heads[b] } ∧ t.heads[b].lastAlive = none ∧
      t.heads[b].freshRun = 0 ∧ t.heads[b].ready = none ∧ ((t.heads[b].legRej = s.heads[b].legRej) → t.heads[b].stopped = false)) ∧
  (∀ s b p lost, (lost = true ∨ 16 ≤ (s.heads[(b : BayId)].ports[(p : Fin 2)]).noFrame) →
    ∃ t, exec (.headPortOutOfService b p lost) s = .next t ∧ t = { s with heads := s.heads.set b t.heads[b] } ∧
      t.heads[b] = { s.heads[b] with ports := s.heads[b].ports.set p { (s.heads[b].ports[p]) with inService := false } }) ∧
  (∀ s b n, ∃ t, exec (.headFrameApply b n none none 0) s = .next t ∧ t = { s with heads := s.heads.set b t.heads[b] } ∧ t.heads[b].tick = n ∧
      t.heads[b].selected = 0 ∧ t.heads[b].dlBad = (s.heads[b].dlBad + 1) % 256 ∧ t.heads[b].heldRun = s.heads[b].heldRun + 1 ∧
      t.heads[b].freshRun = 0 ∧ t.heads[b].env = 0 ∧ t.heads[b].ready = none) ∧
  (∀ s b p tag data, ∃ t, exec (.headConfigRequest b p ⟨1, tag, 0x10, data⟩) s = .next t ∧ t = { s with heads := s.heads.set b t.heads[b] } ∧
      (t.heads[b].ports[(p : Fin 2)]).answer = some ⟨tag, 0, 0x10, s.heads[b].dtSet, s.heads[b].fwData.length⟩ ∧ t.heads[b].dtSet = s.heads[b].dtSet) ∧
  (∀ s b p tag data, (s.heads[(b : BayId)].selected = 0 ∨ s.heads[b].selected = p.val + 1) →
    ∃ t, exec (.headConfigRequest b p ⟨2, tag, 0x10, data⟩) s = .next t ∧ t = { s with heads := s.heads.set b t.heads[b] } ∧
      t.heads[b].dtSet = data % 2 ^ 32 ∧ (t.heads[b].ports[(p : Fin 2)]).answer = some ⟨tag, 0, 0x10, data, s.heads[b].fwData.length⟩) ∧
  (∀ s b p tag data, s.heads[(b : BayId)].selected ≠ 0 → s.heads[b].selected ≠ p.val + 1 →
    ∃ t, exec (.headConfigRequest b p ⟨2, tag, 0x10, data⟩) s = .next t ∧ t = { s with heads := s.heads.set b t.heads[b] } ∧
      t.heads[b].dtSet = s.heads[b].dtSet ∧ (t.heads[b].ports[(p : Fin 2)]).answer = some ⟨tag, 3, 0x10, 0, s.heads[b].fwData.length⟩) ∧
  (∀ s b p tag data, ∃ t, exec (.headConfigRequest b p ⟨2, tag, 0x20, data⟩) s = .next t ∧ t = { s with heads := s.heads.set b t.heads[b] } ∧
      (t.heads[b].ports[(p : Fin 2)]).answer = some ⟨tag, 1, 0x20, 0, s.heads[b].fwData.length⟩) ∧
  (∀ s b p demand ok f, (s.heads[(b : BayId)].ports[(p : Fin 2)]).dlDone = some f →
    ∃ t, exec (.headSafeFrame b p demand ok) s = .next t ∧ t = { s with heads := s.heads.set b t.heads[b] } ∧
      (t.heads[b].ports[p]).dlDone = none ∧ t.heads[b].dtSet = s.heads[b].dtSet ∧ t.heads[b].cmd = s.heads[b].cmd)

/-- R188 to R195: pilot and proximity. A discarded evaluation only counts; a line state confirmed for the last time it needs becomes the pilot state and
raises PILOT_STATE, and one more occurrence of a candidate state goes on with its run; a proximity class is confirmed the same way. R196, R197, R203
to R205: Green PHY frames and the sounding. A frame from the matched vehicle is counted and handed over; a RunID first heard waits for a slot and gets
the lowest free one 32 ticks later; START_ATTEN_CHAR opens its window and a sound in it adds its groups. -/
def Obligations.PilotAndSounding : Prop :=
  (∀ s b m, s.bays[(b : BayId)].pilotFlag 0 = true → s.bays[b].pilot.st ≠ 7 → s.bays[b].serving = true →
      s.bays[b].discards m (s.bays[b].pilot.actingAt (m.tick / 1000 * 1000)).1 = true → s.bays[b].pilot.bad = 0 →
    ∃ t, exec (.pilotEvaluation b m) s = .next t ∧ BayOnly b s t ∧ t.bays[b] = { s.bays[b] with grp := { s.bays[b].grp with
      pilot := { s.bays[b].pilot with
        lastEval := m.tick, discarded := bump 32 s.bays[b].pilot.discarded, bad := 1, badFirst := m.tick } } }) ∧
  (∀ s b m l run first, s.bays[(b : BayId)].pilotFlag 0 = true → s.bays[b].pilot.st ≠ 7 → s.bays[b].serving = true →
      s.bays[b].discards m (s.bays[b].pilot.actingAt (m.tick / 1000 * 1000)).1 = false →
      lineState (s.bays[b].pilot.actingAt (m.tick / 1000 * 1000)).1 s.bays[b].halfW m.vHi = some l → l ≠ s.bays[b].pilot.st →
      s.bays[b].pilot.cand = some ⟨l, run, first⟩ → s.bays[b].ent 65 1 ≤ run + 1 →
    ∃ t, exec (.pilotEvaluation b m) s = .next t ∧ BayOnly b s t ∧ t.bays[b].pilot.st = l ∧ t.bays[b].pilot.vHi = m.vHi ∧
      t.bays[b].pilot.lastEval = m.tick ∧ t.bays[b].pilot.bad = 0 ∧ t.bays[b].session = s.bays[b].session ∧
      (2, ⟨b.val, 0x0401, l + 2 ^ 8 * s.bays[b].pilot.st + 2 ^ 16 * satN 16 (m.tick - first), m.tick⟩) ∈ t.bays[b].staged) ∧
  (∀ s b m l run first, s.bays[(b : BayId)].pilotFlag 0 = true → s.bays[b].pilot.st ≠ 7 → s.bays[b].serving = true →
      s.bays[b].discards m (s.bays[b].pilot.actingAt (m.tick / 1000 * 1000)).1 = false →
      lineState (s.bays[b].pilot.actingAt (m.tick / 1000 * 1000)).1 s.bays[b].halfW m.vHi = some l → l ≠ s.bays[b].pilot.st →
      s.bays[b].pilot.cand = some ⟨l, run, first⟩ → run + 1 < s.bays[b].ent 65 1 →
    ∃ t, exec (.pilotEvaluation b m) s = .next t ∧ BayOnly b s t ∧ t.bays[b].pilot.st = s.bays[b].pilot.st ∧
      t.bays[b].pilot.cand = some ⟨l, run + 1, first⟩) ∧
  (∀ s b tick mean run first, s.bays[(b : BayId)].pilotFlag 1 = true → s.bays[b].pilot.pp ≠ 0 → s.bays[b].serving = true →
      ppClass (s.bays[b].ent 70 2) (s.bays[b].ent 72 2) mean ≠ s.bays[b].pilot.pp →
      s.bays[b].pilot.ppCand = some ⟨ppClass (s.bays[b].ent 70 2) (s.bays[b].ent 72 2) mean, run, first⟩ → s.bays[b].ent 65 1 ≤ run + 1 →
    ∃ t, exec (.ppEvaluation b tick mean) s = .next t ∧ BayOnly b s t ∧
      t.bays[b].pilot = { s.bays[b].pilot with
        pp := ppClass (s.bays[b].ent 70 2) (s.bays[b].ent 72 2) mean, ppCand := none, ppOhm := ppOhms (s.bays[b].ent 70 2) (s.bays[b].ent 72 2) mean } ∧
      Staged b [(2, ⟨b.val, 0x0402, ppClass (s.bays[b].ent 70 2) (s.bays[b].ent 72 2) mean + 2 ^ 8 * s.bays[b].pilot.pp, tick⟩)] s t) ∧
  (∀ s b m, s.bays[(b : BayId)].pilotFlag 0 = false → exec (.pilotEvaluation b m) s = .next s) ∧
  (∀ s b f, s.bays[(b : BayId)].pilotFlag 2 = true → s.assistFailed (plcBlock b) 0 = false → s.assistFailed (plcBlock b) 1 = false → f.fcOk = true →
      f.robo = true → f.payloadOk = true → s.bays[b].plc.matched = true → f.src = s.bays[b].plc.mac → f.ack = true →
    ∃ t, exec (.plcFrameRx b f) s = .next t ∧ BayOnly b s t ∧ t.bays[b].plc.handed = f.data ∧ t.bays[b].plc.sent = some .sack ∧
      t.bays[b].plc.counts[(0 : Fin 10)] = satN 32 (s.bays[b].plc.counts[(0 : Fin 10)] + 1) ∧ t.bays[b].plc.matched = true ∧
      t.bays[b].session = s.bays[b].session) ∧
  (∀ s b f, s.bays[(b : BayId)].pilotFlag 2 = true → s.assistFailed (plcBlock b) 0 = false → s.assistFailed (plcBlock b) 1 = false → f.fcOk = false →
    ∃ t, exec (.plcFrameRx b f) s = .next t ∧ BayOnly b s t ∧ t.bays[b].plc = { s.bays[b].plc with
      receiving := false, counts := s.bays[b].plc.counts.set 1 (satN 32 (s.bays[b].plc.counts[(1 : Fin 10)] + 1)) }) ∧
  (∀ s b tick runId mac, s.bays[(b : BayId)].pilotFlag 2 = true → s.slac.slotOf runId = none → (s.slac.heard.any fun h => h.runId == runId) = false →
    exec (.slacParmReq b tick runId mac) s = .next { s with slac := { s.slac with heard := s.slac.heard ++ [⟨runId, mac, tick, bayBit b⟩] } }) ∧
  (∀ s b runId (i : Fin 16) tick, s.bays[(b : BayId)].pilotFlag 2 = true → s.slac.slotOf runId = some i →
    exec (.startAttenChar b tick runId) s = .next { s with slac := { s.slac with
      slots := s.slac.slots.set i { s.slac.slots[i] with first := some (s.slac.slots[i].first.getD tick) } } }) ∧
  (∀ s b runId (i : Fin 16) tick f groups, s.bays[(b : BayId)].pilotFlag 2 = true → s.slac.slotOf runId = some i → s.slac.slots[i].first = some f →
      s.slac.slots[i].close = none → f ≤ tick → tick < f + 600000 → groups.length = 58 →
    exec (.mnbcSound b tick runId 0 groups) s = .next { s with slac := { s.slac with slots := s.slac.slots.set i { s.slac.slots[i] with
      sums := s.slac.slots[i].sums.set b (s.slac.slots[i].sums[b].1 + groups.sum, s.slac.slots[i].sums[b].2 + 1),
      close := some (min (f + 600000) (tick + 10000)) } } }) ∧
  (∀ s h (b : BayId), s.slac.heard = [h] → h.tick + 32 ≤ s.now → s.slac.slots[(0 : Fin 16)].st = 0 → baysIn h.bays = [b] → s.bays[b].pilotFlag 2 = false →
    exec .slacSlotAssign s = .next { s with slac := { s.slac with
      heard := [], slots := s.slac.slots.set 0 { SlacSlot.free with runId := h.runId, mac := h.mac, st := 1 } } })

/-- R206 to R209: matching. A slot whose only candidate stands clear is resolved to it and reports, one with no candidate is unmatched; the resolved bay
answers CM_SLAC_MATCH.REQ with a new network; a match that does not come within 2 s ends; slots and assignments lapse. -/
def Obligations.SlacMatching : Prop :=
  (∀ s (i : Fin 16) c (b : BayId), s.slac.slots[i].st = 1 → s.slac.slots[i].close = some c → s.slac.slots[i].first ≠ none → c + 32 ≤ s.now →
      s.candidates s.slac.slots[i] = [b] → s.slac.assigns = [] → s.clearOf i b = true →
    ∃ t, exec (.slacDecision i) s = .next t ∧ t = { s with slac := t.slac, bays := s.bays.set b t.bays[b] } ∧
      t.slac.slots[i] = { s.slac.slots[i] with st := 2, bay := b.val } ∧ (∀ j : Fin 16, j ≠ i → t.slac.slots[j] = s.slac.slots[j]) ∧
      t.bays[b].plc.slot = some i.val ∧ t.bays[b].plc.mac = s.slac.slots[i].mac ∧ t.bays[b].plc.attenAt = some s.now ∧
      t.bays[b].plc.sent = some (.attenCharInd s.slac.slots[i].runId (s.slac.slots[i].entry b)) ∧
      Staged b [(1, ⟨b.val, 0x0410, i.val + 2 ^ 8 * (s.slac.slots[i].mac % 2 ^ 24), s.now⟩)] s t) ∧
  (∀ s (i : Fin 16) c, s.slac.slots[i].st = 1 → s.slac.slots[i].close = some c → s.slac.slots[i].first ≠ none → c + 32 ≤ s.now →
      s.candidates s.slac.slots[i] = [] → s.slac.assigns = [] →
    exec (.slacDecision i) s = .next { s with slac := { s.slac with slots := s.slac.slots.set i { s.slac.slots[i] with st := 4 } } }) ∧
  (∀ s b runId (i : Fin 16), s.slac.slotOf runId = some i → s.slac.slots[i].st = 2 → s.slac.slots[i].bay = b.val →
      s.bays[(b : BayId)].plc.slot = some i.val → s.bays[b].session.st = .connected →
    ∃ t, exec (.slacMatchReq b runId) s = .next t ∧ t = { s with slac := t.slac, bays := s.bays.set b t.bays[b], free := s.free + 2 } ∧
      t.slac.slots[i].st = 5 ∧ t.bays[b].plc.matched = true ∧ t.bays[b].plc.nmk = some (s.random 128) ∧ t.bays[b].plc.attenAt = none ∧
      Staged b [(1, ⟨b.val, 0x0412, i.val + 2 ^ 8 * (s.slac.slots[i].mac % 2 ^ 24), s.now⟩)] s t) ∧
  (∀ s b, s.bays[(b : BayId)].pilotFlag 2 = true →
    ∃ t, exec (.slacValidate b) s = .next t ∧ BayOnly b s t ∧ t.bays[b].plc.sent = some .validateCnf ∧ t.bays[b].plc.matched = s.bays[b].plc.matched) ∧
  (∀ s (i : Fin 16), s.slac.slots[i].st = 5 →
    exec (.slacSlotFree i) s = .next { s with slac := { s.slac with slots := s.slac.slots.set i SlacSlot.free } }) ∧
  (∀ s b at_, s.bays[(b : BayId)].plc.attenAt = some at_ → at_ + 2000000 ≤ s.now → s.bays[b].plc.slot = none → s.bays[b].plc.matched = true →
    ∃ t, exec (.slacMatchTimeout b) s = .next t ∧ BayOnly b s t ∧ t.bays[b].plc = { s.bays[b].plc with
        slot := none, mac := 0, attenAt := none, matched := false, nmk := none, nid := none } ∧
      Staged b [(1, ⟨b.val, 0x0413, 4, s.now⟩)] s t) ∧
  (∀ s, exec .slacAssignLapse s = .next { s with slac := { s.slac with assigns := s.slac.assigns.filter fun a => s.now < a.expires } })

/-- R211 to R215: PILOT_STATUS, PILOT_UNAVAILABLE, PLC_STATUS, SLAC_MATRIX and SLAC_ASSIGN. The status commands report a bay to court 0 and to its owner;
UNAVAILABLE is a settings change; the matrix goes out as a transfer; an assignment holds for 60 s. -/
def Obligations.PilotPlcCards : Prop :=
  (∀ o s (b : BayId), Serves o s → (FromCourt o [0] ∨ 3 ≤ o.court.val ∧ s.owner b = o.court.val) →
    exec (.pilotStatus o b.val) s = .next (s.repliedOk o 0x0401 [8, 8, 16, 16, 16, 8, 8, 16, 16, 32, 64, 32, 32, 32, 32]
      [s.bays[b].pilot.st, (s.bays[b].pilot.actingAt s.now).1, (s.bays[b].pilot.actingAt s.now).2, ubits 16 s.bays[b].pilot.vHi,
       ubits 16 s.bays[b].pilot.vLo, s.bays[b].pilot.pp, b2n s.bays[b].pilot.diode, s.bays[b].pilot.ppOhm, 0, s.gens.bay[b], s.bays[b].pilot.lastEval,
       s.bays[b].pilot.discarded, s.bays[b].pilot.invalid, s.bays[b].pilot.diodeFaults, s.bays[b].pilot.genFaults])) ∧
  (∀ o s (b : BayId) set, Serves o s → (FromCourt o [0] ∨ 3 ≤ o.court.val ∧ s.owner b = o.court.val) → set ≤ 1 →
      (set = 0 ∨ s.bays[b].pilotFlag 0 = true ∧ s.bays[b].session.st = .idle) →
    ∃ t, exec (.pilotUnavailable o b.val set) s = .next t ∧ Arms o 0x0402 [32, 64] (.pilotUnavailable b.val set) s t) ∧
  (∀ o s (b : BayId), Serves o s → (FromCourt o [0] ∨ 3 ≤ o.court.val ∧ s.owner b = o.court.val) →
    exec (.plcStatus o b.val) s = .next ({ s with free := s.free + 2 }.repliedOk o 0x0410 (List.replicate 10 32 ++ [16, 8, 8, 32, 64, 64])
      (s.bays[b].plc.counts.toList ++ [satN 16 (s.bays[b].plc.snr.mean (s.draw % 65536)), satN 8 (s.bays[b].plc.gain.mean (s.drawAt 1 % 256)), 0,
        s.bays[b].plc.gain.gen, s.bays[b].plc.gain.first, s.bays[b].plc.gain.last]))) ∧
  (∀ o s, Serves o s → FromCourt o [0] → s.bulkFree o.court = true →
    ∃ t, exec (.slacMatrix o) s = .next t ∧ t = { s with courts := t.courts } ∧ t.courts[o.court].outXfers.length = s.courts[o.court].outXfers.length + 1 ∧
      (t.mbox o.court o.mbx).running = none ∧ ∀ c : CourtId, c ≠ o.court → t.courts[c] = s.courts[c]) ∧
  (∀ o s, Serves o s → FromCourt o [0] → s.bulkFree o.court = false →
    exec (.slacMatrix o) s = .next (s.repliedNo o 0x0420 stNO_RESOURCE 0 [16, 16])) ∧
  (∀ o s mac (b : BayId), Serves o s → FromCourt o [0] → s.bays[b].pilotFlag 3 = true → s.bays[b].plc.matched = false →
      (s.slac.assigns.filter fun a => a.mac != mac).length < 32 →
    exec (.slacAssign o mac b.val) s = .next (({ s with slac := { s.slac with
      assigns := (s.slac.assigns.filter fun a => a.mac != mac) ++ [⟨mac, b.val, o.court, s.now + 60000001⟩] } } : State).repliedOk o 0x0421 [64] [s.now + 60000001]))

/-- R224, R225, R227 to R229, R231, R232: the timers of a session. A missing confirmation or weld verdict is a fault, a failed matching is tried again
after 4 s, a timer of the table ends the session with TIMEOUT, no decision ends it with AUTH_TIMEOUT, overcurrent is a fault, and the pauses, the held
token, the pilot of a fault and the TLS connection run out. Nothing but the bay, and what the end of a session asks of the site and the legal unit,
changes. R217 to R220, R224, R231: a vehicle. A plugged-in vehicle opens a session with a new SESSION_ID; a pilot state that ends a session ends it;
an SDP request is answered; TLS stands, or an alert ends the session; a request that the state admits is answered and one that it does not admit ends
it. -/
def Obligations.Sessions : Prop :=
  (∀ s b at_ next, s.bays[(b : BayId)].session.closing = some (at_, next) → at_ + 100000 ≤ s.now → s.bays[b].grpCk.chans.closed = false →
      s.bays[b].session.st = .parameters → s.bays[b].session.reason = 0 → bitOf s.bays[b].session.reasons 4 = false →
    ∃ t, exec (.contactorConfirmTimeout b) s = .next t ∧ t = { s with bays := s.bays.set b t.bays[b], slac := t.slac, legal := t.legal } ∧
      t.bays[b].session.st = .fault ∧ t.bays[b].session.reason = 4 ∧ t.bays[b].session.contactors = false) ∧
  (∀ s b, s.bays[(b : BayId)].session.st = .weldCheck → s.bays[b].session.entered + 2000000 ≤ s.now → s.bays[b].session.reason ≠ 0 →
      bitOf s.bays[b].session.reasons 4 = false →
    ∃ t, exec (.weldVerdictTimeout b) s = .next t ∧ t = { s with bays := s.bays.set b t.bays[b], slac := t.slac, legal := t.legal } ∧
      t.bays[b].session.st = .fault ∧ t.bays[b].session.reason = 4 ∧ t.bays[b].session.further = s.bays[b].session.further + 1) ∧
  (∀ s b, s.bays[(b : BayId)].session.st = .matching → s.bays[b].session.pauseUntil = none → s.bays[b].session.matchFrom + 20000000 ≤ s.now →
      s.bays[b].session.tries + 1 < s.bays[b].ses 144 1 →
    ∃ t, exec (.matchingTimeout b) s = .next t ∧ BayOnly b s t ∧ t.bays[b].session = { s.bays[b].session with
      tries := s.bays[b].session.tries + 1, pauseUntil := some (s.now + 4000000) }) ∧
  (∀ s b at_, s.bays[(b : BayId)].session.pauseUntil = some at_ → at_ ≤ s.now →
    ∃ t, exec (.matchPauseEnd b) s = .next t ∧ BayOnly b s t ∧ t.bays[b].session = { s.bays[b].session with pauseUntil := none, matchFrom := s.now }) ∧
  (∀ s b from_, s.bays[(b : BayId)].session.st = .setup → s.bays[b].session.setupFrom = some from_ → from_ + 20000000 ≤ s.now →
      s.bays[b].session.reason = 0 → bitOf s.bays[b].session.reasons 0x12 = false →
    ∃ t, exec (.sessionTimeout b 1) s = .next t ∧ t = { s with bays := s.bays.set b t.bays[b], slac := t.slac, legal := t.legal } ∧
      t.bays[b].session.st = .ended ∧ t.bays[b].session.reason = 0x12 ∧ (2, ⟨96 + b.val, 0x0520, 1, s.now⟩) ∈ t.bays[b].staged) ∧
  (∀ s b, s.bays[(b : BayId)].session.st = .stopping → s.bays[b].session.entered + 1000000 ≤ s.now →
    ∃ t, exec (.sessionTimeout b 6) s = .next t ∧ BayOnly b s t ∧ t.bays[b].session.st = .weldCheck ∧ t.bays[b].session.entered = s.now) ∧
  (∀ s b, s.bays[(b : BayId)].session.st = .authorising → s.bays[b].session.auth < 2 → s.bays[b].session.token = none →
      s.bays[b].session.entered + 1000000 * s.bays[b].ses 132 2 ≤ s.now → s.bays[b].session.reason = 0 → bitOf s.bays[b].session.reasons 0x11 = false →
    ∃ t, exec (.authTimeout b) s = .next t ∧ t = { s with bays := s.bays.set b t.bays[b], slac := t.slac, legal := t.legal } ∧
      t.bays[b].session.st = .ended ∧ t.bays[b].session.reason = 0x11) ∧
  (∀ s b tok, s.bays[(b : BayId)].session.heldToken = some tok → tok.tick + 60000000 ≤ s.now →
    ∃ t, exec (.tokenHoldExpire b) s = .next t ∧ BayOnly b s t ∧ t.bays[b].session = { s.bays[b].session with heldToken := none }) ∧
  (∀ s b from_, s.bays[(b : BayId)].session.overSince = some from_ → from_ + 10000000 ≤ s.now → s.bays[b].session.st = .energised →
      s.bays[b].session.reason = 0 → bitOf s.bays[b].session.reasons 0x0C = false →
    ∃ t, exec (.acOvercurrent b) s = .next t ∧ t = { s with bays := s.bays.set b t.bays[b], slac := t.slac, legal := t.legal } ∧
      t.bays[b].session.st = .fault ∧ t.bays[b].session.reason = 0x0C) ∧
  (∀ s b from_, s.bays[(b : BayId)].session.st = .energised → s.bays[b].session.proto = 4 → s.bays[b].session.basicPause = true →
      s.bays[b].session.pauseOpened = false → s.bays[b].session.pilot = 2 → s.bays[b].session.basicFrom = some from_ → from_ + 3000000 ≤ s.now →
    ∃ t, exec (.basicPauseTimeout b) s = .next t ∧ BayOnly b s t ∧ t.bays[b].session = { s.bays[b].session with
      pauseOpened := true, openLoad := bump 32 s.bays[b].session.openLoad } ∧
      Staged b [(2, ⟨96 + b.val, 0x0523, satN 32 s.bays[b].iMeas.natAbs, s.now⟩)] s t) ∧
  (∀ s b from_, s.bays[(b : BayId)].session.st = .energised → s.bays[b].session.basicPause = true → s.bays[b].session.okSince = some from_ →
      from_ + 10000000 ≤ s.now → s.bays[b].session.pilot ≠ 1 →
    ∃ t, exec (.basicPwmRestore b) s = .next t ∧ BayOnly b s t ∧ t.bays[b].session = { s.bays[b].session with
      basicPause := false, pauseOpened := false, basicFrom := none }) ∧
  (∀ s b, s.bays[(b : BayId)].session.st = .fault → s.bays[b].session.entered + 3000000 ≤ s.now →
    ∃ t, exec (.faultPilotTimer b) s = .next t ∧ BayOnly b s t ∧ t.bays[b].session = { s.bays[b].session with faultHigh := true }) ∧
  (∀ s b at_, s.bays[(b : BayId)].session.closeAt = some at_ → at_ ≤ s.now →
    ∃ t, exec (.tlsCloseTimer b) s = .next t ∧ BayOnly b s t ∧ t.bays[b].session = { s.bays[b].session with tcp := false, tls := 0, closeAt := none }) ∧
  (∀ s b, s.bays[(b : BayId)].session.st = .idle → s.bays[b].session.pilot ≠ s.bays[b].pilot.st → s.bays[b].pilot.st = 1 → s.bays[b].isEv = true →
      s.bays[b].unavail = false → s.bays[b].session.heldToken = none →
    ∃ t, exec (.sessionPilotChange b) s = .next t ∧ t = { s with bays := s.bays.set b t.bays[b], legal := t.legal, free := t.free } ∧
      t.bays[b].session.st = .connected ∧ t.bays[b].session.pilot = 1 ∧ t.bays[b].session.reason = 0 ∧
      t.bays[b].session.id = (t.legal.regs.meters[meterOf b]).sessionId ∧ t.bays[b].session.token = none) ∧
  (∀ s b, s.bays[(b : BayId)].session.st = .setup → s.bays[b].session.pilot ≠ 5 → s.bays[b].pilot.st = 5 → s.bays[b].session.reason = 0 →
      bitOf s.bays[b].session.reasons 6 = false →
    ∃ t, exec (.sessionPilotChange b) s = .next t ∧ t = { s with bays := s.bays.set b t.bays[b], slac := t.slac, legal := t.legal } ∧
      t.bays[b].session.st = .fault ∧ t.bays[b].session.reason = 6 ∧ t.bays[b].plc.matched = false) ∧
  (∀ s b, s.bays[(b : BayId)].session.pilot = s.bays[b].pilot.st → exec (.sessionPilotChange b) s = .next s) ∧
  (∀ s b secure, s.bays[(b : BayId)].session.st = .setup → s.bays[b].plc.matched = true → s.offered b ≠ [] →
    ∃ t, exec (.sdpRequest b secure) s = .next t ∧ BayOnly b s t ∧ ∃ a, t.bays[b].session = { s.bays[b].session with
      sdp := s.bays[b].session.sdp + 1, answer := some a } ∧ a.vals.head? = some (50000 + (b.val : Int))) ∧
  (∀ s b h, s.bays[(b : BayId)].session.st = .setup → s.bays[b].session.sdp ≠ 0 → s.bays[b].session.tcp = false → s.tlsAlert b h = none → h.alert = none →
    ∃ t, exec (.tlsHandshake b h) s = .next t ∧ t = { s with bays := s.bays.set b t.bays[b], free := s.free + 1 } ∧
      t.bays[b].session = { s.bays[b].session with tcp := true, tls := h.version }) ∧
  (∀ s b h a, s.bays[(b : BayId)].session.st = .setup → s.bays[b].session.sdp ≠ 0 → s.bays[b].session.tcp = false → s.tlsAlert b h = some a →
      s.bays[b].session.reason = 0 → bitOf s.bays[b].session.reasons 0x13 = false →
    ∃ t, exec (.tlsHandshake b h) s = .next t ∧ t = { s with bays := s.bays.set b t.bays[b], slac := t.slac, legal := t.legal } ∧
      t.bays[b].session.st = .ended ∧ t.bays[b].session.reason = 0x13 ∧ (2, ⟨96 + b.val, 0x0522, a, s.now⟩) ∈ t.bays[b].staged) ∧
  (∀ s b evccid, s.bays[(b : BayId)].session.tcp = true → s.bays[b].session.st = .setup → s.bays[b].session.proto ≠ 0 →
      s.bays[b].session.setupFrom ≠ none →
    ∃ t, exec (.v2gRequest b (.sessionSetup evccid)) s = .next t ∧ BayOnly b s t ∧ t.bays[b].session = { s.bays[b].session with
      evccid := evccid, setupFrom := none, readyFrom := some s.now, seqFrom := some s.now,
      answer := some ⟨4, 0, [(s.bays[b].session.v2gId : Int)]⟩ }) ∧
  (∀ s b, s.bays[(b : BayId)].session.tcp = true → s.bays[b].session.st = .setup → s.bays[b].session.reason = 0 → s.bays[b].kind = 1 →
      bitOf s.bays[b].session.reasons 0x14 = false →
    ∃ t, exec (.v2gRequest b .powerStart) s = .next t ∧ t = { s with bays := s.bays.set b t.bays[b], slac := t.slac, legal := t.legal } ∧
      t.bays[b].session.st = .ended ∧ t.bays[b].session.reason = 0x14)

/-- R239 to R244: the commands of sessions. SESSION_STATUS reports to court 0 and to the owner and hides the token from any other court; a decision, a
stop and a limit are settings of the running session's owner; certificates are taken for the owner's key, and the back office's answer goes to the
vehicle. -/
def Obligations.SessionCards : Prop :=
  (∀ o s (b : BayId), Serves o s → (FromCourt o [0] ∨ 3 ≤ o.court.val ∧ s.owner b = o.court.val) →
    ∃ vals, exec (.sessionStatus o b.val) s = .next (s.repliedOk o 0x0501
      [8, 8, 8, 8, 64, 32, 32, 32, 72, 72, 72, 72, 64, 64, 8, 8, 16, 512, 64, 32, 32] vals) ∧
      vals.take 3 = [s.bays[b].grpCk.session.st.code, s.bays[b].grpCk.session.proto, s.bays[b].grpCk.session.service] ∧
      (s.owner b ≠ o.court.val → vals.drop 17 = [0, 0, s.bays[b].grpCk.session.openLoad, s.gens.bay[b]])) ∧
  (∀ o s (b : BayId) id limit energy tok, Serves o s → o.court.val ≠ 1 → o.court.val ≠ 2 → s.owner b = o.court.val → limit ≤ 1000000 →
      s.bays[b].hasSession id = true → s.bays[b].session.st = .authorising → s.bays[b].session.auth = 1 → s.bays[b].session.token = some tok → s.armed = [] →
    ∃ t, exec (.sessionAuth o b.val 1 id limit energy) s = .next t ∧ Arms o 0x0502 [64] (.sessionAuth b.val 1 id limit energy) s t) ∧
  (∀ o s (b : BayId) id limit energy, Serves o s → o.court.val ≠ 1 → o.court.val ≠ 2 → s.owner b ≠ o.court.val →
    exec (.sessionAuth o b.val 1 id limit energy) s = .next (s.repliedNo o 0x0502 stNOT_PERMITTED 1 [64])) ∧
  (∀ o s (b : BayId) id, Serves o s → (FromCourt o [0] ∨ 3 ≤ o.court.val ∧ s.owner b = o.court.val) → s.bays[b].hasSession id = true →
    ∃ t, exec (.sessionStop o b.val id) s = .next t ∧ Arms o 0x0503 [64] (.sessionStop b.val id) s t) ∧
  (∀ o s (b : BayId) id, Serves o s → (FromCourt o [0] ∨ 3 ≤ o.court.val ∧ s.owner b = o.court.val) → s.bays[b].hasSession id = false →
    exec (.sessionStop o b.val id) s = .next (s.repliedNo o 0x0503 stBAD_STATE 0 [64])) ∧
  (∀ o s (b : BayId) id limit energy, Serves o s → o.court.val ≠ 1 → o.court.val ≠ 2 → s.owner b = o.court.val → s.bays[b].hasSession id = true →
    ∃ t, exec (.sessionLimit o b.val id limit energy) s = .next t ∧ Arms o 0x0504 [32, 64] (.sessionLimit b.val id limit energy) s t) ∧
  (∀ o s num x c, Serves o s → o.court.val ≠ 1 → o.court.val ≠ 2 → s.courts[o.court].inXfers = [x] → x.number = num → x.closed = true →
      splitCerts (x.data.length + 1) x.data = some [c] →
    ∃ t, exec (.certLoad o 1 2 num 0) s = .next t ∧ (Config.certChain [c] [c] (s.legal.utc s.now) = 0 →
      t = { s with courts := t.courts, certs := t.certs } ∧
      t.certs.head? = some ⟨o.court, 1, 2, [c], 0, s.now + 1⟩ ∧ t.courts[o.court].inXfers = [] ∧ (t.mbox o.court o.mbx).running = none)) ∧
  (∀ o s (b : BayId) num x w id, Serves o s → o.court.val ≠ 1 → o.court.val ≠ 2 → s.owner b = o.court.val → s.courts[o.court].inXfers = [x] →
      x.number = num → x.closed = true → s.bays[b].hasSession id = true → s.bays[b].session.cert = some w →
      s.now ≤ w.tick + certLimit s.bays[b].session.proto →
    ∃ t, exec (.certResponse o b.val 0 num id) s = .next t ∧ t = { s with courts := t.courts, bays := s.bays.set b t.bays[b] } ∧
      t.bays[b].session.cert = none ∧ t.bays[b].session.certAnswer = some (0, x.data) ∧ t.bays[b].session.st = s.bays[b].session.st ∧
      t.courts[o.court].inXfers = [] ∧ (t.mbox o.court o.mbx).running = none)

/-- R249 to R254: cards. A poll starts when none is held and POLL_MS has passed; an exchange ends with what it found: nothing, a card that is held and
offered, a card still there, or a card that is gone; a held card is checked every 200 ms and let go after 30 s. R258 to R266: vehicle tags. An
inventory begins with the next ROUND and a CALL; a slot moves ACC by its class and keeps the handle of a single; a good reply to the ACK opens and
lists its tag; a missing reply is counted; the reply to a READ or WRITE answers its request; entries lapse after 60 s. -/
def Obligations.CardsAndTags : Prop :=
  (∀ s b, s.bays[(b : BayId)].identFlag 0 = true → s.bays[b].ident.card = none → s.bays[b].ident.op = none → s.bays[b].ident.opNext = none →
      s.bays[b].ident.lastPoll + 1000 * s.bays[b].ent 450 2 ≤ s.now → s.bays[b].ident.kytBusy s.now = false →
    ∃ t, exec (.cardPoll b) s = .next t ∧ BayOnly b s t ∧ t.bays[b].ident.op = some .poll ∧ t.bays[b].ident.lastPoll = s.now ∧
      t.bays[b].ident.hfField = true ∧ t.bays[b].ident.tags = s.bays[b].ident.tags ∧ t.bays[b].session = s.bays[b].session) ∧
  (∀ s b, s.bays[(b : BayId)].ident.op = some .poll →
    ∃ t, exec (.cardExchangeDone b (.poll [] false)) s = .next t ∧ BayOnly b s t ∧ t.bays[b].ident.op = none ∧ t.bays[b].ident.cardCode = 0 ∧
      t.bays[b].ident.hfField = false ∧ t.bays[b].ident.card = s.bays[b].ident.card) ∧
  (∀ s b c, s.bays[(b : BayId)].ident.op = some .poll → (if c.typeB then s.bays[b].identFlag 1 else s.bays[b].identFlag 0) = true →
      s.bays[b].ident.gone = [] →
    ∃ t, exec (.cardExchangeDone b (.poll [c] false)) s = .next t ∧ BayOnly b s t ∧ t.bays[b].ident.op = none ∧
      t.bays[b].ident.card = some ⟨cardCodeOf c, c.uid, s.now, s.now⟩ ∧ t.bays[b].ident.cardCode = cardCodeOf c) ∧
  (∀ s b c, s.bays[(b : BayId)].ident.op = some .presence → s.bays[b].ident.card = some c →
    ∃ t, exec (.cardExchangeDone b (.presence false)) s = .next t ∧ BayOnly b s t ∧ t.bays[b].ident.op = none ∧ t.bays[b].ident.card = none ∧
      t.bays[b].ident.hfField = false ∧ Staged b [(8, ⟨288 + b.val / 3, 0x0641, b.val, s.now⟩)] s t) ∧
  (∀ s b o d sw data, s.bays[(b : BayId)].ident.op = some (.apdu o d) → data.length ≤ 440 → (s.mbox o.court o.mbx).running.isSome = true →
    ∃ t, exec (.cardExchangeDone b (.apdu sw data)) s = .next t ∧ t = { s with
        bays := s.bays.set b t.bays[b], courts := t.courts, twin := t.twin } ∧ t.bays[b].ident.op = none ∧ (t.mbox o.court o.mbx).running = none ∧
      t.bays[b].ident.card = s.bays[b].ident.card.map fun c => { c with since := s.now, lastCheck := s.now }) ∧
  (∀ s b c, s.bays[(b : BayId)].ident.card = some c → s.bays[b].ident.op = none → s.bays[b].ident.opNext = none → c.lastCheck + 200000 ≤ s.now →
      s.bays[b].ident.kytBusy s.now = false →
    ∃ t, exec (.cardPresenceCheck b) s = .next t ∧ BayOnly b s t ∧ t.bays[b].ident = { s.bays[b].ident with
      op := some .presence, opNext := none, hfField := true, sel := 0 }) ∧
  (∀ s b c, s.bays[(b : BayId)].ident.card = some c → s.bays[b].ident.op = none → c.since + 30000000 ≤ s.now →
    ∃ t, exec (.cardHoldExpire b) s = .next t ∧ BayOnly b s t ∧ t.bays[b].ident.card = none ∧ t.bays[b].ident.cardCode = 0 ∧
      Staged b [(8, ⟨288 + b.val / 3, 0x0641, b.val, s.now⟩)] s t) ∧
  (∀ s b, s.bays[(b : BayId)].identFlag 2 = true → s.bays[b].ident.inv = none → s.bays[b].ident.op = none → s.bays[b].ident.started = true →
      s.bays[b].ident.lastInv + 10000 * s.bays[b].ent 463 1 ≤ s.now →
    ∃ t, exec (.kytInventory b) s = .next t ∧ BayOnly b s t ∧ t.bays[b].ident.round = (s.bays[b].ident.round + 1) % 256 ∧
      t.bays[b].ident.acc = max s.bays[b].ident.acc 40 ∧ t.bays[b].ident.lastInv = s.now ∧ t.bays[b].ident.uhfField = true ∧
      t.bays[b].ident.inv = some ⟨(max s.bays[b].ident.acc 40 + 10) / 20, 0, [], false, false, none, s.now⟩) ∧
  (∀ s b v, s.bays[(b : BayId)].ident.inv = some v → v.ackPhase = false → v.next + 1 < 2 ^ v.q → s.bays[b].ident.op = none →
      s.bays[b].ident.acc = 20 * v.q → 1 ≤ v.q → v.q ≤ 10 →
    ∃ t, exec (.kytSlot b .empty) s = .next t ∧ BayOnly b s t ∧ t.bays[b].ident.acc = s.bays[b].ident.acc - 3 ∧
      t.bays[b].ident.inv = some { v with next := v.next + 1 } ∧ t.bays[b].ident.tags = s.bays[b].ident.tags) ∧
  (∀ s b v h, s.bays[(b : BayId)].ident.inv = some v → v.ackPhase = false → v.next + 1 < 2 ^ v.q → s.bays[b].ident.op = none →
      s.bays[b].ident.acc = 20 * v.q → v.q ≤ 10 →
    ∃ t, exec (.kytSlot b (.single h)) s = .next t ∧ BayOnly b s t ∧ t.bays[b].ident.acc = s.bays[b].ident.acc ∧
      t.bays[b].ident.inv = some { v with next := v.next + 1, kept := v.kept ++ [h % 65536], busy := true }) ∧
  (∀ s b v handle id status blocks rssi c, s.bays[(b : BayId)].ident.inv = some v → v.ackPhase = true → v.openTag = none →
      v.kept.head? = some (handle % 65536) → s.bays[b].ident.cmds = [c] → c.tag = id → c.from_ ≤ s.now → s.bays[b].ident.tags = [] →
    ∃ t, exec (.kytAckReply b handle id status blocks rssi true) s = .next t ∧ BayOnly b s t ∧
      t.bays[b].ident.inv = some { v with openTag := some id, frameAt := s.now } ∧ t.bays[b].ident.ackedNow = id :: s.bays[b].ident.ackedNow ∧
      t.bays[b].ident.tags = [{
        id := id, status := status % 65536, blocks := blocks % 65536, rssi := rssi, reads := 1, last := s.now, ackRound := some s.bays[b].ident.round,
        seen := 0, absent := 0, offered := false, lowRaised := bitOf status 8 }]) ∧
  (∀ s b v, s.bays[(b : BayId)].ident.inv = some v → v.ackPhase = true → v.openTag = none → v.frameAt + 1163 ≤ s.now → 2 ≤ v.kept.length →
    ∃ t, exec (.kytAckTimeout b) s = .next t ∧ BayOnly b s t ∧ t.bays[b].ident.inv = some { v with
        kept := v.kept.drop 1, openTag := none, frameAt := s.now } ∧ t.bays[b].ident.tags = s.bays[b].ident.tags) ∧
  (∀ s b v id c data, s.bays[(b : BayId)].ident.inv = some v → v.openTag = some id → s.bays[b].ident.cmds = [c] → c.tag = id → c.from_ ≤ s.now →
      c.write = false → 2 ≤ v.kept.length →
    ∃ t, exec (.kytReadReply b true 0 data true) s = .next t ∧ t = { s with bays := s.bays.set b t.bays[b], courts := t.courts, twin := t.twin } ∧
      t.bays[b].ident.cmds = [] ∧ (t.mbox c.origin.court c.origin.mbx).running = none) ∧
  (∀ s b v id c written, s.bays[(b : BayId)].ident.inv = some v → v.openTag = some id → s.bays[b].ident.cmds = [c] → c.tag = id → c.from_ ≤ s.now →
      c.write = true → 2 ≤ v.kept.length →
    ∃ t, exec (.kytWriteReply b true 0 written true) s = .next t ∧ t = { s with bays := s.bays.set b t.bays[b], courts := t.courts, twin := t.twin } ∧
      t.bays[b].ident.cmds = [] ∧ (t.mbox c.origin.court c.origin.mbx).running = none) ∧
  (∀ s b, ∃ t, exec (.tagEntryExpire b) s = .next t ∧ BayOnly b s t ∧ t.bays[b].ident = { s.bays[b].ident with
      tags := s.bays[b].ident.tags.filter fun e => s.now < e.last + 60000000 })

/-- R269 to R274: the commands of identification. IDENT_STATUS reports to court 0 and the owner; an APDU, a release, a tag read and a tag write are for
the owner and wait for the reader; the tag list goes out as a transfer; a fifth tag command finds no resource. -/
def Obligations.IdentCards : Prop :=
  (∀ o s (b : BayId), Serves o s → (FromCourt o [0] ∨ 3 ≤ o.court.val ∧ s.owner b = o.court.val) →
    exec (.identStatus o b.val) s = .next (s.repliedOk o 0x0601 ([8, 8, 8, 8] ++ List.replicate 12 32)
      ([s.bays[b].grpCk.ident.cardCode, s.bays[b].grpCk.ident.tags.length, s.bays[b].grpCk.ident.qForce, 0] ++ s.bays[b].grpCk.ident.counts.toList ++
       [s.gens.bay[b]]))) ∧
  (∀ o s (b : BayId) len apdu, Serves o s → o.court.val ≠ 1 → o.court.val ≠ 2 → s.owner b = o.court.val → 4 ≤ len → len ≤ 1024 →
      s.bays[b].ident.holds true = true →
    exec (.cardApdu o b.val len apdu) s = .next ((s.take o.court o.mbx 0x0602 [16, 16]).onIdentBoth b fun x => { x with
      waitApdu := x.waitApdu ++ [(o, apdu, s.now + 1)] })) ∧
  (∀ o s (b : BayId) len apdu, Serves o s → o.court.val ≠ 1 → o.court.val ≠ 2 → s.owner b = o.court.val → 4 ≤ len → len ≤ 1024 →
      s.bays[b].ident.card = none → exec (.cardApdu o b.val len apdu) s = .next (s.repliedNo o 0x0602 stBAD_STATE 0 [16, 16])) ∧
  (∀ o s (b : BayId), Serves o s → o.court.val ≠ 1 → o.court.val ≠ 2 → s.owner b = o.court.val → s.bays[b].ident.holds false = true →
    exec (.cardRelease o b.val) s = .next ((s.take o.court o.mbx 0x0603 []).onIdentBoth b fun x => { x with
      waitRelease := x.waitRelease ++ [(o, s.now + 1)] })) ∧
  (∀ o s (b : BayId), Serves o s → o.court.val ≠ 1 → o.court.val ≠ 2 → s.owner b = o.court.val → s.bays[b].identFlag 2 = true → s.bulkFree o.court = true →
    ∃ t, exec (.tagList o b.val) s = .next t ∧ t = { s with courts := t.courts } ∧
      t.courts[o.court].outXfers.length = s.courts[o.court].outXfers.length + 1 ∧ (t.mbox o.court o.mbx).running = none ∧
      ∀ c : CourtId, c ≠ o.court → t.courts[c] = s.courts[c]) ∧
  (∀ o s (b : BayId) count addr tag, Serves o s → o.court.val ≠ 1 → o.court.val ≠ 2 → s.owner b = o.court.val → 1 ≤ count → count ≤ 16 → addr ≤ 1023 →
      s.bays[b].identFlag 2 = true → s.bays[b].ident.cmds.length < 4 →
    exec (.tagRead o b.val count addr tag) s = .next ((s.take o.court o.mbx 0x0611 [8, 24, 16, 16]).onIdentBoth b fun x => { x with
      cmds := x.cmds ++ [⟨o, false, count, addr, tag, [], s.now + 1, 0⟩] })) ∧
  (∀ o s (b : BayId) count addr tag data, Serves o s → o.court.val ≠ 1 → o.court.val ≠ 2 → s.owner b = o.court.val → 1 ≤ count → count ≤ 4 →
      addr ≤ 1023 → s.bays[b].identFlag 2 = true → s.bays[b].ident.cmds.length < 4 →
    exec (.tagWrite o b.val count addr tag data) s = .next ((s.take o.court o.mbx 0x0612 [8, 8, 16, 16, 16]).onIdentBoth b fun x => { x with
      cmds := x.cmds ++ [⟨o, true, count, addr, tag, data, s.now + 1, 0⟩] })) ∧
  (∀ o s (b : BayId) count addr tag, Serves o s → o.court.val ≠ 1 → o.court.val ≠ 2 → s.owner b = o.court.val → 1 ≤ count → count ≤ 16 → addr ≤ 1023 →
      s.bays[b].identFlag 2 = true → 4 ≤ s.bays[b].ident.cmds.length →
    exec (.tagRead o b.val count addr tag) s = .next (s.repliedNo o 0x0611 stNO_RESOURCE 0 [8, 24, 16, 16]))

/-- R286, R290, R291, R311 to R316: the modulator and the loops. BOOT ends in RUN with MOD_STATE; a loop returns to its tuned set; a tuning that has run
1,024 ticks or was aborted answers its request; MOD_STATUS and LOOP_STATUS report to courts 0 and 2 and the owner; MOD_PULSE is for court 0 on an idle
bay; LOOP_TUNE starts a tuning. Nothing but the bay and the mailbox changes. -/
def Obligations.ModulatorAndLoops : Prop :=
  (∀ s b, s.bays[(b : BayId)].grp.mod.st = .boot → s.bays[b].grp.mod.bootLeft = 0 →
    ∃ t, exec (.modBootDone b) s = .next t ∧ BayOnly b s t ∧ t.bays[b].grp.mod = { s.bays[b].grp.mod with st := .run } ∧
      Staged b [(3, ⟨b.val, 0x0701, 2 + 2 ^ 8, s.now⟩)] s t) ∧
  (∀ s b (l : Fin 4), (s.bays[(b : BayId)].grp.loops.cur[l]).fixed = true → bitOf (s.bays[b].ent 257 1) 1 = true →
      64 ≤ (s.bays[b].grp.loops.cur[l]).underRun → l.val < s.bays[b].clCount →
    ∃ t, exec (.gainSetReturn b l) s = .next t ∧ BayOnly b s t ∧ t.bays[b].grp.loops = { s.bays[b].grp.loops with
        cur := s.bays[b].grp.loops.cur.set l { (s.bays[b].grp.loops.cur[l]) with fixed := false, underRun := 0 } } ∧
      Staged b [(4, ⟨b.val, 0x0711, t.bays[b].grp.loops.fixedSet s.bays[b].clCount, s.now⟩)] s t) ∧
  (∀ s b u, s.bays[(b : BayId)].grp.loops.tune = some u → u.abort ≠ 0 →
    ∃ t, exec (.loopTuneDone b) s = .next t ∧ t = { s with bays := s.bays.set b t.bays[b], courts := t.courts, twin := t.twin } ∧
      t.bays[b].grp.loops.tune = none ∧ (t.mbox u.origin.court u.origin.mbx).running = none ∧
      Staged b [(4, ⟨b.val, 0x0712, u.abort, s.now⟩)] s t) ∧
  (∀ o s (b : BayId), Serves o s → (FromCourt o [0, 2] ∨ 3 ≤ o.court.val ∧ s.owner b = o.court.val) →
    ∃ vals, exec (.modStatus o b.val) s = .next (s.repliedOk o 0x0701 ([8, 8, 8, 8, 32] ++ List.replicate 24 32 ++ [32, 32, 8, 8, 16, 64, 32]) vals) ∧
      vals.head? = some s.bays[b].grpCk.mod.st.code ∧ vals.getLast? = some s.gens.bay[b]) ∧
  (∀ o s (b : BayId) leg flags tgt edges, Serves o s → FromCourt o [0] → leg < 8 → s.bays[b].legUsed leg = true → flags < 2 →
      s.bays[b].session.st = .idle → s.bays[b].grp.mod.st = .off → s.bays[b].link.st = .service →
    exec (.modPulse o b.val leg flags tgt edges) s = .next ((s.take o.court o.mbx 0x0702 [8, 24, 64]).onGrpBoth b fun g => { g with
      mod := { g.mod with pulse := g.mod.pulse ++ [⟨o, leg, bitOf flags 0,
        ⟨[bitsOf tgt 0 2, bitsOf tgt 2 2, bitsOf tgt 4 2, bitsOf tgt 6 2], (edges ++ [0, 0, 0, 0]).take 4⟩, s.now + 1⟩] } })) ∧
  (∀ o s (b : BayId) leg flags tgt edges, Serves o s → FromCourt o [0] → leg < 8 → s.bays[b].legUsed leg = true → flags < 2 →
      s.bays[b].grp.mod.st = .run → exec (.modPulse o b.val leg flags tgt edges) s = .next (s.repliedNo o 0x0702 stBAD_STATE 0 [8, 24, 64])) ∧
  (∀ o s (b : BayId), Serves o s → (FromCourt o [0, 2] ∨ 3 ≤ o.court.val ∧ s.owner b = o.court.val) →
    ∃ vals, exec (.loopStatus o b.val) s = .next ({ s with free := s.free + 1 }.repliedOk o 0x0710
        ([8, 8, 8, 8] ++ (List.replicate 4 [32, 32, 16, 16, 32, 32]).flatten ++ [32, 32, 32, 32, 32, 32, 32, 32, 64, 64, 32]) vals) ∧
      vals.getD 1 0 = s.bays[b].grpCk.loops.trip ∧ vals.getLast? = some s.gens.bay[b]) ∧
  (∀ o s (b : BayId) loop step fc dev, Serves o s → (FromCourt o [0] ∨ 3 ≤ o.court.val ∧ s.owner b = o.court.val) → loop < 4 → loop < s.bays[b].clCount →
      64 ≤ step → step ≤ 4096 → 500 ≤ fc → fc ≤ 20000 → 100 ≤ dev → dev ≤ 100000 → s.bays[b].grp.mod.st = .run → s.bays[b].grp.loops.trip = 0 →
      s.bays[b].grp.loops.tune = none → s.bays[b].session.st = .energised → 4 * (s.bays[b].grp.loops.meanOf loop).natAbs ≤ s.bays[b].ent 28 4 →
    ∃ lay, exec (.loopTune o b.val loop step fc dev) s = .next ((s.take o.court o.mbx 0x0711 lay).onGrpBoth b fun g => { g with
      loops := { g.loops with tune := some ⟨o, loop, step, fc, dev, s.now + 1, 0, 0, [], 0, 0, 0⟩ } }))

/-- R325 to R332: switch channels. A short that has waited is tried again with RESET_LATCH, ten clean seconds clear its retries, a low current long enough
is an open load, a returned supply lets AUTO_RESTART channels go on, a turn-off whose current falls in time is a free-wheel, a contactor that does not
hold is lost, and without a weld check the verdict is UNTESTED. Nothing but the bay changes. -/
def Obligations.SwitchChannels : Prop :=
  (∀ s b (k : Fin 12) at_, (s.bays[(b : BayId)].grp.chans.ch[k]).fault = .shortWait at_ → at_ + 1000 * s.bays[b].ent 350 2 ≤ s.now →
    ∃ t, exec (.shortRetry b k) s = .next t ∧ BayOnly b s t ∧ t.bays[b].grp.chans.ch = s.bays[b].grp.chans.ch.set k
      { (s.bays[b].grp.chans.ch[k]) with fault := .none, retries := (s.bays[b].grp.chans.ch[k]).retries + 1, resetLatch := true }) ∧
  (∀ s b (k : Fin 12), 10000000 ≤ (s.bays[(b : BayId)].grp.chans.ch[k]).onClean →
    ∃ t, exec (.retryCountReset b k) s = .next t ∧ BayOnly b s t ∧ t.bays[b].grp.chans.ch = s.bays[b].grp.chans.ch.set k
      { (s.bays[b].grp.chans.ch[k]) with retries := 0, onClean := 0 }) ∧
  (∀ s b (k : Fin 12), s.bays[(b : BayId)].ent 352 2 ≠ 0 → (s.bays[b].grp.chans.ch[k]).openFlag = false → (s.bays[b].grp.chans.ch[k]).st = 2 →
      0 < s.bays[b].ent 354 2 → 1000 * s.bays[b].ent 354 2 ≤ (s.bays[b].grp.chans.ch[k]).openRun →
    ∃ t, exec (.openLoadDetect b k) s = .next t ∧ BayOnly b s t ∧ t.bays[b].grp.chans.ch = s.bays[b].grp.chans.ch.set k
        { (s.bays[b].grp.chans.ch[k]) with openFlag := true, openClear := 0 } ∧
      Staged b [(8, ⟨96 + b.val, 0x0803, k.val + 2 ^ 4, s.sampleTick⟩)] s t) ∧
  (∀ s b at_, s.bays[(b : BayId)].grp.chans.uvOkSince = some at_ → s.bays[b].grp.chans.uvOff = true → at_ + 1000 * s.bays[b].ent 366 2 ≤ s.now →
    ∃ t, exec (.uvRestart b) s = .next t ∧ BayOnly b s t ∧ t.bays[b].grp.chans.uvOff = false ∧ t.bays[b].grp.chans.uvRun = 0 ∧
      (∀ k : Fin 12, s.bays[b].autoRestart k.val = true → t.bays[b].grp.chans.ch[k] = s.bays[b].grp.chans.ch[k]) ∧
      (∀ k : Fin 12, s.bays[b].autoRestart k.val = false → (t.bays[b].grp.chans.ch[k]).want = false ∧ (t.bays[b].grp.chans.ch[k]).blocked = true)) ∧
  (∀ s b (k : Fin 12) w x e, (s.bays[(b : BayId)].grp.chans.ch[k]).fw = some w → w.t + 20066 ≤ s.now → 4 * s.bays[b].ent 356 2 ≤ w.i0 → w.missing ≤ 16 →
      w.at64 = some x → w.atEnd = some e → x < s.bays[b].ent 356 2 →
    ∃ t, exec (.freewheelVerdict b k) s = .next t ∧ BayOnly b s t ∧ t.bays[b].grp.chans.ch = s.bays[b].grp.chans.ch.set k
      { (s.bays[b].grp.chans.ch[k]) with fw := none, noFw := false } ∧ Staged b [] s t) ∧
  (∀ s b (k : Fin 12) w x e, (s.bays[(b : BayId)].grp.chans.ch[k]).fw = some w → w.t + 20066 ≤ s.now → 4 * s.bays[b].ent 356 2 ≤ w.i0 → w.missing ≤ 16 →
      w.at64 = some x → w.atEnd = some e → s.bays[b].ent 356 2 ≤ x → s.bays[b].ent 356 2 ≤ e →
    ∃ t, exec (.freewheelVerdict b k) s = .next t ∧ BayOnly b s t ∧ t.bays[b].grp.chans.ch = s.bays[b].grp.chans.ch.set k
        { (s.bays[b].grp.chans.ch[k]) with fw := none, fault := .latched } ∧
      Staged b [(8, ⟨96 + b.val, 0x0805, k.val + 2 ^ 16 * satN 16 e, w.t + 20064⟩)] s t) ∧
  (∀ s b (k : Fin 12), s.bays[(b : BayId)].grp.chans.closed = true → s.bays[b].conChans = [k] → 16 ≤ (s.bays[b].grp.chans.ch[k]).failRun →
    ∃ t, exec (.contactorLost b) s = .next t ∧ BayOnly b s t ∧ t.bays[b].grp.chans.closed = false ∧ t.bays[b].grp.chans.lost = 2 ^ k.val ∧
      t.bays[b].grp.chans.ch = s.bays[b].grp.chans.ch ∧ Staged b [(8, ⟨96 + b.val, 0x080A, 2 ^ k.val, s.sampleTick⟩)] s t) ∧
  (∀ s b w, s.bays[(b : BayId)].grp.chans.weld = some w → bitsOf (s.bays[b].ent 346 1) 1 2 = 0 → w.t + 50002 ≤ s.now → s.bays[b].session.st ≠ .weldCheck →
    ∃ t, exec (.weldBlock b) s = .next t ∧ BayOnly b s t ∧ t.bays[b].grp.chans.weld = none ∧ t.bays[b].grp.chans.weldLast = 3 ∧
      t.bays[b].grp.chans.untested = bump 32 s.bays[b].grp.chans.untested ∧ t.bays[b].session = s.bays[b].session ∧
      Staged b [(8, ⟨b.val, 0x0808, 3, w.t + 50000⟩)] s t)

/-- R336 to R338: CHAN_STATUS reports to courts 0 and 2 and the owner; CHAN_SET takes wants for free channels of the owner's bay and refuses a channel
that is not free to set with NOT_PERMITTED and a latched one with BAD_STATE; CHAN_RESET takes latched channels. Both act from the next tick on. -/
def Obligations.ChannelCards : Prop :=
  (∀ o s (b : BayId), Serves o s → (FromCourt o [0, 2] ∨ 3 ≤ o.court.val ∧ s.owner b = o.court.val) →
    ∃ vals, exec (.chanStatus o b.val) s = .next (s.repliedOk o 0x0801
        ((List.replicate 12 [8, 8, 16, 8, 8, 16]).flatten ++ [16, 16, 16, 16, 32, 8, 8, 16, 32, 32, 32]) vals) ∧
      vals.head? = some (s.bays[b].grpCk.chans.ch[(0 : Fin 12)]).st ∧ vals.getLast? = some s.gens.bay[b]) ∧
  (∀ o s (b : BayId) mask on, Serves o s → o.court.val ≠ 1 → o.court.val ≠ 2 → s.owner b = o.court.val →
      (∀ k, k < 16 → bitOf mask k = true → bitOf s.bays[b].chanUsed k = true ∧ s.bays[b].isCon k = false ∧ s.bays[b].isEarth k = false ∧
        s.bays[b].isLed k = false) →
      (∀ k : Fin 12, bitOf mask k.val = true → bitOf on k.val = true → (s.bays[b].grp.chans.ch[k]).fault ≠ .latched ∧ s.bays[b].grp.chans.uvOff = false) →
    ∃ w, exec (.chanSet o b.val mask on) s = .next ((s.onGrpBoth b fun g => { g with chans := { g.chans with
      waiting := g.chans.waiting ++ [(s.now + 1, mask, on)] } }).repliedOk o 0x0802 [16, 16, 64] [w, 0, s.now + 2])) ∧
  (∀ o s (b : BayId) mask on k, Serves o s → o.court.val ≠ 1 → o.court.val ≠ 2 → s.owner b = o.court.val → k < 12 → bitOf mask k = true →
      s.bays[b].isCon k = true → exec (.chanSet o b.val mask on) s = .next (s.repliedNo o 0x0802 stNOT_PERMITTED 3 [16, 16, 64])) ∧
  (∀ o s (b : BayId) mask, Serves o s → o.court.val ≠ 1 → o.court.val ≠ 2 → s.owner b = o.court.val → mask < 2 ^ 12 →
      (∀ k : Fin 12, bitOf mask k.val = true → (s.bays[b].grp.chans.ch[k]).fault = .latched) →
    exec (.chanReset o b.val mask) s = .next ((s.onGrpBoth b fun g => { g with chans := { g.chans with
      waiting := g.chans.waiting ++ [(s.now + 1, mask, 2 ^ 16)] } }).repliedOk o 0x0803 [64] [s.now + 2]))

/-- R346 to R349, R351 to R356: the earth cell. A test that is due starts with the winding commanded on and ends in a verdict 100 ms later; seven days
without a verdict are reported; the bridge channels change over at a cycle's start; a cycle whose admission was lost is invalid with reason 1; the
first spectrum is the baseline; a failed self-test is cause 10; a cause latches the trip of its bay with EARTH_TRIP. Nothing but the bay changes. -/
def Obligations.EarthCell : Prop :=
  (∀ s b, s.bays[(b : BayId)].earthFlag 0 = true → s.bays[b].earth.test = none → s.bays[b].earth.testDue = true → s.bays[b].conOnCk = false →
      s.bays[b].earth.contactorOn = none →
    ∃ t, exec (.rcTestStart b) s = .next t ∧ BayOnly b s t ∧ Staged b [] s t ∧ t.bays[b].earth = { s.bays[b].earth with
      test := some ⟨s.now, s.bays[b].earth.iDc, s.bays[b].earth.iDc, true⟩, testDue := false, rcResult := 3,
      wants := putBit s.bays[b].earth.wants s.bays[b].rcTestCh true }) ∧
  (∀ s b x, s.bays[(b : BayId)].earth.test = some x → s.bays[b].earth.wait = none → x.start + 100003 ≤ s.now → x.good = true →
      ((7 * (s.bays[b].ent 410 2 * 100000) : Nat) : Int) ≤ 10 * (x.after - x.before) → 10 * (x.after - x.before) ≤ ((13 * (s.bays[b].ent 410 2 * 100000) : Nat) : Int) →
    ∃ t, exec (.rcTestEnd b) s = .next t ∧ BayOnly b s t ∧ t.bays[b].earth.test = none ∧ t.bays[b].earth.rcResult = 1 ∧
      t.bays[b].earth.lastVerdict = s.now ∧ t.bays[b].earth.rise = x.after - x.before ∧ t.bays[b].earth.line = s.bays[b].earth.line ∧
      Staged b [(7, ⟨96 + b.val, 0x0905, 1 + 2 ^ 16 * ubits 16 ((x.after - x.before) / 100000), s.now⟩)] s t) ∧
  (∀ s b x, s.bays[(b : BayId)].earth.test = some x → s.bays[b].earth.wait = none → x.start + 100003 ≤ s.now → x.good = false →
      s.bays[b].earth.trip = 0 → s.bays[b].earth.counted = 0 →
    ∃ t, exec (.rcTestEnd b) s = .next t ∧ BayOnly b s t ∧ t.bays[b].earth.test = none ∧ t.bays[b].earth.rcResult = 2 ∧
      t.bays[b].earth.trip = 5 ∧ t.bays[b].earth.line = s.bays[b].earth.line ++ [5]) ∧
  (∀ s b, s.bays[(b : BayId)].earthFlag 0 = true → max s.bays[b].earth.lastVerdict s.bays[b].earth.overdueAt + 604800000000 ≤ s.now →
    ∃ t, exec (.rcTestOverdue b) s = .next t ∧ BayOnly b s t ∧ t.bays[b].earth = { s.bays[b].earth with overdueAt := s.now } ∧
      Staged b [(7, ⟨96 + b.val, 0x0906, satN 16 ((s.now - s.bays[b].earth.lastVerdict) / 86400000000), s.now⟩)] s t) ∧
  (∀ s b, (s.now + 2) % 1000000 = 0 → s.bays[(b : BayId)].imdAdmits = true → s.bays[b].earth.cycle = none →
    ∃ t, exec (.imdHalfSwitch b) s = .next t ∧ BayOnly b s t ∧ Staged b [] s t ∧ t.bays[b].earth = { s.bays[b].earth with
      wants := putBit (putBit s.bays[b].earth.wants s.bays[b].imdP true) s.bays[b].imdN false,
      cycle := some ⟨s.now + 2, true, true, ImdHalf.zero, ImdHalf.zero⟩ }) ∧
  (∀ s b c, (s.now + 2) % 1000000 = 500000 → s.bays[(b : BayId)].earth.cycle = some c →
    ∃ t, exec (.imdHalfSwitch b) s = .next t ∧ BayOnly b s t ∧ Staged b [] s t ∧ t.bays[b].earth = { s.bays[b].earth with
      wants := putBit (putBit s.bays[b].earth.wants s.bays[b].imdP false) s.bays[b].imdN true }) ∧
  (∀ s b c, s.bays[(b : BayId)].earth.imdLast = some c → c.t + 1000001 ≤ s.now → c.admitted = false → s.bays[b].earth.wasValid = true →
    ∃ t, exec (.imdCycleEnd b) s = .next t ∧ BayOnly b s t ∧ t.bays[b].earth = { s.bays[b].earth with
        imdLast := none, lastInvalid := 1, insInvalid := bump 32 s.bays[b].earth.insInvalid, wasValid := false, badResults := 0, lastResult := s.now } ∧
      Staged b [(7, ⟨96 + b.val, 0x0904, 1, s.sampleTick⟩)] s t) ∧
  (∀ s b power mag, s.bays[(b : BayId)].earthFlag 2 = true → s.now % 100 = 1 ∨ s.now % 100 = 2 → s.bays[b].earth.base = [] →
    ∃ t, exec (.arcSpectrum b power mag) s = .next t ∧ BayOnly b s t ∧ Staged b [] s t ∧ t.bays[b].earth = { s.bays[b].earth with
      base := (List.range s.bays[b].arcBins.length).map (fun i => power.getD i 0), hot := 0 }) ∧
  (∀ s b, s.bays[(b : BayId)].earthFlag 2 = true → s.bays[b].earth.arcTestDue = true → s.bays[b].earth.wait = none → s.bays[b].earth.trip = 0 → s.bays[b].earth.counted = 0 →
    ∃ t, exec (.arcSelftest b false) s = .next t ∧ BayOnly b s t ∧ t.bays[b].earth.trip = 10 ∧ t.bays[b].earth.arcTestDue = false ∧
      t.bays[b].earth.line = s.bays[b].earth.line ++ [10] ∧ Staged b [(7, ⟨96 + b.val, 0x0907, 2, s.now⟩)] s t) ∧
  (∀ s b, s.bays[(b : BayId)].earth.line ≠ [] →
    ∃ t, exec (.earthTrip b) s = .next t ∧ BayOnly b s t ∧ t.bays[b].earthLatch = true ∧
      t.bays[b].earth = { s.bays[b].earth with line := [] } ∧
      Staged b [(7, ⟨96 + b.val, 0x0901, (s.bays[b].earth.trip + 2 ^ 8 * s.bays[b].earth.counted) % 2 ^ 32, s.now⟩)] s t)

/-- R360 to R362: EARTH_STATUS reports to courts 0 and 2 and the owner; EARTH_RESET by courts 0 and 2 frees the latch at the next boundary where every
cause has met its condition and answers BAD_STATE without a trip; EARTH_TEST makes the tests of the bay due and is answered when they are done. -/
def Obligations.EarthCards : Prop :=
  (∀ o s (b : BayId), Serves o s → (FromCourt o [0, 2] ∨ 3 ≤ o.court.val ∧ s.owner b = o.court.val) →
    ∃ vals, exec (.earthStatus o b.val) s = .next (s.repliedOk o 0x0901
        [8, 16, 8, 32, 32, 8, 8, 8, 8, 16, 16, 16, 32, 16, 8, 8, 32, 32, 32, 32, 32, 64, 64, 32] vals) ∧
      vals.take 3 = [s.bays[b].earthCk.trip, s.bays[b].earthCk.counted, s.bays[b].earthCk.rcResult] ∧ vals.getLast? = some s.gens.bay[b]) ∧
  (∀ o s (b : BayId), Serves o s → FromCourt o [0, 2] → s.bays[b].earthCk.trip ≠ 0 →
      (∀ c, c ∈ s.bays[b].earthCk.standing → s.bays[b].resetMet s.now c = true) →
    exec (.earthReset o b.val) s = .next ((s.onBay b fun y => { y with earthFree := true }).repliedOk o 0x0902 [64] [s.now + 1])) ∧
  (∀ o s (b : BayId), Serves o s → FromCourt o [0, 2] → s.bays[b].earthCk.trip = 0 →
    exec (.earthReset o b.val) s = .next (s.repliedNo o 0x0902 stBAD_STATE 0 [64])) ∧
  (∀ o s (b : BayId), Serves o s → FromCourt o [0, 2] → s.bays[b].conOnCk = false → s.bays[b].earthCk.contactorOn = none →
      s.bays[b].earthCk.wait = none → s.bays[b].earthFlag 0 = true → s.bays[b].earthFlag 2 = true → s.bays[b].earth.test = none →
    ∃ t, exec (.earthTest o b.val) s = .next t ∧ BayOnly b (s.take o.court o.mbx 0x0903 [8, 8, 16, 32]) t ∧
      t.bays[b].earth = { s.bays[b].earth with testDue := true, arcTestDue := true, wait := some ⟨o, none, none⟩ } ∧
      (t.mbox o.court o.mbx).out = (s.mbox o.court o.mbx).out)

/-- R366, R376 to R378, R380, R383, R384, R386, R400: counting. The meter cell processes the next index once it is due and commits one record for it; a
lost index gives a record without energy; a late cell stops its meter; a pulse starts at its planned tick and ends after its width; a long enough S0
pulse counts and a short one is counted as short; a COUNTING record adds to the registers of its meter and of the site meter, another adds nothing. -/
def Obligations.Counting : Prop :=
  (∀ s b, s.bays[(b : BayId)].meterOff = false → 16 * s.bays[b].meter.next + 258 ≤ s.now →
    ∃ t, exec (.meterIndex b) s = .next t ∧ t.bays[b].meter.next = s.bays[b].meter.next + 1 ∧
      ∃ r, t.bays[b].meter.records = s.bays[b].meter.records ++ [r] ∧ r.stamp = 16 * s.bays[b].meter.next) ∧
  (∀ s b, s.bays[(b : BayId)].meterOff = false → 16 * s.bays[b].meter.next + 258 ≤ s.now → s.bays[b].present? s.bays[b].meter.next = none →
      s.bays[b].meter.last = none →
    ∃ t, exec (.meterIndex b) s = .next t ∧ t.bays[b].meter.lost = true ∧ t.bays[b].meter.accImp = s.bays[b].meter.accImp ∧
      t.bays[b].meter.accExp = s.bays[b].meter.accExp ∧
      ∃ r, t.bays[b].meter.records = s.bays[b].meter.records ++ [r] ∧ r.whImp = 0 ∧ r.whExp = 0) ∧
  (∀ s b, s.legal.lastRecord[(b : BayId)] + 32 ≤ s.now → s.bays[b].meterOff = false → s.unverified s.bays[b] = 0 → s.bays[b].serving = true →
      s.bays[b].meter.lost = false →
    ∃ t, exec (.meterCellTimeout b) s = .next t ∧ t.legal.cellLate = s.legal.cellLate ||| BitVec.ofNat 96 (2 ^ b.val) ∧
      t.bays[b].meter.st = .suspended ∧ t.bays[b].meter.reason = 18) ∧
  (∀ s (i : Fin 8) at_ q, s.pulses.balls[i].queue = at_ :: q → at_ ≤ s.now → s.pulses.balls[i].level = false → s.pulses.balls[i].gapUntil ≤ s.now →
    ∃ t, exec (.pulseStart (.ball i)) s = .next t ∧ t = { s with pulses := { s.pulses with balls := s.pulses.balls.set i t.pulses.balls[i] } } ∧
      t.pulses.balls[i] = { s.pulses.balls[i] with queue := q, level := true, until_ := s.now + s.pulses.balls[i].width, gapUntil := s.now + 2 * s.pulses.balls[i].width, late := t.pulses.balls[i].late }) ∧
  (∀ s b at_ q, s.bays[(b : BayId)].meter.led.queue = at_ :: q → s.now < at_ → exec (.pulseStart (.led b)) s = .next s) ∧
  (∀ s b, s.bays[(b : BayId)].meter.led.level = true → s.bays[b].meter.led.until_ ≤ s.now →
    ∃ t, exec (.pulseEnd (.led b)) s = .next t ∧ BayOnly b s t ∧ t.bays[b].meter = { s.bays[b].meter with
      led := { s.bays[b].meter.led with level := false } }) ∧
  (∀ s (i : Fin 8) idle on, s.pulses.s0[i].set = true → 1000 * s.pulses.s0[i].minMs ≤ on → 1000 * s.pulses.s0[i].minMs ≤ idle →
    exec (.s0Pulse i idle on) s = .next { s with pulses := { s.pulses with s0 := s.pulses.s0.set i { s.pulses.s0[i] with
      count := (s.pulses.s0[i].count + 1) % 2 ^ 64, lastTick := s.now } } }) ∧
  (∀ s (i : Fin 8) idle on, s.pulses.s0[i].set = true → on < 1000 * s.pulses.s0[i].minMs →
    exec (.s0Pulse i idle on) s = .next { s with pulses := { s.pulses with s0 := s.pulses.s0.set i { s.pulses.s0[i] with
      short := bump 32 s.pulses.s0[i].short } } }) ∧
  (∀ s b r l, s.bays[(b : BayId)].meterCk.records = r :: l → s.legal.stopped = false → s.legal.due = [] → r.state = 2 →
    ∃ t, exec (.energyRecord b) s = .next t ∧ t.bays[b].meterCk.records = l ∧
      t.legal.regs.meters[meterOf b].energy[0] = add72 s.legal.regs.meters[meterOf b].energy[0] r.whImp ∧
      t.legal.regs.meters[siteMeter].energy[0] = add72 s.legal.regs.meters[siteMeter].energy[0] r.whImp ∧
      t.legal.regs.meters[meterOf b].energy[1] = add72 s.legal.regs.meters[meterOf b].energy[1] r.whExp) ∧
  (∀ s b r l, s.bays[(b : BayId)].meterCk.records = r :: l → s.legal.stopped = false → s.legal.due = [] → r.state ≠ 2 →
    ∃ t, exec (.energyRecord b) s = .next t ∧ t.bays[b].meterCk.records = l ∧
      ∀ m : Fin 97, t.legal.regs.meters[m].energy = s.legal.regs.meters[m].energy ∧ t.legal.regs.meters[m].impT = s.legal.regs.meters[m].impT) ∧
  (∀ s b, s.legal.stopped = true → exec (.energyRecord b) s = .next s)

/-- R389 to R395: meters. METER_STATUS, METER_READ and METER_HARMONICS report to courts 0 and 1 and the owner; a calibration table that passes is armed
for its bay and turned away with LEGAL_LOCK while a session is under way; pulse outputs and S0 inputs are set at a later tick; S0_READ reports the
counts. -/
def Obligations.MeterCards : Prop :=
  (∀ o s (b : BayId), Serves o s → (FromCourt o [0, 1] ∨ 3 ≤ o.court.val ∧ s.owner b = o.court.val) →
    ∃ vals, exec (.meterStatus o b.val) s = .next (s.repliedOk o 0x0A01
        ([8, 8, 8, 8, 384, 64, 16, 16, 32] ++ (List.replicate 8 [16, 32]).flatten ++ [32, 32, 32, 32, 64, 32]) vals) ∧
      vals.take 2 = [s.bays[b].meterCk.st.code, s.bays[b].meterCk.reason] ∧ vals.getLast? = some s.gens.bay[b]) ∧
  (∀ o s (b : BayId) r, Serves o s → (FromCourt o [0, 1] ∨ 3 ≤ o.court.val ∧ s.owner b = o.court.val) → s.bays[b].meterOff = false →
      s.bays[b].meterCk.reading = some r →
    ∃ vals, exec (.meterRead o b.val) s = .next (s.repliedOk o 0x0A02
        ([8, 8, 16, 64, 64, 32, 32] ++ (List.replicate 8 [32, 16, 16]).flatten ++ List.replicate 13 32 ++ [16, 16]) vals) ∧
      vals.take 7 = [s.bays[b].meterCk.st.code, r.flags, 0, r.first, r.last, r.gen, r.freq]) ∧
  (∀ o s (b : BayId), Serves o s → (FromCourt o [0, 1] ∨ 3 ≤ o.court.val ∧ s.owner b = o.court.val) → s.bays[b].meterOff = true →
    exec (.meterRead o b.val) s = .next (s.repliedNo o 0x0A02 stBAD_STATE 0
      ([8, 8, 16, 64, 64, 32, 32] ++ (List.replicate 8 [32, 16, 16]).flatten ++ List.replicate 13 32 ++ [16, 16]))) ∧
  (∀ o s (b : BayId) ch h, Serves o s → (FromCourt o [0, 1] ∨ 3 ≤ o.court.val ∧ s.owner b = o.court.val) → ch < 8 →
      bitOf (s.bays[b].calGet 2 1) ch = true → s.bays[b].meterCk.harmonics.find? (·.ch == ch) = some h →
    exec (.meterHarmonics o b.val ch) s = .next (s.repliedOk o 0x0A03 ([64, 32, 32] ++ List.replicate 39 16) ([h.last, h.gen, h.h1] ++ h.hs))) ∧
  (∀ o s (b : BayId) x d, Serves o s → FromCourt o [0, 1] → s.xfer? o.court x = some d → s.bays[b].calLocked = false →
      (s.courts[o.court].inXfers.filter (!·.closed)).length < 4 →
    ∃ t, exec (.calLoad o b.val x) s = .next t ∧ ∀ p, Config.cosePayload d.data = some p → calTableOk p = true →
      s.calKeyCheck d.data ((p.drop 64).take 65) (leGet p 3 1) = none → Arms o 0x0A10 [384, 32, 64] (.calLoad o.court b.val x) s t) ∧
  (∀ o s (b : BayId) x d, Serves o s → FromCourt o [0, 1] → s.xfer? o.court x = some d → s.bays[b].calLocked = true →
    ∃ t, exec (.calLoad o b.val x) s = .next t ∧ ∀ p, Config.cosePayload d.data = some p → calTableOk p = true →
      Answered o 0x0A10 stLEGAL_LOCK 0 false s t ∧ t.armed = s.armed) ∧
  (∀ o s ball (b : BayId) source pol const width, Serves o s → FromCourt o [0, 1] → ball < 8 → source ≤ 1 → pol ≤ 1 → 1 ≤ const → const ≤ 100000 →
      10 ≤ width → width ≤ 65535 → s.bays[b].meterOff = false →
    ∃ t, exec (.pulseMap o ball b.val source pol const width) s = .next t ∧
      Arms o 0x0A20 [32, 64] (.pulseMap ball b.val source pol const width) s t) ∧
  (∀ o s inp pol ms const, Serves o s → FromCourt o [0] → inp < 8 → pol ≤ 1 → 2 ≤ ms → ms ≤ 200 → 1 ≤ const → const ≤ 100000 →
    ∃ t, exec (.s0Config o inp pol ms const) s = .next t ∧ Arms o 0x0A21 [32, 64] (.s0Config inp pol ms const) s t) ∧
  (∀ o s, Serves o s → FromCourt o [0, 1] →
    exec (.s0Read o) s = .next (s.repliedOk o 0x0A22 ((List.replicate 8 [64, 32, 64, 64]).flatten)
      (s.pulses.s0.toList.flatMap fun p => [p.count, p.short, p.count * 1000000 / p.const, p.lastTick])))

/-- R400, R402, R404 to R407, R410, R419, R420: the legal court. Demands form once their interval's records are in; a tariff switch begins a new interval;
a passive calendar is activated at its time; a due reading is taken with its registers and time; a sweep leaves the registers in the island; counting
stops at the fall of the supply and goes on after the final sweep; time becomes valid once the epoch is set. -/
def Obligations.LegalCourt : Prop :=
  (∀ s e, s.legal.subEnd = some e → e + 259 ≤ s.now → s.legal.stopped = false →
    ∃ t, exec .demandIntervalEnd s = .next t ∧ t.bays = s.bays ∧ t.courts = s.courts ∧
      (∀ m : Fin 97, t.legal.regs.meters[m].energy = s.legal.regs.meters[m].energy ∧ s.legal.regs.meters[m].mdImp.w ≤ t.legal.regs.meters[m].mdImp.w ∧
        s.legal.regs.meters[m].mdExp.w ≤ t.legal.regs.meters[m].mdExp.w)) ∧
  (∀ s, s.legal.tariffAt s.now ≠ s.legal.tariff →
    exec .tariffSwitch s = .next { s with legal := { s.legal with tariff := s.legal.tariffAt s.now, tariffSplit := false } }) ∧
  (∀ s, s.legal.tariffAt s.now = s.legal.tariff → exec .tariffSwitch s = .next s) ∧
  (∀ s cal at_, s.legal.passive = some (cal, at_) → s.legal.valid = true → at_ ≤ s.legal.utc s.now →
    ∃ t, exec .calendarActivate s = .next t ∧ t.legal.active = some cal ∧ t.legal.passive = none ∧
      t.legal.regs.activeHash = s.legal.regs.passiveHash ∧ t.legal.regs.passiveHash = 0 ∧ t.legal.regs.meters = s.legal.regs.meters ∧
      t.bays = s.bays ∧ ∃ es, Raised es s t ∧ ⟨385, 0x0B14, s.legal.regs.passiveHash % 2 ^ 32, s.now⟩ ∈ es) ∧
  (∀ s cal at_, s.legal.passive = some (cal, at_) → s.legal.utc s.now < at_ → exec .calendarActivate s = .next s) ∧
  (∀ s b tick, s.legal.due = [⟨b, false, tick⟩] → s.legal.stopped = false → tick + 259 ≤ s.now →
    ∃ t, exec (.sessionReading b) s = .next t ∧ t = { s with legal := t.legal, evt := t.evt } ∧ t.legal.due = [] ∧ t.legal.sesStart[b] = tick ∧
      t.legal.regs.meters[meterOf b] = { s.legal.regs.meters[meterOf b] with
        ses := (s.legal.regs.meters[meterOf b].ses.set 0 s.legal.regs.meters[meterOf b].energy[0]).set 1 s.legal.regs.meters[meterOf b].energy[1],
        start := s.legal.stamp tick, flags := s.legal.regs.meters[meterOf b].flags ||| 3 }) ∧
  (∀ s b tick, s.legal.due = [⟨b, true, tick⟩] → s.legal.stopped = false → tick + 259 ≤ s.now →
    ∃ t, exec (.sessionReading b) s = .next t ∧ t.legal.due = [] ∧ t.legal.sesStop[b] = tick ∧
      t.legal.regs.meters[meterOf b] = { s.legal.regs.meters[meterOf b] with
        ses := (s.legal.regs.meters[meterOf b].ses.set 2 s.legal.regs.meters[meterOf b].energy[0]).set 3 s.legal.regs.meters[meterOf b].energy[1],
        stop := s.legal.stamp tick, flags := (s.legal.regs.meters[meterOf b].flags ||| 4) &&& 0xFE }) ∧
  (∀ s, s.now % 1000 = 0 →
    ∃ t, exec .mirrorSweep s = .next t ∧ t = { s with legal := { s.legal with mirror := t.legal.mirror } } ∧ t.legal.mirror.mark = true ∧
      t.legal.mirror.tick = s.readingTick ∧ t.legal.mirror.final = false ∧ t.legal.mirror.regs.meters = s.legal.regs.meters ∧
      t.legal.mirror.regs.tamper = s.legal.regs.tamper) ∧
  (∀ s, exec .pfailFall s = .next { s with legal := { s.legal with stopped := true, finalCopy := some (s.readingTick, s.legal.regs) } }) ∧
  (∀ s tick r, s.legal.finalCopy = some (tick, r) →
    ∃ t, exec .finalSweepDone s = .next t ∧ t = { s with legal := { s.legal with finalCopy := none, stopped := false, mirror := t.legal.mirror } } ∧
      t.legal.mirror.final = true ∧ t.legal.mirror.tick = tick ∧ t.legal.mirror.regs.meters = r.meters) ∧
  (∀ s, s.legal.valid = false → s.clock.epochSet = true →
    ∃ t, exec .legalTimeValid s = .next t ∧ t.legal.valid = true ∧ t.legal.onceValid = true ∧ t.legal.timeValidAt = s.now ∧ t.legal.waiting = [] ∧
      t.bays = s.bays ∧ t.clock = s.clock ∧ ∃ es, Raised es s t ∧ ⟨385, 0x0B12, 1, s.now⟩ ∈ es) ∧
  (∀ s, s.clock.epochSet = false → exec .legalTimeValid s = .next s)

/-- R423, R424, R430 to R438: the commands of the legal court. Registers, tamper record, status and log are reported; a reading is signed once and
counted; a calendar comes into force at the next tick or waits for its time; a configuration with a good signature takes effect at the next tick; a
checkpoint goes out as a bulk transfer; a restore that the island asks for merges at the next tick. -/
def Obligations.LegalCards : Prop :=
  (∀ o s (b : BayId), Serves o s → (FromCourt o [0, 1] ∨ 3 ≤ o.court.val ∧ s.owner b = o.court.val) →
    exec (.legalRead o b.val) s = .next (s.repliedOk o 0x0B01 ([16, 8, 8, 64, 64, 32] ++ List.replicate 34 72)
      ([s.readingStatus (meterOf b) 1, s.bays[b].meterCk.st.code, 0, s.readingTick, (s.legal.stamp s.readingTick).utc, (s.legal.stamp s.readingTick).tis] ++
        (s.legal.regs.meters[meterOf b]).words))) ∧
  (∀ o s (m : Fin 97) reg n nonce, Serves o s → (FromCourt o [0] ∨ 3 ≤ o.court.val ∧ ∃ b : BayId, b.val = m.val ∧ s.owner b = o.court.val) →
      regClass m.val reg ≠ 0 → (regClass m.val reg = 4 → bitOf (s.legal.regs.meters[m]).flags (if reg < 0x32 then 1 else 2) = true) →
      n ≤ 32 → (nonce.drop n).all (· == (0 : Byte)) = true → (s.legalAlg = 1 → s.keys.trng = .ready) →
    ∃ t, exec (.legalSign o m.val reg n nonce) s = .next t ∧ Answered o 0x0B02 stOK 0 false s t ∧ t = { s.legalSigned with
      courts := t.courts
      legal := { s.legal with
        regs := { s.legal.regs with readingSeq := s.legal.regs.readingSeq + 1,
                                    restored := s.legal.regs.restored &&& ~~~(BitVec.ofNat 97 (2 ^ m.val)) } } }) ∧
  (∀ o s, Serves o s → FromCourt o [0, 1] →
    exec (.tamperRead o) s = .next (s.repliedOk o 0x0B03 ((List.replicate 16 [32, 64, 64]).flatten)
      ((s.legal.regs.tamper.toList.map fun x => [x.count, x.first, x.last]).flatten))) ∧
  (∀ o s seq count flags, Serves o s → FromCourt o [0, 1] → s.bulkFree o.court = true →
      (s.legal.regs.log.any (·.seq == seq)) = true → 1 ≤ count → count ≤ 4096 → flags < 4 →
      (bitOf flags 0 = true → s.legalAlg = 1 → s.keys.trng = .ready) →
    ∃ t, exec (.logRead o seq count flags) s = .next t ∧ Answered o 0x0B04 stOK 0 true s t ∧
      t = { (if bitOf flags 0 then s.legalSigned else s) with
        courts := t.courts
        legal := { s.legal with regs := { s.legal.regs with
          logAck := if bitOf flags 1 then seq + (s.legal.regs.logFrom seq count).length else s.legal.regs.logAck } } }) ∧
  (∀ o s, Serves o s →
    ∃ vals, exec (.legalStatus o) s = .next (s.repliedOk o 0x0B05
        [8, 8, 8, 8, 64, 32, 64, 64, 32, 32, 32, 8, 8, 8, 8, 8, 8, 16, 384, 384, 384, 64, 64] vals) ∧
      vals.take 2 = [b2n s.legal.valid, b2n s.legal.regs.restoreOpen] ∧ vals.getLast? = some s.legal.mirror.tick) ∧
  (∀ o s x d, Serves o s → FromCourt o [0] → s.xfer? o.court x = some d → d.data.length = 640 → calendarOk d.data = true → s.legal.valid = true →
      s.legal.activeSeen = false → s.legal.regs.activeHash = Config.sha384 d.data →
    ∃ t, exec (.calendarLoadActive o x 0) s = .next t ∧ (Config.sha384 d.data ≠ 0 → Answered o 0x0B10 stOK 0 false s t ∧
      t.legal.active = some d.data ∧ t.legal.loadedSince = true ∧ t.legal.regs.meters = s.legal.regs.meters ∧ t.xfer? o.court x = none)) ∧
  (∀ o s x d act, Serves o s → FromCourt o [0] → s.xfer? o.court x = some d → d.data.length = 640 → calendarOk d.data = true → s.legal.valid = true →
      s.legal.utc s.now + 60 ≤ act →
    ∃ t, exec (.calendarLoadPassive o x act) s = .next t ∧ Answered o 0x0B10 stOK 0 false s t ∧ t.legal.passive = some (d.data, act) ∧
      t.legal.regs.passiveHash = Config.sha384 d.data ∧ t.legal.regs.passiveAt = act ∧ t.legal.active = s.legal.active ∧ t.xfer? o.court x = none) ∧
  (∀ o s x d, Serves o s → FromCourt o [0, 1] → s.xfer? o.court x = some d →
    ∃ t, exec (.legalConfig o x) s = .next t ∧ ∀ p c, Config.cosePayload d.data = some p → parseLegalCfg p = some c →
      s.calKeyCheck d.data ((p.drop 16).take 65) (leGet p 81 1) = none → Config.sha384 p ≠ s.legal.regs.cfgHash →
      Answered o 0x0B11 stOK 0 false s t ∧ t.legal.cfgNext = some (s.now + 1, c, Config.sha384 p) ∧
      t.legal.regs.cfg = s.legal.regs.cfg ∧ t.xfer? o.court x = none) ∧
  (∀ o s, Serves o s → FromCourt o [0, 1] → s.bulkFree o.court = true → (s.legalAlg = 1 → s.keys.trng = .ready) →
    ∃ t, exec (.legalCheckpoint o) s = .next t ∧ Answered o 0x0B20 stOK 0 true s t ∧ t = { s.legalSigned with courts := t.courts }) ∧
  (∀ o s x d, Serves o s → FromCourt o [0, 1] → s.legal.regs.restoreOpen = true → s.legal.restoreNext = none → s.legal.valid = true →
      s.xfer? o.court x = some d →
    ∃ t, exec (.legalRestore o x) s = .next t ∧ ∀ p ser utc ws, Config.cosePayload d.data = some p → parseCheckpoint p = some (ser, utc, ws) →
      ser = s.keys.fuses.serial → bitsOf (leGet ws 0 9) 16 8 = 1 → utc ≤ s.legal.utc s.now →
      Config.coseCheck d.data (s.pubKey 1 legalKeyId s.legalAlg) = 0 →
      Answered o 0x0B21 stOK 0 false s t ∧ t.legal.restoreNext = some (s.now + 1, regsOfWords ws) ∧
      t.legal.regs.meters = s.legal.regs.meters ∧ t.xfer? o.court x = none)

/-- R441, R443, R449, R450, R452 to R455: the display. A frame that was read is hashed, planned and answered; a frame that cannot be read fails with
reason 2; a minute adds the tile means of the frame shown to the stress counters; the gains are computed anew once a day; the owner's DISP_SHOW asks
for the next frame and a generation already held is BAD_STATE; status, stress and the loading of counters are for court 0 and the owner. -/
def Obligations.Display : Prop :=
  (∀ s b j img, s.bays[(b : BayId)].grp.disp.read = some j → s.host.port = .pcie → s.mirroring = false →
      (s.mbox j.origin.court j.origin.mbx).running.isSome = true →
    ∃ t x, exec (.dispFrameRead b (some img)) s = .next t ∧ t.bays[b].grp.disp.read = none ∧ t.bays[b].grp.disp.xfer = some x ∧ x.job = j ∧
      x.frame = s.bays[b].dispFrame j.gen img ∧ x.from_ = s.now + 1 ∧ x.opened = false ∧ (t.mbox j.origin.court j.origin.mbx).running = none) ∧
  (∀ s b j, s.bays[(b : BayId)].grp.disp.read = some j → s.host.port = .pcie → s.mirroring = false → s.bays[b].grp.disp.xfer = none →
      (s.mbox j.origin.court j.origin.mbx).running.isSome = true →
    ∃ t, exec (.dispFrameRead b none) s = .next t ∧ t.bays[b].grp.disp.read = none ∧ t.bays[b].grp.disp.xfer = none ∧
      t.bays[b].grp.disp.fails = bump 32 s.bays[b].grp.disp.fails ∧ (t.mbox j.origin.court j.origin.mbx).running = none ∧
      Raised [dispEvent b 0x0C02 (j.gen + 2 ^ 16 * 2) s.now] s t) ∧
  (∀ s, s.now % 60000000 ≠ 0 → exec .dispStressMinute s = .next s) ∧
  (∀ s, s.now % 60000000 = 0 →
    ∃ t, exec .dispStressMinute s = .next t ∧ t = { s with bays := t.bays, free := t.free } ∧
      (∀ b : BayId, s.bays[b].ageEn = false → t.bays[b] = s.bays[b]) ∧
      (∀ (b : BayId) k (i : Fin 600), s.bays[b].ageEn = true → s.bays[b].grp.disp.held ≠ 0 → s.bays[b].grp.disp.base = some k →
        k.gen = s.bays[b].grp.disp.held →
        t.bays[b].grp.disp.stress.getD i.val 0 = satN 32 (s.bays[b].grp.disp.stress.getD i.val 0 + k.tiles.getD i.val 0))) ∧
  (∀ s, s.now % 86400000000 = 0 →
    ∃ t, exec .dispGainDaily s = .next t ∧ t = { s with bays := t.bays } ∧
      (∀ b : BayId, s.bays[b].ageEn = false → t.bays[b] = s.bays[b]) ∧
      (∀ b : BayId, s.bays[b].ageEn = true → t.bays[b].grp.disp = { s.bays[b].grp.disp with
        gains := s.bays[b].grp.disp.stress.map (ageGain (s.bays[b].ent 470 2) s.bays[b].grp.disp.sMax) })) ∧
  (∀ s, s.now % 86400000000 ≠ 0 → exec .dispGainDaily s = .next s) ∧
  (∀ o s (b : BayId) flags gen addr, Serves o s → o.court.val ≠ 1 → o.court.val ≠ 2 → s.owner b = o.court.val → s.host.port = .pcie → flags < 2 →
      gen ≠ 0 → addr % 8 = 0 → s.bays[b].dispEn = true → s.bays[b].link.st = .service → s.bays[b].grpCk.disp.held ≠ gen →
      s.bays[b].grpCk.disp.read = none → s.bays[b].grpCk.disp.xfer = none → s.bays[b].grp.disp.read = none → s.bays[b].grp.disp.xfer = none →
    ∃ t, exec (.dispShow o b.val flags gen addr 0 0 0 0) s = .next t ∧ BayOnly b (s.take o.court o.mbx 0x0C01 [16, 8, 8, 64]) t ∧
      t.bays[b].grp.disp = { s.bays[b].grp.disp with read := some ⟨o, bitOf flags 0, gen, addr, [0, 0, 0, 0]⟩ }) ∧
  (∀ o s (b : BayId) flags gen addr, Serves o s → o.court.val ≠ 1 → o.court.val ≠ 2 → s.owner b = o.court.val → s.host.port = .pcie → flags < 2 →
      gen ≠ 0 → addr % 8 = 0 → s.bays[b].grpCk.disp.held = gen →
    exec (.dispShow o b.val flags gen addr 0 0 0 0) s = .next (s.repliedNo o 0x0C01 stBAD_STATE 0 [16, 8, 8, 64])) ∧
  (∀ o s (b : BayId), Serves o s → (FromCourt o [0] ∨ 3 ≤ o.court.val ∧ s.owner b = o.court.val) →
    ∃ vals, exec (.dispStatus o b.val) s = .next (s.repliedOk o 0x0C02 [8, 8, 16, 16, 16, 32, 32, 32, 32, 32] vals) ∧
      vals.head? = some s.bays[b].grpCk.disp.stateCode ∧ vals.getLast? = some s.gens.bay[b]) ∧
  (∀ o s (b : BayId), Serves o s → (FromCourt o [0] ∨ 3 ≤ o.court.val ∧ s.owner b = o.court.val) → s.bays[b].ageEn = true → s.bulkFree o.court = true →
      s.bays[b].grpCk.disp.stress ≠ [] →
    ∃ t, exec (.dispStressRead o b.val) s = .next t ∧ Answered o 0x0C10 stOK 0 true s t ∧ t = { s with courts := t.courts }) ∧
  (∀ o s (b : BayId) x d, Serves o s → (FromCourt o [0] ∨ 3 ≤ o.court.val ∧ s.owner b = o.court.val) → s.xfer? o.court x = some d → d.data.length = 2400 →
      s.bays[b].ageEn = true → s.bays[b].grpCk.disp.loaded = false →
    ∃ t, exec (.dispStressLoad o b.val x) s = .next t ∧ Answered o 0x0C11 stOK 0 false s t ∧ t = { s with bays := s.bays.set b t.bays[b], courts := t.courts } ∧
      t.bays[b].grp.disp.loaded = true ∧ t.bays[b].grp.disp.stress = (List.range 600).map fun (i : Nat) =>
        satN 32 (s.bays[b].grp.disp.stress.getD i 0 + leGet d.data (4 * i) 4))

/-- R470 to R480: the site power ledger. A loop that misses its allocation falls back; values that have become too old are marked and reported; power
above the import limit for OVER_MS is reported; a configuration is armed; base load, store and grid values take effect at the next tick and are
refused outside their ranges; the ledger reports the site to everyone, whole only to court 0, and a bay to court 0 and the owner. -/
def Obligations.SiteLedger : Prop :=
  (∀ s b, 8 < s.bays[(b : BayId)].taken.miss → s.bays[b].taken.fallback = false → s.bays[b].inUse = true →
    ∃ t, exec (.ledgerFallback b) s = .next t ∧ BayOnly b s t ∧ t.bays[b].taken = { s.bays[b].taken with fallback := true, raised := true } ∧
      Staged b [(4, ⟨358, 0x0D07, b.val, s.now⟩)] s t) ∧
  (∀ s b, s.bays[(b : BayId)].taken.miss ≤ 8 → exec (.ledgerFallback b) s = .next s) ∧
  (∀ s (b : BayId) v, s.ledger.store[b] = some v → v.stale = false → v.tick + 10000000 ≤ s.now →
    ∃ t, exec .ledgerStale s = .next t ∧ t.ledger.store[b] = some { v with stale := true } ∧ t.ledger.grants = s.ledger.grants ∧ t.ledger.cfg = s.ledger.cfg ∧
      t.legal = s.legal ∧ t.courts = s.courts) ∧
  (∀ s (b : BayId) v, s.ledger.grid[b] = some v → v.stale = false → v.tick + 10000000 ≤ s.now →
    ∃ t, exec .ledgerStale s = .next t ∧ t.ledger.grid[b] = some { v with stale := true }) ∧
  (∀ s c at_, s.ledger.cfg = some c → s.ledger.overSince = some at_ → at_ + 1000 * c.overMs ≤ s.now → s.ledger.overRaised = false → s.ledger.expSince = none →
      s.ledger.root = 0 →
    ∃ t, exec .ledgerOver s = .next t ∧ t = { s with bays := s.bays.set 0 t.bays[(0 : BayId)], ledger := { s.ledger with overRaised := true } } ∧
      Staged 0 [(10, ⟨352, 0x0D01, sat32 s.ledger.site.pSite % 2 ^ 32, s.now⟩)] s t) ∧
  (∀ s, s.ledger.cfg = none → exec .ledgerOver s = .next s) ∧
  (∀ o s (imp exp res peak fl bmax btime ms : Nat), Serves o s → FromCourt o [0] → 1 ≤ imp → imp ≤ 400000000 → exp ≤ 400000000 → res ≤ peak → peak ≤ imp →
      -(exp : Int) ≤ sval 32 fl → sval 32 fl ≤ (peak : Int) → bmax ≤ 400000000 → 1 ≤ btime → btime ≤ 3600 → 1 ≤ ms → ms ≤ 60000 →
    ∃ t, exec (.ledgerConfig o imp exp res peak fl bmax btime ms) s = .next t ∧
      Arms o 0x0D01 [32, 64] (.ledgerConfig ⟨imp, exp, res, peak, sval 32 fl, bmax, btime, ms⟩) s t) ∧
  (∀ o s (imp exp res peak fl bmax btime ms : Nat), Serves o s → FromCourt o [0] → imp = 0 →
    exec (.ledgerConfig o imp exp res peak fl bmax btime ms) s = .next (s.repliedNo o 0x0D01 stRANGE 1 [32, 64])) ∧
  (∀ o s base, Serves o s → FromCourt o [0] → -400000000 ≤ sval 32 base → sval 32 base ≤ 400000000 → s.ledger.baseStale = false →
    exec (.siteBase o base) s = .next (({ s with ledger := { s.ledger with
      baseNext := some (sval 32 base, s.now + 1), baseStale := false } } : State).repliedOk o 0x0D10 [64] [s.now + 1])) ∧
  (∀ o s (b : BayId) chg dis p v, Serves o s → o.court.val ≠ 1 → o.court.val ≠ 2 → s.owner b = o.court.val → s.bays[b].kind = 4 →
      chg ≤ s.bays[b].ent 32 4 → dis ≤ s.bays[b].ent 36 4 → 1 ≤ v → v ≤ s.bays[b].ent 24 4 → s.ledger.store[b] = none →
    exec (.ledgerStore o b.val chg dis p v) s = .next (({ s with ledger := { s.ledger with
      storeNext := s.ledger.storeNext ++ [(b, ⟨chg, dis, sval 32 p, v, s.now + 1, false⟩)] } } : State).repliedOk o 0x0D11 [64] [s.now + 1])) ∧
  (∀ o s (b : BayId) p v phi, Serves o s → o.court.val ≠ 1 → o.court.val ≠ 2 → s.owner b = o.court.val → s.bays[b].kind = 5 →
      1 ≤ v → v ≤ s.bays[b].ent 24 4 → -90000 ≤ sval 32 phi → sval 32 phi ≤ 90000 → s.ledger.grid[b] = none →
    exec (.ledgerGrid o b.val p v phi) s = .next (({ s with ledger := { s.ledger with
      gridNext := s.ledger.gridNext ++ [(b, ⟨sval 32 p, v, sval 32 phi, s.now + 1, false⟩)] } } : State).repliedOk o 0x0D12 [64] [s.now + 1])) ∧
  (∀ o s, Serves o s →
    ∃ vals, exec (.ledgerStatus o) s = .next (s.repliedOk o 0x0D02
        [8, 8, 8, 8, 32, 32, 32, 32, 32, 32, 32, 32, 32, 32, 32, 32, 96, 32, 32, 32, 32, 32, 64, 64] vals) ∧
      (o.court.val ≠ 0 → vals.take 4 = [0, 0, 0, 0]) ∧ (o.court.val = 0 → vals.take 2 = [b2n s.ledger.cfg.isSome, s.ledger.root])) ∧
  (∀ o s (b : BayId), Serves o s → (FromCourt o [0] ∨ 3 ≤ o.court.val ∧ s.owner b = o.court.val) →
    ∃ vals, exec (.ledgerBay o b.val) s = .next (s.repliedOk o 0x0D03 [8, 8, 8, 8, 32, 32, 32, 32, 32, 32, 32, 32] vals) ∧
      vals.head? = some s.bays[b].ledCk.role ∧ vals.getLast? = some s.gens.bay[b])

/-- R481 to R484, R505 to R508: the safety unit and its output pairs. Start-up tests that pass lead to READY, a failed one and a monitor to FAULT with
every pair off and every bay stopped; a loop advances by 2 us and no pair is on that is not permitted; an outlet without toggle stops its bays; the
second switch follows the first once the readback is right; a pair that fails its test is off. -/
def Obligations.SafetyUnit : Prop :=
  (∀ s mon, s.safety.st = 0 →
    ∃ t, exec (.safetyStartupDone true mon) s = .next t ∧ t.safety.st = 1 ∧ t.safety.mon = 0 ∧ (∀ b : BayId, t.bays[b].busScope = 7) ∧
      (∀ p : Fin 8, (t.safety.pairs[p]).sol = false ∧ (t.safety.pairs[p]).soh = false) ∧ Raised [⟨507, 0x0E06, 1, s.now⟩] s t) ∧
  (∀ s mon, s.safety.st ≠ 3 → 1 ≤ mon → mon ≤ 8 →
    ∃ t, exec (.monitorFault mon) s = .next t ∧ t.safety.st = 3 ∧ t.safety.mon = mon ∧ (∀ b : BayId, t.bays[b].busScope = 7) ∧
      (∀ p : Fin 8, (t.safety.pairs[p]).sol = false ∧ (t.safety.pairs[p]).soh = false) ∧ t.legal = s.legal) ∧
  (∀ s m1 m2 ns, s.safety.st = 2 →
    ∃ t, exec (.safetyLoop m1 m2 ns) s = .next t ∧ t.safety.us = s.safety.us + 2 ∧ t.safety.st = 2 ∧ t.safety.cfg = s.safety.cfg ∧ t.safety.toggleLost = 0 ∧
      (∀ p : Fin 8, t.pairPermit p = false → (t.safety.pairs[p]).sol = false ∧ (t.safety.pairs[p]).soh = false)) ∧
  (∀ s m1 m2 ns, s.safety.st = 3 → exec (.safetyLoop m1 m2 ns) s = .next s) ∧
  (∀ s (r : RegionId), ∃ t, exec (.stopBusToggleLost r) s = .next t ∧ t = { s with safety := t.safety, bays := t.bays } ∧
      t.safety = { s.safety with toggleLost := s.safety.toggleLost ||| BitVec.ofNat 16 (2 ^ r.val) } ∧ (∀ b : BayId, regionOf b = r → t.bays[b].busScope = 7)) ∧
  (∀ s (p : Fin 8), s.safety.st = 2 → (s.safety.pairs[p]).sol = true → (s.safety.pairs[p]).soh = false → (s.safety.pairs[p]).kind = 0 →
      (s.safety.pairs[p]).solAt + s.safety.pairRec p.val 2 2 ≤ s.safety.us →
    ∃ t, exec (.pairSohOn p false false) s = .next t ∧ t = { s with safety := t.safety, safePairs := t.safety.pairsOn } ∧
      t.safety = { s.safety with pairs := s.safety.pairs.set p { s.safety.pairs[p] with soh := true, changedAt := s.safety.us, mism := 0 } }) ∧
  (∀ s (p : Fin 8) srl, exec (.pairSohOn p true srl) s = .next s) ∧
  (∀ s (p : Fin 8) first second, s.safety.st = 2 → bitOf (s.safety.pairRec p.val 0 1) 0 = true →
      (s.safety.pairs[p]).testAt + 1000 * s.safety.pairRec p.val 6 2 ≤ s.safety.us → (s.safety.pairs[p]).sol = true → (s.safety.pairs[p]).soh = true →
      bitOf first 0 = true →
    ∃ t, exec (.pairTest p first second) s = .next t ∧ (t.safety.pairs[p]).sol = false ∧ (t.safety.pairs[p]).soh = false ∧ (t.safety.pairs[p]).kind = 1 ∧
      t.safety.testFails = bump 32 s.safety.testFails ∧ Raised [⟨496 + p.val, 0x0E02, 1 + 2 ^ 8, s.now⟩] s t) ∧
  (∀ s (p : Fin 8), s.safety.st = 2 → bitOf (s.safety.pairRec p.val 0 1) 0 = true →
      (s.safety.pairs[p]).testAt + 1000 * s.safety.pairRec p.val 6 2 ≤ s.safety.us → (s.safety.pairs[p]).sol = true → (s.safety.pairs[p]).soh = true →
    ∃ t, exec (.pairTest p 0 3) s = .next t ∧ t = { s with safety := { s.safety with pairs := s.safety.pairs.set p t.safety.pairs[p] } } ∧
      (t.safety.pairs[p]).sol = true ∧ (t.safety.pairs[p]).testAt = s.safety.us)

/-- R491, R495, R498 to R502, R509 to R511, R514, R515: inputs, functions and encoders. A pair of inputs that differs too long is in DISCREPANCY; STOPPING
ends in LATCHED; a second hand that does not follow is a demand; muting ends at its limit; a reset pulse resets the pairs that passed their test; a
reset input that stays 1 is stuck; an encoder fault is reported and a reference sets the position; status and encoders are read by courts 0 and 2. -/
def Obligations.SafetyFunctions : Prop :=
  (∀ s (f : Fin 16) at_, s.safety.st = 2 → (s.safety.fns[f]).d1.differ = some at_ → at_ + 1000 * s.safety.fnRec f.val 8 2 < s.safety.us →
      (s.safety.fns[f]).d1.fault = false →
    ∃ t, exec (.discrepancyTimeout f false) s = .next t ∧ t = { s with safety := t.safety, evt := t.evt } ∧ t.safety.fns = s.safety.fns.set f { s.safety.fns[f] with
        d1 := { (s.safety.fns[f]).d1 with fault := true, zeroSeen := false, firstOne := none } } ∧
      Raised [⟨504, 0x0E03, s.safety.fnRec f.val 2 1 + 2 ^ 8 * 3 + 2 ^ 10, s.now⟩] s t) ∧
  (∀ s (f : Fin 16), s.safety.st = 2 → (s.safety.fns[f]).st = 2 → (s.safety.fns[f]).since + 1000 * s.safety.fnRec f.val 10 2 ≤ s.safety.us →
      s.safety.ownDemand f = none → s.safety.connDemand f.val = false → s.safety.fnFlag f.val 1 = false →
    ∃ t, exec (.stop1Expire f) s = .next t ∧ t = { s with safety := { s.safety with fns := s.safety.fns.set f t.safety.fns[f] }, evt := t.evt } ∧
      (t.safety.fns[f]).st = 4 ∧ (t.safety.fns[f]).since = s.safety.us ∧ ∃ d, Raised [⟨480 + f.val, 0x0E01, d, s.now⟩] s t) ∧
  (∀ s (f : Fin 16) c, s.safety.st = 2 → (s.safety.fns[f]).st = 2 → (s.safety.fns[f]).since + 1000 * s.safety.fnRec f.val 10 2 ≤ s.safety.us →
      s.safety.ownDemand f = some c →
    ∃ t, exec (.stop1Expire f) s = .next t ∧ t = { s with safety := { s.safety with fns := s.safety.fns.set f t.safety.fns[f] }, evt := t.evt } ∧
      (t.safety.fns[f]).st = 3 ∧ (t.safety.fns[f]).cause = c) ∧
  (∀ s (f : Fin 16) at_, s.safety.st = 2 → (s.safety.fns[f]).st = 6 → (s.safety.fns[f]).hand = some at_ → at_ + 500000 ≤ s.safety.us →
      s.safety.fnFlag f.val 0 = false →
    ∃ t, exec (.twoHandWindowExpire f) s = .next t ∧ t = { s with safety := t.safety, evt := t.evt } ∧ (t.safety.fns[f]).st = 3 ∧
      (t.safety.fns[f]).cause = 1 ∧ (t.safety.fns[f]).hand = none ∧ t.safety.demands = bump 32 s.safety.demands) ∧
  (∀ s (f : Fin 16), s.safety.st = 2 → (s.safety.fns[f]).st = 7 → (s.safety.fns[f]).since + 1000000 * s.safety.fnRec f.val 24 4 ≤ s.safety.us →
      s.safety.healthy f.val = true →
    ∃ t, exec (.muteLimit f) s = .next t ∧ t = { s with safety := { s.safety with fns := s.safety.fns.set f t.safety.fns[f] }, evt := t.evt } ∧
      (t.safety.fns[f]).st = 1 ∧ (t.safety.fns[f]).cause = 6 ∧ ∃ d, Raised [⟨508, 0x0E07, f.val + 2 ^ 5, s.now⟩, ⟨480 + f.val, 0x0E01, d, s.now⟩] s t) ∧
  (∀ s (f : Fin 16), s.safety.st = 2 → (s.safety.fns[f]).st = 7 → (s.safety.fns[f]).since + 1000000 * s.safety.fnRec f.val 24 4 ≤ s.safety.us →
      s.safety.healthy f.val = false → s.safety.fnFlag f.val 0 = false →
    ∃ t, exec (.muteLimit f) s = .next t ∧ (t.safety.fns[f]).st = 3 ∧ (t.safety.fns[f]).cause = 6) ∧
  (∀ s (i : Fin 24) (p : Fin 8), s.safety.st = 2 → (s.safety.ins[i]).edge = true → bitOf (s.safety.pairRec p.val 0 1) 0 = true →
      s.safety.pairRec p.val 1 1 = i.val → (s.safety.pairs[p]).kind ≠ 0 → (s.safety.pairs[p]).passed = true →
    ∃ t, exec (.resetEdge i) s = .next t ∧ (t.safety.ins[i]).edge = false ∧ (t.safety.pairs[p]).kind = 0 ∧ t.safety.cfg = s.safety.cfg ∧
      t.safety.us = s.safety.us ∧ t.legal = s.legal) ∧
  (∀ s (i : Fin 24), (s.safety.ins[i]).edge = false → exec (.resetEdge i) s = .next s) ∧
  (∀ s (i : Fin 24) (f : Fin 16) at_, s.safety.st = 2 → s.safety.kind f.val ≠ 0 → s.safety.fnRec f.val 6 1 = i.val → (s.safety.ins[i]).roseAt = some at_ →
      (s.safety.ins[i]).filt = true → (s.safety.ins[i]).stuck = false → at_ + 3000000 ≤ s.safety.us →
    ∃ t, exec (.resetStuck i) s = .next t ∧ t = { s with safety := t.safety, evt := t.evt } ∧
      t.safety = { s.safety with ins := s.safety.ins.set i { s.safety.ins[i] with stuck := true } } ∧ Raised [⟨506, 0x0E05, i.val, s.now⟩] s t) ∧
  (∀ s (n : Fin 4), (s.safety.encs[n]).bad ≠ 0 →
    ∃ t, exec (.encFault n) s = .next t ∧ t = { s with safety := t.safety, evt := t.evt } ∧
      t.safety = { s.safety with encs := s.safety.encs.set n { s.safety.encs[n] with bad := 0 } } ∧ ∃ d, Raised [⟨505, 0x0E04, d, s.now⟩] s t) ∧
  (∀ s (n : Fin 4) (i : Fin 24), s.safety.st = 2 → s.safety.encRec n.val 1 1 = i.val → (s.safety.ins[i]).rise = true → bitOf (s.safety.encRec n.val 0 1) 0 = true →
      (s.safety.encs[n]).valid = true →
    ∃ t, exec (.encReference n) s = .next t ∧ t = { s with safety := t.safety } ∧ (t.safety.encs[n]).pos = sval 32 (s.safety.encRec n.val 4 4) ∧
      (t.safety.encs[n]).refd = true ∧ (t.safety.ins[i]).rise = false) ∧
  (∀ o s, Serves o s → FromCourt o [0, 2] →
    ∃ vals, exec (.safetyStatus o) s = .next (s.repliedOk o 0x0E01
        ([8, 8, 16] ++ List.replicate 32 8 ++ List.replicate 16 8 ++ [24, 24, 24, 24, 8, 8, 8, 8, 8, 96, 16, 16, 32, 32, 32, 32]) vals) ∧
      vals.take 2 = [s.safety.st, s.safety.mon]) ∧
  (∀ o s, Serves o s → FromCourt o [0, 2] →
    exec (.encRead o) s = .next (s.repliedOk o 0x0E02 ((List.replicate 4 [8, 24, 32, 32, 32, 64]).flatten) ((List.finRange 4).flatMap fun n =>
      [s.safety.encState n, 0, ubits 32 (s.safety.encs[n]).pos, ubits 32 (satI 32 (s.safety.speed n)), (s.safety.encs[n]).illegal, (s.safety.encs[n]).lastIllegal])))

/-- R517, R519 to R521, R538: safe connections. A due frame is formed with the next sequence number; a good frame that follows is accepted; a first frame
with a wrong CRC is discarded and a second one in a row is a fault, as is a foreign identity; silence for the watchdog time is a fault; a connection
restarts 1 ms after a fault. -/
def Obligations.SafeConnections : Prop :=
  (∀ s (c : Fin 8), (s.safety.conns[c]).st ≠ 0 → (s.safety.conns[c]).sentAt + s.safety.connPeriod (.conn c) ≤ s.now →
    ∃ t, exec (.safeFrameSend (.conn c)) s = .next t ∧ t = { s with safety := { s.safety with conns := s.safety.conns.set c t.safety.conns[c] } } ∧
      (t.safety.conns[c]).seq = ((s.safety.conns[c]).seq + 1) % 2 ^ 16 ∧ (t.safety.conns[c]).sentAt = s.now ∧
      (t.safety.conns[c]).sent = safeFrame s.ownSafeId (s.connPeer (.conn c)) (s.safety.conns[c]).seq s.now (s.safety.conns[c]).lastStamp
        (s.connDemandOut (.conn c)).1 s.safety.st) ∧
  (∀ s p, (s.safety.conn p).st = 0 → exec (.safeFrameSend p) s = .next s) ∧
  (∀ s (c : Fin 8) f q, (s.safety.conns[c]).st = 2 → f.length = 32 → crcSafe (f.take 28) = leGet f 28 4 → leGet f 20 2 + leGet f 22 2 = 0xFFFF →
      leGet f 24 1 + leGet f 25 1 = 0xFF → leGet f 0 4 = s.connPeer (.conn c) → leGet f 4 4 = s.ownSafeId → (s.safety.conns[c]).lastSeq = some q →
      q < 65535 → leGet f 8 2 = q + 1 → (s.safety.conns[c]).lastEcho = none → tickAge s.now (leGet f 16 4) ≤ s.safety.connWd (.conn c) →
      s.now ≤ (s.safety.conns[c]).lastAt + s.safety.connWd (.conn c) →
    ∃ t, exec (.safeFrameRx (.conn c) f) s = .next t ∧ t = { s with safety := { s.safety with conns := s.safety.conns.set c t.safety.conns[c] } } ∧
      (t.safety.conns[c]).st = 2 ∧ (t.safety.conns[c]).lastSeq = some (q + 1) ∧ (t.safety.conns[c]).lastAt = s.now ∧
      (t.safety.conns[c]).demand = leGet f 20 2 ∧ (t.safety.conns[c]).peer = leGet f 24 1 ∧ (t.safety.conns[c]).bad = 0) ∧
  (∀ s (c : Fin 8) f, (s.safety.conns[c]).st = 2 → f.length = 32 → crcSafe (f.take 28) ≠ leGet f 28 4 → (s.safety.conns[c]).bad = 0 →
    ∃ t, exec (.safeFrameRx (.conn c) f) s = .next t ∧ t = { s with safety := { s.safety with conns := s.safety.conns.set c t.safety.conns[c] } } ∧
      (t.safety.conns[c]).st = 2 ∧ (t.safety.conns[c]).bad = 1 ∧ (t.safety.conns[c]).lastSeq = (s.safety.conns[c]).lastSeq ∧
      (t.safety.conns[c]).demand = (s.safety.conns[c]).demand) ∧
  (∀ s (c : Fin 8) f, (s.safety.conns[c]).st = 2 → f.length = 32 → crcSafe (f.take 28) ≠ leGet f 28 4 → 1 ≤ (s.safety.conns[c]).bad →
    ∃ t, exec (.safeFrameRx (.conn c) f) s = .next t ∧ (t.safety.conns[c]).st = 3 ∧ (t.safety.conns[c]).lastFail = 1 ∧
      Raised [⟨510, 0x0E10, connData (.conn c) + 2 ^ 8 * 3 + 2 ^ 12, s.now⟩] s t) ∧
  (∀ s (c : Fin 8) f, (s.safety.conns[c]).st = 2 → f.length = 32 → crcSafe (f.take 28) = leGet f 28 4 → leGet f 20 2 + leGet f 22 2 = 0xFFFF →
      leGet f 24 1 + leGet f 25 1 = 0xFF → leGet f 0 4 ≠ s.connPeer (.conn c) →
    ∃ t, exec (.safeFrameRx (.conn c) f) s = .next t ∧ (t.safety.conns[c]).st = 3 ∧ (t.safety.conns[c]).lastFail = 3) ∧
  (∀ s p, (s.safety.conn p).st = 2 → (s.safety.conn p).lastSeq.isSome = true → (s.safety.conn p).lastAt + s.safety.connWd p < s.now →
    ∃ t, exec (.safeWatchdog p) s = .next t ∧ t = { s with safety := t.safety, evt := t.evt } ∧ (t.safety.conn p).st = 3 ∧ (t.safety.conn p).since = s.now ∧
      (t.safety.conn p).lastFail = 6 ∧ Raised [⟨510, 0x0E10, connData p + 2 ^ 8 * 3 + 2 ^ 12 * 6, s.now⟩] s t) ∧
  (∀ s p, (s.safety.conn p).st = 2 → s.now ≤ (s.safety.conn p).lastAt + s.safety.connWd p → exec (.safeWatchdog p) s = .next s) ∧
  (∀ s p, (s.safety.conn p).st = 3 → (s.safety.conn p).since + 1000 ≤ s.now →
    ∃ t, exec (.safeConnRestart p) s = .next t ∧ t = { s with safety := t.safety, evt := t.evt } ∧ (t.safety.conn p).st = 1 ∧ (t.safety.conn p).lastSeq = none ∧
      (t.safety.conn p).seq = 0 ∧ Raised [⟨510, 0x0E10, connData p + 2 ^ 8, s.now⟩] s t) ∧
  (∀ o s, Serves o s → FromCourt o [0, 2] →
    exec (.safeConnStatus o) s = .next (s.repliedOk o 0x0E12 (((List.replicate 8 ([8, 8, 16] ++ List.replicate 8 32)).flatten) ++ List.replicate 96 8 ++ [96])
      ((s.safety.conns.toList.flatMap fun x => [x.st, x.lastFail, 0] ++ x.counts.toList) ++ (s.safety.bayConns.toList.map (·.st)) ++ [s.safety.headStop.toNat])))

/-- R531 to R533, R535 to R537, R539: the safety configuration. A lockout ends after its time; a load that passes every check waits for the next tick;
taking effect turns every pair off, stops every bay, logs once and locks the firewall of court 2; the log is read signed; court 2 commissions once. -/
def Obligations.SafetyConfiguration : Prop :=
  (∀ s at_, s.safety.lockUntil = some at_ → at_ ≤ s.now → exec .configLockoutEnd s = .next { s with safety := { s.safety with lockUntil := none } }) ∧
  (∀ s at_, s.safety.lockUntil = some at_ → s.now < at_ → exec .configLockoutEnd s = .next s) ∧
  (∀ o s x d n pass, Serves o s → FromCourt o [2] → s.xfer? o.court x = some d → passFieldOk n pass true = true → s.safety.load = none →
    ∃ t, exec (.safetyConfigLoad o x 0 0 n pass) s = .next t ∧ ∀ p kind, Config.cosePayload d.data = some p → p.length = 5120 →
      s.safeVerdict d.data none (pass.take n) = .accepted kind → t = { s with safety := t.safety, courts := t.courts } ∧
      t.safety = { s.safety with fails := 0, load := some ⟨some o, p, kind, if kind = 1 ∨ kind = 4 then 0 else s.safety.lastHash, s.now + 1,
        s.twin.en && s.inStep⟩ }) ∧
  (∀ o s x d n pass, Serves o s → FromCourt o [2] → s.xfer? o.court x = some d → passFieldOk n pass true = true → s.safety.load = none →
    ∃ t, exec (.safetyConfigLoad o x 0 0 n pass) s = .next t ∧ ∀ p off, Config.cosePayload d.data = some p → p.length = 5120 →
      s.safeVerdict d.data none (pass.take n) = .refused 3 stRANGE 0 off →
      t = { s with courts := t.courts } ∧ Answered o 0x0E10 stRANGE 0 false s t) ∧
  (∀ s l, s.safety.load = some l → l.waits = false → l.tick ≤ s.now → s.safety.st = 1 ∨ s.safety.st = 2 →
    ∃ t, exec .safetyConfigApply s = .next t ∧ t.safety.cfg = some l.payload ∧ t.safety.load = none ∧ t.safety.st = 2 ∧ t.safeAccepted = true ∧
      t.mem.fwLock2 = true ∧ t.safety.nextSeq = (s.safety.nextSeq + 1) % 2 ^ 32 ∧ (∀ b : BayId, t.bays[b].busScope = 7) ∧
      (∀ p : Fin 8, (t.safety.pairs[p]).sol = false ∧ (t.safety.pairs[p]).soh = false)) ∧
  (∀ s, s.safety.load = none → exec .safetyConfigApply s = .next s) ∧
  (∀ o s seq, Serves o s → FromCourt o [0, 2] → s.bulkFree o.court = true → (s.safety.log.any fun e => leGet e 0 4 == seq) = true →
    ∃ t, exec (.safetyLogRead o seq) s = .next t ∧ Answered o 0x0E11 stOK 0 true s t ∧ t.safety = s.safety ∧ t.bays = s.bays) ∧
  (∀ o s n pass, Serves o s → FromCourt o [2] → 8 ≤ n → n ≤ 64 → pass.length ≤ 64 → (pass.drop n).all (· == (0 : Byte)) = true → s.safety.st = 2 →
      s.keys.fuses.commissioned = false → s.keys.burns = [] → s.lockedOut = false →
    ∃ t, exec (.safetyCommission o n pass) s = .next t ∧ (passOk (s.safety.cfg.getD []) 32 (pass.take n) = true →
      t = { s.take o.court o.mbx 0x0E13 [32] with keys := { s.keys with burns := [⟨.safeCommissioned, some o⟩] } })) ∧
  (∀ o s n pass, Serves o s → FromCourt o [2] → 8 ≤ n → n ≤ 64 → pass.length ≤ 64 → (pass.drop n).all (· == (0 : Byte)) = true →
      s.keys.fuses.commissioned = true → s.lockedOut = false →
    exec (.safetyCommission o n pass) s = .next (s.repliedNo o 0x0E13 stBAD_STATE 0 [32]))

/-- R542, R550, R556, R557, R571: the random source, challenges and burns. The TRNG is READY once its tests pass; a failed start-up test is a retry and
the fourth latches; a continuous failure stops the output; 1 MiB of output reseeds; a challenge lapses after 600 s; a verified burn changes the field. -/
def Obligations.RandomAndFuses : Prop :=
  (∀ s, s.keys.trng = .warming →
    ∃ t, exec .trngReady s = .next t ∧ t = { s with keys := t.keys, evt := t.evt } ∧ t.keys.trng = .ready ∧ t.keys.seeded = true ∧
      t.keys.fuses = s.keys.fuses ∧ ∃ d, Raised [⟨432, 0x0F10, d, s.now⟩] s t) ∧
  (∀ s, s.keys.trng = .warming → s.keys.retries < 3 →
    ∃ t, exec .trngStartupFail s = .next t ∧ t = { s with keys := t.keys, evt := t.evt } ∧ t.keys.trng = .retrying ∧
      t.keys.retries = s.keys.retries + 1 ∧ t.keys.seeded = false) ∧
  (∀ s, s.keys.trng = .retrying → 3 ≤ s.keys.retries →
    ∃ t, exec .trngStartupFail s = .next t ∧ t = { s with keys := t.keys, evt := t.evt } ∧ t.keys.trng = .latched) ∧
  (∀ s, s.keys.trng = .ready → s.keys.retries < 3 →
    ∃ t, exec .trngContinuousFail s = .next t ∧ t.keys.trng = .retrying ∧ t.keys.retries = s.keys.retries + 1 ∧
      t.keys.fails = bump 32 s.keys.fails ∧ t.keys.seeded = false ∧ t.mem = s.mem ∧ t.bays = s.bays) ∧
  (∀ s, s.keys.trng = .ready → s.keys.lastFail + 3600000000 ≤ s.now →
    exec .trngRetryReset s = .next { s with keys := { s.keys with retries := 0 } }) ∧
  (∀ s, s.keys.trng = .ready → 1048576 ≤ s.keys.drbgBytes →
    exec (.drbgReseed false) s = .next { s with keys := { s.keys with drbgBytes := 0, reseedTick := s.now } }) ∧
  (∀ s, exec .debugChallengeExpire s = .next { s with keys := { s.keys with
      challenges := s.keys.challenges.filter fun c => s.now < c.2 + 600000000 } }) ∧
  (∀ s h o rest, s.keys.burns = ⟨.calKey h, some o⟩ :: rest → (s.mbox o.court o.mbx).running.isSome = true →
    ∃ t, exec (.fuseBurnDone true) s = .next t ∧ t.keys.fuses = { s.keys.fuses with calKeyHash := h } ∧ t.keys.burns = rest ∧
      (t.mbox o.court o.mbx).running = none ∧ ∃ d, Raised [⟨433, 0x0F11, d, s.now⟩] s t)

/-- R560 to R563: fuses and debug. FUSE_READ reports; FUSE_BURN of an unset CAL_KEY_HASH waits its turn and is refused with BAD_STATE once it is set;
DEBUG_CTRL issues a challenge and accepts a good token over it; SITE_ROOT generates, loads and exports a root. -/
def Obligations.FuseDebugRootCards : Prop :=
  (∀ o s, Serves o s → FromCourt o [0, 1, 2] →
    exec (.fuseRead o) s = .next (s.repliedOk o 0x0F01 [64, 48, 16, 64, 64, 384, 384, 384, 384, 256]
      [s.keys.fuses.serial, s.keys.fuses.macBase, 0, s.keys.fuses.lifecycle.toNat, s.keys.fuses.fwSvn.toNat, s.keys.fuses.kfwHash0,
       s.keys.fuses.kfwHash1, s.keys.fuses.calKeyHash, s.keys.fuses.safeKeyHash,
       (List.finRange 16).foldr (fun c a => s.keys.fuses.courtGen[c].toNat + 2 ^ 16 * a) 0])) ∧
  (∀ o s value, Serves o s → FromCourt o [0, 1] → value ≠ 0 → s.keys.fuses.calKeyHash = 0 → s.keys.burns = [] →
    ∃ t, exec (.fuseBurn o 0 value) s = .next t ∧ t = { s.take o.court o.mbx 0x0F02 [8, 24] with keys := { s.keys with burns := [⟨.calKey value, some o⟩] } }) ∧
  (∀ o s value, Serves o s → FromCourt o [0, 1] → value ≠ 0 → s.keys.fuses.calKeyHash ≠ 0 →
    exec (.fuseBurn o 0 value) s = .next (s.repliedNo o 0x0F02 stBAD_STATE 0 [8, 24])) ∧
  (∀ o s, Serves o s → FromCourt o [0] → s.keys.fuses.debugDisable = false → s.keys.trng = .ready →
    exec (.debugChallenge o 0) s = .next ({ s with free := s.free + 1, keys := { s.keys with
      drbgBytes := s.keys.drbgBytes + 32, challenges := s.keys.challenges ++ [(s.random 256, s.now)] } }.repliedOk o 0x0F03 [256] [s.random 256])) ∧
  (∀ o s token c at_, Serves o s → FromCourt o [0] → 1 ≤ token.length → token.length ≤ 1024 → s.keys.fuses.debugDisable = false →
      s.keys.challenges = [(c, at_)] → s.now < at_ + 600000000 →
    ∃ t, exec (.debugUnlock o token s.keys.fuses.serial c) s = .next t ∧ (Config.debugTokenOk token = true →
      t.keys = { s.keys with unlockHeld := true, challenges := [] } ∧ ∃ d, Raised [⟨434, 0x0F12, d, s.now⟩] s t)) ∧
  (∀ o s, Serves o s → FromCourt o [0] → s.keys.siteRoot = none → s.keys.trng = .ready →
    ∃ t, exec (.siteRootGenerate o 0 0) s = .next t ∧ t = { s with keys := t.keys, courts := t.courts, evt := t.evt, free := t.free } ∧
      t.keys.siteRoot = some (s.random 256) ∧ t.keys.siteRootFrom = s.now + 1 ∧ ∃ d, Raised [⟨435, 0x0F13, d, s.now⟩] s t) ∧
  (∀ o s blob, Serves o s → FromCourt o [0] → s.keys.siteRoot = none →
    ∃ t, exec (.siteRootLoad o 0 blob) s = .next t ∧ ∀ r, s.keys.openBlob blob = .ok r →
      t = { s with keys := t.keys, courts := t.courts, evt := t.evt } ∧ t.keys = { s.keys with siteRoot := some r, siteRootFrom := s.now + 1 }) ∧
  (∀ o s r, Serves o s → FromCourt o [0] → s.keys.siteRoot = some r → s.twin.en = false → s.keys.trng = .ready →
    exec (.siteRootExport o 0 0) s = .next ({ s with free := s.free + 1, keys := { s.keys with drbgBytes := s.keys.drbgBytes + 12 } }.repliedOk o 0x0F10
      [128, 768] [rootId r, leGet (s.keys.blob r (s.random 96)) 0 96]))

/-- R564 to R570: keys of courts. A higher purpose generation is in force from the next tick; a key node is created once; signing, key agreement, sealing,
opening, random bytes and the attestation answer OK for a usable node, and a bad point is REJECTED_CRYPTO with its code and counted. -/
def Obligations.KeyCards : Prop :=
  (∀ o s purpose gen, Serves o s → 2 ≤ purpose → purpose ≤ 255 → (s.keys.courtNode s.now o.court).isSome = true →
      s.keys.purposeLast o.court purpose < gen → s.keys.nodesUsed < nodeLimit →
    ∃ t, exec (.keyPurposeGen o purpose gen) s = .next t ∧ t = { s with keys := t.keys, courts := t.courts, evt := t.evt } ∧
      t.keys = { s.keys with purposes := s.keys.purposes ++ [⟨o.court, purpose, gen, s.now + 1⟩] } ∧
      ∃ d, Raised [⟨416 + o.court.val, 0x0F01, d, s.now + 1⟩] s t) ∧
  (∀ o s keyId alg, Serves o s → 2 ≤ keyId / 2 ^ 24 → 1 ≤ alg → alg ≤ 10 → (s.keys.courtNode s.now o.court).isSome = true →
      s.keys.node? o.court keyId = none → s.keys.nodesUsed + 2 ≤ nodeLimit →
    ∃ t, exec (.keyCreate o keyId alg 1) s = .next t ∧ t = { s with keys := t.keys, courts := t.courts } ∧
      t.keys = { s.keys with nodes := s.keys.nodes ++ [⟨o.court, keyId, alg, true⟩] } ∧ (t.mbox o.court o.mbx).running = none) ∧
  (∀ o s keyId data, Serves o s → keyId / 2 ^ 24 ≠ 1 → 1 ≤ data.length → data.length ≤ 4000 → s.nodeUsable o.court keyId = true →
      s.nodeAlg o.court keyId = 4 →
    exec (.keySign o keyId 0 data) s = .next ({ s with free := s.free + 1 }.replied o 0x0F20 stOK 0 false
      ([(16, 64), (16, 0)] ++ bytesAsFields (s.signWith o.court keyId 4 data)))) ∧
  (∀ o s keyId peer m, Serves o s → s.nodeUsable o.court keyId = true → s.nodeAlg o.court keyId = 6 → pointCode 6 peer = 0 →
      s.keys.secret s.now o.court keyId 6 = some m →
    exec (.keyEcdh o keyId peer) s = .next (s.replied o 0x0F21 stOK 0 false
      ([(8, 0), (24, 0)] ++ bytesAsFields (leBytes (Config.ecdh 6 m peer) 32)))) ∧
  (∀ o s keyId peer, Serves o s → s.nodeUsable o.court keyId = true → s.nodeAlg o.court keyId = 6 → pointCode 6 peer = 3 →
    ∃ t, exec (.keyEcdh o keyId peer) s = .next t ∧ (t.keys.rejects[o.court]).1 = (s.keys.rejects[o.court]).1 + 1 ∧
      (t.mbox o.court o.mbx).out = (s.mbox o.court o.mbx).out ++
        [responseMsg 0x0F21 (s.mbox o.court o.mbx).expectSeq stREJECTED_CRYPTO 3 false [(8, 3), (24, 0)] s.now]) ∧
  (∀ o s keyId aad data m, Serves o s → aad.length ≤ 256 → 1 ≤ data.length → data.length ≤ 400 → s.nodeUsable o.court keyId = true →
      s.nodeAlg o.court keyId = 9 → s.keys.trng = .ready → s.keys.secret s.now o.court keyId 9 = some m →
    exec (.keyAeadSeal o keyId 0 aad data) s = .next ({ s with free := s.free + 1, keys := { s.keys with
      drbgBytes := s.keys.drbgBytes + 12 } }.replied o 0x0F22 stOK 0 false ([(8, 0), (8, 0), (16, data.length + 16), (96, s.random 96)] ++
        bytesAsFields ((Config.aeadSeal m (s.random 96) aad data).take (data.length + 16))))) ∧
  (∀ o s keyId nonce aad data m, Serves o s → aad.length ≤ 256 → 17 ≤ data.length → data.length ≤ 416 → s.nodeUsable o.court keyId = true →
      s.nodeAlg o.court keyId = 9 → s.keys.secret s.now o.court keyId 9 = some m →
    ∃ t, exec (.keyAeadOpen o keyId nonce aad data) s = .next t ∧ ∀ p, Config.aeadOpen m nonce aad data = some p →
      t = s.replied o 0x0F22 stOK 0 false ([(8, 0), (8, 0), (16, p.length), (96, 0)] ++ bytesAsFields p)) ∧
  (∀ o s flags, Serves o s → flags < 2 →
    exec (.rngRead o 0 flags) s = .next (s.replied o 0x0F30 stOK 0 false
      (withValues [8, 8, 16, 32] [s.keys.trng.code, s.keys.retries, 0, s.keys.fails]))) ∧
  (∀ o s count, Serves o s → 1 ≤ count → count ≤ 256 → s.keys.trng = .ready →
    exec (.rngRead o count 0) s = .next ({ s with free := s.free + 1, keys := { s.keys with drbgBytes := s.keys.drbgBytes + count } }.replied o 0x0F30
      stOK 0 false (withValues [8, 8, 16, 32] [s.keys.trng.code, s.keys.retries, 0, s.keys.fails] ++
        bytesAsFields (leBytes (s.random (8 * count)) count)))) ∧
  (∀ o s, Serves o s → s.keys.trng = .warming →
    exec (.rngRead o 16 0) s = .next (s.repliedNo o 0x0F30 stWARMING 0 [8, 8, 16, 32])) ∧
  (∀ o s nonceLen nonce, Serves o s → nonceLen ≤ 32 → nonce.length = nonceLen → s.keys.trng = .ready → s.bulkFree o.court = true →
    ∃ t, exec (.attest o nonceLen nonce) s = .next t ∧ t = { s with keys := t.keys, courts := t.courts, free := t.free } ∧
      t.keys = { s.keys with drbgBytes := s.keys.drbgBytes + 32 } ∧ (t.mbox o.court o.mbx).running = none)

/-- R574, R577, R579, R581, R583, R584: failing cells. A failing cell whose block's spare is free is being taken over; with the spare busy it is
uncovered, its bay out of service; the spare resumes two ticks later with SPARE_USED set; a lost block store is raised once; the sixteenth job fault
in a second makes the assist failed. R585 to R588, R590, R593, R594: region and chip faults. A region fault sets REGION_FAIL, is raised, and freezes
the scorebook; watchdog stage 1 answers FAIL and records; stage 2 puts every region in fault and sets the reset 2 ms later; a lost clock stops the
CELL domain and leaves no record. -/
def Obligations.Failures : Prop :=
  (∀ s b (off : Fin 10) data0 data1, (s.cellRec (.bay b off)).st = 0 → (s.blockRec (CellId.bay b off).block).spare = 0 →
    ∃ t, exec (.cellFailure (.bay b off) 1 data0 data1 0) s = .next t ∧ t = { s with faults := t.faults } ∧
      (t.blockRec (CellId.bay b off).block).spare = 1 ∧ (t.blockRec (CellId.bay b off).block).slot = (CellId.bay b off).slot % 8 ∧
      t.faults.takeovers = s.faults.takeovers ++ [⟨.bay b off, s.now, 1, false⟩] ∧ (t.cellRec (.bay b off)).failTick = s.now) ∧
  (∀ s b (off : Fin 10) data0 data1, (s.cellRec (.bay b off)).st = 0 → (s.blockRec (CellId.bay b off).block).spare = 2 →
      s.faults.takeovers = [] →
    ∃ t, exec (.cellFailure (.bay b off) 2 data0 data1 0) s = .next t ∧ (t.cellRec (.bay b off)).st = 3 ∧
      t.bays[b].outOfService = true ∧ t.mem = s.mem) ∧
  (∀ s c tk, s.faults.takeovers.find? (fun t => t.cell == c && t.failTick + 2 ≤ s.now) = some tk → tk.badCkpt = false →
    ∃ t, exec (.spareResume c) s = .next t ∧ t = { s with faults := t.faults, regions := t.regions, evt := t.evt } ∧ (t.cellRec c).st = 2 ∧
      (t.cellRec c).resumeTick = s.now ∧ t.faults.takeovers = s.faults.takeovers.filter (· != tk) ∧
      ∃ d, Raised [⟨448, 0x1010, d, tk.failTick⟩] s t) ∧
  (∀ s g tick, g < 96 → s.faults.degraded.find? (·.1 == g) = some (g, tick) → tick + 1000000 ≤ s.now →
    ∃ t, exec (.degradedClear g) s = .next t ∧ t = { s with faults := t.faults, evt := t.evt } ∧
      t.faults.degraded = s.faults.degraded.filter (·.1 != g) ∧ Raised [⟨96 + g, 0x1001, 2 ^ 8 * 0xFF % 2 ^ 32, s.now⟩] s t) ∧
  (∀ s b i, (List.finRange 9).find? (fun j => 4 ≤ s.bays[b].guard.stale[j]) = some i → s.bays[b].guard.staleStop = false →
    ∃ t, exec (.guardStale b) s = .next t ∧ t = { s with faults := t.faults, bays := t.bays } ∧ t.bays[b].guard.staleStop = true ∧
      t.bays[b].guard.staleOff = i.val ∧ ∀ d, d ≠ b → t.bays[d] = s.bays[d]) ∧
  (∀ s (r : RegionId) (block : Fin 8) cond, (s.blockRec (8 * r.val + block.val)).lost = false → 1 ≤ cond → cond ≤ 3 →
    ∃ t, exec (.blockStoreLost r block cond) s = .next t ∧ t.mem = s.mem ∧
      ⟨449, 0x1011, (r.val + 2 ^ 4 * block.val + 2 ^ 8) % 2 ^ 32, s.now⟩ ∈ t.evt.fresh) ∧
  (∀ s (r : RegionId) (block : Fin 8) (a : Fin 4), s.assistFailed (8 * r.val + block.val) a.val = false →
      ((s.blockRec (8 * r.val + block.val)).jobs.filter fun x => x.1 == a.val && decide (s.now < x.2 + 1000000)).length = 15 →
    ∃ t, exec (.assistJobFault r block a none) s = .next t ∧ t = { s with faults := t.faults, evt := t.evt } ∧
      (t.blockRec (8 * r.val + block.val)).assists = (s.blockRec (8 * r.val + block.val)).assists + 2 ^ a.val ∧
      Raised [⟨449, 0x1011, (r.val + 2 ^ 4 * block.val + 2 ^ 8 * (2 + a.val)) % 2 ^ 32, s.now⟩] s t) ∧
  (∀ s (r : RegionId) cause, cause = 1 ∨ cause = 2 → s.regions[r].regionFail = false → s.faults.book.frozen = false →
    ∃ t, exec (.regionFault r cause) s = .next t ∧ t.regions[r].regionFail = true ∧ t.regions[r].failCause = cause ∧ t.faults.book.frozen = true ∧
      t.faults.fatal = true ∧ t.mem = s.mem ∧ ⟨450, 0x1012, (r.val + 16 * cause) % 2 ^ 32, s.now⟩ ∈ t.evt.fresh) ∧
  (∀ s frozenAt first rs, s.faults.copy.busy = some (frozenAt, first, rs) → s.island.running = true → rs ≠ [] →
    ∃ t, exec .islandCopyDone s = .next t ∧ t = { s with faults := t.faults } ∧ 
      t.faults.copy = ⟨true, frozenAt, first, bump 32 s.faults.copy.freezes, rs, none⟩) ∧
  (∀ s core tj, ∃ t, exec (.watchdogStage1 core tj) s = .next t ∧ t.roundPos = 0 ∧ t.faults.counts[(8 : Fin 9)] = bump 32 s.faults.counts[(8 : Fin 9)] ∧
      t.mem = s.mem ∧ t.bays = s.bays ∧ t.armed = s.armed) ∧
  (∀ s core, ∃ t, exec (.watchdogStage2 core) s = .next t ∧ t.faults.resetAt = some (s.now + 2000) ∧ t.faults.fatal = true ∧
      t.regions[(0 : Fin 16)].regionFail = true ∧ t.regions[(15 : Fin 16)].regionFail = true) ∧
  (∀ s, ∃ t, exec .refclkLoss s = .next t ∧ t = { s with clock := t.clock, host := t.host, faults := t.faults } ∧ t.clock.cellRuns = false ∧
      t.host.ready = false ∧ t.faults = { s.faults with clockLost := true }) ∧
  (∀ s, s.faults.clockLost = true → exec .refclkReturn s = .next { s with boot := { s.boot with resetHeld := true } }) ∧
  (∀ s tj, 12500 ≤ tj → s.faults.warnAt = none →
    ∃ t, exec (.tempWarning tj) s = .next t ∧ t = { s with faults := t.faults, evt := t.evt } ∧ t.faults.warnAt = some s.now ∧
      t.faults.tjMax = max s.faults.tjMax (tj / 100) ∧ ∃ d, Raised [⟨451, 0x1013, d, s.now⟩] s t) ∧
  (∀ s tj w, 12500 ≤ tj → s.faults.warnAt = some w → s.now < w + 10000000 →
    ∃ t, exec (.tempWarning tj) s = .next t ∧ t = { s with faults := { s.faults with tjMax := max s.faults.tjMax (tj / 100) } }) ∧
  (∀ s tj, 14000 ≤ tj →
    ∃ t, exec (.thermalStop tj) s = .next t ∧ t.faults.fatal = true ∧ t.regions[(0 : Fin 16)].regionFail = true ∧
      t.regions[(15 : Fin 16)].regionFail = true)

/-- R598 to R602: the fault commands. FAULT_STATUS, CELL_STATUS and SCOREBOOK_READ report and change nothing else; SCOREBOOK_RELEASE empties the ring with
RELEASED as its first record; FAULT_INJECT makes the cell fail in the next compute tick. -/
def Obligations.FaultCards : Prop :=
  (∀ o s, Serves o s → FromCourt o [0, 2] →
    ∃ vals, exec (.faultStatus o) s = .next (s.repliedOk o 0x1001
        ([32, 32, 64] ++ (List.replicate 16 [8, 8, 8, 8]).flatten ++ [96, 96] ++ List.replicate 9 32 ++ [16, 16]) vals) ∧
      vals.take 3 = [s.faultStat, s.faults.book.next, s.faults.book.freezeTick] ∧
      vals.drop 67 = [s.degradedMask.toNat, s.outMask.toNat] ++ s.faults.counts.toList ++ [ubits 16 s.faults.tjMax, 0]) ∧
  (∀ o s region block slot c, Serves o s → FromCourt o [0, 2] → region < 16 → block < 8 → slot < 8 → cellNamed region block slot = some c →
    exec (.cellStatus o region block slot) s = .next (s.repliedOk o 0x1002 [8, 8, 8, 8, 32, 32, 32, 32, 32, 64, 64]
      [if s.covered c then 8 else slot, s.cellState c, s.cellTag c, c.bayNo, (s.cellRec c).overruns, (s.cellRec c).poison, (s.cellRec c).lockups,
       (s.cellRec c).traps, (s.cellRec c).corrected, (s.cellRec c).failTick, (s.cellRec c).resumeTick])) ∧
  (∀ o s region block, Serves o s → FromCourt o [0, 2] → region < 16 → block < 8 →
    exec (.cellStatus o region block 8) s = .next (s.repliedOk o 0x1002 [8, 8, 8, 8, 32, 32, 32, 32, 32, 64, 64]
      [8, 5 + (s.blockRec (8 * region + block)).spare, 0, 0xFF, 0, 0, 0, 0, 0, 0, 0])) ∧
  (∀ o s, Serves o s → FromCourt o [0, 2] → s.bulkFree o.court = true → s.faults.book.failed = false → s.faults.book.recs ≠ [] →
      s.faults.book.next = s.faults.book.recs.length →
    ∃ t, exec (.scorebookRead o 0 1 0) s = .next t ∧ t = { s with courts := t.courts } ∧ (t.mbox o.court o.mbx).running = none ∧
      t.courts[o.court].outXfers.length = s.courts[o.court].outXfers.length + 1) ∧
  (∀ o s, Serves o s → FromCourt o [0] →
    ∃ x, exec (.scorebookRelease o 0 true) s = .next ({ s with faults := x }.repliedOk o 0x1011 [8, 24] [0, 0]) ∧ x.book.frozen = false ∧
      x.book.failed = false ∧ x.book.next = 1 ∧ x.copy = s.faults.copy ∧ x.cells = s.faults.cells ∧
      x.book.recs.map SbRec.code = [0x0502] ∧ x.book.recs.map SbRec.data0 = [s.faults.book.next]) ∧
  (∀ o s region block slot kind b (off : Fin 10), Serves o s → FromCourt o [0] → region < 16 → block < 8 → slot < 8 → kind ≤ 1 →
      cellNamed region block slot = some (.bay b off) → s.cellTag (.bay b off) ≠ 1 → s.cellTag (.bay b off) ≠ 2 →
      (s.blockRec (8 * region + block)).spare = 0 → s.faults.fatal = false → s.bays[b].session.st = .idle →
    exec (.faultInject o region block slot kind) s = .next ({ s with faults := { s.faults with
      inject := s.faults.inject ++ [(CellId.bay b off, kind, s.now + 1)] } }.repliedOk o 0x1020 [64, 64] [s.now + 1, s.now + 3]))

/-- R628 to R631: kick-off, the master's CHECK frames and forwarding. A node that is still best claims on both ports and after 5,000 tk becomes master and
announces itself; a better claim goes on; the third CHECK lost opens the ring. Nothing but the ring and the events differs. R634, R635, R652:
RING_CONFIG is armed under R50, RING_STATUS reports the ring, and an ACK of a bundle frame moves the sender's window on. -/
def Obligations.SiteRing : Prop :=
  (∀ s w, s.ring.en = true → s.ring.st = .kickoff → s.ring.waitUntil = some w → w ≤ s.now → s.ring.best = s.nodeId →
    ∃ t, exec .kickoffWaitEnd s = .next t ∧ t = { s with ring := t.ring } ∧ t.ring.claimedAt = some s.now ∧ t.ring.waitUntil = none ∧
      t.ring.sent = [(.east, .claim s.nodeId), (.west, .claim s.nodeId)]) ∧
  (∀ s p id, s.ring.en = true → s.ring.best < id →
    ∃ t, exec (.ringClaim p id) s = .next t ∧ t = { s with ring := t.ring } ∧ t.ring.best = id ∧ t.ring.sent = [(otherPort p, .claim id)] ∧
      t.ring.forwarded = bump 32 s.ring.forwarded) ∧
  (∀ s p id, s.ring.en = true → id ≤ s.ring.best →
    ∃ t, exec (.ringClaim p id) s = .next t ∧ t = { s with ring := t.ring } ∧ t.ring.best = s.ring.best ∧ t.ring.sent = []) ∧
  (∀ s c, s.ring.en = true → s.ring.st = .kickoff → s.ring.claimedAt = some c → c + 5000 ≤ s.now → s.ring.best = s.nodeId →
    ∃ t, exec .ringMaster s = .next t ∧ t = { s with ring := t.ring, evt := t.evt } ∧ t.ring.master = true ∧ t.ring.st = .openRing ∧
      t.ring.masterId = s.nodeId ∧ t.ring.sent = [(.east, .announce s.nodeId), (.west, .announce s.nodeId)] ∧
      ∃ d, Raised [⟨459, 0x1105, d, s.now⟩, ⟨460, 0x1106, (1 + 2 ^ 8 * (s.nodeId % 2 ^ 24)) % 2 ^ 32, s.now⟩] s t) ∧
  (∀ s p id, s.ring.en = true → s.ring.best ≤ id → id ≠ s.ring.masterId → s.ring.st ≠ .openRing →
    ∃ t, exec (.ringAnnounce p id) s = .next t ∧ t = { s with ring := t.ring, evt := t.evt } ∧ t.ring.master = false ∧ t.ring.masterId = id ∧
      t.ring.st = .openRing ∧ t.ring.sent = [(otherPort p, .announce id)]) ∧
  (∀ s, s.ring.en = true → s.ring.master = true → s.ring.lastSent + 1000 ≤ s.now →
    ∃ t, exec .ringCheckSend s = .next t ∧ t = { s with ring := t.ring } ∧ t.ring.lastSent = s.now ∧ t.ring.sent = [(.east, .check 0)] ∧
      t.ring.outstanding = s.ring.outstanding + 1) ∧
  (∀ s p hops, s.ring.en = true → s.ring.master = false → hops + 1 < 256 →
    ∃ t, exec (.ringCheck p hops) s = .next t ∧ t = { s with ring := t.ring } ∧ t.ring.position = hops + 1 ∧ t.ring.lastCheck = s.now ∧
      t.ring.sent = [(.east, .check (hops + 1))]) ∧
  (∀ s hops, s.ring.en = true → s.ring.master = true → hops ≤ 32 →
    ∃ t, exec (.ringCheck .west hops) s = .next t ∧ t = { s with ring := t.ring, evt := t.evt } ∧ t.ring.st = .closed ∧ t.ring.outstanding = 0) ∧
  (∀ s, s.ring.en = true → s.ring.master = true → 3 ≤ s.ring.outstanding →
    ∃ t, exec .ringCheckLost s = .next t ∧ t = { s with ring := t.ring, evt := t.evt } ∧ t.ring.st = .openRing) ∧
  (∀ s p src dst bytes, s.ring.en = true → src ≠ s.ownSafeId → dst ≠ s.ownSafeId →
    ∃ t, exec (.ringFrameForward p (.safe src dst bytes)) s = .next t ∧ t = { s with ring := t.ring } ∧
      t.ring.sent = [(otherPort p, .safe src dst bytes)]) ∧
  (∀ s p x, s.ring.en = true →
    ∃ t, exec (.ringFrameForward p (.other x)) s = .next t ∧ t = { s with ring := t.ring } ∧ t.ring.sent = [] ∧
      t.ring.dropped = bump 32 s.ring.dropped) ∧
  (∀ o s en prio, Serves o s → FromCourt o [0] → en ≤ 1 →
    ∃ t a, exec (.ringConfig o en prio) s = .next t ∧ t = { s.take o.court o.mbx 0x1110 [32, 64] with armed := insertArmed a s.armed } ∧
      a.cmd = .ringConfig (en == 1) prio ∧ a.origin = o ∧ a.site = true ∧ s.now < a.tick) ∧
  (∀ o s, Serves o s → FromCourt o [0, 2] →
    exec (.ringStatus o) s = .next (s.repliedOk o 0x1111 [8, 8, 8, 8, 128, 128, 32, 32, 32, 32]
      [s.ring.st.code, b2n s.ring.master, s.ring.position, b2n s.ring.eastUp + 2 * b2n s.ring.westUp, s.nodeId, s.ring.masterId, s.ring.kickoffs,
       s.ring.checksLost, s.ring.forwarded, s.ring.dropped])) ∧
  (∀ s hash offset data j acked sent, s.ring.en = true → s.ring.bundleTx = some (j, acked, sent) → acked ≤ offset →
    ∃ t, exec (.ringBundleFrame .east hash 2 offset data) s = .next t ∧ t = { s with ring := t.ring } ∧
      ∃ n, t.ring.bundleTx = some (j, max acked (min offset s.boot.images[j % 3].length), n)) ∧
  (∀ s hash offset data tx, s.ring.en = true → s.ring.bundleTx = some tx →
    ∃ t, exec (.ringBundleFrame .east hash 3 offset data) s = .next t ∧ t = { s with ring := t.ring, evt := t.evt } ∧ t.ring.bundleTx = none ∧
      Raised [⟨462, 0x1202, (4 + 2 ^ 16 * (hash % 2 ^ 16)) % 2 ^ 32, s.now⟩] s t)

/-- R605, R607, R611, R613, R615: the twin link. Sixteen training answers give the delay, and more than 60 ns bars the link; the link up settles the
roles; a transfer unacknowledged for 8 us is sent again; the server's valid block tells its epoch; the returner holds the next mirrored input. R611,
R619 to R622, R627: how the serve is lost and taken. The returner in step that misses block and TWHB three times serves ALONE with the epoch plus 1; a
handover swaps the roles; a YIELD hands the serve over; a server without an acknowledgement leaves step with reason MIRROR. -/
def Obligations.TwinLinkAndServe : Prop :=
  (∀ s roundTrip turnPs, s.twin.en = true → s.twin.linkUp = false → s.twin.training = 15 →
      s.twin.delaySum + (roundTrip - turnPs) ≤ 32 * 60000 →
    ∃ t, exec (.twinTrainingAnswer roundTrip turnPs true) s = .next t ∧ t = { s with twin := t.twin } ∧ t.twin.training = 16 ∧
      t.twin.delayPs = (s.twin.delaySum + (roundTrip - turnPs)) / 32 ∧ t.twin.linkBarred = false) ∧
  (∀ s roundTrip turnPs, s.twin.en = true → s.twin.linkUp = false → s.twin.training = 15 →
      32 * 60001 ≤ s.twin.delaySum + (roundTrip - turnPs) →
    ∃ t, exec (.twinTrainingAnswer roundTrip turnPs true) s = .next t ∧ t.twin.linkBarred = true ∧ ∃ d, Raised [⟨458, 0x1104, d, s.now⟩] s t) ∧
  (∀ s p, s.twin.en = true → s.twin.linkUp = false → s.twin.linkBarred = false → s.host.ready = true → p.ready = true → s.twin.server = true →
      p.server = false →
    ∃ t, exec (.twinLinkUp p) s = .next t ∧ t = { s with twin := t.twin, evt := t.evt } ∧ t.twin.linkUp = true ∧ t.twin.st = .paired ∧
      t.twin.server = true ∧ t.twin.epoch = s.twin.epoch ∧ t.twin.peer = some p) ∧
  (∀ s p, s.twin.en = true → s.twin.linkUp = false → s.twin.linkBarred = false → s.host.ready = true → p.ready = true → s.twin.server = true →
      p.server = true → s.twin.epoch < p.epoch →
    ∃ t, exec (.twinLinkUp p) s = .next t ∧ t.twin.linkUp = true ∧ t.twin.st = .paired ∧ t.twin.server = false) ∧
  (∀ s cls seq x, s.twin.xfers.find? (fun y => y.cls == cls && y.seq == seq) = some x → x.sentAt + 8 ≤ s.now → x.tries < 3 →
    ∃ t, exec (.twinResendTimeout cls seq) s = .next t ∧ t = { s with twin := t.twin } ∧ t.twin.resends = bump 32 s.twin.resends ∧
      t.twin.xfers = s.twin.xfers.map fun y => if y.cls = cls ∧ y.seq = seq then { y with tries := y.tries + 1, sentAt := s.now } else y) ∧
  (∀ s t0 acks, s.twin.en = true → s.twin.linkUp = true → s.twin.server = false → s.twin.st = .paired → t0.crcOk = true → t0.cycle ≤ 90 →
      t0.server = true → t0.state = 2 →
    ∃ t, exec (.tickControlBlock t0 acks) s = .next t ∧ t = { s with twin := t.twin } ∧ t.twin.twinEpoch = t0.epoch ∧ t.twin.block = some t0 ∧
      t.twin.blockTick = s.now + 1 ∧ t.twin.xfers = s.twin.xfers.filter fun x => !acks.contains (x.cls, x.seq)) ∧
  (∀ s tick input, s.isReturner = true → s.inStep = true → s.twin.linkUp = true → s.twin.mirrorSeq + 1 < 2 ^ 32 →
    ∃ t, exec (.mirrorMessage (s.twin.mirrorSeq + 1) tick input) s = .next t ∧ t = { s with twin := t.twin } ∧
      t.twin.mirrorSeq = s.twin.mirrorSeq + 1 ∧ t.twin.mirrors = s.twin.mirrors ++ [⟨s.twin.mirrorSeq + 1, tick, input, true, s.now⟩]) ∧
  (∀ s, s.twin.en = true → s.twin.server = false → s.twin.st = .inStep → s.blockNow = none → s.twin.missBlocks < 2 →
    ∃ t, exec (.heartbeatCheck false) s = .next t ∧ t = { s with twin := t.twin } ∧ t.twin.missBlocks = s.twin.missBlocks + 1 ∧
      t.twin.missTwhb = s.twin.missTwhb + 1 ∧ t.twin.missAt = s.now + 1 ∧ t.twin.hbMissed = bump 32 s.twin.hbMissed) ∧
  (∀ s, s.twin.en = true → s.twin.server = false → s.twin.st = .inStep → s.twin.barred = false → 3 ≤ s.twin.missBlocks → 3 ≤ s.twin.missTwhb →
    ∃ t, exec .takeover s = .next t ∧ t.twin.server = true ∧ t.twin.epoch = (s.twin.twinEpoch + 1) % 2 ^ 32 ∧ t.twin.st = .alone ∧
      t.twin.takeovers = bump 32 s.twin.takeovers ∧ t.twin.lastTakeoverTick = s.now) ∧
  (∀ s apply o, s.twin.handover = some (apply, o) → apply ≤ s.now → s.twin.st = .inStep → s.twin.server = true →
    ∃ t, exec .handoverApply s = .next t ∧ t = { s with twin := t.twin, evt := t.evt } ∧ t.twin.server = false ∧ t.twin.st = .inStep ∧
      t.twin.twinEpoch = (s.twin.epoch + 1) % 2 ^ 32 ∧ ∃ d, Raised [⟨456, 0x1102, d, s.now⟩] s t) ∧
  (∀ s apply o, s.twin.handover = some (apply, o) → apply ≤ s.now → s.twin.st = .inStep → s.twin.server = false →
    ∃ t, exec .handoverApply s = .next t ∧ t.twin.server = true ∧ t.twin.st = .inStep ∧ t.twin.epoch = (s.twin.twinEpoch + 1) % 2 ^ 32) ∧
  (∀ s k, s.twin.block = some k → s.twin.en = true → s.twin.server = false → s.twin.st = .inStep → k.yields = true → s.twin.barred = false →
      s.twin.blockTick ≤ s.now →
    ∃ t, exec .yieldTake s = .next t ∧ t.twin.server = true ∧ t.twin.epoch = (k.epoch + 1) % 2 ^ 32) ∧
  (∀ s m, s.twin.en = true → s.twin.server = true → s.twin.st = .inStep → m ∈ s.twin.mirrors → m.acked = false → m.sentAt + 1000 ≤ s.now →
      s.twin.joinOrigin = none → s.twin.linkUp = true →
    ∃ t, exec .mirrorAckTimeout s = .next t ∧ t = { s with twin := t.twin, evt := t.evt } ∧ t.twin.st = .paired ∧ t.twin.lastReason = 1 ∧
      t.twin.server = true)

/-- R624, R625, R627, R656: joining and forwarded commands. A phase of a join ends; a unit is cut in when its turn has come, 8 tk after the last; a join
that takes 500 ms fails with JOIN_FAIL; Myavat joins again after 1 s; a forwarded command is answered with the returner's result, or TIMEOUT. -/
def Obligations.TwinJoin : Prop :=
  (∀ s items, s.twin.st = .joining → s.twin.joinPhase = 1 → s.isReturner = false →
    ∃ t, exec (.joinPhaseDone items) s = .next t ∧ t = { s with twin := { s.twin with joinPhase := 2 } }) ∧
  (∀ s n, s.twin.st = .joining → s.twin.joinPhase = 2 → s.isReturner = true →
    ∃ t, exec (.joinPhaseDone [.tick n]) s = .next t ∧ t.clock.tick = n ∧ t.twin.joinPhase = 3) ∧
  (∀ s u, s.twin.st = .joining → s.twin.joinPhase = 4 → s.twin.cutDone.length = unitKey u → (∀ c ∈ s.twin.cuts, c.2 + 8 ≤ s.now) →
    ∃ t, exec (.cutIn u) s = .next t ∧ t = { s with twin := t.twin } ∧ (u, s.now) ∈ t.twin.cuts ∧ u ∈ t.twin.cutDone) ∧
  (∀ s, s.twin.st = .joining → s.twin.en = true → s.twin.joinStart + 500000 ≤ s.now → s.twin.server = true → s.twin.joinOrigin = none →
      s.twin.linkUp = true →
    ∃ t, exec .joinTimeout s = .next t ∧ t = { s with twin := t.twin, evt := t.evt } ∧ t.twin.st = .paired ∧ t.twin.lastReason = 7) ∧
  (∀ s at_, s.twin.leftAt = some at_ → s.twin.server = true → at_ + 1000000 ≤ s.now → s.twin.lastReason ≠ 5 → s.twin.lastReason ≠ 6 →
      s.joinFails = none →
    ∃ t, exec .autoRejoin s = .next t ∧ t.twin.st = .joining ∧ t.twin.joinPhase = 1 ∧ t.twin.joinStart = s.now ∧ t.twin.leftAt = none) ∧
  (∀ s, s.isReturner = true → s.twin.linkUp = true → s.twin.pos ≤ 1 → s.inLoader = false → s.courts[(0 : Fin 16)].state = .active →
      (s.mbox 0 2).running = none →
    ∃ t msg, exec (.twinForwardedCommand 0x1202 (leBytes s.twin.pos 4) none) s = .next t ∧ t.twin.armAt = none ∧
      t.twin.results = s.twin.results ++ [msg] ∧ msg.opcode = 0x1202 ∧ (t.mbox 0 2).running = none) ∧
  (∀ s opcode st dt vals f r, s.twin.server = true → s.twin.linkUp = true → opcode ≠ 0x0E10 →
      s.twin.forwards.find? (fun x => x.opcode == opcode) = some f → (s.mbox f.origin.court f.origin.mbx).running = some r → r.via = 0 →
    ∃ t, exec (.twinForwardResult opcode st dt vals) s = .next t ∧ t.twin.forwards = s.twin.forwards.erase f ∧
      (t.mbox f.origin.court f.origin.mbx).out = (s.mbox f.origin.court f.origin.mbx).out ++
        [responseMsg r.opcode r.seq st dt false (withValues f.layout (vals ++ List.replicate f.layout.length 0)) s.now]) ∧
  (∀ s f r, s.twin.forwards.find? (fun x => x.sentAt + x.limit + 100000 ≤ s.now) = some f →
      (s.mbox f.origin.court f.origin.mbx).running = some r → r.via = 0 →
    ∃ t, exec .twinForwardTimeout s = .next t ∧ t.twin.forwards = s.twin.forwards.erase f ∧
      (t.mbox f.origin.court f.origin.mbx).out = (s.mbox f.origin.court f.origin.mbx).out ++
        [responseMsg r.opcode r.seq stTIMEOUT 0 false (zeroFields f.layout) s.now])

/-- R623, R632, R633: the commands of the pair. TWIN_STATUS reports; JOIN and LEAVE wait for the next boundary, HANDOVER for its tick; a server's TAKE is
refused with BAD_STATE, and a returner without heartbeat takes the serve at the next boundary. -/
def Obligations.TwinCards : Prop :=
  (∀ o s, Serves o s → FromCourt o [0, 2] →
    exec (.twinStatus o) s = .next (s.repliedOk o 0x1101 ([8, 8, 8, 8, 32, 32, 32, 8, 8, 16] ++ List.replicate 7 32 ++ [64])
      [s.twin.st.code, b2n s.twin.server, s.twin.pos, s.twin.joinPhase, s.twin.epoch, s.twin.twinEpoch, s.twin.delayPs, s.twin.lastReason,
       s.twin.lastRegion, 0, s.twin.hbMissed, s.twin.rxDisagree, s.twin.digestMismatches, s.twin.mirrorsSent, s.twin.resends, s.twin.takeovers,
       s.twin.joins, s.twin.lastTakeoverTick])) ∧
  (∀ o s, Serves o s → FromCourt o [0] → s.joinFails = none →
    ∃ t, exec (.twinJoin o 0) s = .next t ∧ t = { s.take o.court o.mbx 0x1102 [64] with twin := { s.twin with todo := s.twin.todo ++ [(TwinDo.join, some o)] } }) ∧
  (∀ o s k, Serves o s → FromCourt o [0] → s.joinFails = some k →
    exec (.twinJoin o 0) s = .next (s.repliedNo o 0x1102 stBAD_STATE k [64])) ∧
  (∀ o s apply, Serves o s → FromCourt o [0] → s.inStep = true → s.twin.server = true → s.now + 1000 ≤ apply →
    exec (.twinHandover o apply) s = .next ({ s with twin := { s.twin with handover := some (apply, some o) } }.repliedOk o 0x1102 [64] [apply])) ∧
  (∀ o s, s.canTake o.court o.mbx = true → s.twin.armAt = none → reserved o = none → s.inLoader = false → FromCourt o [0] → s.twin.en = true →
      s.twin.server = false → s.blockNow = none → 1 ≤ s.twin.missTwhb → s.twin.barred = false →
    exec (.twinTake o 0) s = .next ({ s with twin := { s.twin with todo := s.twin.todo ++ [(TwinDo.take, none)] } }.repliedOk o 0x1102 [64] [s.now + 1])) ∧
  (∀ o s, Serves o s → FromCourt o [0] → s.twin.en = false →
    exec (.twinTake o 0) s = .next (s.repliedNo o 0x1102 stBAD_STATE 0 [64])) ∧
  (∀ o s, Serves o s → FromCourt o [0] → s.twin.st = .inStep →
    exec (.twinLeave o 0) s = .next ({ s with twin := { s.twin with todo := s.twin.todo ++ [(TwinDo.leave, none)] } }.repliedOk o 0x1102 [64] [s.now + 1]))

/-- R35, R49, R597, R637, R639, R644: what a start leaves. POR and PIN begin the tick count anew, SOFT and WDOG keep it and the host port; fuses, the
island's time and the queue of commands stay; every setting, generation and stored word goes; LAST_RESET tells the kind. R648, R651, R653, R655, R658:
the self-check, trials, slot writes and the swap. A self-check that passes is raised; a trial whose window ends makes the slot BAD and prepares a SOFT
reset; a verified write makes the slot STAGED with its SVN and manifest hash; at S the server yields with the epoch plus 1. -/
def Obligations.StartsAndBoot : Prop :=
  (∀ s i, ∃ t, exec (.powerOnReset i) s = .next t ∧ t.clock.tick = 0 ∧ t.faults.lastReset = 0 ∧ t.keys.fuses = s.keys.fuses ∧
      t.keys.debugState = false ∧ t.gens = Gens.reset ∧ t.armed = [] ∧ t.mem.cells = [] ∧ t.certs = [] ∧ t.pending = s.pending ∧
      t.island.rtcSec = s.island.rtcSec) ∧
  (∀ s i, ∃ t, exec (.pinReset i) s = .next t ∧ t.clock.tick = 0 ∧ t.faults.lastReset = 1 ∧ t.keys.fuses = s.keys.fuses ∧
      t.keys.debugState = false ∧ t.gens = Gens.reset ∧ t.armed = [] ∧ t.mem.cells = [] ∧ t.certs = [] ∧ t.pending = s.pending ∧
      t.island.rtcSec = s.island.rtcSec) ∧
  (∀ s i, i.failing = [] → ∃ t, exec (.pinReset i) s = .next t ∧ t.faults.book.frozen = s.faults.book.frozen) ∧
  (∀ s i w due, s.boot.softWait = some w → w.due = some due → due ≤ s.now →
    ∃ t, exec (.softReset i) s = .next t ∧ t.clock.tick = s.clock.tick ∧ t.faults.lastReset = 2 ∧ t.host.port = s.host.port ∧
      t.keys.fuses = s.keys.fuses ∧ t.gens = Gens.reset ∧ t.armed = [] ∧ t.mem.cells = [] ∧ t.pending = s.pending) ∧
  (∀ s i due, s.faults.clockLost = false → s.faults.resetAt = some due → due ≤ s.now →
    ∃ t, exec (.wdogReset i) s = .next t ∧ t.clock.tick = s.clock.tick ∧ t.faults.lastReset = 3 ∧ t.host.port = s.host.port ∧
      t.keys.fuses = s.keys.fuses ∧ t.gens = Gens.reset ∧ t.armed = [] ∧ t.mem.cells = []) ∧
  (∀ s i, s.faults.clockLost = true → s.boot.resetHeld = true →
    ∃ t, exec (.wdogReset i) s = .next t ∧ t.clock.tick = s.clock.tick ∧ t.faults.lastReset = 4) ∧
  (∀ s j, s.host.ready = true → s.inLoader = false → s.boot.selfCheck = 0 → s.selfCheckOk = true → s.boot.runSlot = some j →
    ∃ t, exec .selfCheck s = .next t ∧ t = { s with boot := { s.boot with selfCheck := 1 }, evt := t.evt } ∧
      ∃ d, Raised [⟨461, 0x1201, d, s.now⟩] s t) ∧
  (∀ s j fin, s.boot.trialEnd = some fin → s.boot.runSlot = some j → fin ≤ s.now → s.boot.record.slots[j].st = .trial →
    ∃ t w, exec .trialTimeout s = .next t ∧ t.boot.record.slots[j].st = .bad ∧ t.boot.trialEnd = none ∧ t.boot.softWait = some w ∧ w.at_ = s.now ∧
      w.trial = true ∧ t.mem = s.mem) ∧
  (∀ s w o, s.boot.write = some w → w.origin = some o → w.golden = false → w.forward = false →
    ∃ t, exec (.bundleWriteDone 0) s = .next t ∧ t.boot.write = none ∧ t.boot.images[w.slot] = w.image ∧ t.boot.record.slots[w.slot].st = .staged ∧
      t.boot.record.slots[w.slot].hash = manifestHash w.image ∧ t.bays = s.bays ∧ t.mem = s.mem) ∧
  (∀ s w o code, s.boot.write = some w → w.origin = some o → code ≠ 0 →
    ∃ t, exec (.bundleWriteDone code) s = .next t ∧ t.boot.write = none ∧ t.boot.record.slots[w.slot].st = .empty ∧
      t.boot.lastFail[w.slot] = code) ∧
  (∀ s items fin o, s.twin.server = true → s.twin.swapAt = some (fin, o) → fin + 2000000 ≤ s.now →
    ∃ t, exec (.updateSwapApply true items) s = .next t ∧ t.twin.server = false ∧ t.twin.swapAt = none) ∧
  (∀ s, s.twin.server = false → s.twin.en = true → s.twin.st = .paired →
    ∃ t, exec (.updateSwapApply true []) s = .next t ∧ t.twin.server = true ∧ t.twin.st = .alone ∧ t.twin.epoch = (s.twin.twinEpoch + 1) % 2 ^ 32)

/-- R659 to R665 on an unpaired QN960: SYS_RESET and UPDATE_ACTIVATE prepare a SOFT reset, BOOT_STATUS reports, BUNDLE_WRITE of a verified bundle erases
the slot of A and B that is neither ACTIVE nor running, and UPDATE_CONFIRM makes the running trial CONFIRMED and ACTIVE. -/
def Obligations.BootCards : Prop :=
  (∀ o s, Serves o s → FromCourt o [0] → s.twin.en = false →
    ∃ t w, exec (.sysReset o 0) s = .next t ∧ t.boot.softWait = some w ∧ w.at_ = s.now ∧ w.origin = some o ∧ w.trial = false ∧ w.due = none ∧
      t.mem = s.mem) ∧
  (∀ o s, Serves o s → FromCourt o [0, 2] → s.twin.en = false →
    exec (.bootStatus o 0) s = .next (s.repliedOk o 0x1202 bootLayout s.bootValues)) ∧
  (∀ o s transfer, s.canTake o.court o.mbx = true → s.twin.armAt = none → reserved o = none → s.isReturner = false → s.inLoader = true →
      FromCourt o [0] → (s.xfer? o.court transfer).isSome = true →
    ∃ t, exec (.bootHost o transfer) s = .next t ∧ (s.bundleCode true (s.xferData o.court transfer) = 0 →
      t.boot.fromHost = true ∧ t.boot.hostImage = s.xferData o.court transfer ∧
      t.host.myMajor = leGet (bundleManifest (s.xferData o.court transfer)) 4 1)) ∧
  (∀ o s flags transfer, Serves o s → FromCourt o [0] → s.twin.en = false → flags < 2 → s.writeBarred = false →
      (s.xfer? o.court transfer).isSome = true →
    ∃ t, exec (.bundleWrite o 0 0 flags transfer) s = .next t ∧ (s.bundleCode true (s.xferData o.court transfer) = 0 →
      t.boot.write = some ⟨some o, s.boot.target, s.xferData o.court transfer, bitOf flags 0, false⟩ ∧
      t.boot.record.slots[s.boot.target].st = .empty ∧ (t.xfer? o.court transfer) = none ∧ t.bays = s.bays ∧ t.mem = s.mem)) ∧
  (∀ o s flags j, Serves o s → FromCourt o [0] → s.twin.en = false → flags < 2 → s.writeBarred = false → s.boot.runSlot = some j →
      j = s.boot.record.activeSlot → s.boot.record.slots[j].st = .confirmed →
    ∃ t, exec (.bundleGoldenCopy o 0 flags 0) s = .next t ∧ (s.bundleCode true s.boot.images[j] = 0 →
      t.boot.write = some ⟨some o, 0, s.boot.images[j], bitOf flags 0, true⟩ ∧ t.mem = s.mem)) ∧
  (∀ o s trialS, Serves o s → FromCourt o [0] → s.twin.en = false → 60 ≤ trialS → trialS ≤ 86400 → s.boot.record.slots[(2 : Fin 3)].st = .staged →
    ∃ t w, exec (.updateActivate o 0 2 trialS) s = .next t ∧ t.boot.record.slots[(2 : Fin 3)].st = .trial ∧
      t.boot.record.slots[(2 : Fin 3)].attempts = 1 ∧ t.boot.record.slots[(2 : Fin 3)].trialS = trialS ∧ t.boot.softWait = some w ∧
      w.origin = some o ∧ w.trial = true) ∧
  (∀ o s hash j, Serves o s → FromCourt o [0] → s.twin.en = false → s.boot.runSlot = some j → s.boot.record.slots[j].hash = hash →
      s.boot.record.slots[j].st = .trial → s.boot.selfCheck = 1 →
    ∃ t, exec (.updateConfirm o 0 hash) s = .next t ∧ t.boot.record.slots[j].st = .confirmed ∧ t.boot.record.active = j.val ∧
      t.boot.trialEnd = none ∧ t.bays = s.bays ∧ t.mem = s.mem) ∧
  (∀ o s apply, Serves o s → FromCourt o [0] → s.now + 1000 ≤ apply → s.swapFails = none → s.twin.swapAt = none →
    ∃ t, exec (.updateSwap o apply) s = .next t ∧ t = { s.take o.court o.mbx 0x1213 [64, 32] with twin := { s.twin with swapAt := some (apply, o) } })

/-- R667, R668, R669, R671: the island's supply, crystal, brown-out and clock. A supply switch leaves every register and store word; a stopped crystal
clears RTC_VALID and raises ISLAND_HEALTH; VBAT below 2.3 V is reported; the RTC takes legal UTC at a legal second. R672, R673, R674, R675, R677: with
the CELL domain stopped a tamper input and the first theft second are queued with their RTC second and raised; ISL_TAMPER tells the release; WAKE_N,
the RTC alarm, a named source and a write of WAKE end a low-power state, the first one being recorded. -/
def Obligations.IslandEvents : Prop :=
  (∀ s, s.island.running = true →
    ∃ t, exec (.islandSupplySwitch true) s = .next t ∧ t = { s with island := t.island, clock := t.clock, host := t.host } ∧
      t.island = { s.island with onVbat := true, lowPower := if s.island.lowPower = 1 then 0 else s.island.lowPower } ∧
      t.clock = { s.clock with cellRuns := false } ∧ t.host.ready = false) ∧
  (∀ s, s.island.running = true →
    exec (.islandSupplySwitch false) s = .next { s with island := { s.island with onVbat := false } }) ∧
  (∀ s, s.island.running = true → s.island.onRc = false →
    ∃ t, exec .crystalStop s = .next t ∧ t = { s with island := t.island, evt := t.evt } ∧ t.island.onRc = true ∧ t.island.rtcValid = false ∧
      t.island.xtalFail = true ∧ t.island.rtcSec = s.island.rtcSec ∧ t.island.queue = s.island.queue ∧
      ∃ d n, Raised [⟨466, 0x0143, d, n⟩] s t) ∧
  (∀ s, s.island.running = true → exec .crystalResume s = .next { s with island := { s.island with onRc := false } }) ∧
  (∀ s, exec .islandBrownout s = .next { s with island := { s.island with running := false } }) ∧
  (∀ s, s.island.running = false →
    ∃ t, exec .islandFreshStart s = .next t ∧ t = { s with island := t.island, legal := t.legal, faults := t.faults } ∧ t.island.fresh = true ∧
      t.island.running = true ∧ t.island.queue = [] ∧ t.island.wake = Vector.replicate 32 ⟨0, false⟩ ∧ t.legal.mirror.mark = false ∧
      t.faults.copy.mark = false) ∧
  (∀ s mv, s.island.running = true → s.island.onVbat = false → s.island.vbatLow = false → mv < 2300 →
    ∃ t, exec (.vbatMeasure mv) s = .next t ∧ t = { s with island := t.island, evt := t.evt } ∧ t.island.vbatMv = mv ∧ t.island.vbatLow = true ∧
      ∃ d n, Raised [⟨466, 0x0143, d, n⟩] s t) ∧
  (∀ s, s.island.running = true → s.legal.valid = true → s.legal.utc (s.now - 1) < s.legal.utc s.now → (s.legal.utc s.now - 1) % 3600 = 0 →
    exec .rtcSet s = .next { s with island := { s.island with
      rtcSec := s.legal.utc s.now % 2 ^ 40, rtcFrac := 0, rtcValid := true, xtalFail := false } }) ∧
  (∀ s (i : Fin 4) sec, s.island.running = true → s.clock.cellRuns = false → s.isReturner = false → s.island.tampLevel.getLsbD i.val = false →
    s.island.queue.length < 16 →
    ∃ t, exec (.tamperInput i sec) s = .next t ∧ t = { s with island := t.island, evt := t.evt } ∧
      t.island.queue = s.island.queue ++ [⟨(inputKind i).val, sec % 2 ^ 40, s.island.rtcValid, 0⟩] ∧
      t.island.tampLevel = s.island.tampLevel ||| BitVec.ofNat 4 (2 ^ i.val) ∧ Raised [⟨463, 0x0140, (i.val + 4) % 2 ^ 32, 0⟩] s t) ∧
  (∀ s (i : Fin 4), s.island.running = true → s.island.tampLevel.getLsbD i.val = true →
    ∃ t, exec (.tamperInputInactive i) s = .next t ∧ t = { s with island := t.island, evt := t.evt } ∧
      t.island.tampLevel = s.island.tampLevel &&& ~~~ BitVec.ofNat 4 (2 ^ i.val) ∧ t.island.queue = s.island.queue ∧
      Raised [⟨463, 0x0140, i.val % 2 ^ 32, if s.clock.cellRuns then s.now else 0⟩] s t) ∧
  (∀ s sec (sums : Vector Nat 4), s.island.running = true → s.island.theftEn = true → s.clock.cellRuns = false → s.island.watchOpen = false →
    s.island.queue.length < 16 → s.island.theftMinMa ≤ theftMa sums[(0 : Fin 4)] s.island.ctLsbUa[(0 : Fin 4)] →
    ∃ t, exec (.theftSecond sec sums) s = .next t ∧ t = { s with island := t.island, evt := t.evt } ∧ t.island.watchOpen = true ∧
      t.island.queue = s.island.queue ++ [⟨7, sec % 2 ^ 40, s.island.rtcValid, 0⟩] ∧
      ∃ d, Raised [⟨465, 0x0142, d, 0⟩] s t) ∧
  (∀ s, s.island.running = true → s.island.lowPower ≠ 0 → s.island.wakeCause = 0 →
    exec .wakeNLow s = .next { s with island := { s.island with wakeCause := 1, wakeSource := 0, pwrReq := true } }) ∧
  (∀ s sec, s.island.running = true → s.island.lowPower ≠ 0 → s.island.wakeCause = 0 → s.island.wakeAt ≠ 0 → s.island.wakeAt ≤ sec → sec < 2 ^ 40 →
    ∃ t, exec (.rtcAlarm sec) s = .next t ∧ t = { s with island := t.island, evt := t.evt } ∧ t.island.wakeCause = 3 ∧ t.island.rtcSec = sec ∧
      t.island.pwrReq = true ∧ ∃ n, Raised [⟨464, 0x0141, sec % 2 ^ 32, n⟩] s t) ∧
  (∀ s src, s.island.running = true → s.island.lowPower ≠ 0 → s.island.wakeCause = 0 → s.wakeNamed src = true →
    exec (.wakeSourceOccurrence src) s = .next { s with island := { s.island with wakeCause := 4, wakeSource := src, pwrReq := true } }) ∧
  (∀ s value, s.host.port = .pcie → bitOf value 0 = true → s.island.lowPower = 1 → s.island.wakeCause = 0 →
    exec (.devWakeWrite value) s = .next { s with island := { s.island with wakeCause := 2, wakeSource := 0, pwrReq := true } }) ∧
  (∀ s i, s.island.lowPower ≠ 0 → s.island.wakeCause ≠ 0 →
    exec (.islandRailsReady i) s = .next (s.startChip (4 + s.island.lowPower) i))

/-- R676, R682 to R684: LOWPOWER_ENTER ends every session, takes WAKE_AT and THEFT_EN and answers later; ISLAND_CONFIG takes effect at once and
ISLAND_STATUS reports; nothing else changes with the last two. -/
def Obligations.IslandCards : Prop :=
  (∀ o s flags wakeAt, Serves o s → FromCourt o [0] → flags < 2 → (wakeAt = 0 ∨ s.island.rtcValid = true) → s.host.port = .pcie →
    s.boot.entering = none →
    ∃ t, exec (.lowpowerEnterQuiet o 1 flags wakeAt) s = .next t ∧ t.boot.entering = some (1, some o, s.now) ∧ t.host.lpState = 1 ∧
      t.island = { s.island with theftEn := bitOf flags 0, wakeAt := wakeAt, wakeCause := 0, wakeSource := 0 } ∧ t.mem = s.mem) ∧
  (∀ o s flags wakeAt, Serves o s → FromCourt o [0] → flags < 2 → (wakeAt = 0 ∨ s.island.rtcValid = true) → s.boot.entering = none →
    ∃ t, exec (.lowpowerEnterIsland o 2 flags wakeAt) s = .next t ∧ t.boot.entering = some (2, some o, s.now) ∧ t.host.lpState = 1 ∧
      t.island = { s.island with theftEn := bitOf flags 0, wakeAt := wakeAt, wakeCause := 0, wakeSource := 0 } ∧ t.mem = s.mem) ∧
  (∀ o s (en minMa a b c d : Nat), Serves o s → FromCourt o [0, 1] → en ≤ 1 → 100 ≤ minMa → minMa ≤ 65535 → (∀ x ∈ [a, b, c, d], 1 ≤ x ∧ x ≤ 10000000) →
    exec (.islandConfig o en minMa a b c d) s = .next ({ s with island := { s.island with
      theftEn := en == 1, theftMinMa := minMa, ctLsbUa := #v[a, b, c, d] } }.repliedOk o 0x0142 [] [])) ∧
  (∀ o s, Serves o s → FromCourt o [0, 1, 2] →
    ∃ k : Island, exec (.islandStatus o) s = .next ({ s with island := k, free := s.free + 1 }.repliedOk o 0x0141
        [32, 32, 32, 32, 64, 8, 8, 16, 32, 32, 32, 32] (k.regs ++ [k.wakeAt, b2n k.theftEn, 0, k.theftMinMa] ++ k.ctLsbUa.toList)) ∧
      k = { s.island with rtcSec := k.rtcSec, rtcFrac := k.rtcFrac })
end

