-- ==== Sys2Proof/Laws/Cards.lean ====
section
/-! SUPPORT. Requests: what taking, answering and a whole card do to a state. -/

namespace Sys2Proof.Machine

/-- Changing one element of a vector twice is changing it once. -/
theorem vmod_vmod {α : Type} {n : Nat} (v : Vector α n) (i : Fin n) (f g : α → α) : vmod (vmod v i f) i g = vmod v i (fun x => g (f x)) := by
  simp [vmod]

/-- The element that was changed. -/
@[simp] theorem vmod_same {α : Type} {n : Nat} (v : Vector α n) (i : Fin n) (f : α → α) : (vmod v i f)[i.val] = f v[i] := by
  simp [vmod]

/-- The other elements stay. -/
theorem vmod_other {α : Type} {n : Nat} (v : Vector α n) (i j : Fin n) (f : α → α) (h : j ≠ i) : (vmod v i f)[j] = v[j] := by
  simp only [vmod, Fin.getElem_fin, Vector.getElem_set]
  rw [if_neg]
  intro e
  exact h (Fin.ext e.symm)

/-- Only what the change makes of the element matters. -/
theorem vmod_congr {α : Type} {n : Nat} {v : Vector α n} {i : Fin n} {f g : α → α} (h : f v[i] = g v[i]) : vmod v i f = vmod v i g := by
  simp only [vmod, h]

/-- Only what the change makes of the mailbox matters. -/
theorem onMbx_congr {s : State} {c : CourtId} {m : MbxId} {f g : Mailbox → Mailbox} (h : f (s.mbox c m) = g (s.mbox c m)) :
    s.onMbx c m f = s.onMbx c m g := by
  have e2 : vmod s.courts[c].mbx m f = vmod s.courts[c].mbx m g := vmod_congr h
  unfold State.onMbx State.onCourt
  have e3 : (vmod s.courts c fun k => { k with mbx := vmod k.mbx m f }) = vmod s.courts c fun k => { k with mbx := vmod k.mbx m g } := by
    unfold vmod at e2 ⊢
    simp only [e2]
  rw [e3]

/-- The mailbox that was changed. -/
theorem mbox_onMbx (s : State) (c : CourtId) (m : MbxId) (f : Mailbox → Mailbox) : (s.onMbx c m f).mbox c m = f (s.mbox c m) := by
  simp [State.mbox, State.onMbx, State.onCourt]

/-- Changing a mailbox twice is changing it once. -/
theorem onMbx_onMbx (s : State) (c : CourtId) (m : MbxId) (f g : Mailbox → Mailbox) :
    (s.onMbx c m f).onMbx c m g = s.onMbx c m (fun x => g (f x)) := by
  simp only [State.onMbx, State.onCourt, vmod_vmod]

/-- A mailbox that takes a request of its own is not the event stream. -/
theorem canTake_mbx {s : State} {c : CourtId} {m : MbxId} (h : s.canTake c m = true) (ha : s.twin.armAt = none) : m.val ≠ 2 := by
  simp only [State.canTake, ha, Option.isSome_none, Bool.false_eq_true, if_false, Bool.and_eq_true, bne_iff_ne] at h
  exact h.1.1.1.1.1.1

/-- A request that is taken and answered leaves the response and nothing else. -/
theorem take_answer {s : State} {c : CourtId} {m : MbxId} (h : s.canTake c m = true) (ha : s.twin.armAt = none) (o : Origin) (hc : o.court = c)
    (hm : o.mbx = m) (op : Nat) (lay : List Nat) (st dt : Nat) (bulk : Bool) (fs : List Field) :
    (s.take c m op lay).answer c m st dt bulk fs = s.replied o op st dt bulk fs := by
  have h2 := canTake_mbx h ha
  subst hc hm
  simp only [State.take, State.answer, mbox_onMbx, ha, Option.isSome_none, if_neg h2, Bool.false_eq_true, if_false, onMbx_onMbx, State.replied]
  exact onMbx_congr (by simp [State.now, State.onMbx, State.onCourt])

/-- No refusal means that no check fails. -/
@[simp] theorem firstRefusal_cons (a : Chk) (l : List Chk) : firstRefusal (a :: l) = none ↔ a = none ∧ firstRefusal l = none := by
  cases a with
  | none => simp [firstRefusal]
  | some a =>
    simp only [firstRefusal, reduceCtorEq, false_and, iff_false]
    split
    · simp
    · split <;> simp

/-- No check, no refusal. -/
@[simp] theorem firstRefusal_nil : firstRefusal [] = none := rfl

/-- A check passes where its condition holds. -/
@[simp] theorem need_none (ok : Bool) (st dt : Nat) : need ok st dt = none ↔ ok = true := by
  cases ok <;> simp [need]

/-- A range check passes where its condition holds. -/
@[simp] theorem rng_none (pos : Nat) (ok : Bool) : rng pos ok = none ↔ ok = true := need_none ok _ _

/-- The court check passes for the courts of the card. -/
@[simp] theorem permit_none (o : Origin) (cs : List Nat) : permit o cs = none ↔ FromCourt o cs := by
  simp [permit]

/-- The checks of the mode pass for a QN960 on which Myavat runs and which is no returner. -/
theorem modeChecks_pass {o : Origin} {s : State} (h : Serves o s) (op lay) (l : List Chk) (hl : firstRefusal l = none) :
    firstRefusal (reserved o :: (modeChecks (s.take o.court o.mbx op lay) op ++ l)) = none := by
  obtain ⟨_, _, h3, h4, h5⟩ := h
  have e1 : (s.take o.court o.mbx op lay).inLoader = false := h5
  have e2 : (s.take o.court o.mbx op lay).isReturner = false := h4
  simp [modeChecks, e1, e2, h3, need, firstRefusal, hl]

/-- A card whose checks pass: the body runs on the taken request and its values are the response. -/
theorem card_run {o : Origin} {s : State} (h : Serves o s) (op : Nat) (lay : List Nat) (chk : State → List Chk) (body : State → State × List Nat)
    (hc : firstRefusal (chk (s.take o.court o.mbx op lay)) = none) :
    card o op lay chk body s = (body (s.take o.court o.mbx op lay)).1.answer o.court o.mbx stOK 0 false
      (withValues lay (body (s.take o.court o.mbx op lay)).2) := by
  simp only [card, h.1, if_true, modeChecks_pass h op lay _ hc]

/-- A card whose answer comes later: the body runs on the taken request. -/
theorem cardLater_run {o : Origin} {s : State} (h : Serves o s) (op : Nat) (lay : List Nat) (chk : State → List Chk) (body : State → State)
    (hc : firstRefusal (chk (s.take o.court o.mbx op lay)) = none) :
    cardLater o op lay chk body s = body (s.take o.court o.mbx op lay) := by
  simp only [cardLater, h.1, if_true, modeChecks_pass h op lay _ hc]

/-- A card that only reads and answers. -/
theorem card_read {o : Origin} {s : State} (h : Serves o s) (op : Nat) (lay : List Nat) (chk : State → List Chk) (body : State → State × List Nat)
    (t : State) (vals : List Nat) (hc : firstRefusal (chk (s.take o.court o.mbx op lay)) = none)
    (hb : body (s.take o.court o.mbx op lay) = (t.take o.court o.mbx op lay, vals)) (ht : t.canTake o.court o.mbx = true) (ha : t.twin.armAt = none) :
    card o op lay chk body s = t.repliedOk o op lay vals := by
  rw [card_run h op lay chk body hc, hb]
  exact take_answer ht ha o rfl rfl op lay _ _ _ _

/-- A change of a court beside its mailboxes. -/
def CourtSide (f : Court → Court) : Prop := ∀ k v, f { k with mbx := v } = { f k with mbx := v }

/-- Changes that commute on every element commute on a vector. -/
theorem vmod_comm {α : Type} {n : Nat} (v : Vector α n) (i j : Fin n) (f g : α → α) (h : ∀ x, f (g x) = g (f x)) :
    vmod (vmod v i f) j g = vmod (vmod v j g) i f := by
  by_cases e : i = j
  · subst e; simp [vmod_vmod, h]
  · have e1 : j.val ≠ i.val := fun x => e (Fin.ext x.symm)
    apply Vector.ext
    intro k hk
    simp only [vmod, Vector.getElem_set, Fin.getElem_fin]
    by_cases a : i.val = k <;> by_cases b : j.val = k <;> simp_all

/-- Such a change leaves the mailboxes. -/
theorem courtSide_mbx {f : Court → Court} (h : CourtSide f) (k : Court) : (f k).mbx = k.mbx := by
  have := h k k.mbx
  rw [show ({ k with mbx := k.mbx } : Court) = k from rfl] at this
  rw [this]

/-- Such a change leaves every mailbox. -/
theorem mbox_onCourt {f : Court → Court} (h : CourtSide f) (s : State) (c c' : CourtId) (m : MbxId) : (s.onCourt c f).mbox c' m = s.mbox c' m := by
  by_cases e : c' = c
  · subst e; simp [State.mbox, State.onCourt, courtSide_mbx h]
  · simp only [State.mbox, State.onCourt, vmod_other _ _ _ _ e]

/-- Taking a request and changing a court beside its mailboxes commute. -/
theorem take_onCourt {f : Court → Court} (h : CourtSide f) (s : State) (c c' : CourtId) (m : MbxId) (op : Nat) (lay : List Nat) :
    (s.take c' m op lay).onCourt c f = (s.onCourt c f).take c' m op lay := by
  simp only [State.take, State.onMbx, State.onCourt]
  have e := vmod_comm s.courts c' c (fun k => { k with mbx := vmod k.mbx m fun x => { x with
    running := some ⟨op, x.expectSeq, s.now, lay, if m.val = 2 then 2 else if s.twin.armAt.isSome then 1 else 0⟩,
    expectSeq := if m.val = 2 then x.expectSeq else (x.expectSeq + 1) % 2 ^ 32 } }) f (by
      intro k; simp only [courtSide_mbx h]; exact (h k _).symm)
  rw [e]; rfl

/-- Such a change that leaves the court states leaves what can be taken. -/
theorem canTake_onCourt {f : Court → Court} (h : CourtSide f) (hs : ∀ k, (f k).state = k.state) (s : State) (c c' : CourtId) (m : MbxId) :
    (s.onCourt c f).canTake c' m = s.canTake c' m := by
  have e : (s.onCourt c f).courts[c'].state = s.courts[c'].state := by
    by_cases a : c' = c
    · subst a; simp [State.onCourt, hs]
    · simp only [State.onCourt, vmod_other _ _ _ _ a]
  unfold State.canTake State.mbxOpen State.outFull State.inLoader
  simp only [mbox_onCourt h, e]
  rfl
/-- A card that changes a court beside its mailboxes and answers. -/
theorem card_side {o : Origin} {s : State} (h : Serves o s) (op : Nat) (lay : List Nat) (chk : State → List Chk) (body : State → State × List Nat)
    (c : CourtId) (f : Court → Court) (vals : List Nat) (hf : CourtSide f) (hs : ∀ k, (f k).state = k.state)
    (hc : firstRefusal (chk (s.take o.court o.mbx op lay)) = none)
    (hb : body (s.take o.court o.mbx op lay) = ((s.take o.court o.mbx op lay).onCourt c f, vals)) :
    card o op lay chk body s = (s.onCourt c f).repliedOk o op lay vals := by
  refine card_read h op lay chk body _ vals hc ?_ ((canTake_onCourt hf hs s c _ _).trans h.1) h.2.1
  rw [hb, take_onCourt hf]

/-- The bay that a bay's number names. -/
@[simp] theorem bayOf_val (b : BayId) : bayOf b.val = some b := by simp [bayOf]

/-- The court that a court's number names. -/
@[simp] theorem courtOf_val (c : CourtId) : courtOf c.val = some c := by simp [courtOf]

/-- What is asked of a bay is asked of the bay its number names. -/
@[simp] theorem atBay_val {α : Type} (b : BayId) (d : α) (f : BayId → α) : atBay b.val d f = f b := by simp [atBay]

/-- A card for some courts and for the tenant that owns its bay lets them pass (R70, R85). -/
theorem bayPermit_pass {o : Origin} {cs : List Nat} {s : State} {b : BayId} (h : FromCourt o cs ∨ 3 ≤ o.court.val ∧ s.owner b = o.court.val) (pos : Nat) :
    bayPermit o cs pos b.val s = none := by
  unfold bayPermit
  by_cases a : FromCourt o cs
  · simp [a]
  · rcases h with h | ⟨h1, h2⟩
    · exact absurd h a
    · simp [a, Nat.not_lt.mpr h1, State.owns, h2]

/-- A card for the owner of its bay lets the owner pass (R70, R85). -/
theorem ownPermit_pass {o : Origin} {s : State} {b : BayId} (h1 : o.court.val ≠ 1) (h2 : o.court.val ≠ 2) (h : s.owner b = o.court.val) (pos : Nat) :
    ownPermit o pos b.val s = none := by
  simp [ownPermit, h1, h2, State.owns, h]

/-- A card whose checks fail: the refusal with its DETAIL and zero fields, and nothing else (R82, R85). -/
theorem card_refuse {o : Origin} {s : State} (h : Serves o s) (op : Nat) (lay : List Nat) (chk : State → List Chk) (body : State → State × List Nat)
    {st dt : Nat} (hc : firstRefusal (chk (s.take o.court o.mbx op lay)) = some (st, dt)) :
    card o op lay chk body s = s.repliedNo o op st dt lay := by
  obtain ⟨h1, h2, h3, h4, h5⟩ := h
  have e1 : (s.take o.court o.mbx op lay).inLoader = false := h5
  have e2 : (s.take o.court o.mbx op lay).isReturner = false := h4
  simp only [card, h1, if_true, modeChecks, e1, e2, h3, need, Bool.not_false, Bool.true_or, List.cons_append, List.nil_append, firstRefusal, hc]
  exact take_answer h1 h2 o rfl rfl op lay _ _ _ _

/-- A deferred card whose checks fail. -/
theorem cardLater_refuse {o : Origin} {s : State} (h : Serves o s) (op : Nat) (lay : List Nat) (chk : State → List Chk) (body : State → State)
    {st dt : Nat} (hc : firstRefusal (chk (s.take o.court o.mbx op lay)) = some (st, dt)) :
    cardLater o op lay chk body s = s.repliedNo o op st dt lay := by
  obtain ⟨h1, h2, h3, h4, h5⟩ := h
  have e1 : (s.take o.court o.mbx op lay).inLoader = false := h5
  have e2 : (s.take o.court o.mbx op lay).isReturner = false := h4
  simp only [cardLater, h1, if_true, modeChecks, e1, e2, h3, need, Bool.not_false, Bool.true_or, List.cons_append, List.nil_append, firstRefusal, hc]
  exact take_answer h1 h2 o rfl rfl op lay _ _ _ _

/-- A free tick is not before its base. -/
theorem freeTick_ge (armed : List Armed) (clash : Setting → Bool) (n t : Nat) : t ≤ freeTick armed clash n t := by
  induction n generalizing t with
  | zero => exact Nat.le_refl t
  | succ n ih =>
    unfold freeTick
    split
    · exact Nat.le_trans (Nat.le_succ t) (ih (t + 1))
    · exact Nat.le_refl t

/-- What is armed now takes effect at a later tick (R50). -/
theorem armBase_gt (o : Origin) (s : State) : s.now < armBase o s := by
  unfold armBase
  split
  · omega
  · split <;> omega

/-- Arming adds one settings change, for a later tick, and does nothing else (R50). -/
theorem arm_eq (s : State) (o : Origin) (cmd : Setting) (bays : BayMask) (site same : Bool) (clash : Setting → Bool) :
    ∃ n, s.arm o cmd bays site same clash = { s with armed := insertArmed ⟨n, o, cmd, bays, site, same⟩ s.armed } ∧ s.now < n := by
  unfold State.arm
  refine ⟨_, rfl, ?_⟩
  split
  · exact armBase_gt o s
  · exact Nat.lt_of_lt_of_le (armBase_gt o s) (freeTick_ge _ _ _ _)

end Sys2Proof.Machine
end

