-- ==== Sys2Proof/Laws/Frame.lean ====
section
/-! SUPPORT. Frames: the operations and commands that leave the queue of commands and the bytes of memory as they are: the
shared operations, mailboxes, keys, legal registers, meters and the safety unit. -/

namespace Sys2Proof.Machine

/-- What an operation leaves that takes no command from the queue and writes no memory: the queue, and the bytes of the regions' memory. -/
def State.kept (s : State) : List Instr × List Host.Cell := (s.pending, s.mem.cells)

theorem kept_mk (clock gens armed courts host evt regions mem bays heads slac ledger certs safety safePairs safeAccepted roundPos legal pulses
    fwLoad twin ring boot island keys faults free pending) :
    (State.mk clock gens armed courts host evt regions mem bays heads slac ledger certs safety safePairs safeAccepted roundPos legal pulses
      fwLoad twin ring boot island keys faults free pending).kept = (pending, mem.cells) := rfl

theorem kept_pending (s : State) : s.pending = s.kept.1 := rfl

theorem kept_cells (s : State) : s.mem.cells = s.kept.2 := rfl

theorem kept_eta (s : State) : (s.kept.1, s.kept.2) = s.kept := rfl

theorem kept_ite (c : Prop) [Decidable c] (s t : State) : (if c then s else t).kept = if c then s.kept else t.kept := by split <;> rfl

theorem kept_cond (c : Bool) (s t : State) : (bif c then s else t).kept = bif c then s.kept else t.kept := by cases c <;> rfl

/-- A fold keeps what each of its steps keeps. -/
theorem kept_foldl {α : Type} (f : State → α → State) (h : ∀ t x, (f t x).kept = t.kept) (l : List α) (s : State) :
    (l.foldl f s).kept = s.kept := by
  induction l generalizing s with
  | nil => rfl
  | cons x l ih => rw [List.foldl_cons, ih, h]

/-- What is done at a bay, if its number is one. -/
theorem kept_atBay {n : Nat} {d : State} {f : BayId → State} (h : ∀ b, (f b).kept = d.kept) : (atBay n d f).kept = d.kept := by
  unfold atBay
  split
  · exact h _
  · rfl

theorem kept_atBayPair {β : Type} {n : Nat} {d : State × β} {f : BayId → State × β} (h : ∀ b, (f b).1.kept = d.1.kept) :
    (atBay n d f).1.kept = d.1.kept := by
  unfold atBay
  split
  · exact h _
  · rfl

/-- What the next state of an outcome keeps. -/
def outKept : Out → Option (List Instr × List Host.Cell)
  | .next t => some t.kept
  | _ => none

theorem outKept_next (t : State) : outKept (.next t) = some t.kept := rfl

theorem outKept_ite (c : Prop) [Decidable c] (s t : Out) : outKept (if c then s else t) = if c then outKept s else outKept t := by split <;> rfl

/-- A command that keeps the queue and memory: its next state has both as they were. -/
theorem kept_of_outKept {o : Out} {s t : State} (h : outKept o = some s.kept) (e : o = .next t) : t.kept = s.kept := by
  subst e
  exact Option.some.inj h

/- Machine/Ops.lean -/

@[simp] theorem State.onCourt_kept (s : State) (c f) : (s.onCourt c f).kept = s.kept := by
  simp only [State.onCourt, ↓kept_mk, kept_pending, kept_cells, kept_eta]

@[simp] theorem State.onMbx_kept (s : State) (c m f) : (s.onMbx c m f).kept = s.kept := by
  simp only [State.onMbx, ↓State.onCourt_kept]

@[simp] theorem State.onBay_kept (s : State) (b f) : (s.onBay b f).kept = s.kept := by
  simp only [State.onBay, ↓kept_mk, kept_pending, kept_cells, kept_eta]

@[simp] theorem State.onRegion_kept (s : State) (r f) : (s.onRegion r f).kept = s.kept := by
  simp only [State.onRegion, ↓kept_mk, kept_pending, kept_cells, kept_eta]

@[simp] theorem State.drawn_kept (s : State) : s.drawn.kept = s.kept := by
  simp only [State.drawn, ↓kept_mk, kept_pending, kept_cells, kept_eta]

@[simp] theorem State.settleLine_kept (s : State) (acked) : (s.settleLine acked).kept = s.kept := by
  simp only [State.settleLine, ↓kept_mk, kept_pending, kept_cells, kept_eta]

@[simp] theorem State.raise_kept (s : State) (e) : (s.raise e).kept = s.kept := by
  simp only [State.raise, ↓kept_mk, kept_pending, kept_cells, kept_eta]

@[simp] theorem State.releaseEvent_kept (s : State) (e) : (s.releaseEvent e).kept = s.kept := by
  simp only [State.releaseEvent, ↓kept_mk, kept_pending, kept_cells, kept_eta]

@[simp] theorem State.releaseEvents_kept (s : State) : s.releaseEvents.kept = s.kept := by
  simp only [State.releaseEvents, ↓kept_mk, implies_true, ↓kept_foldl, kept_pending, kept_cells, kept_eta, ↓State.settleLine_kept,
    ↓State.releaseEvent_kept]

@[simp] theorem State.raiseNow_kept (s : State) (src kind data) : (s.raiseNow src kind data).kept = s.kept := by
  simp only [State.raiseNow, ↓State.raise_kept]

@[simp] theorem State.raiseAll_kept (s : State) (es) : (s.raiseAll es).kept = s.kept := by
  simp only [State.raiseAll, implies_true, ↓kept_foldl, ↓State.raise_kept]

@[simp] theorem State.post_kept (s : State) (c m msg) : (s.post c m msg).kept = s.kept := by
  simp only [State.post, ↓State.onMbx_kept]

@[simp] theorem State.sendBulk_kept (s : State) (c data) : (s.sendBulk c data).kept = s.kept := by
  simp only [State.sendBulk, ↓State.onCourt_kept]

@[simp] theorem State.consumeXfer_kept (s : State) (c num) : (s.consumeXfer c num).kept = s.kept := by
  simp only [State.consumeXfer, ↓State.onCourt_kept]

@[simp] theorem State.take_kept (s : State) (c m opcode layout) : (s.take c m opcode layout).kept = s.kept := by
  simp only [State.take, ↓State.onMbx_kept]

@[simp] theorem State.answer_kept (s : State) (c m st dt bulk fs) : (s.answer c m st dt bulk fs).kept = s.kept := by
  unfold State.answer
  (repeat' split) <;> simp only [↓kept_mk, kept_pending, kept_cells, kept_eta, ↓State.onMbx_kept]

@[simp] theorem State.leaveTo_kept (s : State) (o) : (s.leaveTo o).kept = s.kept := by
  simp only [State.leaveTo, ↓State.onMbx_kept]

@[simp] theorem State.refuse_kept (s : State) (o st dt layout) : (s.refuse o st dt layout).kept = s.kept := by
  simp only [State.refuse, ↓State.answer_kept]

@[simp] theorem State.ok_kept (s : State) (o layout vals) : (s.ok o layout vals).kept = s.kept := by
  simp only [State.ok, ↓State.answer_kept]

@[simp] theorem card_kept {o : Origin} {op : Nat} {lay : List Nat} {ck : State → List Chk} {body : State → State × List Nat} {s : State}
    (h : ∀ t, (body t).1.kept = t.kept) : (card o op lay ck body s).kept = s.kept := by
  unfold card
  split
  · dsimp only
    split <;> simp only [State.answer_kept, h, State.take_kept]
  · rfl

@[simp] theorem cardLater_kept {o : Origin} {op : Nat} {lay : List Nat} {ck : State → List Chk} {body : State → State} {s : State}
    (h : ∀ t, (body t).kept = t.kept) : (cardLater o op lay ck body s).kept = s.kept := by
  unfold cardLater
  split
  · dsimp only
    split <;> simp only [State.answer_kept, h, State.take_kept]
  · rfl

@[simp] theorem cardOwn_kept {o : Origin} {op : Nat} {lay : List Nat} {ck : State → List Chk} {body : State → State} {s : State}
    (h : ∀ t, (body t).kept = t.kept) : (cardOwn o op lay ck body s).kept = s.kept := cardLater_kept h

@[simp] theorem cardBulk_kept {o : Origin} {op : Nat} {lay : List Nat} {ck : State → List Chk} {body : State → State × List Nat × List Nat × List Byte}
    {s : State} (h : ∀ t, (body t).1.kept = t.kept) : (cardBulk o op lay ck body s).kept = s.kept := by
  unfold cardBulk
  split
  · dsimp only
    split
    · simp only [State.answer_kept, State.take_kept]
    · split <;> simp only [State.answer_kept, State.sendBulk_kept, h, State.take_kept]
  · rfl

@[simp] theorem State.arm_kept (s : State) (o cmd bays site same clash) : (s.arm o cmd bays site same clash).kept = s.kept := by
  simp only [State.arm, ↓kept_mk, kept_pending, kept_cells, kept_eta]

@[simp] theorem State.bumpSite_kept (s : State) : s.bumpSite.kept = s.kept := by
  simp only [State.bumpSite, ↓kept_mk, ↓kept_ite, kept_pending, kept_cells, kept_eta, ite_self]

@[simp] theorem State.bumpBays_kept (s : State) (m) : (s.bumpBays m).kept = s.kept := by
  simp only [State.bumpBays, ↓kept_mk, kept_pending, kept_cells, kept_eta]

@[simp] theorem State.drawnN_kept (s : State) (n) : (s.drawnN n).kept = s.kept := by
  simp only [State.drawnN, ↓kept_mk, kept_pending, kept_cells, kept_eta]

@[simp] theorem State.stage_kept (s : State) (b off e) : (s.stage b off e).kept = s.kept := by
  simp only [State.stage, ↓State.onBay_kept]

@[simp] theorem cardFull_kept {o : Origin} {op : Nat} {lay : List Nat} {ck : State → List Chk} {r : Nat → State → State} {body : State → State}
    {s : State} (hr : ∀ n t, (r n t).kept = t.kept) (h : ∀ t, (body t).kept = t.kept) : (cardFull o op lay ck r body s).kept = s.kept := by
  unfold cardFull
  split
  · dsimp only
    split <;> simp only [State.refuse_kept, h, hr, State.take_kept]
  · rfl

/- Machine/Mailbox.lean -/

@[simp] theorem ringBell_kept (c m ring index) (s : State) : (ringBell c m ring index s).kept = s.kept := by
  unfold ringBell
  (repeat' split) <;> simp only [↓State.raiseNow_kept, ↓State.onMbx_kept]

@[simp] theorem execMbxBellInbound_kept (c m index) (s : State) : outKept (execMbxBellInbound c m index s) = some s.kept := by
  simp only [execMbxBellInbound, ↓outKept_next, ↓ringBell_kept]

@[simp] theorem execMbxBellOutbound_kept (c m index) (s : State) : outKept (execMbxBellOutbound c m index s) = some s.kept := by
  simp only [execMbxBellOutbound, ↓outKept_next, ↓ringBell_kept]

@[simp] theorem execMbxOpen_kept (m) (s : State) : outKept (execMbxOpen m s) = some s.kept := by
  simp only [execMbxOpen, ↓kept_ite, ↓outKept_next, ite_self, ↓State.onMbx_kept]

@[simp] theorem State.closeMbx_kept (s : State) (c m) : (s.closeMbx c m).kept = s.kept := by
  simp only [State.closeMbx, ↓kept_ite, ite_self, ↓State.onMbx_kept, ↓State.onCourt_kept]

@[simp] theorem execMbxClose_kept (m) (s : State) : outKept (execMbxClose m s) = some s.kept := by
  simp only [execMbxClose, ↓kept_ite, ↓outKept_next, ite_self, ↓State.closeMbx_kept]

@[simp] theorem execOutboundWrite_kept (c m) (s : State) : outKept (execOutboundWrite c m s) = some s.kept := by
  unfold execOutboundWrite
  (repeat' split) <;> simp only [↓kept_ite, ↓outKept_next, ite_self, ↓State.onMbx_kept, ↓State.onCourt_kept, ↓State.raiseNow_kept]

@[simp] theorem execEventBatchWrite_kept (c) (s : State) : outKept (execEventBatchWrite c s) = some s.kept := by
  simp only [execEventBatchWrite, ↓kept_ite, ↓outKept_next, ite_self, ↓State.onCourt_kept, ↓State.drawn_kept, ↓State.onMbx_kept]

@[simp] theorem bulkPut_kept (o num off first last data) (s : State) : (bulkPut o num off first last data s).kept = s.kept := by
  unfold bulkPut
  dsimp only
  (repeat' split) <;> simp only [↓State.take_kept, ↓State.answer_kept, ↓State.onCourt_kept, ↓State.consumeXfer_kept]

@[simp] theorem execBulkPut_kept (o num off first last data) (s : State) : outKept (execBulkPut o num off first last data s) = some s.kept := by
  simp only [execBulkPut, ↓outKept_next, ↓bulkPut_kept]

@[simp] theorem execFlashPutDone_kept (verified) (s : State) : outKept (execFlashPutDone verified s) = some s.kept := by
  unfold execFlashPutDone
  (repeat' split) <;> simp only [↓outKept_next, ↓State.answer_kept, ↓State.onCourt_kept, ↓State.consumeXfer_kept]

@[simp] theorem execBulkTransferExpire_kept (c num) (s : State) : outKept (execBulkTransferExpire c num s) = some s.kept := by
  unfold execBulkTransferExpire
  (repeat' split) <;> simp only [↓outKept_next, ↓State.consumeXfer_kept]

@[simp] theorem execRequestDatagram_kept (bytes sender) (s : State) : outKept (execRequestDatagram bytes sender s) = some s.kept := by
  unfold execRequestDatagram
  dsimp only
  (repeat' split) <;> simp only [↓outKept_next, ↓State.onMbx_kept]

@[simp] theorem execArpIcmpEcho_kept (address) (s : State) : outKept (execArpIcmpEcho address s) = some s.kept := by
  simp only [execArpIcmpEcho, ↓kept_mk, ↓kept_ite, ↓outKept_next, kept_pending, kept_cells, kept_eta, ite_self]

@[simp] theorem cardMbxEcho_kept (o data) (s : State) : (cardMbxEcho o data s).kept = s.kept := by
  unfold cardMbxEcho
  dsimp only
  (repeat' split) <;> simp only [↓State.take_kept, ↓State.answer_kept]

@[simp] theorem execMbxEcho_kept (o data) (s : State) : outKept (execMbxEcho o data s) = some s.kept := by
  simp only [execMbxEcho, ↓outKept_next, ↓cardMbxEcho_kept]

@[simp] theorem State.placeMbx_kept (s : State) (c p) : (s.placeMbx c p).kept = s.kept := by
  simp only [State.placeMbx, ↓State.onMbx_kept, ↓State.closeMbx_kept]

@[simp] theorem State.placeBoundary_kept (s : State) : s.placeBoundary.kept = s.kept := by
  simp only [State.placeBoundary, implies_true, ↓kept_foldl, ↓State.onCourt_kept, ↓State.placeMbx_kept]

@[simp] theorem cardMbxPlace_kept (o court mbx inBase outBase cfg) (s : State) : (cardMbxPlace o court mbx inBase outBase cfg s).kept = s.kept := by
  refine card_kept fun t => ?_
  (repeat' split) <;> simp only [↓State.onCourt_kept]

@[simp] theorem execMbxPlace_kept (o court mbx inBase outBase cfg) (s : State) : outKept (execMbxPlace o court mbx inBase outBase cfg s) = some s.kept := by
  simp only [execMbxPlace, ↓outKept_next, ↓cardMbxPlace_kept]

@[simp] theorem cardEvtMask_kept (o mask) (s : State) : (cardEvtMask o mask s).kept = s.kept := by
  exact card_kept fun t => by simp only [↓State.onCourt_kept]

@[simp] theorem execEvtMask_kept (o mask) (s : State) : outKept (execEvtMask o mask s) = some s.kept := by
  simp only [execEvtMask, ↓outKept_next, ↓cardEvtMask_kept]

@[simp] theorem courtReport_kept (o court keyGen) (s : State) : (courtReport o court keyGen s).kept = s.kept := by
  refine card_kept fun t => ?_
  (repeat' split) <;> simp only [↓State.onCourt_kept]

/- Machine/Events.lean -/

@[simp] theorem State.evtAck_kept (s : State) (src count) : (s.evtAck src count).kept = s.kept := by
  simp only [State.evtAck, ↓kept_mk, kept_pending, kept_cells, kept_eta, ↓State.settleLine_kept]

@[simp] theorem execEvtAck_kept (src count) (s : State) : outKept (execEvtAck src count s) = some s.kept := by
  simp only [execEvtAck, ↓kept_ite, ↓outKept_next, ite_self, ↓State.evtAck_kept]

@[simp] theorem execHoldoffExpire_kept (g) (s : State) : outKept (execHoldoffExpire g s) = some s.kept := by
  unfold execHoldoffExpire
  (repeat' split) <;> simp only [↓kept_mk, ↓outKept_next, kept_pending, kept_cells, kept_eta, ↓State.settleLine_kept]

@[simp] theorem State.wakeWrite_kept (s : State) (i value) : (s.wakeWrite i value).kept = s.kept := by
  simp only [State.wakeWrite, ↓kept_mk, kept_pending, kept_cells, kept_eta]

@[simp] theorem execEvtWakeWrite_kept (i value) (s : State) : outKept (execEvtWakeWrite i value s) = some s.kept := by
  simp only [execEvtWakeWrite, ↓kept_ite, ↓outKept_next, ite_self, ↓State.wakeWrite_kept]

@[simp] theorem execEvtWakeCommit_kept (s : State) : outKept (execEvtWakeCommit s) = some s.kept := by
  unfold execEvtWakeCommit
  (repeat' split) <;> simp only [↓kept_mk, ↓outKept_next, kept_pending, kept_cells, kept_eta]

@[simp] theorem State.resetPcieFn_kept (s : State) : s.resetPcieFn.kept = s.kept := by
  simp only [State.resetPcieFn, ↓kept_mk, ↓kept_ite, kept_pending, kept_cells, kept_eta, ite_self]

@[simp] theorem execPcieHotReset_kept (s : State) : outKept (execPcieHotReset s) = some s.kept := by
  simp only [execPcieHotReset, ↓outKept_next, ↓State.resetPcieFn_kept]

@[simp] theorem execPerstAssert_kept (s : State) : outKept (execPerstAssert s) = some s.kept := by
  simp only [execPerstAssert, ↓outKept_next, ↓State.resetPcieFn_kept]

@[simp] theorem execBusMasterEnable_kept (on) (s : State) : outKept (execBusMasterEnable on s) = some s.kept := by
  simp only [execBusMasterEnable, ↓kept_mk, ↓kept_ite, ↓outKept_next, kept_pending, kept_cells, kept_eta, ite_self]

@[simp] theorem execTickLoRead_kept (s : State) : outKept (execTickLoRead s) = some s.kept := by
  simp only [execTickLoRead, ↓kept_mk, ↓kept_ite, ↓outKept_next, kept_pending, kept_cells, kept_eta, ite_self]

/- Machine/Health.lean -/

@[simp] theorem execQueuePacket_kept (r p) (s : State) : outKept (execQueuePacket r p s) = some s.kept := by
  unfold execQueuePacket
  (repeat' split) <;> simp only [↓kept_mk, ↓outKept_next, kept_pending, kept_cells, kept_eta, ↓State.onRegion_kept]

@[simp] theorem State.countCorrected_kept (s : State) (id word) : (s.countCorrected id word).kept = s.kept := by
  simp only [State.countCorrected, ↓kept_mk, ↓kept_ite, kept_pending, kept_cells, kept_eta, ite_self, ↓State.raiseNow_kept]

@[simp] theorem State.countUncorrected_kept (s : State) (id) : (s.countUncorrected id).kept = s.kept := by
  simp only [State.countUncorrected, ↓kept_mk, kept_pending, kept_cells, kept_eta]

@[simp] theorem cardMemHealth_kept (o region flags) (s : State) : (cardMemHealth o region flags s).kept = s.kept := by
  refine card_kept fun t => ?_
  (repeat' split) <;> simp only [↓kept_mk, kept_pending, kept_cells, kept_eta, ↓State.onRegion_kept]

@[simp] theorem execMemHealth_kept (o region flags) (s : State) : outKept (execMemHealth o region flags s) = some s.kept := by
  simp only [execMemHealth, ↓outKept_next, ↓cardMemHealth_kept]

@[simp] theorem State.crcAccess_kept (s : State) (block court op) : (s.crcAccess block court op).kept = s.kept := by
  unfold State.crcAccess
  (repeat' split) <;> simp only [↓kept_mk, kept_pending, kept_cells, kept_eta]

/- Machine/Keys.lean -/

@[simp] theorem State.queueBurn_kept (s : State) (f o) : (s.queueBurn f o).kept = s.kept := by
  simp only [State.queueBurn, ↓kept_mk, kept_pending, kept_cells, kept_eta]

@[simp] theorem State.burnOne_kept (s : State) (b verified) : (s.burnOne b verified).kept = s.kept := by
  unfold State.burnOne
  (repeat' split) <;> simp only [↓kept_mk, kept_pending, kept_cells, kept_eta, ↓State.raiseNow_kept, ↓State.drawn_kept]

@[simp] theorem State.cryptoReject_kept (s : State) (c code) : (s.cryptoReject c code).kept = s.kept := by
  simp only [State.cryptoReject, ↓kept_mk, ↓kept_ite, kept_pending, kept_cells, kept_eta, ite_self, ↓State.raiseNow_kept]

@[simp] theorem State.drbg_kept (s : State) (n) : (s.drbg n).kept = s.kept := by
  simp only [State.drbg, ↓kept_mk, kept_pending, kept_cells, kept_eta, ↓State.drawn_kept]

@[simp] theorem State.setTrng_kept (s : State) (st retries) : (s.setTrng st retries).kept = s.kept := by
  simp only [State.setTrng, ↓kept_mk, kept_pending, kept_cells, kept_eta, ↓State.raiseNow_kept]

@[simp] theorem execTrngReady_kept (s : State) : outKept (execTrngReady s) = some s.kept := by
  simp only [execTrngReady, ↓kept_mk, ↓kept_ite, ↓outKept_next, kept_pending, kept_cells, kept_eta, ite_self, ↓State.setTrng_kept]

@[simp] theorem execTrngStartupFail_kept (s : State) : outKept (execTrngStartupFail s) = some s.kept := by
  simp only [execTrngStartupFail, ↓kept_mk, ↓kept_ite, ↓outKept_next, kept_pending, kept_cells, kept_eta, ite_self, ↓State.setTrng_kept]

@[simp] theorem State.failDrbgWaiters_kept (s : State) : s.failDrbgWaiters.kept = s.kept := by
  unfold State.failDrbgWaiters
  repeat' (first | with_reducible refine (kept_foldl _ (fun t x => ?_) _ _).trans ?_ | simp only [↓kept_ite, ite_self, ↓State.answer_kept] | split)

@[simp] theorem execTrngContinuousFail_kept (s : State) : outKept (execTrngContinuousFail s) = some s.kept := by
  simp only [execTrngContinuousFail, ↓kept_mk, ↓kept_ite, ↓outKept_next, kept_pending, kept_cells, kept_eta, ite_self, ↓State.failDrbgWaiters_kept,
    ↓State.setTrng_kept]

@[simp] theorem execTrngRetryReset_kept (s : State) : outKept (execTrngRetryReset s) = some s.kept := by
  simp only [execTrngRetryReset, ↓kept_mk, ↓kept_ite, ↓outKept_next, kept_pending, kept_cells, kept_eta, ite_self]

@[simp] theorem execDrbgReseed_kept (predRes) (s : State) : outKept (execDrbgReseed predRes s) = some s.kept := by
  simp only [execDrbgReseed, ↓kept_mk, ↓kept_ite, ↓outKept_next, kept_pending, kept_cells, kept_eta, ite_self]

@[simp] theorem execDebugChallengeExpire_kept (s : State) : outKept (execDebugChallengeExpire s) = some s.kept := by
  simp only [execDebugChallengeExpire, ↓kept_mk, ↓outKept_next, kept_pending, kept_cells, kept_eta]

@[simp] theorem cardFuseRead_kept (o) (s : State) : (cardFuseRead o s).kept = s.kept := by
  exact card_kept fun _ => rfl

@[simp] theorem execFuseRead_kept (o) (s : State) : outKept (execFuseRead o s) = some s.kept := by
  simp only [execFuseRead, ↓outKept_next, ↓cardFuseRead_kept]

@[simp] theorem cardFuseBurn_kept (o field value) (s : State) : (cardFuseBurn o field value s).kept = s.kept := by
  exact cardLater_kept fun t => by simp only [↓State.queueBurn_kept]

@[simp] theorem execFuseBurn_kept (o field value) (s : State) : outKept (execFuseBurn o field value s) = some s.kept := by
  simp only [execFuseBurn, ↓outKept_next, ↓cardFuseBurn_kept]

@[simp] theorem cardDebugChallenge_kept (o tokenLen) (s : State) : (cardDebugChallenge o tokenLen s).kept = s.kept := by
  exact card_kept fun t => by simp only [↓kept_mk, kept_pending, kept_cells, kept_eta, ↓State.drbg_kept]

@[simp] theorem execDebugChallenge_kept (o tokenLen) (s : State) : outKept (execDebugChallenge o tokenLen s) = some s.kept := by
  simp only [execDebugChallenge, ↓outKept_next, ↓cardDebugChallenge_kept]

@[simp] theorem cardDebugUnlock_kept (o token serial challenge) (s : State) : (cardDebugUnlock o token serial challenge s).kept = s.kept := by
  exact card_kept fun t => by simp only [↓kept_mk, kept_pending, kept_cells, kept_eta, ↓State.raiseNow_kept]

@[simp] theorem execDebugUnlock_kept (o token serial challenge) (s : State) : outKept (execDebugUnlock o token serial challenge s) = some s.kept := by
  simp only [execDebugUnlock, ↓outKept_next, ↓cardDebugUnlock_kept]

@[simp] theorem State.holdRoot_kept (s : State) (r) : (s.holdRoot r).kept = s.kept := by
  simp only [State.holdRoot, ↓kept_mk, kept_pending, kept_cells, kept_eta, ↓State.raiseNow_kept]

@[simp] theorem cardSiteRootGenerate_kept (o pos blob) (s : State) : (cardSiteRootGenerate o pos blob s).kept = s.kept := by
  simp only [cardSiteRootGenerate, implies_true, ↓card_kept, ↓State.drbg_kept, ↓State.holdRoot_kept]

@[simp] theorem execSiteRootGenerate_kept (o pos blob) (s : State) : outKept (execSiteRootGenerate o pos blob s) = some s.kept := by
  simp only [execSiteRootGenerate, ↓outKept_next, ↓cardSiteRootGenerate_kept]

@[simp] theorem cardSiteRootLoad_kept (o pos blob) (s : State) : (cardSiteRootLoad o pos blob s).kept = s.kept := by
  refine cardOwn_kept fun t => ?_
  (repeat' split) <;> simp only [↓State.answer_kept, ↓State.holdRoot_kept, ↓State.cryptoReject_kept]

@[simp] theorem execSiteRootLoad_kept (o pos blob) (s : State) : outKept (execSiteRootLoad o pos blob s) = some s.kept := by
  simp only [execSiteRootLoad, ↓outKept_next, ↓cardSiteRootLoad_kept]

@[simp] theorem cardSiteRootExport_kept (o pos blob) (s : State) : (cardSiteRootExport o pos blob s).kept = s.kept := by
  refine cardLater_kept fun t => ?_
  (repeat' split) <;> simp only [↓kept_mk, kept_pending, kept_cells, kept_eta, ↓State.leaveTo_kept, ↓State.answer_kept, ↓State.drbg_kept]

@[simp] theorem execSiteRootExport_kept (o pos blob) (s : State) : outKept (execSiteRootExport o pos blob s) = some s.kept := by
  simp only [execSiteRootExport, ↓outKept_next, ↓cardSiteRootExport_kept]

@[simp] theorem cardKeyPurposeGen_kept (o purpose gen) (s : State) : (cardKeyPurposeGen o purpose gen s).kept = s.kept := by
  refine card_kept fun t => ?_
  (repeat' split) <;> simp only [↓kept_mk, kept_pending, kept_cells, kept_eta, ↓State.raise_kept]

@[simp] theorem execKeyPurposeGen_kept (o purpose gen) (s : State) : outKept (execKeyPurposeGen o purpose gen s) = some s.kept := by
  simp only [execKeyPurposeGen, ↓outKept_next, ↓cardKeyPurposeGen_kept]

@[simp] theorem cardKeyCreate_kept (o keyId alg flags) (s : State) : (cardKeyCreate o keyId alg flags s).kept = s.kept := by
  exact cardOwn_kept fun t => by simp only [↓kept_mk, ↓kept_ite, kept_pending, kept_cells, kept_eta, ite_self, ↓State.answer_kept]

@[simp] theorem execKeyCreate_kept (o keyId alg flags) (s : State) : outKept (execKeyCreate o keyId alg flags s) = some s.kept := by
  simp only [execKeyCreate, ↓outKept_next, ↓cardKeyCreate_kept]

@[simp] theorem cardKeySign_kept (o keyId flags data) (s : State) : (cardKeySign o keyId flags data s).kept = s.kept := by
  exact cardOwn_kept fun t => by simp only [↓kept_ite, ite_self, ↓State.answer_kept, ↓State.drbg_kept, ↓State.drawn_kept]

@[simp] theorem execKeySign_kept (o keyId flags data) (s : State) : outKept (execKeySign o keyId flags data s) = some s.kept := by
  simp only [execKeySign, ↓outKept_next, ↓cardKeySign_kept]

@[simp] theorem cardKeyEcdh_kept (o keyId peer) (s : State) : (cardKeyEcdh o keyId peer s).kept = s.kept := by
  refine cardOwn_kept fun t => ?_
  dsimp only
  (repeat' split) <;> simp only [↓State.answer_kept, ↓State.cryptoReject_kept]

@[simp] theorem execKeyEcdh_kept (o keyId peer) (s : State) : outKept (execKeyEcdh o keyId peer s) = some s.kept := by
  simp only [execKeyEcdh, ↓outKept_next, ↓cardKeyEcdh_kept]

@[simp] theorem cardKeyAeadSeal_kept (o keyId nonce aad data) (s : State) : (cardKeyAeadSeal o keyId nonce aad data s).kept = s.kept := by
  refine cardOwn_kept fun t => ?_
  dsimp only
  (repeat' split) <;> simp only [↓State.answer_kept, ↓State.drbg_kept]

@[simp] theorem execKeyAeadSeal_kept (o keyId nonce aad data) (s : State) : outKept (execKeyAeadSeal o keyId nonce aad data s) = some s.kept := by
  simp only [execKeyAeadSeal, ↓outKept_next, ↓cardKeyAeadSeal_kept]

@[simp] theorem cardKeyAeadOpen_kept (o keyId nonce aad data) (s : State) : (cardKeyAeadOpen o keyId nonce aad data s).kept = s.kept := by
  refine cardOwn_kept fun t => ?_
  dsimp only
  (repeat' split) <;> simp only [↓State.answer_kept, ↓State.cryptoReject_kept]

@[simp] theorem execKeyAeadOpen_kept (o keyId nonce aad data) (s : State) : outKept (execKeyAeadOpen o keyId nonce aad data s) = some s.kept := by
  simp only [execKeyAeadOpen, ↓outKept_next, ↓cardKeyAeadOpen_kept]

@[simp] theorem cardRngRead_kept (o count flags) (s : State) : (cardRngRead o count flags s).kept = s.kept := by
  exact cardOwn_kept fun t => by simp only [↓kept_mk, ↓kept_ite, kept_pending, kept_cells, kept_eta, ite_self, ↓State.answer_kept, ↓State.drbg_kept]

@[simp] theorem execRngRead_kept (o count flags) (s : State) : outKept (execRngRead o count flags s) = some s.kept := by
  simp only [execRngRead, ↓outKept_next, ↓cardRngRead_kept]

/- Machine/LegalTime.lean -/

@[simp] theorem State.onLegal_kept (s : State) (f) : (s.onLegal f).kept = s.kept := by
  simp only [State.onLegal, ↓kept_mk, kept_pending, kept_cells, kept_eta]

@[simp] theorem State.onRegs_kept (s : State) (f) : (s.onRegs f).kept = s.kept := by
  simp only [State.onRegs, ↓State.onLegal_kept]

@[simp] theorem State.wrapCheck_kept (s : State) : s.wrapCheck.kept = s.kept := by
  simp only [State.wrapCheck, ↓kept_ite, ite_self, ↓State.raiseNow_kept, ↓State.onLegal_kept]

@[simp] theorem State.log_kept (s : State) (tick kind bay data given) : (s.log tick kind bay data given).kept = s.kept := by
  simp only [State.log, ↓kept_mk, ↓kept_ite, kept_pending, kept_cells, kept_eta, ite_self, ↓State.wrapCheck_kept]

@[simp] theorem State.tamper_kept (s : State) (kind bay detail rtc) : (s.tamper kind bay detail rtc).kept = s.kept := by
  simp only [State.tamper, ↓kept_ite, ↓kept_cond, Bool.cond_self, ite_self, ↓State.onLegal_kept, ↓State.log_kept, ↓State.raiseNow_kept]

@[simp] theorem State.formDemand_kept (s : State) (m) : (s.formDemand m).kept = s.kept := by
  unfold State.formDemand
  dsimp only
  (repeat' split) <;> simp only [↓State.onLegal_kept, ↓State.onRegs_kept, ↓State.raise_kept]

@[simp] theorem State.legalShift_kept (s : State) (d n) : (s.legalShift d n).kept = s.kept := by
  simp only [State.legalShift, ↓kept_ite, ite_self, ↓State.onLegal_kept, ↓State.log_kept, ↓State.tamper_kept, ↓State.onRegs_kept, ↓State.raise_kept]

@[simp] theorem State.legalTick_kept (s : State) : s.legalTick.kept = s.kept := by
  simp only [State.legalTick, ↓kept_ite, ite_self, ↓State.onLegal_kept]

/- Machine/Legal.lean -/

@[simp] theorem State.meterRefresh_kept (s : State) (b) : (s.meterRefresh b).kept = s.kept := by
  simp only [State.meterRefresh, ↓kept_ite, ite_self, ↓State.onBay_kept, ↓State.raiseNow_kept, ↓State.tamper_kept]

@[simp] theorem State.takeReading_kept (s : State) (d) : (s.takeReading d).kept = s.kept := by
  simp only [State.takeReading, ↓kept_ite, ite_self, ↓State.onLegal_kept, ↓State.onRegs_kept, ↓State.log_kept, ↓State.raise_kept]

@[simp] theorem State.takeDue_kept (s : State) (b ready) : (s.takeDue b ready).kept = s.kept := by
  simp only [State.takeDue, implies_true, ↓kept_foldl, ↓State.takeReading_kept]

@[simp] theorem State.countRecord_kept (s : State) (b r) : (s.countRecord b r).kept = s.kept := by
  unfold State.countRecord
  dsimp only
  (repeat' split) <;> simp only [↓State.formDemand_kept, ↓State.onRegs_kept, ↓State.onLegal_kept, ↓State.log_kept]

@[simp] theorem State.takeRecord_kept (s : State) (b r) : (s.takeRecord b r).kept = s.kept := by
  simp only [State.takeRecord, ↓kept_ite, ite_self, ↓State.takeDue_kept, ↓State.onLegal_kept, ↓State.onRegs_kept, ↓State.countRecord_kept,
    ↓State.meterRefresh_kept]

@[simp] theorem execEnergyRecord_kept (b) (s : State) : outKept (execEnergyRecord b s) = some s.kept := by
  unfold execEnergyRecord
  (repeat' split) <;> simp only [↓outKept_next, ↓State.takeRecord_kept, ↓State.onBay_kept]

@[simp] theorem execSessionReading_kept (b) (s : State) : outKept (execSessionReading b s) = some s.kept := by
  simp only [execSessionReading, ↓kept_ite, ↓outKept_next, ite_self, ↓State.takeDue_kept]

@[simp] theorem execDemandIntervalEnd_kept (s : State) : outKept (execDemandIntervalEnd s) = some s.kept := by
  unfold execDemandIntervalEnd
  (repeat' split) <;> simp only [implies_true, ↓kept_foldl, ↓outKept_next, ↓State.formDemand_kept]

@[simp] theorem State.meterGap_kept (s : State) (b first n) : (s.meterGap b first n).kept = s.kept := by
  simp only [State.meterGap, ↓State.onRegs_kept, ↓State.tamper_kept, ↓State.log_kept]

@[simp] theorem State.openSession_kept (s : State) (b) : (s.openSession b).kept = s.kept := by
  simp only [State.openSession, ↓kept_ite, ite_self, ↓State.drawn_kept, ↓State.onRegs_kept, ↓State.onLegal_kept]

@[simp] theorem State.dueReading_kept (s : State) (b stop tick) : (s.dueReading b stop tick).kept = s.kept := by
  simp only [State.dueReading, ↓State.onLegal_kept]

@[simp] theorem State.calActivated_kept (s : State) (hash tick) : (s.calActivated hash tick).kept = s.kept := by
  simp only [State.calActivated, ↓State.raise_kept, ↓State.log_kept]

@[simp] theorem execLegalTimeValid_kept (s : State) : outKept (execLegalTimeValid s) = some s.kept := by
  simp only [execLegalTimeValid, ↓kept_ite, implies_true, ↓kept_foldl, ↓outKept_next, ite_self, ↓State.onLegal_kept, ↓State.log_kept,
    ↓State.raiseNow_kept, ↓State.calActivated_kept, ↓State.onRegs_kept]

@[simp] theorem execTariffSwitch_kept (s : State) : outKept (execTariffSwitch s) = some s.kept := by
  simp only [execTariffSwitch, ↓outKept_next, ↓State.onLegal_kept]

@[simp] theorem execCalendarActivate_kept (s : State) : outKept (execCalendarActivate s) = some s.kept := by
  unfold execCalendarActivate
  (repeat' split) <;> simp only [↓outKept_next, ↓State.calActivated_kept, ↓State.onLegal_kept]

@[simp] theorem execMirrorSweep_kept (s : State) : outKept (execMirrorSweep s) = some s.kept := by
  simp only [execMirrorSweep, ↓kept_ite, ↓outKept_next, ite_self, ↓State.onLegal_kept]

@[simp] theorem execPfailFall_kept (s : State) : outKept (execPfailFall s) = some s.kept := by
  simp only [execPfailFall, ↓outKept_next, ↓State.onLegal_kept]

@[simp] theorem execFinalSweepDone_kept (s : State) : outKept (execFinalSweepDone s) = some s.kept := by
  simp only [execFinalSweepDone, ↓outKept_next, ↓State.onLegal_kept]

@[simp] theorem State.initLegal_kept (s : State) : s.initLegal.kept = s.kept := by
  simp only [State.initLegal, ↓kept_ite, ite_self, ↓State.onLegal_kept, ↓State.tamper_kept, ↓State.raiseNow_kept, ↓State.log_kept]

@[simp] theorem State.startLegal_kept (s : State) (keep) : (s.startLegal keep).kept = s.kept := by
  unfold State.startLegal
  (repeat' split) <;> simp only [↓kept_mk, ↓kept_ite, kept_pending, kept_cells, kept_eta, ite_self, ↓State.onLegal_kept, ↓State.tamper_kept,
    ↓State.log_kept, ↓State.initLegal_kept]

@[simp] theorem State.mirrorFault_kept (s : State) : s.mirrorFault.kept = s.kept := by
  simp only [State.mirrorFault, ↓State.tamper_kept]

@[simp] theorem State.legalSigned_kept (s : State) : s.legalSigned.kept = s.kept := by
  simp only [State.legalSigned, ↓kept_ite, ite_self, ↓State.drbg_kept]

@[simp] theorem cardLegalRead_kept (o meter) (s : State) : (cardLegalRead o meter s).kept = s.kept := by
  exact card_kept fun t => by simp only [↓kept_ite, ite_self, ↓State.drawn_kept]

@[simp] theorem execLegalRead_kept (o meter) (s : State) : outKept (execLegalRead o meter s) = some s.kept := by
  simp only [execLegalRead, ↓outKept_next, ↓cardLegalRead_kept]

@[simp] theorem cardLegalSign_kept (o meter reg nonceLen nonce) (s : State) : (cardLegalSign o meter reg nonceLen nonce s).kept = s.kept := by
  exact cardOwn_kept fun t => by simp only [↓State.onRegs_kept, ↓State.answer_kept, ↓State.legalSigned_kept]

@[simp] theorem execLegalSign_kept (o meter reg nonceLen nonce) (s : State) : outKept (execLegalSign o meter reg nonceLen nonce s) = some s.kept := by
  simp only [execLegalSign, ↓outKept_next, ↓cardLegalSign_kept]

@[simp] theorem cardTamperRead_kept (o) (s : State) : (cardTamperRead o s).kept = s.kept := by
  exact card_kept fun _ => rfl

@[simp] theorem execTamperRead_kept (o) (s : State) : outKept (execTamperRead o s) = some s.kept := by
  simp only [execTamperRead, ↓outKept_next, ↓cardTamperRead_kept]

@[simp] theorem cardLogRead_kept (o fromSeq count flags) (s : State) : (cardLogRead o fromSeq count flags s).kept = s.kept := by
  exact cardBulk_kept fun t => by simp only [↓kept_ite, ite_self, ↓State.legalSigned_kept, ↓State.onRegs_kept]

@[simp] theorem execLogRead_kept (o fromSeq count flags) (s : State) : outKept (execLogRead o fromSeq count flags s) = some s.kept := by
  simp only [execLogRead, ↓outKept_next, ↓cardLogRead_kept]

@[simp] theorem cardLegalStatus_kept (o) (s : State) : (cardLegalStatus o s).kept = s.kept := by
  exact card_kept fun _ => rfl

@[simp] theorem execLegalStatus_kept (o) (s : State) : outKept (execLegalStatus o s) = some s.kept := by
  simp only [execLegalStatus, ↓outKept_next, ↓cardLegalStatus_kept]

@[simp] theorem cardCalendarLoadActive_kept (o transfer activate) (s : State) : (cardCalendarLoadActive o transfer activate s).kept = s.kept := by
  exact card_kept fun t => by simp only [↓kept_ite, ite_self, ↓State.onLegal_kept, ↓State.consumeXfer_kept, ↓State.log_kept]

@[simp] theorem execCalendarLoadActive_kept (o transfer activate) (s : State) : outKept (execCalendarLoadActive o transfer activate s) = some s.kept := by
  simp only [execCalendarLoadActive, ↓outKept_next, ↓cardCalendarLoadActive_kept]

@[simp] theorem cardCalendarLoadPassive_kept (o transfer activate) (s : State) : (cardCalendarLoadPassive o transfer activate s).kept = s.kept := by
  exact card_kept fun t => by simp only [↓kept_ite, ite_self, ↓State.onLegal_kept, ↓State.consumeXfer_kept, ↓State.log_kept]

@[simp] theorem execCalendarLoadPassive_kept (o transfer activate) (s : State) : outKept (execCalendarLoadPassive o transfer activate s) = some s.kept := by
  simp only [execCalendarLoadPassive, ↓outKept_next, ↓cardCalendarLoadPassive_kept]

@[simp] theorem State.applyLegalCfg_kept (s : State) (c hash) : (s.applyLegalCfg c hash).kept = s.kept := by
  simp only [State.applyLegalCfg, ↓kept_ite, ite_self, ↓State.onRegs_kept, ↓State.onLegal_kept, ↓State.legalShift_kept]

@[simp] theorem cardLegalConfig_kept (o transfer) (s : State) : (cardLegalConfig o transfer s).kept = s.kept := by
  refine cardOwn_kept fun t => ?_
  dsimp only
  (repeat' split) <;> simp only [↓State.tamper_kept, ↓State.refuse_kept, ↓State.cryptoReject_kept, ↓State.consumeXfer_kept, ↓State.ok_kept,
    ↓State.log_kept, ↓State.onLegal_kept]

@[simp] theorem execLegalConfig_kept (o transfer) (s : State) : outKept (execLegalConfig o transfer s) = some s.kept := by
  simp only [execLegalConfig, ↓outKept_next, ↓cardLegalConfig_kept]

@[simp] theorem cardLegalCheckpoint_kept (o) (s : State) : (cardLegalCheckpoint o s).kept = s.kept := by
  unfold cardLegalCheckpoint
  dsimp only
  (repeat' split) <;> simp only [↓State.take_kept, ↓State.refuse_kept, ↓State.legalSigned_kept, ↓State.answer_kept, ↓State.sendBulk_kept]

@[simp] theorem execLegalCheckpoint_kept (o) (s : State) : outKept (execLegalCheckpoint o s) = some s.kept := by
  simp only [execLegalCheckpoint, ↓outKept_next, ↓cardLegalCheckpoint_kept]

@[simp] theorem State.applyRestore_kept (s : State) (c) : (s.applyRestore c).kept = s.kept := by
  simp only [State.applyRestore, ↓kept_ite, ite_self, ↓State.onLegal_kept, ↓State.applyLegalCfg_kept, ↓State.raiseNow_kept, ↓State.tamper_kept]

@[simp] theorem cardLegalRestore_kept (o transfer) (s : State) : (cardLegalRestore o transfer s).kept = s.kept := by
  refine cardOwn_kept fun t => ?_
  (repeat' split) <;> simp only [↓State.log_kept, ↓State.onLegal_kept, ↓State.consumeXfer_kept, ↓State.ok_kept, ↓State.refuse_kept]

@[simp] theorem execLegalRestore_kept (o transfer) (s : State) : outKept (execLegalRestore o transfer s) = some s.kept := by
  simp only [execLegalRestore, ↓outKept_next, ↓cardLegalRestore_kept]

@[simp] theorem State.legalBoundary_kept (s : State) : s.legalBoundary.kept = s.kept := by
  unfold State.legalBoundary
  dsimp only
  (repeat' split) <;> simp only [↓State.applyLegalCfg_kept, ↓State.onLegal_kept, ↓State.applyRestore_kept, ↓State.legalTick_kept]

/- Machine/Meter.lean -/

@[simp] theorem State.onBall_kept (s : State) (i f) : (s.onBall i f).kept = s.kept := by
  simp only [State.onBall, ↓kept_mk, kept_pending, kept_cells, kept_eta]

@[simp] theorem State.onMeter_kept (s : State) (b f) : (s.onMeter b f).kept = s.kept := by
  simp only [State.onMeter, ↓State.onBay_kept]

@[simp] theorem execPulseStart_kept (p) (s : State) : outKept (execPulseStart p s) = some s.kept := by
  unfold execPulseStart
  (repeat' split) <;> simp only [↓outKept_next, ↓State.onBall_kept, ↓State.onMeter_kept]

@[simp] theorem execPulseEnd_kept (p) (s : State) : outKept (execPulseEnd p s) = some s.kept := by
  unfold execPulseEnd
  (repeat' split) <;> simp only [↓outKept_next, ↓State.onBall_kept, ↓State.onMeter_kept]

@[simp] theorem execS0Pulse_kept (i inactive active) (s : State) : outKept (execS0Pulse i inactive active s) = some s.kept := by
  simp only [execS0Pulse, ↓kept_mk, ↓kept_ite, ↓outKept_next, kept_pending, kept_cells, kept_eta, ite_self]

@[simp] theorem State.closeWindow_kept (s : State) (b last gen) : (s.closeWindow b last gen).kept = s.kept := by
  unfold State.closeWindow
  repeat' (first | with_reducible rfl | (simp only [↓kept_ite, ite_self, ↓State.onMeter_kept, ↓State.drawnN_kept, ↓State.stage_kept]; done) | split | dsimp only)

@[simp] theorem State.feedPulses_kept (s : State) (b imp exp t0) : (s.feedPulses b imp exp t0).kept = s.kept := by
  simp only [State.feedPulses, ↓kept_ite, implies_true, ↓kept_foldl, ite_self, ↓State.stage_kept, ↓State.onBall_kept, ↓State.onMeter_kept]

@[simp] theorem State.emitRecord_kept (s : State) (b k flags gen closed lost) : (s.emitRecord b k flags gen closed lost).kept = s.kept := by
  simp only [State.emitRecord, ↓State.onMeter_kept]

@[simp] theorem State.substEvent_kept (s : State) (b stamp) : (s.substEvent b stamp).kept = s.kept := by
  simp only [State.substEvent, ↓kept_ite, ite_self, ↓State.stage_kept, ↓State.onMeter_kept]

@[simp] theorem State.lostRunEnd_kept (s : State) (b) : (s.lostRunEnd b).kept = s.kept := by
  simp only [State.lostRunEnd, ↓kept_ite, ite_self, ↓State.meterGap_kept, ↓State.stage_kept]

@[simp] theorem State.process_kept (s : State) (b k gen flags temp replay) : (s.process b k gen flags temp replay).kept = s.kept := by
  simp only [State.process, ↓kept_ite, ite_self, ↓State.drawnN_kept, ↓State.onMeter_kept, ↓State.meterRefresh_kept, ↓State.feedPulses_kept,
    ↓State.closeWindow_kept, ↓State.emitRecord_kept]

@[simp] theorem State.meterIndex_kept (s : State) (b k) : (s.meterIndex b k).kept = s.kept := by
  unfold State.meterIndex
  repeat' (first | with_reducible rfl | (simp only [↓kept_ite, ite_self, ↓State.closeWindow_kept, ↓State.onMeter_kept, ↓State.meterRefresh_kept, ↓State.emitRecord_kept, ↓State.substEvent_kept, ↓State.process_kept, ↓State.lostRunEnd_kept]; done) | split | dsimp only)

@[simp] theorem execMeterIndex_kept (b) (s : State) : outKept (execMeterIndex b s) = some s.kept := by
  simp only [execMeterIndex, ↓kept_ite, ↓outKept_next, ite_self, ↓State.meterRefresh_kept, ↓State.onMeter_kept, ↓State.meterIndex_kept]

@[simp] theorem execMeterCellTimeout_kept (b) (s : State) : outKept (execMeterCellTimeout b s) = some s.kept := by
  simp only [execMeterCellTimeout, ↓kept_ite, ↓outKept_next, ite_self, ↓State.meterRefresh_kept, ↓State.onLegal_kept]

@[simp] theorem cardMeterStatus_kept (o bay) (s : State) : (cardMeterStatus o bay s).kept = s.kept := by
  exact card_kept fun _ => rfl

@[simp] theorem execMeterStatus_kept (o bay) (s : State) : outKept (execMeterStatus o bay s) = some s.kept := by
  simp only [execMeterStatus, ↓outKept_next, ↓cardMeterStatus_kept]

@[simp] theorem cardMeterRead_kept (o bay) (s : State) : (cardMeterRead o bay s).kept = s.kept := by
  exact card_kept fun _ => rfl

@[simp] theorem execMeterRead_kept (o bay) (s : State) : outKept (execMeterRead o bay s) = some s.kept := by
  simp only [execMeterRead, ↓outKept_next, ↓cardMeterRead_kept]

@[simp] theorem cardMeterHarmonics_kept (o bay channel) (s : State) : (cardMeterHarmonics o bay channel s).kept = s.kept := by
  exact card_kept fun _ => rfl

@[simp] theorem execMeterHarmonics_kept (o bay channel) (s : State) : outKept (execMeterHarmonics o bay channel s) = some s.kept := by
  simp only [execMeterHarmonics, ↓outKept_next, ↓cardMeterHarmonics_kept]

@[simp] theorem cardCalLoad_kept (o bay transfer) (s : State) : (cardCalLoad o bay transfer s).kept = s.kept := by
  unfold cardCalLoad
  simp only [↓kept_ite, ↓kept_atBay, implies_true, ite_self, ↓State.tamper_kept, ↓cardFull_kept, ↓State.arm_kept]

@[simp] theorem execCalLoad_kept (o bay transfer) (s : State) : outKept (execCalLoad o bay transfer s) = some s.kept := by
  simp only [execCalLoad, ↓outKept_next, ↓cardCalLoad_kept]

@[simp] theorem State.applyCal_kept (s : State) (o b transfer) : (s.applyCal o b transfer).kept = s.kept := by
  simp only [State.applyCal, ↓kept_ite, ite_self, ↓State.closeWindow_kept, ↓State.onBay_kept, ↓State.log_kept, ↓State.onRegs_kept,
    ↓State.onLegal_kept, ↓State.meterRefresh_kept, ↓State.consumeXfer_kept, ↓State.raiseNow_kept]

@[simp] theorem cardPulseMap_kept (o ball bay source polarity const width) (s : State)
    : (cardPulseMap o ball bay source polarity const width s).kept = s.kept := by
  exact cardLater_kept fun t => by simp only [↓State.arm_kept]

@[simp] theorem execPulseMap_kept (o ball bay source polarity const width) (s : State)
    : outKept (execPulseMap o ball bay source polarity const width s) = some s.kept := by
  simp only [execPulseMap, ↓outKept_next, ↓cardPulseMap_kept]

@[simp] theorem State.applyPulseMap_kept (s : State) (ball bay source polarity const width)
    : (s.applyPulseMap ball bay source polarity const width).kept = s.kept := by
  simp only [State.applyPulseMap, ↓State.onBall_kept]

@[simp] theorem cardS0Config_kept (o input polarity minMs const) (s : State) : (cardS0Config o input polarity minMs const s).kept = s.kept := by
  exact cardLater_kept fun t => by simp only [↓State.arm_kept]

@[simp] theorem execS0Config_kept (o input polarity minMs const) (s : State) : outKept (execS0Config o input polarity minMs const s) = some s.kept := by
  simp only [execS0Config, ↓outKept_next, ↓cardS0Config_kept]

@[simp] theorem State.applyS0_kept (s : State) (input polarity minMs const) : (s.applyS0 input polarity minMs const).kept = s.kept := by
  simp only [State.applyS0, ↓kept_mk, kept_pending, kept_cells, kept_eta]

@[simp] theorem cardS0Read_kept (o) (s : State) : (cardS0Read o s).kept = s.kept := by
  exact card_kept fun _ => rfl

@[simp] theorem execS0Read_kept (o) (s : State) : outKept (execS0Read o s) = some s.kept := by
  simp only [execS0Read, ↓outKept_next, ↓cardS0Read_kept]

/- Machine/Port.lean -/

@[simp] theorem State.onGrp_kept (s : State) (b f) : (s.onGrp b f).kept = s.kept := by
  simp only [State.onGrp, ↓State.onBay_kept]

@[simp] theorem State.onGrpBoth_kept (s : State) (b f) : (s.onGrpBoth b f).kept = s.kept := by
  simp only [State.onGrpBoth, ↓State.onBay_kept]

@[simp] theorem State.onPilot_kept (s : State) (b f) : (s.onPilot b f).kept = s.kept := by
  simp only [State.onPilot, ↓State.onGrp_kept]

@[simp] theorem State.onPlc_kept (s : State) (b f) : (s.onPlc b f).kept = s.kept := by
  simp only [State.onPlc, ↓State.onGrp_kept]

@[simp] theorem State.onSess_kept (s : State) (b f) : (s.onSess b f).kept = s.kept := by
  simp only [State.onSess, ↓State.onGrp_kept]

@[simp] theorem State.onIdent_kept (s : State) (b f) : (s.onIdent b f).kept = s.kept := by
  simp only [State.onIdent, ↓State.onGrp_kept]

@[simp] theorem State.onMod_kept (s : State) (b f) : (s.onMod b f).kept = s.kept := by
  simp only [State.onMod, ↓State.onGrp_kept]

@[simp] theorem State.onLoops_kept (s : State) (b f) : (s.onLoops b f).kept = s.kept := by
  simp only [State.onLoops, ↓State.onGrp_kept]

@[simp] theorem State.onChans_kept (s : State) (b f) : (s.onChans b f).kept = s.kept := by
  simp only [State.onChans, ↓State.onGrp_kept]

@[simp] theorem State.onDisp_kept (s : State) (b f) : (s.onDisp b f).kept = s.kept := by
  simp only [State.onDisp, ↓State.onGrp_kept]

@[simp] theorem State.onIlk_kept (s : State) (b f) : (s.onIlk b f).kept = s.kept := by
  simp only [State.onIlk, ↓State.onBay_kept]

@[simp] theorem State.onEarth_kept (s : State) (b f) : (s.onEarth b f).kept = s.kept := by
  simp only [State.onEarth, ↓State.onBay_kept]

@[simp] theorem State.onGuard_kept (s : State) (b f) : (s.onGuard b f).kept = s.kept := by
  simp only [State.onGuard, ↓State.onBay_kept]

/- Machine/Scorebook.lean -/

@[simp] theorem State.onFaults_kept (s : State) (f) : (s.onFaults f).kept = s.kept := by
  simp only [State.onFaults, ↓kept_mk, kept_pending, kept_cells, kept_eta]

@[simp] theorem State.onCell_kept (s : State) (c f) : (s.onCell c f).kept = s.kept := by
  simp only [State.onCell, ↓State.onFaults_kept]

@[simp] theorem State.onBlock_kept (s : State) (n f) : (s.onBlock n f).kept = s.kept := by
  simp only [State.onBlock, ↓State.onFaults_kept]

@[simp] theorem State.sbWrite_kept (s : State) (cell r) : (s.sbWrite cell r).kept = s.kept := by
  simp only [State.sbWrite, ↓State.onFaults_kept]

@[simp] theorem State.sbNote_kept (s : State) (r) : (s.sbNote r).kept = s.kept := by
  simp only [State.sbNote, ↓State.sbWrite_kept]

@[simp] theorem State.sbCell_kept (s : State) (c tick code data0 data1) : (s.sbCell c tick code data0 data1).kept = s.kept := by
  simp only [State.sbCell, ↓State.sbWrite_kept]

@[simp] theorem State.fatal_kept (s : State) (r) : (s.fatal r).kept = s.kept := by
  simp only [State.fatal, ↓kept_ite, ite_self, ↓State.sbNote_kept, ↓State.onFaults_kept, ↓State.raiseNow_kept]

@[simp] theorem State.sbFail_kept (s : State) : s.sbFail.kept = s.kept := by
  simp only [State.sbFail, ↓kept_ite, ite_self, ↓State.raiseNow_kept, ↓State.onFaults_kept]

@[simp] theorem execIslandCopyDone_kept (s : State) : outKept (execIslandCopyDone s) = some s.kept := by
  unfold execIslandCopyDone
  (repeat' split) <;> simp only [↓outKept_next, ↓State.onFaults_kept]

/- Machine/SafeUnit.lean -/

@[simp] theorem State.onSafety_kept (s : State) (f) : (s.onSafety f).kept = s.kept := by
  simp only [State.onSafety, ↓kept_mk, kept_pending, kept_cells, kept_eta]

@[simp] theorem State.fnGo_kept (s : State) (f st cause inp) : (s.fnGo f st cause inp).kept = s.kept := by
  simp only [State.fnGo, ↓kept_ite, ite_self, ↓State.raiseNow_kept, ↓State.onSafety_kept]

@[simp] theorem State.fnDemand_kept (s : State) (f cause) : (s.fnDemand f cause).kept = s.kept := by
  simp only [State.fnDemand, ↓State.onSafety_kept, ↓State.fnGo_kept]

@[simp] theorem State.muteEnd_kept (s : State) (f limit) : (s.muteEnd f limit).kept = s.kept := by
  simp only [State.muteEnd, ↓kept_ite, ite_self, ↓State.raiseNow_kept, ↓State.fnGo_kept, ↓State.fnDemand_kept]

@[simp] theorem State.fnArm_kept (s : State) (f) : (s.fnArm f).kept = s.kept := by
  simp only [State.fnArm, ↓State.fnGo_kept, ↓State.onSafety_kept]

@[simp] theorem State.twoHand_kept (s : State) (f) : (s.twoHand f).kept = s.kept := by
  simp only [State.twoHand, ↓kept_ite, ite_self, ↓State.fnDemand_kept, ↓State.fnGo_kept, ↓State.onSafety_kept]

@[simp] theorem State.fnStep_kept (s : State) (f) : (s.fnStep f).kept = s.kept := by
  unfold State.fnStep
  dsimp only
  (repeat' split) <;> simp only [↓State.raiseNow_kept, ↓State.fnGo_kept, ↓State.fnDemand_kept, ↓State.twoHand_kept, ↓State.fnArm_kept,
    ↓State.muteEnd_kept]

@[simp] theorem State.pairFault_kept (s : State) (p kind) : (s.pairFault p kind).kept = s.kept := by
  simp only [State.pairFault, ↓State.raiseNow_kept, ↓State.onSafety_kept]

@[simp] theorem State.pairSample_kept (s : State) (rb t0 p) : (s.pairSample rb t0 p).kept = s.kept := by
  simp only [State.pairSample, ↓kept_ite, ite_self, ↓State.onSafety_kept, ↓State.drawn_kept, ↓State.pairFault_kept]

@[simp] theorem State.pairDrive_kept (s : State) (p) : (s.pairDrive p).kept = s.kept := by
  simp only [State.pairDrive, ↓State.onSafety_kept]

@[simp] theorem State.pairsOut_kept (s : State) : s.pairsOut.kept = s.kept := by
  simp only [State.pairsOut, ↓kept_mk, kept_pending, kept_cells, kept_eta]

@[simp] theorem State.stopBus_kept (s : State) : s.stopBus.kept = s.kept := by
  simp only [State.stopBus, implies_true, ↓kept_foldl, ↓State.onBay_kept]

@[simp] theorem State.inputEvents_kept (s : State) (before) : (s.inputEvents before).kept = s.kept := by
  simp only [State.inputEvents, ↓kept_ite, implies_true, ↓kept_foldl, ite_self, ↓State.raiseNow_kept]

@[simp] theorem State.dualEvents_kept (s : State) (before) : (s.dualEvents before).kept = s.kept := by
  simp only [State.dualEvents, ↓kept_ite, implies_true, ↓kept_foldl, ite_self, ↓State.raiseNow_kept]

@[simp] theorem State.safeSample_kept (s : State) (m) : (s.safeSample m).kept = s.kept := by
  simp only [State.safeSample, implies_true, ↓kept_foldl, ↓State.onSafety_kept, ↓State.pairSample_kept]

@[simp] theorem State.safeEval_kept (s : State) (before) : (s.safeEval before).kept = s.kept := by
  simp only [State.safeEval, ↓kept_ite, implies_true, ↓kept_foldl, ite_self, ↓State.onSafety_kept, ↓State.dualEvents_kept, ↓State.inputEvents_kept,
    ↓State.fnStep_kept, ↓State.pairDrive_kept, ↓State.pairsOut_kept]

@[simp] theorem execSafetyLoop_kept (m1 m2 ns) (s : State) : outKept (execSafetyLoop m1 m2 ns s) = some s.kept := by
  simp only [execSafetyLoop, ↓kept_ite, ↓outKept_next, ite_self, ↓State.onSafety_kept, ↓State.stopBus_kept, ↓State.pairsOut_kept,
    ↓State.safeEval_kept, ↓State.safeSample_kept]

@[simp] theorem State.safeOff_kept (s : State) : s.safeOff.kept = s.kept := by
  simp only [State.safeOff, ↓State.stopBus_kept, ↓State.pairsOut_kept, ↓State.onSafety_kept]

@[simp] theorem State.safeUnit_kept (s : State) (st mon) : (s.safeUnit st mon).kept = s.kept := by
  simp only [State.safeUnit, ↓kept_ite, ite_self, ↓State.fatal_kept, ↓State.onSafety_kept, ↓State.safeOff_kept, ↓State.raiseNow_kept]

@[simp] theorem execSafetyStartupDone_kept (ok mon) (s : State) : outKept (execSafetyStartupDone ok mon s) = some s.kept := by
  simp only [execSafetyStartupDone, ↓kept_ite, ↓outKept_next, ite_self, ↓State.safeUnit_kept]

@[simp] theorem execMonitorFault_kept (mon) (s : State) : outKept (execMonitorFault mon s) = some s.kept := by
  simp only [execMonitorFault, ↓kept_ite, ↓outKept_next, ite_self, ↓State.safeUnit_kept]

@[simp] theorem execStopBusToggleLost_kept (r) (s : State) : outKept (execStopBusToggleLost r s) = some s.kept := by
  simp only [execStopBusToggleLost, ↓outKept_next, ↓State.stopBus_kept, ↓State.onSafety_kept]

@[simp] theorem execDiscrepancyTimeout_kept (f second) (s : State) : outKept (execDiscrepancyTimeout f second s) = some s.kept := by
  simp only [execDiscrepancyTimeout, ↓kept_ite, ↓outKept_next, ite_self, ↓State.raiseNow_kept, ↓State.onSafety_kept]

@[simp] theorem execStop1Expire_kept (f) (s : State) : outKept (execStop1Expire f s) = some s.kept := by
  unfold execStop1Expire
  dsimp only
  (repeat' split) <;> simp only [↓outKept_next, ↓State.fnGo_kept]

@[simp] theorem execTwoHandWindowExpire_kept (f) (s : State) : outKept (execTwoHandWindowExpire f s) = some s.kept := by
  unfold execTwoHandWindowExpire
  dsimp only
  (repeat' split) <;> simp only [↓outKept_next, ↓State.fnDemand_kept, ↓State.onSafety_kept]

@[simp] theorem execMuteLimit_kept (f) (s : State) : outKept (execMuteLimit f s) = some s.kept := by
  simp only [execMuteLimit, ↓kept_ite, ↓outKept_next, ite_self, ↓State.muteEnd_kept]

@[simp] theorem execEncFault_kept (n) (s : State) : outKept (execEncFault n s) = some s.kept := by
  simp only [execEncFault, ↓kept_ite, ↓outKept_next, ite_self, ↓State.raiseNow_kept, ↓State.onSafety_kept]

@[simp] theorem execEncReference_kept (n) (s : State) : outKept (execEncReference n s) = some s.kept := by
  simp only [execEncReference, ↓kept_ite, ↓outKept_next, ite_self, ↓State.onSafety_kept]

@[simp] theorem execPairSohOn_kept (p srb srl) (s : State) : outKept (execPairSohOn p srb srl s) = some s.kept := by
  simp only [execPairSohOn, ↓kept_ite, ↓outKept_next, ite_self, ↓State.pairsOut_kept, ↓State.onSafety_kept]

@[simp] theorem execPairTest_kept (p first second) (s : State) : outKept (execPairTest p first second s) = some s.kept := by
  simp only [execPairTest, ↓kept_ite, ↓outKept_next, ite_self, ↓State.pairsOut_kept, ↓State.pairFault_kept, ↓State.onSafety_kept, ↓State.drawn_kept]

@[simp] theorem execResetStuck_kept (i) (s : State) : outKept (execResetStuck i s) = some s.kept := by
  unfold execResetStuck
  dsimp only
  (repeat' split) <;> simp only [↓outKept_next, ↓State.raiseNow_kept, ↓State.onSafety_kept]

@[simp] theorem State.fnStand_kept (s : State) (f) : (s.fnStand f).kept = s.kept := by
  unfold State.fnStand
  dsimp only
  (repeat' split) <;> simp only [↓State.fnGo_kept, ↓State.onSafety_kept]

@[simp] theorem State.fnReset_kept (s : State) (f) : (s.fnReset f).kept = s.kept := by
  unfold State.fnReset
  dsimp only
  (repeat' split) <;> simp only [↓State.onSafety_kept, ↓State.fnGo_kept, ↓State.fnStand_kept, ↓State.raiseNow_kept]

@[simp] theorem execResetEdge_kept (i) (s : State) : outKept (execResetEdge i s) = some s.kept := by
  simp only [execResetEdge, ↓kept_ite, implies_true, ↓kept_foldl, ↓outKept_next, ite_self, ↓State.onSafety_kept, ↓State.raiseNow_kept,
    ↓State.fnReset_kept, ↓State.stopBus_kept, ↓State.pairsOut_kept, ↓State.pairDrive_kept]

@[simp] theorem cardSafetyStatus_kept (o) (s : State) : (cardSafetyStatus o s).kept = s.kept := by
  exact card_kept fun _ => rfl

@[simp] theorem execSafetyStatus_kept (o) (s : State) : outKept (execSafetyStatus o s) = some s.kept := by
  simp only [execSafetyStatus, ↓outKept_next, ↓cardSafetyStatus_kept]

@[simp] theorem cardEncRead_kept (o) (s : State) : (cardEncRead o s).kept = s.kept := by
  exact card_kept fun _ => rfl

@[simp] theorem execEncRead_kept (o) (s : State) : outKept (execEncRead o s) = some s.kept := by
  simp only [execEncRead, ↓outKept_next, ↓cardEncRead_kept]

/- Machine/SafeConn.lean -/

@[simp] theorem State.onConn_kept (s : State) (p f) : (s.onConn p f).kept = s.kept := by
  simp only [State.onConn, ↓State.onSafety_kept]

@[simp] theorem State.connGo_kept (s : State) (p st order) : (s.connGo p st order).kept = s.kept := by
  simp only [State.connGo, ↓State.raiseNow_kept, ↓State.onConn_kept]

@[simp] theorem State.connFail_kept (s : State) (p order) : (s.connFail p order).kept = s.kept := by
  simp only [State.connFail, ↓State.connGo_kept, ↓State.onConn_kept]

@[simp] theorem State.connRx_kept (s : State) (p f) : (s.connRx p f).kept = s.kept := by
  simp only [State.connRx, ↓kept_ite, ite_self, ↓State.onConn_kept, ↓State.raiseNow_kept]

@[simp] theorem State.connForm_kept (s : State) (p) : (s.connForm p).kept = s.kept := by
  simp only [State.connForm, ↓State.onConn_kept]

@[simp] theorem execSafeFrameRx_kept (p bytes) (s : State) : outKept (execSafeFrameRx p bytes s) = some s.kept := by
  simp only [execSafeFrameRx, ↓outKept_next, ↓State.connRx_kept]

@[simp] theorem execSafeWatchdog_kept (p) (s : State) : outKept (execSafeWatchdog p s) = some s.kept := by
  simp only [execSafeWatchdog, ↓kept_ite, ↓outKept_next, ite_self, ↓State.connFail_kept]

@[simp] theorem execSafeConnRestart_kept (p) (s : State) : outKept (execSafeConnRestart p s) = some s.kept := by
  simp only [execSafeConnRestart, ↓kept_ite, ↓outKept_next, ite_self, ↓State.connGo_kept]

@[simp] theorem cardSafeConnStatus_kept (o) (s : State) : (cardSafeConnStatus o s).kept = s.kept := by
  exact card_kept fun _ => rfl

@[simp] theorem execSafeConnStatus_kept (o) (s : State) : outKept (execSafeConnStatus o s) = some s.kept := by
  simp only [execSafeConnStatus, ↓outKept_next, ↓cardSafeConnStatus_kept]

end Sys2Proof.Machine
end

