-- ==== Sys2Proof/Laws/FrameBay.lean ====
section
/-! SUPPORT. Frames, continued: the operations and commands of a bay. -/

namespace Sys2Proof.Machine

/- Machine/Link.lean -/

@[simp] theorem State.onLink_kept (s : State) (b f) : (s.onLink b f).kept = s.kept := by
  simp only [State.onLink, ↓State.onBay_kept]

@[simp] theorem State.linkEvent_kept (s : State) (b kind data tick) : (s.linkEvent b kind data tick).kept = s.kept := by
  simp only [State.linkEvent, ↓State.raise_kept]

@[simp] theorem State.fwEnd_kept (s : State) (b fail) : (s.fwEnd b fail).kept = s.kept := by
  unfold State.fwEnd
  (repeat' split) <;> simp only [↓kept_mk, ↓kept_ite, kept_pending, kept_cells, kept_eta, ite_self, ↓State.onLink_kept, ↓State.answer_kept,
    ↓State.consumeXfer_kept]

@[simp] theorem State.laneDown_kept (s : State) (b) : (s.laneDown b).kept = s.kept := by
  simp only [State.laneDown, ↓kept_cond, Bool.cond_self, ↓State.meterRefresh_kept, ↓State.onLink_kept, ↓State.fwEnd_kept]

@[simp] theorem State.laneLost_kept (s : State) (b lock) : (s.laneLost b lock).kept = s.kept := by
  simp only [State.laneLost, ↓kept_ite, ite_self, ↓State.linkEvent_kept, ↓State.laneDown_kept, ↓State.tamper_kept]

@[simp] theorem State.linkService_kept (s : State) (b) : (s.linkService b).kept = s.kept := by
  simp only [State.linkService, ↓kept_ite, ite_self, ↓State.meterRefresh_kept, ↓State.onLink_kept]

@[simp] theorem State.linkReady_kept (s : State) (b) : (s.linkReady b).kept = s.kept := by
  simp only [State.linkReady, ↓State.linkService_kept, ↓State.linkEvent_kept, ↓State.onLink_kept]

@[simp] theorem State.tryLock_kept (s : State) (b) : (s.tryLock b).kept = s.kept := by
  simp only [State.tryLock, ↓kept_ite, ite_self, ↓State.onLink_kept]

@[simp] theorem execSignalDetect_kept (b) (s : State) : outKept (execSignalDetect b s) = some s.kept := by
  simp only [execSignalDetect, ↓kept_ite, ↓outKept_next, ite_self, ↓State.tryLock_kept, ↓State.onLink_kept]

@[simp] theorem execDownHoldExpire_kept (b) (s : State) : outKept (execDownHoldExpire b s) = some s.kept := by
  simp only [execDownHoldExpire, ↓outKept_next, ↓State.tryLock_kept]

@[simp] theorem execLossOfSignal_kept (b) (s : State) : outKept (execLossOfSignal b s) = some s.kept := by
  simp only [execLossOfSignal, ↓kept_ite, ↓outKept_next, ite_self, ↓State.onLink_kept, ↓State.laneDown_kept]

@[simp] theorem execBlockLockGained_kept (b) (s : State) : outKept (execBlockLockGained b s) = some s.kept := by
  simp only [execBlockLockGained, ↓kept_ite, ↓outKept_next, ite_self, ↓State.onLink_kept]

@[simp] theorem execBlockLockLost_kept (b) (s : State) : outKept (execBlockLockLost b s) = some s.kept := by
  simp only [execBlockLockLost, ↓kept_ite, ↓outKept_next, ite_self, ↓State.laneLost_kept]

@[simp] theorem execAlignmentBlockRx_kept (b pos tick) (s : State) : outKept (execAlignmentBlockRx b pos tick s) = some s.kept := by
  simp only [execAlignmentBlockRx, ↓kept_ite, ↓outKept_next, ite_self, ↓State.onLink_kept]

@[simp] theorem execLockTimeout_kept (b) (s : State) : outKept (execLockTimeout b s) = some s.kept := by
  simp only [execLockTimeout, ↓kept_ite, ↓outKept_next, ite_self, ↓State.laneDown_kept]

@[simp] theorem execMeasureTimeout_kept (b) (s : State) : outKept (execMeasureTimeout b s) = some s.kept := by
  simp only [execMeasureTimeout, ↓kept_ite, ↓outKept_next, ite_self, ↓State.linkEvent_kept, ↓State.laneDown_kept]

@[simp] theorem execTrainingAnswer_kept (b seq roundTrip turnPs crcOk) (s : State)
    : outKept (execTrainingAnswer b seq roundTrip turnPs crcOk s) = some s.kept := by
  simp only [execTrainingAnswer, ↓kept_ite, ↓outKept_next, ite_self, ↓State.onLink_kept]

@[simp] theorem State.safeWord_kept (s : State) (b addr status data) : (s.safeWord b addr status data).kept = s.kept := by
  simp only [State.safeWord, ↓kept_ite, ite_self, ↓State.onSafety_kept, ↓State.connRx_kept]

@[simp] theorem State.toConfigure_kept (s : State) (b) : (s.toConfigure b).kept = s.kept := by
  simp only [State.toConfigure, ↓State.onLink_kept]

@[simp] theorem State.toMismatch_kept (s : State) (b) : (s.toMismatch b).kept = s.kept := by
  simp only [State.toMismatch, ↓State.linkEvent_kept, ↓State.onLink_kept]

@[simp] theorem State.identified_kept (s : State) (b) : (s.identified b).kept = s.kept := by
  unfold State.identified
  (repeat' split) <;> simp only [↓kept_mk, ↓kept_ite, kept_pending, kept_cells, kept_eta, ite_self, ↓State.onLink_kept, ↓State.linkEvent_kept,
    ↓State.laneDown_kept, ↓State.meterRefresh_kept, ↓State.toConfigure_kept, ↓State.toMismatch_kept]

@[simp] theorem State.fwProgress_kept (s : State) (b next) : (s.fwProgress b next).kept = s.kept := by
  unfold State.fwProgress
  (repeat' split) <;> simp only [↓State.onLink_kept]

@[simp] theorem execConfigResponse_kept (b r) (s : State) : outKept (execConfigResponse b r s) = some s.kept := by
  unfold execConfigResponse
  dsimp only
  (repeat' split) <;> simp only [↓kept_cond, Bool.cond_self, ↓outKept_next, ↓State.onLink_kept, ↓State.toMismatch_kept, ↓State.identified_kept,
    ↓State.laneDown_kept, ↓State.linkReady_kept, ↓State.safeWord_kept, ↓State.fwProgress_kept]

@[simp] theorem execConfigRetryTimeout_kept (b) (s : State) : outKept (execConfigRetryTimeout b s) = some s.kept := by
  unfold execConfigRetryTimeout
  (repeat' split) <;> simp only [↓outKept_next, ↓State.onLink_kept, ↓State.laneDown_kept]

@[simp] theorem execLinkLost_kept (b) (s : State) : outKept (execLinkLost b s) = some s.kept := by
  simp only [execLinkLost, ↓kept_ite, ↓outKept_next, ite_self, ↓State.laneLost_kept]

@[simp] theorem State.linkWrites_kept (s : State) (b) : (s.linkWrites b).kept = s.kept := by
  simp only [State.linkWrites, ↓kept_ite, ite_self, ↓State.onLink_kept]

@[simp] theorem State.linkReload_kept (s : State) (b) : (s.linkReload b).kept = s.kept := by
  simp only [State.linkReload, ↓kept_ite, ite_self, ↓State.onLink_kept, ↓State.meterRefresh_kept, ↓State.linkService_kept, ↓State.linkWrites_kept]

@[simp] theorem execUplinkFrame_kept (b f) (s : State) : outKept (execUplinkFrame b f s) = some s.kept := by
  simp only [execUplinkFrame, ↓kept_ite, ↓outKept_next, ite_self, ↓State.onLink_kept]

@[simp] theorem State.headReject_kept (s : State) (b tick) : (s.headReject b tick).kept = s.kept := by
  simp only [State.headReject, ↓kept_ite, ite_self, ↓State.linkEvent_kept, ↓State.onLink_kept]

@[simp] theorem execHeadReject_kept (b) (s : State) : outKept (execHeadReject b s) = some s.kept := by
  simp only [execHeadReject, ↓outKept_next, ↓State.headReject_kept]

@[simp] theorem State.headStatus_kept (s : State) (b f) : (s.headStatus b f).kept = s.kept := by
  simp only [State.headStatus, ↓kept_cond, Bool.cond_self, ↓State.onLink_kept, ↓State.linkEvent_kept, ↓State.headReject_kept]

@[simp] theorem State.miss_kept (s : State) (b) : (s.miss b).kept = s.kept := by
  simp only [State.miss, ↓State.onLink_kept]

@[simp] theorem State.publishBay_kept (s : State) (b) : (s.publishBay b).kept = s.kept := by
  unfold State.publishBay
  dsimp only
  (repeat' split) <;> simp only [↓State.onBay_kept, ↓State.headStatus_kept, ↓State.miss_kept]

@[simp] theorem execHeadFwLoaded_kept (b) (s : State) : outKept (execHeadFwLoaded b s) = some s.kept := by
  unfold execHeadFwLoaded
  (repeat' split) <;> simp only [↓kept_ite, ↓outKept_next, ite_self, ↓State.fwEnd_kept, ↓State.linkEvent_kept]

@[simp] theorem execHeadFwTimeout_kept (b) (s : State) : outKept (execHeadFwTimeout b s) = some s.kept := by
  unfold execHeadFwTimeout
  (repeat' split) <;> simp only [↓outKept_next, ↓State.fwEnd_kept]

@[simp] theorem cardLinkStatus_kept (o bay) (s : State) : (cardLinkStatus o bay s).kept = s.kept := by
  exact card_kept fun _ => rfl

@[simp] theorem execLinkStatus_kept (o bay) (s : State) : outKept (execLinkStatus o bay s) = some s.kept := by
  simp only [execLinkStatus, ↓outKept_next, ↓cardLinkStatus_kept]

@[simp] theorem State.retrainBoundary_kept (s : State) : s.retrainBoundary.kept = s.kept := by
  simp only [State.retrainBoundary, ↓kept_ite, implies_true, ↓kept_foldl, ite_self, ↓State.onLink_kept, ↓State.laneDown_kept]

@[simp] theorem cardLinkRetrain_kept (o bays) (s : State) : (cardLinkRetrain o bays s).kept = s.kept := by
  simp only [cardLinkRetrain, implies_true, ↓kept_foldl, ↓card_kept, ↓State.onLink_kept]

@[simp] theorem execLinkRetrain_kept (o bays) (s : State) : outKept (execLinkRetrain o bays s) = some s.kept := by
  simp only [execLinkRetrain, ↓outKept_next, ↓cardLinkRetrain_kept]

@[simp] theorem cardHeadFwLoad_kept (o bays transfer size hash) (s : State) : (cardHeadFwLoad o bays transfer size hash s).kept = s.kept := by
  simp only [cardHeadFwLoad, ↓kept_mk, implies_true, ↓kept_foldl, kept_pending, kept_cells, kept_eta, ↓cardLater_kept, ↓State.onLink_kept]

@[simp] theorem execHeadFwLoad_kept (o bays transfer size hash) (s : State) : outKept (execHeadFwLoad o bays transfer size hash s) = some s.kept := by
  simp only [execHeadFwLoad, ↓outKept_next, ↓cardHeadFwLoad_kept]

/- Machine/Session.lean -/

@[simp] theorem State.freeSlot_kept (s : State) (i) : (s.freeSlot i).kept = s.kept := by
  unfold State.freeSlot
  (repeat' split) <;> simp only [↓kept_mk, kept_pending, kept_cells, kept_eta]

@[simp] theorem State.freeSlotOf_kept (s : State) (i b) : (s.freeSlotOf i b).kept = s.kept := by
  unfold State.freeSlotOf
  (repeat' split) <;> simp only [↓State.freeSlot_kept]

@[simp] theorem State.slacEnd_kept (s : State) (b reason) : (s.slacEnd b reason).kept = s.kept := by
  unfold State.slacEnd
  dsimp only
  (repeat' split) <;> simp only [↓State.onPlc_kept, ↓State.freeSlotOf_kept, ↓State.stage_kept]

@[simp] theorem State.clearTrips_kept (s : State) (b) : (s.clearTrips b).kept = s.kept := by
  simp only [State.clearTrips, ↓State.onBay_kept]

@[simp] theorem State.sessOver_kept (s : State) (b) : (s.sessOver b).kept = s.kept := by
  simp only [State.sessOver, ↓kept_ite, ite_self, ↓State.onSess_kept, ↓State.slacEnd_kept, ↓State.dueReading_kept, ↓State.stage_kept]

@[simp] theorem State.sessTo_kept (s : State) (b st) : (s.sessTo b st).kept = s.kept := by
  unfold State.sessTo
  (repeat' split) <;> simp only [↓kept_ite, ↓kept_cond, Bool.cond_self, ite_self, ↓State.onSess_kept, ↓State.stage_kept, ↓State.dueReading_kept,
    ↓State.sessOver_kept, ↓State.clearTrips_kept]

@[simp] theorem State.sessEnd_kept (s : State) (b reason) : (s.sessEnd b reason).kept = s.kept := by
  simp only [State.sessEnd, ↓kept_ite, ite_self, ↓State.onSess_kept, ↓State.sessTo_kept]

@[simp] theorem State.sessLimits_kept (s : State) (b) : (s.sessLimits b).kept = s.kept := by
  simp only [State.sessLimits, ↓kept_ite, ite_self, ↓State.onSess_kept, ↓State.drawn_kept]

@[simp] theorem State.takeToken_kept (s : State) (b t0) : (s.takeToken b t0).kept = s.kept := by
  simp only [State.takeToken, ↓kept_ite, ite_self, ↓State.onSess_kept, ↓State.stage_kept]

@[simp] theorem State.offerToken_kept (s : State) (b t0) : (s.offerToken b t0).kept = s.kept := by
  simp only [State.offerToken, ↓kept_ite, ite_self, ↓State.onSess_kept, ↓State.takeToken_kept]

@[simp] theorem State.sessConnect_kept (s : State) (b) : (s.sessConnect b).kept = s.kept := by
  unfold State.sessConnect
  dsimp only
  (repeat' split) <;> simp only [↓State.openSession_kept, ↓State.onSess_kept, ↓State.drawn_kept, ↓State.sessTo_kept, ↓State.takeToken_kept]

@[simp] theorem State.sessAuthorise_kept (s : State) (b) : (s.sessAuthorise b).kept = s.kept := by
  simp only [State.sessAuthorise, ↓kept_ite, ite_self, ↓State.sessTo_kept, ↓State.takeToken_kept]

@[simp] theorem State.sessBasic_kept (s : State) (b) : (s.sessBasic b).kept = s.kept := by
  simp only [State.sessBasic, ↓State.sessAuthorise_kept, ↓State.onSess_kept]

@[simp] theorem State.matchFail_kept (s : State) (b) : (s.matchFail b).kept = s.kept := by
  simp only [State.matchFail, ↓kept_ite, ite_self, ↓State.onSess_kept, ↓State.sessBasic_kept, ↓State.sessEnd_kept]

@[simp] theorem State.sessClose_kept (s : State) (b next) : (s.sessClose b next).kept = s.kept := by
  simp only [State.sessClose, ↓State.onSess_kept]

@[simp] theorem State.sessPilot_kept (s : State) (b) : (s.sessPilot b).kept = s.kept := by
  unfold State.sessPilot
  dsimp only
  (repeat' split) <;> simp only [↓State.onSess_kept, ↓State.slacEnd_kept, ↓State.sessConnect_kept, ↓State.sessTo_kept, ↓State.sessEnd_kept,
    ↓State.sessClose_kept]

@[simp] theorem execSessionPilotChange_kept (b) (s : State) : outKept (execSessionPilotChange b s) = some s.kept := by
  simp only [execSessionPilotChange, ↓kept_ite, ↓outKept_next, ite_self, ↓State.sessPilot_kept]

@[simp] theorem State.sessMoves_kept (s : State) (b) : (s.sessMoves b).kept = s.kept := by
  unfold State.sessMoves
  dsimp only
  (repeat' split) <;> simp only [↓State.sessConnect_kept, ↓State.sessBasic_kept, ↓State.sessTo_kept, ↓State.sessEnd_kept, ↓State.sessClose_kept,
    ↓State.onSess_kept]

@[simp] theorem State.sessOver10_kept (s : State) (b) : (s.sessOver10 b).kept = s.kept := by
  simp only [State.sessOver10, ↓State.onSess_kept]

@[simp] theorem State.sessTarget_kept (s : State) (b) : (s.sessTarget b).kept = s.kept := by
  simp only [State.sessTarget, ↓kept_ite, ite_self, ↓State.stage_kept, ↓State.onSess_kept]

@[simp] theorem State.sessTick_kept (s : State) (b) : (s.sessTick b).kept = s.kept := by
  simp only [State.sessTick, ↓kept_ite, implies_true, ↓kept_foldl, ite_self, ↓State.sessEnd_kept, ↓State.sessLimits_kept, ↓State.onPilot_kept,
    ↓State.sessTarget_kept, ↓State.sessOver10_kept, ↓State.sessMoves_kept]

@[simp] theorem execContactorConfirmTimeout_kept (b) (s : State) : outKept (execContactorConfirmTimeout b s) = some s.kept := by
  unfold execContactorConfirmTimeout
  (repeat' split) <;> simp only [↓outKept_next, ↓State.sessEnd_kept]

@[simp] theorem execWeldVerdictTimeout_kept (b) (s : State) : outKept (execWeldVerdictTimeout b s) = some s.kept := by
  simp only [execWeldVerdictTimeout, ↓kept_ite, ↓outKept_next, ite_self, ↓State.sessEnd_kept]

@[simp] theorem State.sessWeld_kept (s : State) (b verdict) : (s.sessWeld b verdict).kept = s.kept := by
  simp only [State.sessWeld, ↓kept_ite, ite_self, ↓State.sessEnd_kept, ↓State.sessTo_kept]

@[simp] theorem execMatchingTimeout_kept (b) (s : State) : outKept (execMatchingTimeout b s) = some s.kept := by
  simp only [execMatchingTimeout, ↓kept_ite, ↓outKept_next, ite_self, ↓State.matchFail_kept]

@[simp] theorem execMatchPauseEnd_kept (b) (s : State) : outKept (execMatchPauseEnd b s) = some s.kept := by
  unfold execMatchPauseEnd
  (repeat' split) <;> simp only [↓outKept_next, ↓State.onSess_kept]

@[simp] theorem execSessionTimeout_kept (b row) (s : State) : outKept (execSessionTimeout b row s) = some s.kept := by
  simp only [execSessionTimeout, ↓kept_ite, ↓outKept_next, ite_self, ↓State.stage_kept, ↓State.sessTo_kept, ↓State.sessEnd_kept]

@[simp] theorem execAuthTimeout_kept (b) (s : State) : outKept (execAuthTimeout b s) = some s.kept := by
  simp only [execAuthTimeout, ↓kept_ite, ↓outKept_next, ite_self, ↓State.sessEnd_kept]

@[simp] theorem execTokenHoldExpire_kept (b) (s : State) : outKept (execTokenHoldExpire b s) = some s.kept := by
  unfold execTokenHoldExpire
  (repeat' split) <;> simp only [↓outKept_next, ↓State.onSess_kept]

@[simp] theorem execAcOvercurrent_kept (b) (s : State) : outKept (execAcOvercurrent b s) = some s.kept := by
  simp only [execAcOvercurrent, ↓kept_ite, ↓outKept_next, ite_self, ↓State.sessEnd_kept]

@[simp] theorem execBasicPauseTimeout_kept (b) (s : State) : outKept (execBasicPauseTimeout b s) = some s.kept := by
  simp only [execBasicPauseTimeout, ↓kept_ite, ↓outKept_next, ite_self, ↓State.stage_kept, ↓State.onSess_kept]

@[simp] theorem execBasicPwmRestore_kept (b) (s : State) : outKept (execBasicPwmRestore b s) = some s.kept := by
  simp only [execBasicPwmRestore, ↓kept_ite, ↓outKept_next, ite_self, ↓State.onSess_kept, ↓State.sessEnd_kept]

@[simp] theorem execFaultPilotTimer_kept (b) (s : State) : outKept (execFaultPilotTimer b s) = some s.kept := by
  simp only [execFaultPilotTimer, ↓kept_ite, ↓outKept_next, ite_self, ↓State.onSess_kept]

@[simp] theorem execTlsCloseTimer_kept (b) (s : State) : outKept (execTlsCloseTimer b s) = some s.kept := by
  unfold execTlsCloseTimer
  (repeat' split) <;> simp only [↓outKept_next, ↓State.onSess_kept]

/- Machine/Pilot.lean -/

@[simp] theorem State.pilotTo_kept (s : State) (b st first tick) : (s.pilotTo b st first tick).kept = s.kept := by
  simp only [State.pilotTo, ↓State.stage_kept, ↓State.onPilot_kept]

@[simp] theorem State.pilotBadEval_kept (s : State) (b tick) : (s.pilotBadEval b tick).kept = s.kept := by
  simp only [State.pilotBadEval, ↓kept_ite, ite_self, ↓State.onPilot_kept, ↓State.pilotTo_kept, ↓State.stage_kept]

@[simp] theorem State.pilotLine_kept (s : State) (b ls tick) : (s.pilotLine b ls tick).kept = s.kept := by
  simp only [State.pilotLine, ↓kept_ite, ite_self, ↓State.onPilot_kept, ↓State.pilotTo_kept]

@[simp] theorem State.diodeCheck_kept (s : State) (b m) : (s.diodeCheck b m).kept = s.kept := by
  simp only [State.diodeCheck, ↓kept_ite, ite_self, ↓State.onPilot_kept, ↓State.stage_kept]

@[simp] theorem State.genFault_kept (s : State) (b bits tick) : (s.genFault b bits tick).kept = s.kept := by
  simp only [State.genFault, ↓State.stage_kept, ↓State.onPilot_kept]

@[simp] theorem State.genCheck_kept (s : State) (b m mode duty ls) : (s.genCheck b m mode duty ls).kept = s.kept := by
  simp only [State.genCheck, ↓kept_ite, ite_self, ↓State.onPilot_kept, ↓State.genFault_kept]

@[simp] theorem State.pilotEval_kept (s : State) (b m) : (s.pilotEval b m).kept = s.kept := by
  unfold State.pilotEval
  dsimp only
  (repeat' split) <;> simp only [↓State.onPilot_kept, ↓State.pilotBadEval_kept, ↓State.pilotLine_kept, ↓State.diodeCheck_kept, ↓State.genCheck_kept]

@[simp] theorem execPilotEvaluation_kept (b m) (s : State) : outKept (execPilotEvaluation b m s) = some s.kept := by
  simp only [execPilotEvaluation, ↓kept_ite, ↓outKept_next, ite_self, ↓State.pilotEval_kept]

@[simp] theorem execPpEvaluation_kept (b tick mean) (s : State) : outKept (execPpEvaluation b tick mean s) = some s.kept := by
  simp only [execPpEvaluation, ↓kept_ite, ↓outKept_next, ite_self, ↓State.onPilot_kept, ↓State.stage_kept]

@[simp] theorem State.plcSecond_kept (s : State) (b) : (s.plcSecond b).kept = s.kept := by
  simp only [State.plcSecond, ↓kept_ite, ite_self, ↓State.onPlc_kept, ↓State.stage_kept]

@[simp] theorem State.plcTickA_kept (s : State) (b) : (s.plcTickA b).kept = s.kept := by
  unfold State.plcTickA
  dsimp only
  (repeat' split) <;> simp only [↓State.plcSecond_kept, ↓State.onPlc_kept]

@[simp] theorem State.plcTickB_kept (s : State) (b) : (s.plcTickB b).kept = s.kept := by
  simp only [State.plcTickB, ↓State.onPlc_kept]

@[simp] theorem State.plcSymbol_kept (s : State) (b marked) : (s.plcSymbol b marked).kept = s.kept := by
  simp only [State.plcSymbol, ↓State.onPlc_kept]

@[simp] theorem State.plcRxGain_kept (s : State) (b g) : (s.plcRxGain b g).kept = s.kept := by
  simp only [State.plcRxGain, ↓State.onPlc_kept]

@[simp] theorem State.plcSend_kept (s : State) (b m) : (s.plcSend b m).kept = s.kept := by
  simp only [State.plcSend, ↓State.onPlc_kept]

@[simp] theorem execPlcFrameRx_kept (b f) (s : State) : outKept (execPlcFrameRx b f s) = some s.kept := by
  simp only [execPlcFrameRx, ↓kept_ite, ↓outKept_next, ite_self, ↓State.onPlc_kept, ↓State.plcSend_kept]

@[simp] theorem State.onSlot_kept (s : State) (i f) : (s.onSlot i f).kept = s.kept := by
  simp only [State.onSlot, ↓kept_mk, kept_pending, kept_cells, kept_eta]

@[simp] theorem State.answerParm_kept (s : State) (b runId) : (s.answerParm b runId).kept = s.kept := by
  simp only [State.answerParm, ↓kept_ite, ite_self, ↓State.plcSend_kept, ↓State.sessTo_kept, ↓State.onSess_kept]

@[simp] theorem execSlacParmReq_kept (b tick runId mac) (s : State) : outKept (execSlacParmReq b tick runId mac s) = some s.kept := by
  unfold execSlacParmReq
  (repeat' split) <;> simp only [↓kept_mk, ↓outKept_next, kept_pending, kept_cells, kept_eta, ↓State.answerParm_kept]

@[simp] theorem State.giveSlot_kept (s : State) (h) : (s.giveSlot h).kept = s.kept := by
  unfold State.giveSlot
  (repeat' split) <;> simp only [↓kept_mk, ↓kept_ite, implies_true, ↓kept_foldl, kept_pending, kept_cells, kept_eta, ite_self, ↓State.onSlot_kept,
    ↓State.answerParm_kept, ↓State.stage_kept, ↓State.onPlc_kept]

@[simp] theorem execSlacSlotAssign_kept (s : State) : outKept (execSlacSlotAssign s) = some s.kept := by
  simp only [execSlacSlotAssign, implies_true, ↓kept_foldl, ↓outKept_next, ↓State.giveSlot_kept]

@[simp] theorem execStartAttenChar_kept (b tick runId) (s : State) : outKept (execStartAttenChar b tick runId s) = some s.kept := by
  unfold execStartAttenChar
  (repeat' split) <;> simp only [↓outKept_next, ↓State.onSlot_kept]

@[simp] theorem execMnbcSound_kept (b tick runId count groups) (s : State) : outKept (execMnbcSound b tick runId count groups s) = some s.kept := by
  unfold execMnbcSound
  dsimp only
  (repeat' split) <;> simp only [↓outKept_next, ↓State.onSlot_kept]

@[simp] theorem State.resolveSlot_kept (s : State) (i b byAssign) : (s.resolveSlot i b byAssign).kept = s.kept := by
  simp only [State.resolveSlot, ↓State.onPlc_kept, ↓State.onSlot_kept, ↓State.stage_kept, ↓State.plcSend_kept]

@[simp] theorem State.ambiguousSlot_kept (s : State) (i cs) : (s.ambiguousSlot i cs).kept = s.kept := by
  simp only [State.ambiguousSlot, ↓kept_ite, implies_true, ↓kept_foldl, ite_self, ↓State.onSlot_kept, ↓State.stage_kept, ↓State.drawnN_kept,
    ↓State.matchFail_kept]

@[simp] theorem execSlacDecision_kept (i) (s : State) : outKept (execSlacDecision i s) = some s.kept := by
  unfold execSlacDecision
  dsimp only
  (repeat' split) <;> simp only [↓kept_mk, ↓outKept_next, kept_pending, kept_cells, kept_eta, ↓State.onSlot_kept, ↓State.resolveSlot_kept,
    ↓State.ambiguousSlot_kept]

@[simp] theorem execSlacMatchReq_kept (b runId) (s : State) : outKept (execSlacMatchReq b runId s) = some s.kept := by
  unfold execSlacMatchReq
  (repeat' split) <;> simp only [↓kept_ite, ↓outKept_next, ite_self, ↓State.onSlot_kept, ↓State.drawnN_kept, ↓State.plcSend_kept, ↓State.onPlc_kept,
    ↓State.stage_kept, ↓State.sessTo_kept, ↓State.onSess_kept]

@[simp] theorem execSlacValidate_kept (b) (s : State) : outKept (execSlacValidate b s) = some s.kept := by
  simp only [execSlacValidate, ↓kept_ite, ↓outKept_next, ite_self, ↓State.plcSend_kept]

@[simp] theorem execSlacSlotFree_kept (i) (s : State) : outKept (execSlacSlotFree i s) = some s.kept := by
  simp only [execSlacSlotFree, ↓kept_ite, ↓outKept_next, ite_self, ↓State.freeSlot_kept]

@[simp] theorem execSlacMatchTimeout_kept (b) (s : State) : outKept (execSlacMatchTimeout b s) = some s.kept := by
  unfold execSlacMatchTimeout
  (repeat' split) <;> simp only [↓outKept_next, ↓State.slacEnd_kept]

@[simp] theorem execSlacAssignLapse_kept (s : State) : outKept (execSlacAssignLapse s) = some s.kept := by
  simp only [execSlacAssignLapse, ↓kept_mk, ↓outKept_next, kept_pending, kept_cells, kept_eta]

@[simp] theorem cardPilotStatus_kept (o bay) (s : State) : (cardPilotStatus o bay s).kept = s.kept := by
  exact card_kept fun _ => rfl

@[simp] theorem execPilotStatus_kept (o bay) (s : State) : outKept (execPilotStatus o bay s) = some s.kept := by
  simp only [execPilotStatus, ↓outKept_next, ↓cardPilotStatus_kept]

@[simp] theorem cardPilotUnavailable_kept (o bay set) (s : State) : (cardPilotUnavailable o bay set s).kept = s.kept := by
  exact cardLater_kept fun t => by simp only [↓kept_atBay, implies_true, ↓State.arm_kept]

@[simp] theorem execPilotUnavailable_kept (o bay set) (s : State) : outKept (execPilotUnavailable o bay set s) = some s.kept := by
  simp only [execPilotUnavailable, ↓outKept_next, ↓cardPilotUnavailable_kept]

@[simp] theorem State.applyUnavail_kept (s : State) (bay set) : (s.applyUnavail bay set).kept = s.kept := by
  unfold State.applyUnavail
  simp only [↓kept_ite, ↓kept_atBay, implies_true, ite_self, ↓State.onBay_kept, ↓State.sessTo_kept]

@[simp] theorem cardPlcStatus_kept (o bay) (s : State) : (cardPlcStatus o bay s).kept = s.kept := by
  exact card_kept fun t => by simp only [↓State.drawnN_kept]

@[simp] theorem execPlcStatus_kept (o bay) (s : State) : outKept (execPlcStatus o bay s) = some s.kept := by
  simp only [execPlcStatus, ↓outKept_next, ↓cardPlcStatus_kept]

@[simp] theorem cardSlacMatrix_kept (o) (s : State) : (cardSlacMatrix o s).kept = s.kept := by
  exact cardBulk_kept fun _ => rfl

@[simp] theorem execSlacMatrix_kept (o) (s : State) : outKept (execSlacMatrix o s) = some s.kept := by
  simp only [execSlacMatrix, ↓outKept_next, ↓cardSlacMatrix_kept]

@[simp] theorem cardSlacAssign_kept (o mac bay) (s : State) : (cardSlacAssign o mac bay s).kept = s.kept := by
  exact card_kept fun t => by simp only [↓kept_mk, kept_pending, kept_cells, kept_eta]

@[simp] theorem execSlacAssign_kept (o mac bay) (s : State) : outKept (execSlacAssign o mac bay s) = some s.kept := by
  simp only [execSlacAssign, ↓outKept_next, ↓cardSlacAssign_kept]

/- Machine/V2g.lean -/

@[simp] theorem execSdpRequest_kept (b secure) (s : State) : outKept (execSdpRequest b secure s) = some s.kept := by
  simp only [execSdpRequest, ↓kept_ite, ↓outKept_next, ite_self, ↓State.onSess_kept]

@[simp] theorem execTlsHandshake_kept (b h) (s : State) : outKept (execTlsHandshake b h s) = some s.kept := by
  unfold execTlsHandshake
  (repeat' split) <;> simp only [↓kept_ite, ↓outKept_next, ite_self, ↓State.stage_kept, ↓State.onSess_kept, ↓State.sessEnd_kept, ↓State.drawn_kept]

@[simp] theorem State.v2gAnswer_kept (s : State) (b msg code vals) : (s.v2gAnswer b msg code vals).kept = s.kept := by
  simp only [State.v2gAnswer, ↓State.onSess_kept]

@[simp] theorem State.v2gFail_kept (s : State) (b msg code) : (s.v2gFail b msg code).kept = s.kept := by
  simp only [State.v2gFail, ↓State.stage_kept, ↓State.v2gAnswer_kept]

@[simp] theorem State.v2gEnd_kept (s : State) (b msg code) : (s.v2gEnd b msg code).kept = s.kept := by
  simp only [State.v2gEnd, ↓State.sessEnd_kept, ↓State.v2gFail_kept]

@[simp] theorem State.vehicleReject_kept (s : State) (b code) : (s.vehicleReject b code).kept = s.kept := by
  unfold State.vehicleReject
  (repeat' split) <;> simp only [↓State.cryptoReject_kept]

@[simp] theorem State.takeContract_kept (s : State) (b msg chain emaid) : (s.takeContract b msg chain emaid).1.kept = s.kept := by
  unfold State.takeContract
  dsimp only
  (repeat' split) <;> simp only [↓State.onSess_kept, ↓State.drawn_kept, ↓State.takeToken_kept, ↓State.sessEnd_kept, ↓State.v2gFail_kept,
    ↓State.vehicleReject_kept]

@[simp] theorem State.authStep_kept (s : State) (b msg) : (s.authStep b msg).kept = s.kept := by
  simp only [State.authStep, ↓kept_ite, ite_self, ↓State.sessTo_kept, ↓State.v2gAnswer_kept, ↓State.sessEnd_kept, ↓State.v2gFail_kept]

@[simp] theorem State.v2gAuthorise_kept (s : State) (b msg chain emaid proof) : (s.v2gAuthorise b msg chain emaid proof).kept = s.kept := by
  unfold State.v2gAuthorise
  dsimp only
  (repeat' split) <;> simp only [↓State.authStep_kept, ↓State.takeContract_kept, ↓State.sessEnd_kept, ↓State.v2gFail_kept, ↓State.vehicleReject_kept]

@[simp] theorem State.v2gCertificate_kept (s : State) (b update body) : (s.v2gCertificate b update body).kept = s.kept := by
  unfold State.v2gCertificate
  (repeat' split) <;> simp only [↓State.onSess_kept, ↓State.sendBulk_kept, ↓State.stage_kept, ↓State.v2gFail_kept]

@[simp] theorem State.v2gLoop_kept (s : State) (b target iMax iDis) : (s.v2gLoop b target iMax iDis).kept = s.kept := by
  simp only [State.v2gLoop, ↓kept_ite, ite_self, ↓State.onSess_kept, ↓State.stage_kept, ↓State.v2gAnswer_kept]

@[simp] theorem State.v2g_kept (s : State) (b r) : (s.v2g b r).kept = s.kept := by
  unfold State.v2g
  dsimp only
  (repeat' split) <;> simp only [↓State.v2gEnd_kept, ↓State.v2gFail_kept, ↓State.v2gAnswer_kept, ↓State.onSess_kept, ↓State.sessAuthorise_kept,
    ↓State.takeContract_kept, ↓State.v2gAuthorise_kept, ↓State.sessClose_kept, ↓State.sessTo_kept, ↓State.sessEnd_kept, ↓State.v2gLoop_kept,
    ↓State.v2gCertificate_kept]

@[simp] theorem execV2gRequest_kept (b r) (s : State) : outKept (execV2gRequest b r s) = some s.kept := by
  simp only [execV2gRequest, ↓kept_ite, ↓outKept_next, ite_self, ↓State.v2g_kept, ↓State.onSess_kept]

@[simp] theorem cardSessionStatus_kept (o bay) (s : State) : (cardSessionStatus o bay s).kept = s.kept := by
  exact card_kept fun _ => rfl

@[simp] theorem execSessionStatus_kept (o bay) (s : State) : outKept (execSessionStatus o bay s) = some s.kept := by
  simp only [execSessionStatus, ↓outKept_next, ↓cardSessionStatus_kept]

@[simp] theorem cardSessionAuth_kept (o bay decision id limit energy) (s : State) : (cardSessionAuth o bay decision id limit energy s).kept = s.kept := by
  exact cardLater_kept fun t => by simp only [↓kept_atBay, implies_true, ↓State.arm_kept]

@[simp] theorem execSessionAuth_kept (o bay decision id limit energy) (s : State)
    : outKept (execSessionAuth o bay decision id limit energy s) = some s.kept := by
  simp only [execSessionAuth, ↓outKept_next, ↓cardSessionAuth_kept]

@[simp] theorem State.settleSess_kept (s : State) (b) : (s.settleSess b).kept = s.kept := by
  simp only [State.settleSess, ↓State.onBay_kept]

@[simp] theorem State.applyAuth_kept (s : State) (bay decision id limit energy) : (s.applyAuth bay decision id limit energy).kept = s.kept := by
  unfold State.applyAuth
  simp only [↓kept_ite, ↓kept_atBay, implies_true, ite_self, ↓State.onSess_kept, ↓State.sessEnd_kept, ↓State.settleSess_kept]

@[simp] theorem cardSessionStop_kept (o bay id) (s : State) : (cardSessionStop o bay id s).kept = s.kept := by
  exact cardLater_kept fun t => by simp only [↓kept_atBay, implies_true, ↓State.arm_kept]

@[simp] theorem execSessionStop_kept (o bay id) (s : State) : outKept (execSessionStop o bay id s) = some s.kept := by
  simp only [execSessionStop, ↓outKept_next, ↓cardSessionStop_kept]

@[simp] theorem State.applyStop_kept (s : State) (bay id) : (s.applyStop bay id).kept = s.kept := by
  unfold State.applyStop
  simp only [↓kept_ite, ↓kept_atBay, implies_true, ite_self, ↓State.settleSess_kept, ↓State.sessEnd_kept]

@[simp] theorem cardSessionLimit_kept (o bay id limit energy) (s : State) : (cardSessionLimit o bay id limit energy s).kept = s.kept := by
  exact cardLater_kept fun t => by simp only [↓kept_atBay, implies_true, ↓State.arm_kept]

@[simp] theorem execSessionLimit_kept (o bay id limit energy) (s : State) : outKept (execSessionLimit o bay id limit energy s) = some s.kept := by
  simp only [execSessionLimit, ↓outKept_next, ↓cardSessionLimit_kept]

@[simp] theorem State.applyLimit_kept (s : State) (bay id limit energy) : (s.applyLimit bay id limit energy).kept = s.kept := by
  unfold State.applyLimit
  (repeat' split) <;> simp only [↓kept_ite, ↓kept_atBay, implies_true, ite_self, ↓State.settleSess_kept, ↓State.onSess_kept]

@[simp] theorem cardCertLoad_kept (o type_ protocol transfer keyId) (s : State) : (cardCertLoad o type_ protocol transfer keyId s).kept = s.kept := by
  unfold cardCertLoad
  repeat' (first | with_reducible rfl | with_reducible refine cardFull_kept (fun n t => ?_) fun t => ?_ | (simp only [↓kept_mk, ↓kept_ite, kept_pending, kept_cells, kept_eta, ite_self, ↓State.cryptoReject_kept, ↓State.ok_kept, ↓State.consumeXfer_kept]; done) | split | dsimp only)

@[simp] theorem execCertLoad_kept (o type_ protocol transfer keyId) (s : State) : outKept (execCertLoad o type_ protocol transfer keyId s) = some s.kept := by
  simp only [execCertLoad, ↓outKept_next, ↓cardCertLoad_kept]

@[simp] theorem cardCertResponse_kept (o bay result transfer id) (s : State) : (cardCertResponse o bay result transfer id s).kept = s.kept := by
  refine cardOwn_kept fun t => kept_atBay fun b => ?_
  dsimp only
  (repeat' split) <;> simp only [↓State.consumeXfer_kept, ↓State.refuse_kept, ↓State.onSess_kept, ↓State.v2gAnswer_kept, ↓State.ok_kept,
    ↓State.settleSess_kept]

@[simp] theorem execCertResponse_kept (o bay result transfer id) (s : State) : outKept (execCertResponse o bay result transfer id s) = some s.kept := by
  simp only [execCertResponse, ↓outKept_next, ↓cardCertResponse_kept]

/- Machine/Ident.lean -/

@[simp] theorem State.identEvent_kept (s : State) (b kind data) : (s.identEvent b kind data).kept = s.kept := by
  simp only [State.identEvent, ↓State.stage_kept]

@[simp] theorem execCardPoll_kept (b) (s : State) : outKept (execCardPoll b s) = some s.kept := by
  simp only [execCardPoll, ↓kept_ite, ↓outKept_next, ite_self, ↓State.onIdent_kept]

@[simp] theorem State.cardGone_kept (s : State) (b) : (s.cardGone b).kept = s.kept := by
  unfold State.cardGone
  (repeat' split) <;> simp only [↓State.identEvent_kept, ↓State.onIdent_kept]

@[simp] theorem State.pollDone_kept (s : State) (b cards error) : (s.pollDone b cards error).kept = s.kept := by
  unfold State.pollDone
  dsimp only
  (repeat' split) <;> simp only [↓State.onIdent_kept, ↓State.offerToken_kept, ↓State.identEvent_kept]

@[simp] theorem State.apduAnswer_kept (s : State) (o sw data) : (s.apduAnswer o sw data).kept = s.kept := by
  simp only [State.apduAnswer, ↓kept_ite, ite_self, ↓State.refuse_kept, ↓State.answer_kept]

@[simp] theorem State.apduDone_kept (s : State) (b r o) : (s.apduDone b r o).kept = s.kept := by
  unfold State.apduDone
  (repeat' split) <;> simp only [↓State.onIdent_kept, ↓State.apduAnswer_kept, ↓State.refuse_kept, ↓State.cardGone_kept]

@[simp] theorem execCardExchangeDone_kept (b r) (s : State) : outKept (execCardExchangeDone b r s) = some s.kept := by
  unfold execCardExchangeDone
  (repeat' split) <;> simp only [↓outKept_next, ↓State.onIdent_kept, ↓State.pollDone_kept, ↓State.cardGone_kept, ↓State.apduDone_kept]

@[simp] theorem execCardPresenceCheck_kept (b) (s : State) : outKept (execCardPresenceCheck b s) = some s.kept := by
  unfold execCardPresenceCheck
  dsimp only
  (repeat' split) <;> simp only [↓outKept_next, ↓State.onIdent_kept]

@[simp] theorem execCardHoldExpire_kept (b) (s : State) : outKept (execCardHoldExpire b s) = some s.kept := by
  unfold execCardHoldExpire
  dsimp only
  (repeat' split) <;> simp only [↓outKept_next, ↓State.cardGone_kept]

@[simp] theorem execKytInventory_kept (b) (s : State) : outKept (execKytInventory b s) = some s.kept := by
  simp only [execKytInventory, ↓kept_ite, ↓outKept_next, ite_self, ↓State.onIdent_kept]

@[simp] theorem State.tagTimeouts_kept (s : State) (b) : (s.tagTimeouts b).kept = s.kept := by
  simp only [State.tagTimeouts, implies_true, ↓kept_foldl, ↓State.refuse_kept, ↓State.onIdent_kept]

@[simp] theorem State.inventoryEnd_kept (s : State) (b) : (s.inventoryEnd b).kept = s.kept := by
  unfold State.inventoryEnd
  dsimp only
  (repeat' split) <;> simp only [↓State.onIdent_kept, ↓State.identEvent_kept, ↓State.offerToken_kept, ↓State.tagTimeouts_kept]

@[simp] theorem State.roundEnd_kept (s : State) (b busy) : (s.roundEnd b busy).kept = s.kept := by
  simp only [State.roundEnd, ↓kept_ite, ite_self, ↓State.onIdent_kept, ↓State.inventoryEnd_kept]

@[simp] theorem execKytSlot_kept (b c) (s : State) : outKept (execKytSlot b c s) = some s.kept := by
  unfold execKytSlot
  dsimp only
  (repeat' split) <;> simp only [↓outKept_next, ↓State.onIdent_kept, ↓State.roundEnd_kept]

@[simp] theorem State.nextAck_kept (s : State) (b) : (s.nextAck b).kept = s.kept := by
  unfold State.nextAck
  (repeat' split) <;> simp only [↓kept_ite, ite_self, ↓State.roundEnd_kept, ↓State.onIdent_kept]

@[simp] theorem execKytAckReply_kept (b handle id status blocks rssi crcOk) (s : State)
    : outKept (execKytAckReply b handle id status blocks rssi crcOk s) = some s.kept := by
  unfold execKytAckReply
  dsimp only
  (repeat' split) <;> simp only [↓outKept_next, ↓State.onIdent_kept, ↓State.identEvent_kept, ↓State.nextAck_kept]

@[simp] theorem execKytAckTimeout_kept (b) (s : State) : outKept (execKytAckTimeout b s) = some s.kept := by
  unfold execKytAckTimeout
  dsimp only
  (repeat' split) <;> simp only [↓outKept_next, ↓State.nextAck_kept, ↓State.onIdent_kept]

@[simp] theorem State.tagDone_kept {s : State} {b : BayId} {w : Bool} {a : State → TagCmd → State} (h : ∀ t c, (a t c).kept = t.kept) :
    (s.tagDone b w a).kept = s.kept := by
  unfold State.tagDone
  repeat' (first | with_reducible rfl | (simp only [h, State.onIdent_kept, State.nextAck_kept, ite_self, ↓kept_ite]; done) | split | dsimp only)

@[simp] theorem execKytReadReply_kept (b got rstatus data crcOk) (s : State) : outKept (execKytReadReply b got rstatus data crcOk s) = some s.kept := by
  simp only [execKytReadReply, ↓kept_ite, implies_true, ↓outKept_next, ite_self, ↓State.tagDone_kept, ↓State.onIdent_kept, ↓State.answer_kept,
    ↓State.refuse_kept]

@[simp] theorem execKytWriteReply_kept (b got rstatus written crcOk) (s : State) : outKept (execKytWriteReply b got rstatus written crcOk s) = some s.kept
    := by
  simp only [execKytWriteReply, ↓kept_ite, implies_true, ↓outKept_next, ite_self, ↓State.tagDone_kept, ↓State.onIdent_kept, ↓State.ok_kept,
    ↓State.refuse_kept]

@[simp] theorem execTagEntryExpire_kept (b) (s : State) : outKept (execTagEntryExpire b s) = some s.kept := by
  simp only [execTagEntryExpire, ↓outKept_next, ↓State.onIdent_kept]

@[simp] theorem State.identFront_kept (s : State) (b) : (s.identFront b).kept = s.kept := by
  unfold State.identFront
  (repeat' split) <;> simp only [↓kept_ite, ite_self, ↓State.onIdent_kept, ↓State.identEvent_kept]

@[simp] theorem State.identWaiting_kept (s : State) (b) : (s.identWaiting b).kept = s.kept := by
  unfold State.identWaiting
  dsimp only
  (repeat' split) <;> simp only [↓State.onIdent_kept, ↓State.refuse_kept, ↓State.answer_kept, ↓State.cardGone_kept]

@[simp] theorem State.identTick_kept (s : State) (b) : (s.identTick b).kept = s.kept := by
  simp only [State.identTick, ↓State.identWaiting_kept, ↓State.identFront_kept, ↓State.onIdent_kept, ↓State.drawnN_kept]

@[simp] theorem cardIdentStatus_kept (o bay) (s : State) : (cardIdentStatus o bay s).kept = s.kept := by
  exact card_kept fun _ => rfl

@[simp] theorem execIdentStatus_kept (o bay) (s : State) : outKept (execIdentStatus o bay s) = some s.kept := by
  simp only [execIdentStatus, ↓outKept_next, ↓cardIdentStatus_kept]

@[simp] theorem State.onIdentBoth_kept (s : State) (b f) : (s.onIdentBoth b f).kept = s.kept := by
  simp only [State.onIdentBoth, ↓State.onGrpBoth_kept]

@[simp] theorem cardCardApdu_kept (o bay len apdu) (s : State) : (cardCardApdu o bay len apdu s).kept = s.kept := by
  exact cardLater_kept fun t => by simp only [↓kept_atBay, implies_true, ↓State.onIdentBoth_kept]

@[simp] theorem execCardApdu_kept (o bay len apdu) (s : State) : outKept (execCardApdu o bay len apdu s) = some s.kept := by
  simp only [execCardApdu, ↓outKept_next, ↓cardCardApdu_kept]

@[simp] theorem cardCardRelease_kept (o bay) (s : State) : (cardCardRelease o bay s).kept = s.kept := by
  exact cardLater_kept fun t => by simp only [↓kept_atBay, implies_true, ↓State.onIdentBoth_kept]

@[simp] theorem execCardRelease_kept (o bay) (s : State) : outKept (execCardRelease o bay s) = some s.kept := by
  simp only [execCardRelease, ↓outKept_next, ↓cardCardRelease_kept]

@[simp] theorem cardTagList_kept (o bay) (s : State) : (cardTagList o bay s).kept = s.kept := by
  exact cardBulk_kept fun t => by simp only [↓kept_atBayPair, implies_true]

@[simp] theorem execTagList_kept (o bay) (s : State) : outKept (execTagList o bay s) = some s.kept := by
  simp only [execTagList, ↓outKept_next, ↓cardTagList_kept]

@[simp] theorem tagQueue_kept (o opcode bay count addr tag write data) (s : State) : (tagQueue o opcode bay count addr tag write data s).kept = s.kept := by
  exact cardLater_kept fun t => by simp only [↓kept_atBay, implies_true, ↓State.onIdentBoth_kept]

@[simp] theorem cardTagRead_kept (o bay count addr tag) (s : State) : (cardTagRead o bay count addr tag s).kept = s.kept := by
  simp only [cardTagRead, ↓tagQueue_kept]

@[simp] theorem execTagRead_kept (o bay count addr tag) (s : State) : outKept (execTagRead o bay count addr tag s) = some s.kept := by
  simp only [execTagRead, ↓outKept_next, ↓cardTagRead_kept]

@[simp] theorem cardTagWrite_kept (o bay count addr tag data) (s : State) : (cardTagWrite o bay count addr tag data s).kept = s.kept := by
  simp only [cardTagWrite, ↓tagQueue_kept]

@[simp] theorem execTagWrite_kept (o bay count addr tag data) (s : State) : outKept (execTagWrite o bay count addr tag data s) = some s.kept := by
  simp only [execTagWrite, ↓outKept_next, ↓cardTagWrite_kept]

/- Machine/Modulator.lean -/

@[simp] theorem State.modTo_kept (s : State) (b st) : (s.modTo b st).kept = s.kept := by
  simp only [State.modTo, ↓kept_ite, ite_self, ↓State.stage_kept, ↓State.onMod_kept]

@[simp] theorem State.modEnter_kept (s : State) (b) : (s.modEnter b).kept = s.kept := by
  simp only [State.modEnter, ↓kept_ite, ite_self, ↓State.modTo_kept, ↓State.onMod_kept]

@[simp] theorem execModBootDone_kept (b) (s : State) : outKept (execModBootDone b s) = some s.kept := by
  simp only [execModBootDone, ↓kept_ite, ↓outKept_next, ite_self, ↓State.modTo_kept]

@[simp] theorem State.stagePulse_kept (s : State) (b) : (s.stagePulse b).kept = s.kept := by
  unfold State.stagePulse
  dsimp only
  (repeat' split) <;> simp only [↓State.onMod_kept]

@[simp] theorem State.modTick_kept (s : State) (b) : (s.modTick b).kept = s.kept := by
  simp only [State.modTick, ↓State.modEnter_kept, ↓State.onMod_kept, ↓State.stagePulse_kept]

@[simp] theorem State.pulseAnswer_kept (s : State) (b) : (s.pulseAnswer b).kept = s.kept := by
  unfold State.pulseAnswer
  (repeat' split) <;> simp only [↓State.answer_kept, ↓State.onMod_kept]

@[simp] theorem State.interlock_kept (s : State) (b) : (s.interlock b).kept = s.kept := by
  simp only [State.interlock, ↓kept_ite, ite_self, ↓State.onMod_kept, ↓State.onIlk_kept, ↓State.raise_kept]

@[simp] theorem cardModStatus_kept (o bay) (s : State) : (cardModStatus o bay s).kept = s.kept := by
  exact card_kept fun _ => rfl

@[simp] theorem execModStatus_kept (o bay) (s : State) : outKept (execModStatus o bay s) = some s.kept := by
  simp only [execModStatus, ↓outKept_next, ↓cardModStatus_kept]

@[simp] theorem cardModPulse_kept (o bay leg flags tgt edges) (s : State) : (cardModPulse o bay leg flags tgt edges s).kept = s.kept := by
  exact cardLater_kept fun t => by simp only [↓kept_atBay, implies_true, ↓State.onGrpBoth_kept]

@[simp] theorem execModPulse_kept (o bay leg flags tgt edges) (s : State) : outKept (execModPulse o bay leg flags tgt edges s) = some s.kept := by
  simp only [execModPulse, ↓outKept_next, ↓cardModPulse_kept]

/- Machine/Loops.lean -/

@[simp] theorem State.loopTrip_kept (s : State) (b k causes) : (s.loopTrip b k causes).kept = s.kept := by
  unfold State.loopTrip
  (repeat' split) <;> simp only [↓State.onLoops_kept, ↓State.stage_kept]

@[simp] theorem State.loopHeld_kept (s : State) (b) : (s.loopHeld b).kept = s.kept := by
  simp only [State.loopHeld, ↓kept_ite, ite_self, ↓State.onLoops_kept, ↓State.stage_kept]

@[simp] theorem State.currentTick_kept (s0 : State) (b) : (s0.currentTick b).kept = s0.kept := by
  unfold State.currentTick
  dsimp only
  (repeat' split) <;> simp only [↓State.onBay_kept, ↓State.onLoops_kept, ↓State.loopTrip_kept, ↓State.loopHeld_kept, ↓State.stage_kept]

@[simp] theorem execGainSetReturn_kept (b l) (s : State) : outKept (execGainSetReturn b l s) = some s.kept := by
  simp only [execGainSetReturn, ↓kept_ite, ↓outKept_next, ite_self, ↓State.onLoops_kept, ↓State.stage_kept]

@[simp] theorem State.voltageTick_kept (s : State) (b) : (s.voltageTick b).kept = s.kept := by
  simp only [State.voltageTick, ↓kept_ite, ite_self, ↓State.onLoops_kept]

@[simp] theorem execLoopTuneDone_kept (b) (s : State) : outKept (execLoopTuneDone b s) = some s.kept := by
  unfold execLoopTuneDone
  dsimp only
  (repeat' split) <;> simp only [↓outKept_next, ↓State.onGrpBoth_kept, ↓State.stage_kept, ↓State.ok_kept, ↓State.refuse_kept]

@[simp] theorem cardLoopStatus_kept (o bay) (s : State) : (cardLoopStatus o bay s).kept = s.kept := by
  exact card_kept fun t => by simp only [↓State.drawn_kept]

@[simp] theorem execLoopStatus_kept (o bay) (s : State) : outKept (execLoopStatus o bay s) = some s.kept := by
  simp only [execLoopStatus, ↓outKept_next, ↓cardLoopStatus_kept]

@[simp] theorem cardLoopTune_kept (o bay loop step fcHz maxDev) (s : State) : (cardLoopTune o bay loop step fcHz maxDev s).kept = s.kept := by
  exact cardLater_kept fun t => by simp only [↓kept_atBay, implies_true, ↓State.onGrpBoth_kept]

@[simp] theorem execLoopTune_kept (o bay loop step fcHz maxDev) (s : State) : outKept (execLoopTune o bay loop step fcHz maxDev s) = some s.kept := by
  simp only [execLoopTune, ↓outKept_next, ↓cardLoopTune_kept]

/- Machine/Chans.lean -/

@[simp] theorem State.chanEvent_kept (s : State) (b kind data tick) : (s.chanEvent b kind data tick).kept = s.kept := by
  simp only [State.chanEvent, ↓State.stage_kept]

@[simp] theorem State.onChan_kept (s : State) (b k f) : (s.onChan b k f).kept = s.kept := by
  simp only [State.onChan, ↓State.onChans_kept]

@[simp] theorem State.chanLatch_kept (s : State) (b k hf) : (s.chanLatch b k hf).kept = s.kept := by
  simp only [State.chanLatch, ↓kept_ite, ite_self, ↓State.onChan_kept, ↓State.chanEvent_kept, ↓State.onChans_kept]

@[simp] theorem State.chanI2t_kept (s : State) (b k i) : (s.chanI2t b k i).kept = s.kept := by
  simp only [State.chanI2t, ↓kept_ite, ite_self, ↓State.onChan_kept, ↓State.chanEvent_kept]

@[simp] theorem State.chanOpen_kept (s : State) (b k i hf) : (s.chanOpen b k i hf).kept = s.kept := by
  simp only [State.chanOpen, ↓kept_ite, ite_self, ↓State.onChan_kept, ↓State.chanEvent_kept]

@[simp] theorem execOpenLoadDetect_kept (b k) (s : State) : outKept (execOpenLoadDetect b k s) = some s.kept := by
  simp only [execOpenLoadDetect, ↓kept_ite, ↓outKept_next, ite_self, ↓State.chanEvent_kept, ↓State.onChan_kept]

@[simp] theorem execShortRetry_kept (b k) (s : State) : outKept (execShortRetry b k s) = some s.kept := by
  unfold execShortRetry
  dsimp only
  (repeat' split) <;> simp only [↓outKept_next, ↓State.onChan_kept]

@[simp] theorem execRetryCountReset_kept (b k) (s : State) : outKept (execRetryCountReset b k s) = some s.kept := by
  simp only [execRetryCountReset, ↓kept_ite, ↓outKept_next, ite_self, ↓State.onChan_kept]

@[simp] theorem execFreewheelVerdict_kept (b k) (s : State) : outKept (execFreewheelVerdict b k s) = some s.kept := by
  unfold execFreewheelVerdict
  dsimp only
  (repeat' split) <;> simp only [↓outKept_next, ↓State.onChan_kept, ↓State.chanEvent_kept]

@[simp] theorem State.chanRead_kept (s : State) (b k) : (s.chanRead b k).kept = s.kept := by
  unfold State.chanRead
  dsimp only
  (repeat' split) <;> simp only [↓State.chanI2t_kept, ↓State.chanLatch_kept, ↓State.chanOpen_kept, ↓State.onChan_kept]

@[simp] theorem State.chanSupply_kept (s : State) (b) : (s.chanSupply b).kept = s.kept := by
  unfold State.chanSupply
  dsimp only
  (repeat' split) <;> simp only [↓State.onChans_kept, ↓State.chanEvent_kept]

@[simp] theorem execUvRestart_kept (b) (s : State) : outKept (execUvRestart b s) = some s.kept := by
  unfold execUvRestart
  dsimp only
  (repeat' split) <;> simp only [↓outKept_next, ↓State.onChans_kept, ↓State.chanEvent_kept]

@[simp] theorem State.chanFeed_kept (s : State) (b) : (s.chanFeed b).kept = s.kept := by
  simp only [State.chanFeed, ↓kept_ite, ite_self, ↓State.chanEvent_kept, ↓State.onChans_kept]

@[simp] theorem State.chanCmds_kept (s : State) (b) : (s.chanCmds b).kept = s.kept := by
  simp only [State.chanCmds, implies_true, ↓kept_foldl, ↓State.onChans_kept]

@[simp] theorem State.chanStage_kept (s : State) (b k) : (s.chanStage b k).kept = s.kept := by
  simp only [State.chanStage, ↓State.onChan_kept]

@[simp] theorem State.conConfirm_kept (s : State) (b) : (s.conConfirm b).kept = s.kept := by
  simp only [State.conConfirm, ↓kept_ite, ite_self, ↓State.onChans_kept, ↓State.stage_kept]

@[simp] theorem execContactorLost_kept (b) (s : State) : outKept (execContactorLost b s) = some s.kept := by
  simp only [execContactorLost, ↓kept_ite, ↓outKept_next, ite_self, ↓State.chanEvent_kept, ↓State.onChans_kept]

@[simp] theorem State.weldTick_kept (s : State) (b wasOn) : (s.weldTick b wasOn).kept = s.kept := by
  unfold State.weldTick
  dsimp only
  (repeat' split) <;> simp only [↓State.onChans_kept]

@[simp] theorem State.weldVerdict_kept (s : State) (b v diff stamp) : (s.weldVerdict b v diff stamp).kept = s.kept := by
  simp only [State.weldVerdict, ↓State.onChans_kept, ↓State.sessWeld_kept, ↓State.stage_kept]

@[simp] theorem execWeldBlock_kept (b) (s : State) : outKept (execWeldBlock b s) = some s.kept := by
  unfold execWeldBlock
  dsimp only
  (repeat' split) <;> simp only [↓outKept_next, ↓State.weldVerdict_kept, ↓State.onChans_kept]

@[simp] theorem State.chansTick_kept (s : State) (b) : (s.chansTick b).kept = s.kept := by
  simp only [State.chansTick, ↓kept_ite, implies_true, ↓kept_foldl, ite_self, ↓State.chanCmds_kept, ↓State.chanSupply_kept, ↓State.chanFeed_kept,
    ↓State.chanRead_kept, ↓State.chanStage_kept, ↓State.weldTick_kept, ↓State.conConfirm_kept]

@[simp] theorem cardChanStatus_kept (o bay) (s : State) : (cardChanStatus o bay s).kept = s.kept := by
  exact card_kept fun _ => rfl

@[simp] theorem execChanStatus_kept (o bay) (s : State) : outKept (execChanStatus o bay s) = some s.kept := by
  simp only [execChanStatus, ↓outKept_next, ↓cardChanStatus_kept]

@[simp] theorem cardChanSet_kept (o bay mask on) (s : State) : (cardChanSet o bay mask on s).kept = s.kept := by
  exact card_kept fun t => by simp only [↓kept_atBayPair, implies_true, ↓State.onGrpBoth_kept]

@[simp] theorem execChanSet_kept (o bay mask on) (s : State) : outKept (execChanSet o bay mask on s) = some s.kept := by
  simp only [execChanSet, ↓outKept_next, ↓cardChanSet_kept]

@[simp] theorem cardChanReset_kept (o bay mask) (s : State) : (cardChanReset o bay mask s).kept = s.kept := by
  exact card_kept fun t => by simp only [↓kept_atBayPair, implies_true, ↓State.onGrpBoth_kept]

@[simp] theorem execChanReset_kept (o bay mask) (s : State) : outKept (execChanReset o bay mask s) = some s.kept := by
  simp only [execChanReset, ↓outKept_next, ↓cardChanReset_kept]

/- Machine/Earth.lean -/

@[simp] theorem State.earthEvent_kept (s : State) (b kind data tick) : (s.earthEvent b kind data tick).kept = s.kept := by
  simp only [State.earthEvent, ↓State.stage_kept]

@[simp] theorem State.earthTestDone_kept (s : State) (b) : (s.earthTestDone b).kept = s.kept := by
  unfold State.earthTestDone
  dsimp only
  (repeat' split) <;> simp only [↓State.ok_kept, ↓State.onBay_kept]

@[simp] theorem State.rcAbandon_kept (s : State) (b) : (s.rcAbandon b).kept = s.kept := by
  unfold State.rcAbandon
  dsimp only
  (repeat' split) <;> simp only [↓State.onEarth_kept, ↓State.refuse_kept, ↓State.onBay_kept]

@[simp] theorem State.rcTestTick_kept (s : State) (b) : (s.rcTestTick b).kept = s.kept := by
  unfold State.rcTestTick
  dsimp only
  (repeat' split) <;> simp only [↓State.rcAbandon_kept, ↓State.onEarth_kept]

@[simp] theorem execRcTestStart_kept (b) (s : State) : outKept (execRcTestStart b s) = some s.kept := by
  simp only [execRcTestStart, ↓kept_ite, ↓outKept_next, ite_self, ↓State.onEarth_kept]

@[simp] theorem execRcTestEnd_kept (b) (s : State) : outKept (execRcTestEnd b s) = some s.kept := by
  unfold execRcTestEnd
  dsimp only
  (repeat' split) <;> simp only [↓outKept_next, ↓State.onEarth_kept, ↓State.earthTestDone_kept, ↓State.earthEvent_kept]

@[simp] theorem execRcTestOverdue_kept (b) (s : State) : outKept (execRcTestOverdue b s) = some s.kept := by
  simp only [execRcTestOverdue, ↓kept_ite, ↓outKept_next, ite_self, ↓State.earthEvent_kept, ↓State.onEarth_kept]

@[simp] theorem execImdHalfSwitch_kept (b) (s : State) : outKept (execImdHalfSwitch b s) = some s.kept := by
  simp only [execImdHalfSwitch, ↓kept_ite, ↓outKept_next, ite_self, ↓State.onEarth_kept]

@[simp] theorem State.imdInvalid_kept (s : State) (b r) : (s.imdInvalid b r).kept = s.kept := by
  simp only [State.imdInvalid, ↓kept_ite, ite_self, ↓State.onEarth_kept, ↓State.earthEvent_kept]

@[simp] theorem State.imdValid_kept (s : State) (b gp gn ua ub uDc) : (s.imdValid b gp gn ua ub uDc).kept = s.kept := by
  simp only [State.imdValid, ↓kept_ite, ite_self, ↓State.onEarth_kept, ↓State.earthEvent_kept]

@[simp] theorem execImdCycleEnd_kept (b) (s : State) : outKept (execImdCycleEnd b s) = some s.kept := by
  unfold execImdCycleEnd
  dsimp only
  (repeat' split) <;> simp only [↓outKept_next, ↓State.imdInvalid_kept, ↓State.imdValid_kept]

@[simp] theorem execArcSpectrum_kept (b power mag) (s : State) : outKept (execArcSpectrum b power mag s) = some s.kept := by
  simp only [execArcSpectrum, ↓kept_ite, ↓outKept_next, ite_self, ↓State.onEarth_kept]

@[simp] theorem execArcSelftest_kept (b ok) (s : State) : outKept (execArcSelftest b ok s) = some s.kept := by
  simp only [execArcSelftest, ↓kept_ite, ↓outKept_next, ite_self, ↓State.onEarth_kept, ↓State.earthTestDone_kept, ↓State.earthEvent_kept]

@[simp] theorem State.earthAuto_kept (s : State) (b) : (s.earthAuto b).kept = s.kept := by
  simp only [State.earthAuto, ↓kept_ite, ite_self, ↓State.earthEvent_kept, ↓State.onBay_kept]

@[simp] theorem State.earthTick_kept (s : State) (b) : (s.earthTick b).kept = s.kept := by
  simp only [State.earthTick, ↓State.onEarth_kept, ↓State.earthAuto_kept, ↓State.rcTestTick_kept]

@[simp] theorem execEarthTrip_kept (b) (s : State) : outKept (execEarthTrip b s) = some s.kept := by
  simp only [execEarthTrip, ↓kept_ite, ↓outKept_next, ite_self, ↓State.earthEvent_kept, ↓State.onBay_kept]

@[simp] theorem State.earthBoundary_kept (s : State) (b) : (s.earthBoundary b).kept = s.kept := by
  simp only [State.earthBoundary, ↓kept_ite, ite_self, ↓State.raiseNow_kept, ↓State.onBay_kept]

@[simp] theorem cardEarthStatus_kept (o bay) (s : State) : (cardEarthStatus o bay s).kept = s.kept := by
  exact card_kept fun _ => rfl

@[simp] theorem execEarthStatus_kept (o bay) (s : State) : outKept (execEarthStatus o bay s) = some s.kept := by
  simp only [execEarthStatus, ↓outKept_next, ↓cardEarthStatus_kept]

@[simp] theorem cardEarthReset_kept (o bay) (s : State) : (cardEarthReset o bay s).kept = s.kept := by
  exact card_kept fun t => by simp only [↓kept_atBayPair, implies_true, ↓State.onBay_kept]

@[simp] theorem execEarthReset_kept (o bay) (s : State) : outKept (execEarthReset o bay s) = some s.kept := by
  simp only [execEarthReset, ↓outKept_next, ↓cardEarthReset_kept]

@[simp] theorem cardEarthTest_kept (o bay) (s : State) : (cardEarthTest o bay s).kept = s.kept := by
  exact cardLater_kept fun t => by simp only [↓kept_atBay, implies_true, ↓State.earthTestDone_kept, ↓State.onBay_kept]

@[simp] theorem execEarthTest_kept (o bay) (s : State) : outKept (execEarthTest o bay s) = some s.kept := by
  simp only [execEarthTest, ↓outKept_next, ↓cardEarthTest_kept]

end Sys2Proof.Machine
end

