-- ==== Sys2Proof/Laws/Memory.lean ====
section
/-! SUPPORT. The memory of the regions: every operation keeps the canonical form, a byte written reads back, and every other byte stays. -/

namespace Sys2Proof.Machine

/-- A lower bound may be lowered. -/
theorem memWfFrom_mono {lo lo' : Nat} (h : lo' ≤ lo) : ∀ m : List Host.Cell, memWfFrom lo m = true → memWfFrom lo' m = true
  | [], _ => rfl
  | (k, v) :: t, w => by
    simp only [memWfFrom, Bool.and_eq_true, decide_eq_true_eq] at w ⊢
    exact ⟨⟨le_trans h w.1.1, w.1.2⟩, w.2⟩

/-- Writing one byte keeps the canonical form above a bound that the address meets. -/
theorem memWfFrom_memSet {lo a : Nat} (x : Byte) (ha : lo ≤ a) : ∀ m : List Host.Cell, memWfFrom lo m = true → memWfFrom lo (memSet m a x) = true
  | [], _ => by
    simp only [memSet]
    split
    · rfl
    · simp_all [memWfFrom]
  | (k, v) :: t, w => by
    simp only [memWfFrom, Bool.and_eq_true, decide_eq_true_eq] at w
    obtain ⟨⟨w1, w2⟩, w3⟩ := w
    simp only [memSet]
    split
    · split
      · simp_all [memWfFrom]
      · rename_i h1 h2
        simp only [memWfFrom, Bool.and_eq_true, decide_eq_true_eq]
        exact ⟨⟨ha, by simp [h2]⟩, ⟨⟨h1, w2⟩, w3⟩⟩
    · split
      · split
        · exact memWfFrom_mono (by omega) t w3
        · rename_i h2 h3
          subst h2
          simp only [memWfFrom, Bool.and_eq_true, decide_eq_true_eq]
          exact ⟨⟨ha, by simp [h3]⟩, w3⟩
      · simp only [memWfFrom, Bool.and_eq_true, decide_eq_true_eq]
        exact ⟨⟨w1, w2⟩, memWfFrom_memSet x (by omega) t w3⟩

/-- Writing one byte keeps the canonical form. -/
theorem wf_memSet {m : List Host.Cell} (a : Nat) (x : Byte) (h : Memory.wf m = true) : Memory.wf (memSet m a x) = true :=
  memWfFrom_memSet x (Nat.zero_le a) m h

/-- Writing bytes keeps the canonical form. -/
theorem wf_memWriteBytes : ∀ (xs : List Byte) (m : List Host.Cell) (a : Nat), Memory.wf m = true → Memory.wf (memWriteBytes m a xs) = true
  | [], _, _, h => h
  | x :: t, m, a, h => wf_memWriteBytes t _ _ (wf_memSet a x h)

/-- Writing a word keeps the canonical form. -/
theorem wf_memPutWord {m : List Host.Cell} (r : RegionId) (w x : Nat) (h : Memory.wf m = true) : Memory.wf (memPutWord m r w x) = true :=
  wf_memWriteBytes _ _ _ h

/-- Writing words keeps the canonical form. -/
theorem wf_memPutWords (r : RegionId) : ∀ (xs : List Nat) (m : List Host.Cell) (w : Nat), Memory.wf m = true → Memory.wf (memPutWords m r w xs) = true
  | [], _, _, h => h
  | x :: t, m, w, h => wf_memPutWords r t _ _ (wf_memPutWord r w x h)

/-- Leaving out listed bytes keeps the canonical form. -/
theorem memWfFrom_filter (p : Host.Cell → Bool) : ∀ (m : List Host.Cell) (lo : Nat), memWfFrom lo m = true → memWfFrom lo (m.filter p) = true
  | [], _, _ => rfl
  | (k, v) :: t, lo, w => by
    simp only [memWfFrom, Bool.and_eq_true, decide_eq_true_eq] at w
    by_cases hp : p (k, v) = true
    · rw [List.filter_cons_of_pos hp]
      simp only [memWfFrom, Bool.and_eq_true, decide_eq_true_eq]
      exact ⟨w.1, memWfFrom_filter p t _ w.2⟩
    · rw [List.filter_cons_of_neg hp]
      exact memWfFrom_mono (by omega) _ (memWfFrom_filter p t _ w.2)

/-- Clearing a range keeps the canonical form. -/
theorem wf_memClear {m : List Host.Cell} (lo hi : Nat) (h : Memory.wf m = true) : Memory.wf (memClear m lo hi) = true :=
  memWfFrom_filter _ m 0 h

/-- A byte below every listed one reads as an unlisted one. -/
theorem memGet_below {lo a : Nat} (h : a < lo) : ∀ m : List Host.Cell, memWfFrom lo m = true → memGet m a = memDefault
  | [], _ => rfl
  | (k, v) :: t, w => by
    simp only [memWfFrom, Bool.and_eq_true, decide_eq_true_eq] at w
    simp only [memGet, if_neg (show a ≠ k by omega), if_pos (show a < k by omega)]

/-- A byte written reads back, and every other byte reads as before. -/
theorem memGet_memSet_from {lo a : Nat} (x : Byte) (b : Nat) : ∀ m : List Host.Cell, memWfFrom lo m = true →
    memGet (memSet m a x) b = if b = a then x else memGet m b
  | [], _ => by
    simp only [memSet]
    split <;> simp_all [memGet]
  | (k, v) :: t, w => by
    simp only [memWfFrom, Bool.and_eq_true, decide_eq_true_eq] at w
    simp only [memSet]
    split
    · rename_i h1
      split
      · rename_i h2
        simp only [memGet]
        repeat' split
        all_goals first | rfl | omega | simp_all
      · simp only [memGet]
        repeat' split
        all_goals first | rfl | omega
    · split
      · rename_i h1 h2
        subst h2
        split
        · rename_i h3
          by_cases e : b = a
          · subst e
            rw [if_pos rfl, h3]
            exact memGet_below (Nat.lt_succ_self _) t w.2
          · simp only [memGet, if_neg e]
            split
            · exact memGet_below (by omega) t w.2
            · rfl
        · simp only [memGet]
          repeat' split
          all_goals rfl
      · rename_i h1 h2
        simp only [memGet, memGet_memSet_from x b t w.2]
        repeat' split
        all_goals first | rfl | omega

/-- A byte written reads back, and every other byte reads as before. -/
theorem memGet_memSet {m : List Host.Cell} (a : Nat) (x : Byte) (b : Nat) (h : Memory.wf m = true) :
    memGet (memSet m a x) b = if b = a then x else memGet m b :=
  memGet_memSet_from x b m h

/-- Writing bytes leaves every byte outside them as it was. -/
theorem memGet_memWriteBytes_other : ∀ (xs : List Byte) (m : List Host.Cell) (a b : Nat), Memory.wf m = true → (b < a ∨ a + xs.length ≤ b) →
    memGet (memWriteBytes m a xs) b = memGet m b
  | [], _, _, _, _, _ => rfl
  | x :: t, m, a, b, h, hb => by
    simp only [List.length_cons] at hb
    rw [memWriteBytes, memGet_memWriteBytes_other t _ _ _ (wf_memSet a x h) (by omega), memGet_memSet a x b h, if_neg (by omega)]

end Sys2Proof.Machine
end

