-- ==== Sys2Proof/Laws/FrameSite.lean ====
section
/-! SUPPORT. Frames, continued: the operations and commands of the site, and those few that write memory: these leave the queue,
and keep memory in its canonical form. -/

namespace Sys2Proof.Machine

/- Machine/SafeComm.lean -/

@[simp] theorem execSafeFrameSend_kept (p) (s : State) : outKept (execSafeFrameSend p s) = some s.kept := by
  unfold execSafeFrameSend
  (repeat' split) <;> simp only [↓kept_ite, ↓outKept_next, ite_self, ↓State.connForm_kept, ↓State.onLink_kept]

@[simp] theorem execConfigLockoutEnd_kept (s : State) : outKept (execConfigLockoutEnd s) = some s.kept := by
  unfold execConfigLockoutEnd
  (repeat' split) <;> simp only [↓outKept_next, ↓State.onSafety_kept]

@[simp] theorem State.safeLog_kept (s : State) (kind tick prev status) : (s.safeLog kind tick prev status).kept = s.kept := by
  simp only [State.safeLog, ↓State.raiseNow_kept, ↓State.onSafety_kept]

@[simp] theorem State.fromTail_kept (s : State) (tail) : (s.fromTail tail).kept = s.kept := by
  unfold State.fromTail
  (repeat' split) <;> simp only [↓State.onSafety_kept]

@[simp] theorem State.safeRefused_kept (s : State) (order) : (s.safeRefused order).kept = s.kept := by
  simp only [State.safeRefused, ↓kept_ite, ite_self, ↓State.safeLog_kept, ↓State.onSafety_kept]

@[simp] theorem State.safeLoadResult_kept (s : State) (o cose tail pass waits) : (s.safeLoadResult o cose tail pass waits).kept = s.kept := by
  unfold State.safeLoadResult
  (repeat' split) <;> simp only [↓State.answer_kept, ↓State.fromTail_kept, ↓State.safeRefused_kept, ↓State.cryptoReject_kept, ↓State.onSafety_kept]

@[simp] theorem cardSafetyConfigLoad_kept (o transfer tail0 tail1 passLen pass) (s : State)
    : (cardSafetyConfigLoad o transfer tail0 tail1 passLen pass s).kept = s.kept := by
  exact cardLater_kept fun t => by simp only [↓State.consumeXfer_kept, ↓State.safeLoadResult_kept]

@[simp] theorem execSafetyConfigLoad_kept (o transfer tail0 tail1 passLen pass) (s : State)
    : outKept (execSafetyConfigLoad o transfer tail0 tail1 passLen pass s) = some s.kept := by
  simp only [execSafetyConfigLoad, ↓outKept_next, ↓cardSafetyConfigLoad_kept]

@[simp] theorem State.fnStart_kept (s : State) (f) : (s.fnStart f).kept = s.kept := by
  simp only [State.fnStart, ↓kept_ite, ite_self, ↓State.fnGo_kept, ↓State.fnStand_kept]

@[simp] theorem State.putEarth_kept (s : State) (b) : (s.putEarth b).kept = s.kept := by
  simp only [State.putEarth, ↓State.onBay_kept]

@[simp] theorem State.writePeer_kept (s : State) (b) : (s.writePeer b).kept = s.kept := by
  simp only [State.writePeer, ↓kept_ite, ite_self, ↓State.onLink_kept]

@[simp] theorem State.connStart_kept (s : State) (p) : (s.connStart p).kept = s.kept := by
  simp only [State.connStart, ↓kept_ite, ite_self, ↓State.connGo_kept]

@[simp] theorem State.safeApply_kept (s : State) (p) : (s.safeApply p).kept = s.kept := by
  simp only [State.safeApply, ↓kept_mk, ↓kept_ite, implies_true, ↓kept_foldl, kept_pending, kept_cells, kept_eta, ite_self, ↓State.onSafety_kept,
    ↓State.safeUnit_kept, ↓State.fnStart_kept, ↓State.connStart_kept, ↓State.onBay_kept, ↓State.safeOff_kept, ↓State.bumpBays_kept,
    ↓State.putEarth_kept, ↓State.writePeer_kept]

@[simp] theorem execSafetyConfigApply_kept (s : State) : outKept (execSafetyConfigApply s) = some s.kept := by
  unfold execSafetyConfigApply
  (repeat' split) <;> simp only [↓outKept_next, ↓State.safeApply_kept, ↓State.onSafety_kept, ↓State.safeLog_kept, ↓State.ok_kept]

@[simp] theorem State.signEntries_kept (s : State) (l : List (List Byte)) : (s.signEntries l).1.kept = s.kept := by
  induction l generalizing s with
  | nil => rfl
  | cons e l ih => exact (ih _).trans (State.drbg_kept _ _)

@[simp] theorem cardSafetyLogRead_kept (o fromSeq) (s : State) : (cardSafetyLogRead o fromSeq s).kept = s.kept := by
  exact cardBulk_kept fun t => by simp only [↓State.signEntries_kept]

@[simp] theorem execSafetyLogRead_kept (o fromSeq) (s : State) : outKept (execSafetyLogRead o fromSeq s) = some s.kept := by
  simp only [execSafetyLogRead, ↓outKept_next, ↓cardSafetyLogRead_kept]

@[simp] theorem cardSafetyCommission_kept (o passLen pass) (s : State) : (cardSafetyCommission o passLen pass s).kept = s.kept := by
  exact cardLater_kept fun t => by simp only [↓kept_ite, ite_self, ↓State.queueBurn_kept, ↓State.answer_kept, ↓State.safeRefused_kept]

@[simp] theorem execSafetyCommission_kept (o passLen pass) (s : State) : outKept (execSafetyCommission o passLen pass s) = some s.kept := by
  simp only [execSafetyCommission, ↓outKept_next, ↓cardSafetyCommission_kept]

@[simp] theorem State.safeFused_kept (s : State) (o) : (s.safeFused o).kept = s.kept := by
  simp only [State.safeFused, ↓State.ok_kept, ↓State.safeLog_kept]

/- Machine/Start.lean -/

@[simp] theorem State.startMasks_kept (s : State) : s.startMasks.kept = s.kept := by
  unfold State.startMasks
  simp only [implies_true, ↓kept_foldl, ↓State.onCourt_kept]

@[simp] theorem State.dropSettings_kept (s : State) : s.dropSettings.kept = s.kept := by
  simp only [State.dropSettings, ↓kept_mk, kept_pending, kept_cells, kept_eta]

@[simp] theorem State.lanesDown_kept (s : State) : s.lanesDown.kept = s.kept := by
  simp only [State.lanesDown, implies_true, ↓kept_foldl, ↓State.laneDown_kept]

@[simp] theorem State.dropRunning_kept (s : State) : s.dropRunning.kept = s.kept := by
  simp only [State.dropRunning, ↓kept_mk, kept_pending, kept_cells, kept_eta, ↓State.lanesDown_kept, ↓State.dropSettings_kept]

/- Machine/TwinCore.lean -/

@[simp] theorem State.onTwin_kept (s : State) (f) : (s.onTwin f).kept = s.kept := by
  simp only [State.onTwin, ↓kept_mk, kept_pending, kept_cells, kept_eta]

@[simp] theorem State.pairGo_kept (s : State) (st reason) : (s.pairGo st reason).kept = s.kept := by
  simp only [State.pairGo, ↓kept_ite, ite_self, ↓State.raiseNow_kept, ↓State.onTwin_kept]

@[simp] theorem State.twinLinkEvent_kept (s : State) (up twhb limit) : (s.twinLinkEvent up twhb limit).kept = s.kept := by
  simp only [State.twinLinkEvent, ↓State.raiseNow_kept]

@[simp] theorem State.postMirror_kept (s : State) (i) : (s.postMirror i).kept = s.kept := by
  simp only [State.postMirror, ↓State.drawn_kept, ↓State.onTwin_kept]

@[simp] theorem State.leaveStep_kept (s : State) (reason) : (s.leaveStep reason).kept = s.kept := by
  unfold State.leaveStep
  (repeat' split) <;> simp only [↓State.lanesDown_kept, ↓State.onTwin_kept, ↓State.pairGo_kept, ↓State.refuse_kept]

@[simp] theorem State.lanesServe_kept (s : State) : s.lanesServe.kept = s.kept := by
  simp only [State.lanesServe, implies_true, ↓kept_foldl, ↓State.linkService_kept]

@[simp] theorem State.takeServe_kept (s : State) (how epoch st) : (s.takeServe how epoch st).kept = s.kept := by
  simp only [State.takeServe, ↓State.pairGo_kept, ↓State.onTwin_kept, ↓State.lanesServe_kept, ↓State.raiseNow_kept]

@[simp] theorem State.yieldServe_kept (s : State) (how) : (s.yieldServe how).kept = s.kept := by
  simp only [State.yieldServe, ↓State.dropRunning_kept, ↓State.onTwin_kept, ↓State.raiseNow_kept, ↓State.pairGo_kept]

@[simp] theorem State.settleRoles_kept (s : State) (peerServer peerEpoch) : (s.settleRoles peerServer peerEpoch).kept = s.kept := by
  simp only [State.settleRoles, ↓kept_ite, ite_self, ↓State.yieldServe_kept, ↓State.takeServe_kept]

@[simp] theorem execTwinLinkUp_kept (p) (s : State) : outKept (execTwinLinkUp p s) = some s.kept := by
  simp only [execTwinLinkUp, ↓kept_ite, ↓outKept_next, ite_self, ↓State.twinLinkEvent_kept, ↓State.onTwin_kept, ↓State.pairGo_kept,
    ↓State.settleRoles_kept]

@[simp] theorem execTwinTrainingAnswer_kept (roundTrip turnPs crcOk) (s : State) : outKept (execTwinTrainingAnswer roundTrip turnPs crcOk s) = some s.kept
    := by
  simp only [execTwinTrainingAnswer, ↓kept_ite, ↓outKept_next, ite_self, ↓State.onTwin_kept, ↓State.twinLinkEvent_kept]

@[simp] theorem State.twinLinkDown_kept (s : State) : s.twinLinkDown.kept = s.kept := by
  simp only [State.twinLinkDown, ↓kept_ite, ite_self, ↓State.twinLinkEvent_kept, ↓State.onTwin_kept, ↓State.leaveStep_kept, ↓State.pairGo_kept]

@[simp] theorem execTwinResendTimeout_kept (cls seq) (s : State) : outKept (execTwinResendTimeout cls seq s) = some s.kept := by
  unfold execTwinResendTimeout
  (repeat' split) <;> simp only [↓outKept_next, ↓State.onTwin_kept, ↓State.twinLinkDown_kept]

@[simp] theorem execHeartbeatCheck_kept (twhbInverted) (s : State) : outKept (execHeartbeatCheck twhbInverted s) = some s.kept := by
  simp only [execHeartbeatCheck, ↓kept_ite, ↓outKept_next, ite_self, ↓State.onTwin_kept, ↓State.twinLinkEvent_kept, ↓State.leaveStep_kept]

@[simp] theorem execTakeover_kept (s : State) : outKept (execTakeover s) = some s.kept := by
  simp only [execTakeover, ↓kept_ite, ↓outKept_next, ite_self, ↓State.takeServe_kept, ↓State.onTwin_kept]

@[simp] theorem execHandoverApply_kept (s : State) : outKept (execHandoverApply s) = some s.kept := by
  unfold execHandoverApply
  (repeat' split) <;> simp only [↓outKept_next, ↓State.onTwin_kept, ↓State.raiseNow_kept, ↓State.takeServe_kept]

@[simp] theorem execYieldTake_kept (s : State) : outKept (execYieldTake s) = some s.kept := by
  unfold execYieldTake
  (repeat' split) <;> simp only [↓outKept_next, ↓State.takeServe_kept]

@[simp] theorem State.joinBurns_kept (s : State) : s.joinBurns.kept = s.kept := by
  unfold State.joinBurns
  (repeat' split) <;> simp only [implies_true, ↓kept_foldl, ↓State.queueBurn_kept]

@[simp] theorem State.joinStart_kept (s : State) (o) : (s.joinStart o).kept = s.kept := by
  simp only [State.joinStart, ↓State.pairGo_kept, ↓State.onTwin_kept, ↓State.joinBurns_kept]

@[simp] theorem State.joinItem_kept (s : State) (y1) : (s.joinItem y1).kept = s.kept := by
  unfold State.joinItem
  (repeat' split) <;> simp only [↓kept_mk, kept_pending, kept_cells, kept_eta, ↓State.onBay_kept, ↓State.onCourt_kept, ↓State.onMbx_kept,
    ↓State.onRegs_kept, ↓State.onLegal_kept]

@[simp] theorem execJoinPhaseDone_kept (items) (s : State) : outKept (execJoinPhaseDone items s) = some s.kept := by
  simp only [execJoinPhaseDone, ↓kept_ite, implies_true, ↓kept_foldl, ↓outKept_next, ite_self, ↓State.joinItem_kept, ↓State.onTwin_kept]

@[simp] theorem execCutIn_kept (u) (s : State) : outKept (execCutIn u s) = some s.kept := by
  simp only [execCutIn, ↓kept_ite, ↓outKept_next, ite_self, ↓State.onTwin_kept]

@[simp] theorem execJoinTimeout_kept (s : State) : outKept (execJoinTimeout s) = some s.kept := by
  simp only [execJoinTimeout, ↓kept_ite, ↓outKept_next, ite_self, ↓State.leaveStep_kept]

@[simp] theorem execAutoRejoin_kept (s : State) : outKept (execAutoRejoin s) = some s.kept := by
  unfold execAutoRejoin
  (repeat' split) <;> simp only [↓kept_ite, ↓outKept_next, ite_self, ↓State.onTwin_kept, ↓State.joinStart_kept]

@[simp] theorem State.joined_kept (s : State) : s.joined.kept = s.kept := by
  unfold State.joined
  (repeat' split) <;> simp only [↓kept_ite, ite_self, ↓State.pairGo_kept, ↓State.onTwin_kept, ↓State.lanesServe_kept, ↓State.ok_kept]

@[simp] theorem State.twinBoundary_kept (s : State) : s.twinBoundary.kept = s.kept := by
  unfold State.twinBoundary
  repeat' (first | with_reducible rfl | (simp only [↓kept_ite, ite_self, ↓State.joinStart_kept, ↓State.refuse_kept, ↓State.leaveStep_kept, ↓State.onTwin_kept, ↓State.takeServe_kept, ↓State.raiseNow_kept, ↓State.lanesDown_kept]; done) | split | dsimp only | with_reducible refine (kept_foldl _ (fun t x => ?_) _ _).trans ?_ | simp only [↓State.onTwin_kept])

@[simp] theorem cardTwinStatus_kept (o) (s : State) : (cardTwinStatus o s).kept = s.kept := by
  exact card_kept fun _ => rfl

@[simp] theorem execTwinStatus_kept (o) (s : State) : outKept (execTwinStatus o s) = some s.kept := by
  simp only [execTwinStatus, ↓outKept_next, ↓cardTwinStatus_kept]

@[simp] theorem State.twinLater_kept (s : State) (d o) : (s.twinLater d o).kept = s.kept := by
  simp only [State.twinLater, ↓State.onTwin_kept]

@[simp] theorem cardTwinJoin_kept (o apply) (s : State) : (cardTwinJoin o apply s).kept = s.kept := by
  simp only [cardTwinJoin, implies_true, ↓cardLater_kept, ↓State.twinLater_kept]

@[simp] theorem execTwinJoin_kept (o apply) (s : State) : outKept (execTwinJoin o apply s) = some s.kept := by
  simp only [execTwinJoin, ↓outKept_next, ↓cardTwinJoin_kept]

@[simp] theorem cardTwinHandover_kept (o apply) (s : State) : (cardTwinHandover o apply s).kept = s.kept := by
  exact card_kept fun t => by simp only [↓State.onTwin_kept]

@[simp] theorem execTwinHandover_kept (o apply) (s : State) : outKept (execTwinHandover o apply s) = some s.kept := by
  simp only [execTwinHandover, ↓outKept_next, ↓cardTwinHandover_kept]

@[simp] theorem cardTwinTake_kept (o apply) (s : State) : (cardTwinTake o apply s).kept = s.kept := by
  exact card_kept fun t => by simp only [↓State.twinLater_kept]

@[simp] theorem execTwinTake_kept (o apply) (s : State) : outKept (execTwinTake o apply s) = some s.kept := by
  simp only [execTwinTake, ↓outKept_next, ↓cardTwinTake_kept]

@[simp] theorem cardTwinLeave_kept (o apply) (s : State) : (cardTwinLeave o apply s).kept = s.kept := by
  exact card_kept fun t => by simp only [↓State.twinLater_kept]

@[simp] theorem execTwinLeave_kept (o apply) (s : State) : outKept (execTwinLeave o apply s) = some s.kept := by
  simp only [execTwinLeave, ↓outKept_next, ↓cardTwinLeave_kept]

/- Machine/Disp.lean -/

@[simp] theorem State.onDispBoth_kept (s : State) (b f) : (s.onDispBoth b f).kept = s.kept := by
  simp only [State.onDispBoth, ↓State.onGrpBoth_kept]

@[simp] theorem State.dispConsume_kept (s : State) (j) : (s.dispConsume j).kept = s.kept := by
  simp only [State.dispConsume, ↓kept_ite, ite_self, ↓State.consumeXfer_kept]

@[simp] theorem State.dispFailed_kept (s : State) (b j reason) : (s.dispFailed b j reason).kept = s.kept := by
  simp only [State.dispFailed, ↓State.raise_kept, ↓State.dispConsume_kept, ↓State.onDispBoth_kept]

@[simp] theorem State.dispAbandon_kept (s : State) (b reason) : (s.dispAbandon b reason).kept = s.kept := by
  unfold State.dispAbandon
  dsimp only
  (repeat' split) <;> simp only [↓State.onDispBoth_kept, ↓State.refuse_kept, ↓State.dispFailed_kept]

@[simp] theorem State.dispGot_kept (s : State) (b lines) : (s.dispGot b lines).kept = s.kept := by
  unfold State.dispGot
  (repeat' split) <;> simp only [↓State.dispAbandon_kept, ↓State.ok_kept, ↓State.onDispBoth_kept]

@[simp] theorem execDispFrameRead_kept (b img) (s : State) : outKept (execDispFrameRead b img s) = some s.kept := by
  unfold execDispFrameRead
  (repeat' split) <;> simp only [↓kept_mk, ↓kept_ite, ↓outKept_next, kept_pending, kept_cells, kept_eta, ite_self, ↓State.dispGot_kept,
    ↓State.postMirror_kept]

@[simp] theorem State.dispTick_kept (s : State) (b line) : (s.dispTick b line).kept = s.kept := by
  unfold State.dispTick
  dsimp only
  (repeat' split) <;> simp only [↓State.onDisp_kept, ↓State.stage_kept, ↓State.dispConsume_kept]

@[simp] theorem State.dispReport_kept (s : State) (b f) : (s.dispReport b f).kept = s.kept := by
  unfold State.dispReport
  dsimp only
  (repeat' split) <;> simp only [↓State.raise_kept, ↓State.onDispBoth_kept, ↓State.dispConsume_kept, ↓State.dispFailed_kept]

@[simp] theorem State.dispPublish_kept (s : State) (b) : (s.dispPublish b).kept = s.kept := by
  unfold State.dispPublish
  (repeat' split) <;> simp only [↓State.dispReport_kept]

@[simp] theorem State.dispReload_kept (s : State) (b) : (s.dispReload b).kept = s.kept := by
  simp only [State.dispReload, ↓State.onDispBoth_kept, ↓State.dispAbandon_kept]

@[simp] theorem State.dispStress_kept (s : State) (b) : (s.dispStress b).kept = s.kept := by
  simp only [State.dispStress, ↓kept_ite, ite_self, ↓State.drawnN_kept, ↓State.onDispBoth_kept]

@[simp] theorem execDispStressMinute_kept (s : State) : outKept (execDispStressMinute s) = some s.kept := by
  simp only [execDispStressMinute, ↓kept_ite, implies_true, ↓kept_foldl, ↓outKept_next, ite_self, ↓State.dispStress_kept]

@[simp] theorem State.dispRegain_kept (s : State) (b) : (s.dispRegain b).kept = s.kept := by
  simp only [State.dispRegain, ↓kept_ite, ite_self, ↓State.onDispBoth_kept]

@[simp] theorem execDispGainDaily_kept (s : State) : outKept (execDispGainDaily s) = some s.kept := by
  simp only [execDispGainDaily, ↓kept_ite, implies_true, ↓kept_foldl, ↓outKept_next, ite_self, ↓State.dispRegain_kept]

@[simp] theorem cardDispShow_kept (o bay flags gen addr r0 r1 r2 r3) (s : State) : (cardDispShow o bay flags gen addr r0 r1 r2 r3 s).kept = s.kept := by
  exact cardLater_kept fun t => by simp only [↓kept_ite, ↓kept_atBay, implies_true, ite_self, ↓State.onDispBoth_kept, ↓State.dispAbandon_kept,
    ↓State.onCourt_kept]

@[simp] theorem execDispShow_kept (o bay flags gen addr r0 r1 r2 r3) (s : State) : outKept (execDispShow o bay flags gen addr r0 r1 r2 r3 s) = some s.kept
    := by
  simp only [execDispShow, ↓outKept_next, ↓cardDispShow_kept]

@[simp] theorem cardDispStatus_kept (o bay) (s : State) : (cardDispStatus o bay s).kept = s.kept := by
  exact card_kept fun _ => rfl

@[simp] theorem execDispStatus_kept (o bay) (s : State) : outKept (execDispStatus o bay s) = some s.kept := by
  simp only [execDispStatus, ↓outKept_next, ↓cardDispStatus_kept]

@[simp] theorem cardDispStressRead_kept (o bay) (s : State) : (cardDispStressRead o bay s).kept = s.kept := by
  exact cardBulk_kept fun _ => rfl

@[simp] theorem execDispStressRead_kept (o bay) (s : State) : outKept (execDispStressRead o bay s) = some s.kept := by
  simp only [execDispStressRead, ↓outKept_next, ↓cardDispStressRead_kept]

@[simp] theorem cardDispStressLoad_kept (o bay transfer) (s : State) : (cardDispStressLoad o bay transfer s).kept = s.kept := by
  exact card_kept fun t => by simp only [↓kept_atBayPair, implies_true, ↓State.consumeXfer_kept, ↓State.dispRegain_kept, ↓State.onDispBoth_kept]

@[simp] theorem execDispStressLoad_kept (o bay transfer) (s : State) : outKept (execDispStressLoad o bay transfer s) = some s.kept := by
  simp only [execDispStressLoad, ↓outKept_next, ↓cardDispStressLoad_kept]

/- Machine/Ledger.lean -/

@[simp] theorem State.portSummary_kept (s : State) (b) : (s.portSummary b).kept = s.kept := by
  simp only [State.portSummary, ↓State.onBay_kept]

@[simp] theorem State.stageRoot_kept (s : State) (kind src data) : (s.stageRoot kind src data).kept = s.kept := by
  unfold State.stageRoot
  (repeat' split) <;> simp only [↓State.stage_kept]

@[simp] theorem State.ledgerRoot_kept (s : State) : s.ledgerRoot.kept = s.kept := by
  unfold State.ledgerRoot
  (repeat' split) <;> simp only [↓kept_mk, ↓kept_ite, kept_pending, kept_cells, kept_eta, ite_self, ↓State.stageRoot_kept]

@[simp] theorem State.portOutput_kept (s : State) (b) : (s.portOutput b).kept = s.kept := by
  simp only [State.portOutput, ↓State.onBay_kept]

@[simp] theorem State.shardTick_kept (s : State) (r) : (s.shardTick r).kept = s.kept := by
  simp only [State.shardTick, ↓kept_ite, implies_true, ↓kept_foldl, ite_self, ↓State.portOutput_kept, ↓State.ledgerRoot_kept, ↓State.portSummary_kept]

@[simp] theorem State.shardCommit_kept (s : State) (r) : (s.shardCommit r).kept = s.kept := by
  simp only [State.shardCommit, ↓kept_mk, ↓kept_ite, implies_true, ↓kept_foldl, kept_pending, kept_cells, kept_eta, ite_self, ↓State.onBay_kept]

@[simp] theorem State.ledgerBoundary_kept (s : State) : s.ledgerBoundary.kept = s.kept := by
  simp only [State.ledgerBoundary, ↓kept_mk, kept_pending, kept_cells, kept_eta]

@[simp] theorem execLedgerFallback_kept (b) (s : State) : outKept (execLedgerFallback b s) = some s.kept := by
  simp only [execLedgerFallback, ↓kept_ite, ↓outKept_next, ite_self, ↓State.stage_kept, ↓State.onBay_kept]

@[simp] theorem execLedgerStale_kept (s : State) : outKept (execLedgerStale s) = some s.kept := by
  simp only [execLedgerStale, ↓kept_mk, ↓kept_ite, implies_true, ↓kept_foldl, ↓outKept_next, kept_pending, kept_cells, kept_eta, ite_self,
    ↓State.stageRoot_kept]

@[simp] theorem execLedgerOver_kept (s : State) : outKept (execLedgerOver s) = some s.kept := by
  unfold execLedgerOver
  (repeat' split) <;> simp only [↓kept_mk, ↓kept_ite, ↓outKept_next, kept_pending, kept_cells, kept_eta, ite_self, ↓State.stageRoot_kept]

@[simp] theorem cardLedgerConfig_kept (o imp exp res peak floor_ bmax btime excess) (s : State)
    : (cardLedgerConfig o imp exp res peak floor_ bmax btime excess s).kept = s.kept := by
  exact cardLater_kept fun t => by simp only [↓State.arm_kept]

@[simp] theorem execLedgerConfig_kept (o imp exp res peak floor_ bmax btime excess) (s : State)
    : outKept (execLedgerConfig o imp exp res peak floor_ bmax btime excess s) = some s.kept := by
  simp only [execLedgerConfig, ↓outKept_next, ↓cardLedgerConfig_kept]

@[simp] theorem State.applyLedger_kept (s : State) (c) : (s.applyLedger c).kept = s.kept := by
  simp only [State.applyLedger, ↓kept_mk, kept_pending, kept_cells, kept_eta]

@[simp] theorem cardSiteBase_kept (o base) (s : State) : (cardSiteBase o base s).kept = s.kept := by
  exact card_kept fun t => by simp only [↓kept_mk, ↓kept_ite, kept_pending, kept_cells, kept_eta, ite_self, ↓State.raiseNow_kept]

@[simp] theorem execSiteBase_kept (o base) (s : State) : outKept (execSiteBase o base s) = some s.kept := by
  simp only [execSiteBase, ↓outKept_next, ↓cardSiteBase_kept]

@[simp] theorem cardLedgerStore_kept (o bay chg dis pSet vLow) (s : State) : (cardLedgerStore o bay chg dis pSet vLow s).kept = s.kept := by
  exact card_kept fun t => by simp only [↓kept_mk, ↓kept_ite, ↓kept_atBayPair, implies_true, kept_pending, kept_cells, kept_eta, ite_self,
    ↓State.raiseNow_kept]

@[simp] theorem execLedgerStore_kept (o bay chg dis pSet vLow) (s : State) : outKept (execLedgerStore o bay chg dis pSet vLow s) = some s.kept := by
  simp only [execLedgerStore, ↓outKept_next, ↓cardLedgerStore_kept]

@[simp] theorem cardLedgerGrid_kept (o bay pSet vLink phi) (s : State) : (cardLedgerGrid o bay pSet vLink phi s).kept = s.kept := by
  exact card_kept fun t => by simp only [↓kept_mk, ↓kept_ite, ↓kept_atBayPair, implies_true, kept_pending, kept_cells, kept_eta, ite_self,
    ↓State.raiseNow_kept]

@[simp] theorem execLedgerGrid_kept (o bay pSet vLink phi) (s : State) : outKept (execLedgerGrid o bay pSet vLink phi s) = some s.kept := by
  simp only [execLedgerGrid, ↓outKept_next, ↓cardLedgerGrid_kept]

@[simp] theorem cardLedgerStatus_kept (o) (s : State) : (cardLedgerStatus o s).kept = s.kept := by
  exact card_kept fun _ => rfl

@[simp] theorem execLedgerStatus_kept (o) (s : State) : outKept (execLedgerStatus o s) = some s.kept := by
  simp only [execLedgerStatus, ↓outKept_next, ↓cardLedgerStatus_kept]

@[simp] theorem cardLedgerBay_kept (o bay) (s : State) : (cardLedgerBay o bay s).kept = s.kept := by
  exact card_kept fun _ => rfl

@[simp] theorem execLedgerBay_kept (o bay) (s : State) : outKept (execLedgerBay o bay s) = some s.kept := by
  simp only [execLedgerBay, ↓outKept_next, ↓cardLedgerBay_kept]

/- Machine/Head.lean -/

@[simp] theorem State.onHead_kept (s : State) (b f) : (s.onHead b f).kept = s.kept := by
  simp only [State.onHead, ↓kept_mk, kept_pending, kept_cells, kept_eta]

@[simp] theorem execHeadFrameApply_kept (b t0 f0 f1 trips) (s : State) : outKept (execHeadFrameApply b t0 f0 f1 trips s) = some s.kept := by
  simp only [execHeadFrameApply, ↓outKept_next, ↓State.onHead_kept]

@[simp] theorem execHeadRelease_kept (b) (s : State) : outKept (execHeadRelease b s) = some s.kept := by
  simp only [execHeadRelease, ↓outKept_next, ↓State.onHead_kept]

@[simp] theorem execHeadPowerUp_kept (b fwWord) (s : State) : outKept (execHeadPowerUp b fwWord s) = some s.kept := by
  simp only [execHeadPowerUp, ↓outKept_next, ↓State.onHead_kept]

@[simp] theorem execHeadHeldLimit_kept (b) (s : State) : outKept (execHeadHeldLimit b s) = some s.kept := by
  simp only [execHeadHeldLimit, ↓outKept_next, ↓State.onHead_kept]

@[simp] theorem execHeadPilotHoldLimit_kept (b) (s : State) : outKept (execHeadPilotHoldLimit b s) = some s.kept := by
  simp only [execHeadPilotHoldLimit, ↓outKept_next, ↓State.onHead_kept]

@[simp] theorem execHeadIdentHoldLimit_kept (b) (s : State) : outKept (execHeadIdentHoldLimit b s) = some s.kept := by
  simp only [execHeadIdentHoldLimit, ↓outKept_next, ↓State.onHead_kept]

@[simp] theorem execHeadWhistleStop_kept (b p scope) (s : State) : outKept (execHeadWhistleStop b p scope s) = some s.kept := by
  simp only [execHeadWhistleStop, ↓outKept_next, ↓State.onHead_kept]

@[simp] theorem execHeadPortOutOfService_kept (b p lost) (s : State) : outKept (execHeadPortOutOfService b p lost s) = some s.kept := by
  simp only [execHeadPortOutOfService, ↓outKept_next, ↓State.onHead_kept]

@[simp] theorem execHeadConfigRequest_kept (b p r) (s : State) : outKept (execHeadConfigRequest b p r s) = some s.kept := by
  simp only [execHeadConfigRequest, ↓outKept_next, ↓State.onHead_kept]

@[simp] theorem execHeadSafeFrame_kept (b p demand ok) (s : State) : outKept (execHeadSafeFrame b p demand ok s) = some s.kept := by
  simp only [execHeadSafeFrame, ↓outKept_next, ↓State.onHead_kept]

/- Machine/Ring.lean -/

@[simp] theorem State.onRing_kept (s : State) (f) : (s.onRing f).kept = s.kept := by
  simp only [State.onRing, ↓kept_mk, kept_pending, kept_cells, kept_eta]

@[simp] theorem State.ringSend_kept (s : State) (fs) : (s.ringSend fs).kept = s.kept := by
  simp only [State.ringSend, ↓State.onRing_kept]

@[simp] theorem State.ringBoth_kept (s : State) (f) : (s.ringBoth f).kept = s.kept := by
  simp only [State.ringBoth, ↓State.ringSend_kept]

@[simp] theorem State.ringForward_kept (s : State) (p f) : (s.ringForward p f).kept = s.kept := by
  simp only [State.ringForward, ↓State.onRing_kept, ↓State.ringSend_kept]

@[simp] theorem State.ringHeard_kept (s : State) (p) : (s.ringHeard p).kept = s.kept := by
  simp only [State.ringHeard, ↓State.onRing_kept]

@[simp] theorem State.ringGo_kept (s : State) (st full nodes) : (s.ringGo st full nodes).kept = s.kept := by
  simp only [State.ringGo, ↓kept_ite, ite_self, ↓State.raiseNow_kept, ↓State.onRing_kept]

@[simp] theorem State.kickoff_kept (s : State) : s.kickoff.kept = s.kept := by
  simp only [State.kickoff, ↓kept_ite, ite_self, ↓State.drbg_kept, ↓State.ringGo_kept, ↓State.onRing_kept]

@[simp] theorem State.kickoffEvent_kept (s : State) (won id) : (s.kickoffEvent won id).kept = s.kept := by
  simp only [State.kickoffEvent, ↓State.raiseNow_kept]

@[simp] theorem execKickoffWaitEnd_kept (s : State) : outKept (execKickoffWaitEnd s) = some s.kept := by
  unfold execKickoffWaitEnd
  (repeat' split) <;> simp only [↓outKept_next, ↓State.onRing_kept, ↓State.ringBoth_kept]

@[simp] theorem State.ringClaim_kept (s : State) (p id) : (s.ringClaim p id).kept = s.kept := by
  simp only [State.ringClaim, ↓kept_ite, ite_self, ↓State.ringHeard_kept, ↓State.ringForward_kept, ↓State.onRing_kept]

@[simp] theorem execRingClaim_kept (p id) (s : State) : outKept (execRingClaim p id s) = some s.kept := by
  simp only [execRingClaim, ↓kept_ite, ↓outKept_next, ite_self, ↓State.ringClaim_kept]

@[simp] theorem execRingMaster_kept (s : State) : outKept (execRingMaster s) = some s.kept := by
  unfold execRingMaster
  (repeat' split) <;> simp only [↓outKept_next, ↓State.onRing_kept, ↓State.ringBoth_kept, ↓State.kickoffEvent_kept, ↓State.ringGo_kept]

@[simp] theorem State.ringAnnounce_kept (s : State) (p id) : (s.ringAnnounce p id).kept = s.kept := by
  simp only [State.ringAnnounce, ↓kept_ite, ite_self, ↓State.ringHeard_kept, ↓State.kickoff_kept, ↓State.onRing_kept, ↓State.ringForward_kept,
    ↓State.kickoffEvent_kept, ↓State.ringGo_kept]

@[simp] theorem execRingAnnounce_kept (p id) (s : State) : outKept (execRingAnnounce p id s) = some s.kept := by
  simp only [execRingAnnounce, ↓kept_ite, ↓outKept_next, ite_self, ↓State.ringAnnounce_kept]

@[simp] theorem execRingCheckSend_kept (s : State) : outKept (execRingCheckSend s) = some s.kept := by
  simp only [execRingCheckSend, ↓kept_ite, ↓outKept_next, ite_self, ↓State.ringSend_kept, ↓State.onRing_kept]

@[simp] theorem State.ringCheck_kept (s : State) (p hops) : (s.ringCheck p hops).kept = s.kept := by
  simp only [State.ringCheck, ↓kept_ite, ite_self, ↓State.ringHeard_kept, ↓State.onRing_kept, ↓State.ringGo_kept, ↓State.ringSend_kept]

@[simp] theorem execRingCheck_kept (p hops) (s : State) : outKept (execRingCheck p hops s) = some s.kept := by
  simp only [execRingCheck, ↓kept_ite, ↓outKept_next, ite_self, ↓State.ringCheck_kept]

@[simp] theorem execRingCheckLost_kept (s : State) : outKept (execRingCheckLost s) = some s.kept := by
  simp only [execRingCheckLost, ↓kept_ite, ↓outKept_next, ite_self, ↓State.ringGo_kept, ↓State.kickoff_kept]

@[simp] theorem execRingFrameForward_kept (p f) (s : State) : outKept (execRingFrameForward p f s) = some s.kept := by
  unfold execRingFrameForward
  (repeat' split) <;> simp only [↓outKept_next, ↓State.ringHeard_kept, ↓State.ringForward_kept, ↓State.ringClaim_kept, ↓State.ringAnnounce_kept,
    ↓State.ringCheck_kept, ↓State.onRing_kept]

@[simp] theorem cardRingConfig_kept (o en prio) (s : State) : (cardRingConfig o en prio s).kept = s.kept := by
  simp only [cardRingConfig, implies_true, ↓cardLater_kept, ↓State.arm_kept]

@[simp] theorem execRingConfig_kept (o en prio) (s : State) : outKept (execRingConfig o en prio s) = some s.kept := by
  simp only [execRingConfig, ↓outKept_next, ↓cardRingConfig_kept]

@[simp] theorem State.applyRing_kept (s : State) (en prio) : (s.applyRing en prio).kept = s.kept := by
  simp only [State.applyRing, ↓kept_ite, ite_self, ↓State.onRing_kept, ↓State.kickoff_kept, ↓State.ringGo_kept]

@[simp] theorem cardRingStatus_kept (o) (s : State) : (cardRingStatus o s).kept = s.kept := by
  exact card_kept fun _ => rfl

@[simp] theorem execRingStatus_kept (o) (s : State) : outKept (execRingStatus o s) = some s.kept := by
  simp only [execRingStatus, ↓outKept_next, ↓cardRingStatus_kept]

/- Machine/Faults.lean -/

@[simp] theorem State.faultCount_kept (s : State) (i) : (s.faultCount i).kept = s.kept := by
  simp only [State.faultCount, ↓State.onFaults_kept]

@[simp] theorem State.closeLegal_kept (s : State) (b tick) : (s.closeLegal b tick).kept = s.kept := by
  simp only [State.closeLegal, ↓kept_ite, ite_self, ↓State.dueReading_kept]

@[simp] theorem State.regionFault_kept (s : State) (r cause) : (s.regionFault r cause).kept = s.kept := by
  simp only [State.regionFault, ↓kept_mk, ↓kept_ite, implies_true, ↓kept_foldl, kept_pending, kept_cells, kept_eta, ite_self, ↓State.fatal_kept,
    ↓State.raiseNow_kept, ↓State.onRegion_kept, ↓State.closeLegal_kept, ↓State.meterRefresh_kept, ↓State.onLegal_kept, ↓State.onTwin_kept,
    ↓State.laneDown_kept, ↓State.twinLater_kept, ↓State.leaveStep_kept]

@[simp] theorem execRegionFault_kept (r cause) (s : State) : outKept (execRegionFault r cause s) = some s.kept := by
  simp only [execRegionFault, ↓kept_ite, ↓outKept_next, ite_self, ↓State.regionFault_kept]

@[simp] theorem State.allRegionsFault_kept (s : State) (cause) : (s.allRegionsFault cause).kept = s.kept := by
  simp only [State.allRegionsFault, implies_true, ↓kept_foldl, ↓State.regionFault_kept]

@[simp] theorem State.cellFault_kept (s : State) (c tick phys cause covered) : (s.cellFault c tick phys cause covered).kept = s.kept := by
  simp only [State.cellFault, ↓State.raise_kept]

@[simp] theorem State.uncover_kept (s : State) (c tick cause why) : (s.uncover c tick cause why).kept = s.kept := by
  unfold State.uncover
  (repeat' split) <;> simp only [↓kept_ite, ite_self, ↓State.onCell_kept, ↓State.sbCell_kept, ↓State.cellFault_kept, ↓State.onRegion_kept,
    ↓State.faultCount_kept, ↓State.onBay_kept, ↓State.closeLegal_kept, ↓State.raise_kept, ↓State.regionFault_kept]

@[simp] theorem State.cellFails_kept (s : State) (c tick cause data0 data1 copy) : (s.cellFails c tick cause data0 data1 copy).kept = s.kept := by
  unfold State.cellFails
  dsimp only
  (repeat' split) <;> simp only [↓State.sbCell_kept, ↓State.onCell_kept, ↓State.faultCount_kept, ↓State.onFaults_kept, ↓State.onBlock_kept,
    ↓State.uncover_kept]

@[simp] theorem execCellFailure_kept (c cause data0 data1 copy) (s : State) : outKept (execCellFailure c cause data0 data1 copy s) = some s.kept := by
  simp only [execCellFailure, ↓kept_ite, ↓outKept_next, ite_self, ↓State.cellFails_kept, ↓State.onFaults_kept]

@[simp] theorem State.meterCleared_kept (s : State) (b) : (s.meterCleared b).kept = s.kept := by
  simp only [State.meterCleared, ↓State.meterGap_kept, ↓State.onBay_kept]

@[simp] theorem execSpareResume_kept (c) (s : State) : outKept (execSpareResume c s) = some s.kept := by
  unfold execSpareResume
  (repeat' split) <;> simp only [↓outKept_next, ↓State.onCell_kept, ↓State.onFaults_kept, ↓State.faultCount_kept, ↓State.onRegion_kept,
    ↓State.cellFault_kept, ↓State.sbCell_kept, ↓State.meterCleared_kept]

@[simp] theorem State.overrun_kept (s : State) (c tick cycle) : (s.overrun c tick cycle).kept = s.kept := by
  unfold State.overrun
  (repeat' split) <;> simp only [↓kept_ite, ite_self, ↓State.sbCell_kept, ↓State.onCell_kept, ↓State.faultCount_kept, ↓State.onFaults_kept,
    ↓State.raise_kept, ↓State.cellFails_kept]

@[simp] theorem execDegradedClear_kept (g) (s : State) : outKept (execDegradedClear g s) = some s.kept := by
  unfold execDegradedClear
  (repeat' split) <;> simp only [↓outKept_next, ↓State.onFaults_kept, ↓State.raiseNow_kept]

@[simp] theorem execGuardStale_kept (b) (s : State) : outKept (execGuardStale b s) = some s.kept := by
  unfold execGuardStale
  dsimp only
  (repeat' split) <;> simp only [↓outKept_next, ↓State.stage_kept, ↓State.sbNote_kept, ↓State.faultCount_kept, ↓State.onGuard_kept]

@[simp] theorem State.guardTick_kept (s : State) (b) : (s.guardTick b).kept = s.kept := by
  simp only [State.guardTick, ↓State.onGuard_kept]

@[simp] theorem execBlockStoreLost_kept (r block cond) (s : State) : outKept (execBlockStoreLost r block cond s) = some s.kept := by
  simp only [execBlockStoreLost, ↓kept_ite, implies_true, ↓kept_foldl, ↓outKept_next, ite_self, ↓State.sbNote_kept, ↓State.onBlock_kept,
    ↓State.raiseNow_kept, ↓State.uncover_kept]

@[simp] theorem execAssistJobFault_kept (r block assist symbol) (s : State) : outKept (execAssistJobFault r block assist symbol s) = some s.kept := by
  unfold execAssistJobFault
  (repeat' split) <;> simp only [↓kept_ite, ↓outKept_next, ite_self, ↓State.onPlc_kept, ↓State.faultCount_kept, ↓State.onBlock_kept,
    ↓State.raiseNow_kept, ↓State.sbNote_kept]

@[simp] theorem State.chipMonitor_kept (s : State) (what tj) : (s.chipMonitor what tj).kept = s.kept := by
  simp only [State.chipMonitor, ↓State.raiseNow_kept]

@[simp] theorem State.noteTemp_kept (s : State) (tj) : (s.noteTemp tj).kept = s.kept := by
  simp only [State.noteTemp, ↓State.onFaults_kept]

@[simp] theorem State.failRunning_kept (s : State) : s.failRunning.kept = s.kept := by
  unfold State.failRunning
  repeat' (first | with_reducible refine (kept_foldl _ (fun t x => ?_) _ _).trans ?_ | simp only [↓State.answer_kept] | split)

@[simp] theorem execWatchdogStage1_kept (core tj) (s : State) : outKept (execWatchdogStage1 core tj s) = some s.kept := by
  simp only [execWatchdogStage1, ↓kept_mk, ↓outKept_next, kept_pending, kept_cells, kept_eta, ↓State.chipMonitor_kept, ↓State.sbNote_kept,
    ↓State.faultCount_kept, ↓State.failRunning_kept]

@[simp] theorem execWatchdogStage2_kept (core) (s : State) : outKept (execWatchdogStage2 core s) = some s.kept := by
  simp only [execWatchdogStage2, ↓outKept_next, ↓State.onFaults_kept, ↓State.allRegionsFault_kept, ↓State.fatal_kept]

@[simp] theorem execRefclkLoss_kept (s : State) : outKept (execRefclkLoss s) = some s.kept := by
  simp only [execRefclkLoss, ↓kept_mk, ↓outKept_next, kept_pending, kept_cells, kept_eta, ↓State.onFaults_kept]

@[simp] theorem execTempWarning_kept (tj) (s : State) : outKept (execTempWarning tj s) = some s.kept := by
  simp only [execTempWarning, ↓kept_ite, ↓outKept_next, ite_self, ↓State.noteTemp_kept, ↓State.chipMonitor_kept, ↓State.sbNote_kept,
    ↓State.onFaults_kept]

@[simp] theorem execThermalStop_kept (tj) (s : State) : outKept (execThermalStop tj s) = some s.kept := by
  simp only [execThermalStop, ↓kept_ite, ↓outKept_next, ite_self, ↓State.allRegionsFault_kept, ↓State.fatal_kept, ↓State.noteTemp_kept]

@[simp] theorem cardFaultStatus_kept (o) (s : State) : (cardFaultStatus o s).kept = s.kept := by
  exact card_kept fun _ => rfl

@[simp] theorem execFaultStatus_kept (o) (s : State) : outKept (execFaultStatus o s) = some s.kept := by
  simp only [execFaultStatus, ↓outKept_next, ↓cardFaultStatus_kept]

@[simp] theorem cardCellStatus_kept (o region block slot) (s : State) : (cardCellStatus o region block slot s).kept = s.kept := by
  exact card_kept fun _ => rfl

@[simp] theorem execCellStatus_kept (o region block slot) (s : State) : outKept (execCellStatus o region block slot s) = some s.kept := by
  simp only [execCellStatus, ↓outKept_next, ↓cardCellStatus_kept]

@[simp] theorem cardScorebookRead_kept (o source count from_) (s : State) : (cardScorebookRead o source count from_ s).kept = s.kept := by
  exact cardBulk_kept fun _ => rfl

@[simp] theorem execScorebookRead_kept (o source count from_) (s : State) : outKept (execScorebookRead o source count from_ s) = some s.kept := by
  simp only [execScorebookRead, ↓outKept_next, ↓cardScorebookRead_kept]

@[simp] theorem cardScorebookRelease_kept (o flags testOk) (s : State) : (cardScorebookRelease o flags testOk s).kept = s.kept := by
  exact card_kept fun t => by simp only [↓State.onFaults_kept, ↓State.sbNote_kept]

@[simp] theorem execScorebookRelease_kept (o flags testOk) (s : State) : outKept (execScorebookRelease o flags testOk s) = some s.kept := by
  simp only [execScorebookRelease, ↓outKept_next, ↓cardScorebookRelease_kept]

@[simp] theorem cardFaultInject_kept (o region block slot kind) (s : State) : (cardFaultInject o region block slot kind s).kept = s.kept := by
  refine card_kept fun t => ?_
  (repeat' split) <;> simp only [↓State.onFaults_kept]

@[simp] theorem execFaultInject_kept (o region block slot kind) (s : State) : outKept (execFaultInject o region block slot kind s) = some s.kept := by
  simp only [execFaultInject, ↓outKept_next, ↓cardFaultInject_kept]

@[simp] theorem State.injectNow_kept (s : State) : s.injectNow.kept = s.kept := by
  simp only [State.injectNow, implies_true, ↓kept_foldl, ↓State.cellFails_kept, ↓State.onFaults_kept]

/- Machine/Boot.lean -/

@[simp] theorem State.onBoot_kept (s : State) (f) : (s.onBoot f).kept = s.kept := by
  simp only [State.onBoot, ↓kept_mk, kept_pending, kept_cells, kept_eta]

@[simp] theorem State.updateState_kept (s : State) (j cause code) : (s.updateState j cause code).kept = s.kept := by
  simp only [State.updateState, ↓State.raiseNow_kept]

@[simp] theorem State.runBundle_kept (s : State) (img slot fromHost) : (s.runBundle img slot fromHost).kept = s.kept := by
  simp only [State.runBundle, ↓kept_mk, kept_pending, kept_cells, kept_eta]

@[simp] theorem State.retire_kept (s : State) (n places) : (s.retire n places).kept = s.kept := by
  unfold State.retire
  repeat' (first | with_reducible refine (kept_foldl _ (fun t x => ?_) _ _).trans ?_ | (simp only [↓kept_ite, ite_self, ↓State.onBlock_kept, ↓State.onFaults_kept, ↓State.onRegion_kept, ↓State.onCell_kept, ↓State.drawn_kept, ↓State.uncover_kept]; done) | split)

@[simp] theorem State.retireAll_kept (s : State) : s.retireAll.kept = s.kept := by
  simp only [State.retireAll, ↓kept_ite, implies_true, ↓kept_foldl, ite_self, ↓State.retire_kept, ↓State.onBoot_kept]

@[simp] theorem State.islandRecord_kept (s : State) (x) : (s.islandRecord x).kept = s.kept := by
  simp only [State.islandRecord, ↓State.tamper_kept]

@[simp] theorem State.islandStart_kept (s : State) : s.islandStart.kept = s.kept := by
  simp only [State.islandStart, ↓kept_mk, ↓kept_ite, implies_true, ↓kept_foldl, kept_pending, kept_cells, kept_eta, ite_self, ↓State.startLegal_kept,
    ↓State.islandRecord_kept, ↓State.tamper_kept]

@[simp] theorem State.myavatStart_kept (s : State) : s.myavatStart.kept = s.kept := by
  simp only [State.myavatStart, ↓kept_ite, implies_true, ↓kept_foldl, ite_self, ↓State.islandStart_kept, ↓State.retireAll_kept,
    ↓State.startMasks_kept, ↓State.sbNote_kept, ↓State.raiseNow_kept, ↓State.updateState_kept, ↓State.onBoot_kept]

@[simp] theorem execRefclkReturn_kept (s : State) : outKept (execRefclkReturn s) = some s.kept := by
  simp only [execRefclkReturn, ↓kept_ite, ↓outKept_next, ite_self, ↓State.onBoot_kept]

@[simp] theorem State.endSessions_kept (s : State) : s.endSessions.kept = s.kept := by
  simp only [State.endSessions, ↓kept_ite, implies_true, ↓kept_foldl, ite_self, ↓State.settleSess_kept, ↓State.sessEnd_kept]

@[simp] theorem State.finalSweep_kept (s : State) : s.finalSweep.kept = s.kept := by
  simp only [State.finalSweep, ↓State.onLegal_kept]

@[simp] theorem State.softStart_kept (s : State) (o trial) : (s.softStart o trial).kept = s.kept := by
  simp only [State.softStart, ↓kept_ite, ite_self, ↓State.leaveStep_kept, ↓State.endSessions_kept, ↓State.onBoot_kept]

@[simp] theorem State.softBoundary_kept (s : State) : s.softBoundary.kept = s.kept := by
  unfold State.softBoundary
  (repeat' split) <;> simp only [↓State.finalSweep_kept, ↓State.onBoot_kept, ↓State.drawn_kept, ↓State.ok_kept]

@[simp] theorem State.trialFails_kept (s : State) (j cause) : (s.trialFails j cause).kept = s.kept := by
  simp only [State.trialFails, ↓State.onBoot_kept, ↓State.softStart_kept, ↓State.updateState_kept]

@[simp] theorem execSelfCheck_kept (s : State) : outKept (execSelfCheck s) = some s.kept := by
  unfold execSelfCheck
  (repeat' split) <;> simp only [↓kept_ite, ↓outKept_next, ite_self, ↓State.onBoot_kept, ↓State.trialFails_kept, ↓State.updateState_kept]

@[simp] theorem execTrialTimeout_kept (s : State) : outKept (execTrialTimeout s) = some s.kept := by
  unfold execTrialTimeout
  (repeat' split) <;> simp only [↓outKept_next, ↓State.trialFails_kept]

@[simp] theorem State.beginWrite_kept (s : State) (o j img forward golden) : (s.beginWrite o j img forward golden).kept = s.kept := by
  simp only [State.beginWrite, ↓State.onBoot_kept]

@[simp] theorem State.bundleRxEvent_kept (s : State) (what code hash) : (s.bundleRxEvent what code hash).kept = s.kept := by
  simp only [State.bundleRxEvent, ↓State.raiseNow_kept]

@[simp] theorem State.bundleForward_kept (s : State) (j) : (s.bundleForward j).kept = s.kept := by
  simp only [State.bundleForward, ↓State.ringSend_kept, ↓State.onRing_kept]

@[simp] theorem State.bundleAck_kept (s : State) (offset) : (s.bundleAck offset).kept = s.kept := by
  unfold State.bundleAck
  (repeat' split) <;> simp only [↓State.ringSend_kept, ↓State.onRing_kept]

@[simp] theorem State.fuseRaises_kept (s : State) (o) : (s.fuseRaises o).kept = s.kept := by
  unfold State.fuseRaises
  (repeat' split) <;> simp only [↓kept_ite, implies_true, ↓kept_foldl, ite_self, ↓State.queueBurn_kept]

@[simp] theorem State.raiseAnswer_kept (s : State) (o ok) : (s.raiseAnswer o ok).kept = s.kept := by
  unfold State.raiseAnswer
  (repeat' split) <;> simp only [↓State.answer_kept]

@[simp] theorem execBundleWriteDone_kept (code) (s : State) : outKept (execBundleWriteDone code s) = some s.kept := by
  unfold execBundleWriteDone
  (repeat' split) <;> simp only [↓kept_ite, ↓outKept_next, ite_self, ↓State.onBoot_kept, ↓State.updateState_kept, ↓State.answer_kept,
    ↓State.onRing_kept, ↓State.ringSend_kept, ↓State.bundleRxEvent_kept, ↓State.fuseRaises_kept, ↓State.ok_kept, ↓State.bundleForward_kept]

@[simp] theorem State.bundleData_kept (s : State) (hash offset data) : (s.bundleData hash offset data).kept = s.kept := by
  unfold State.bundleData
  (repeat' split) <;> simp only [↓kept_ite, ite_self, ↓State.ringSend_kept, ↓State.bundleRxEvent_kept, ↓State.onRing_kept, ↓State.beginWrite_kept]

@[simp] theorem execRingBundleFrame_kept (p hash op offset data) (s : State) : outKept (execRingBundleFrame p hash op offset data s) = some s.kept := by
  simp only [execRingBundleFrame, ↓kept_ite, ↓outKept_next, ite_self, ↓State.ringHeard_kept, ↓State.bundleData_kept, ↓State.bundleAck_kept,
    ↓State.bundleRxEvent_kept, ↓State.onRing_kept]

@[simp] theorem State.forward_kept (t0 : State) (o opcode limit layout) : (t0.forward o opcode limit layout).kept = t0.kept := by
  simp only [State.forward, ↓State.onTwin_kept]

@[simp] theorem cardPos_kept {o : Origin} {op lim pos : Nat} {lay : List Nat} {ck : State → List Chk} {body : State → State} {s : State}
    (h : ∀ t, (body t).kept = t.kept) : (cardPos o op lim pos lay ck body s).kept = s.kept := by
  unfold cardPos
  apply cardLater_kept
  intro t
  split
  · simp only [State.leaveTo_kept]
  · split
    · simp only [State.forward_kept]
    · exact h t

@[simp] theorem cardSysReset_kept (o pos) (s : State) : (cardSysReset o pos s).kept = s.kept := by
  exact cardPos_kept fun t => by simp only [↓State.softStart_kept]

@[simp] theorem execSysReset_kept (o pos) (s : State) : outKept (execSysReset o pos s) = some s.kept := by
  simp only [execSysReset, ↓outKept_next, ↓cardSysReset_kept]

@[simp] theorem cardBootStatus_kept (o pos) (s : State) : (cardBootStatus o pos s).kept = s.kept := by
  exact cardPos_kept fun t => by simp only [↓State.ok_kept]

@[simp] theorem execBootStatus_kept (o pos) (s : State) : outKept (execBootStatus o pos s) = some s.kept := by
  simp only [execBootStatus, ↓outKept_next, ↓cardBootStatus_kept]

@[simp] theorem cardBootHost_kept (o transfer) (s : State) : (cardBootHost o transfer s).kept = s.kept := by
  simp only [cardBootHost, ↓kept_ite, implies_true, ite_self, ↓cardLater_kept, ↓State.answer_kept, ↓State.myavatStart_kept, ↓State.runBundle_kept,
    ↓State.ok_kept, ↓State.consumeXfer_kept]

@[simp] theorem execBootHost_kept (o transfer) (s : State) : outKept (execBootHost o transfer s) = some s.kept := by
  simp only [execBootHost, ↓outKept_next, ↓cardBootHost_kept]

@[simp] theorem cardBundleWrite_kept (o pos source flags transfer) (s : State) : (cardBundleWrite o pos source flags transfer s).kept = s.kept := by
  simp only [cardBundleWrite, ↓kept_ite, implies_true, ite_self, ↓cardPos_kept, ↓State.consumeXfer_kept, ↓State.answer_kept, ↓State.beginWrite_kept]

@[simp] theorem execBundleWrite_kept (o pos source flags transfer) (s : State) : outKept (execBundleWrite o pos source flags transfer s) = some s.kept := by
  simp only [execBundleWrite, ↓outKept_next, ↓cardBundleWrite_kept]

@[simp] theorem cardBundleGoldenCopy_kept (o pos flags transfer) (s : State) : (cardBundleGoldenCopy o pos flags transfer s).kept = s.kept := by
  refine cardPos_kept fun t => ?_
  (repeat' split) <;> simp only [↓kept_ite, ite_self, ↓State.answer_kept, ↓State.beginWrite_kept]

@[simp] theorem execBundleGoldenCopy_kept (o pos flags transfer) (s : State) : outKept (execBundleGoldenCopy o pos flags transfer s) = some s.kept := by
  simp only [execBundleGoldenCopy, ↓outKept_next, ↓cardBundleGoldenCopy_kept]

@[simp] theorem cardUpdateActivate_kept (o pos slot trialS) (s : State) : (cardUpdateActivate o pos slot trialS s).kept = s.kept := by
  exact cardLater_kept fun t => by simp only [↓kept_ite, ite_self, ↓State.leaveTo_kept, ↓State.forward_kept, ↓State.onBoot_kept,
    ↓State.softStart_kept, ↓State.updateState_kept]

@[simp] theorem execUpdateActivate_kept (o pos slot trialS) (s : State) : outKept (execUpdateActivate o pos slot trialS s) = some s.kept := by
  simp only [execUpdateActivate, ↓outKept_next, ↓cardUpdateActivate_kept]

@[simp] theorem cardUpdateConfirm_kept (o pos hash) (s : State) : (cardUpdateConfirm o pos hash s).kept = s.kept := by
  refine cardPos_kept fun t => ?_
  (repeat' split) <;> simp only [↓kept_ite, ite_self, ↓State.updateState_kept, ↓State.onBoot_kept, ↓State.fuseRaises_kept, ↓State.ok_kept]

@[simp] theorem execUpdateConfirm_kept (o pos hash) (s : State) : outKept (execUpdateConfirm o pos hash s) = some s.kept := by
  simp only [execUpdateConfirm, ↓outKept_next, ↓cardUpdateConfirm_kept]

@[simp] theorem cardUpdateSwap_kept (o apply) (s : State) : (cardUpdateSwap o apply s).kept = s.kept := by
  simp only [cardUpdateSwap, implies_true, ↓cardLater_kept, ↓State.onTwin_kept]

@[simp] theorem execUpdateSwap_kept (o apply) (s : State) : outKept (execUpdateSwap o apply s) = some s.kept := by
  simp only [execUpdateSwap, ↓outKept_next, ↓cardUpdateSwap_kept]

@[simp] theorem State.swapBoundary_kept (s : State) : s.swapBoundary.kept = s.kept := by
  unfold State.swapBoundary
  (repeat' split) <;> simp only [↓State.endSessions_kept]

@[simp] theorem execUpdateSwapApply_kept (answered items) (s : State) : outKept (execUpdateSwapApply answered items s) = some s.kept := by
  unfold execUpdateSwapApply
  (repeat' split) <;> simp only [↓kept_ite, implies_true, ↓kept_foldl, ↓outKept_next, ite_self, ↓State.onTwin_kept, ↓State.refuse_kept,
    ↓State.ok_kept, ↓State.finalSweep_kept, ↓State.raiseNow_kept, ↓State.lanesDown_kept, ↓State.takeServe_kept, ↓State.joinItem_kept]

/- Machine/Island.lean -/

@[simp] theorem State.onIsland_kept (s : State) (f) : (s.onIsland f).kept = s.kept := by
  simp only [State.onIsland, ↓kept_mk, kept_pending, kept_cells, kept_eta]

@[simp] theorem State.wakeBy_kept (s : State) (cause source) : (s.wakeBy cause source).kept = s.kept := by
  simp only [State.wakeBy, ↓kept_ite, ite_self, ↓State.onIsland_kept]

@[simp] theorem State.islandEvent_kept (s : State) (src kind data) : (s.islandEvent src kind data).kept = s.kept := by
  simp only [State.islandEvent, ↓kept_ite, ite_self, ↓State.raise_kept, ↓State.wakeBy_kept]

@[simp] theorem State.islandHealth_kept (s : State) : s.islandHealth.kept = s.kept := by
  simp only [State.islandHealth, ↓State.islandEvent_kept]

@[simp] theorem execIslandSupplySwitch_kept (toVbat) (s : State) : outKept (execIslandSupplySwitch toVbat s) = some s.kept := by
  simp only [execIslandSupplySwitch, ↓kept_mk, ↓kept_ite, ↓outKept_next, kept_pending, kept_cells, kept_eta, ite_self, ↓State.onIsland_kept]

@[simp] theorem execCrystalStop_kept (s : State) : outKept (execCrystalStop s) = some s.kept := by
  simp only [execCrystalStop, ↓kept_ite, ↓outKept_next, ite_self, ↓State.islandHealth_kept, ↓State.onIsland_kept]

@[simp] theorem execCrystalResume_kept (s : State) : outKept (execCrystalResume s) = some s.kept := by
  simp only [execCrystalResume, ↓kept_ite, ↓outKept_next, ite_self, ↓State.onIsland_kept]

@[simp] theorem execIslandBrownout_kept (s : State) : outKept (execIslandBrownout s) = some s.kept := by
  simp only [execIslandBrownout, ↓outKept_next, ↓State.onIsland_kept]

@[simp] theorem execIslandFreshStart_kept (s : State) : outKept (execIslandFreshStart s) = some s.kept := by
  simp only [execIslandFreshStart, ↓kept_mk, ↓kept_ite, ↓outKept_next, kept_pending, kept_cells, kept_eta, ite_self, ↓State.onFaults_kept,
    ↓State.onLegal_kept]

@[simp] theorem execVbatMeasure_kept (mv) (s : State) : outKept (execVbatMeasure mv s) = some s.kept := by
  simp only [execVbatMeasure, ↓kept_ite, ↓outKept_next, ite_self, ↓State.onIsland_kept, ↓State.islandHealth_kept]

@[simp] theorem execRtcSet_kept (s : State) : outKept (execRtcSet s) = some s.kept := by
  simp only [execRtcSet, ↓kept_ite, ↓outKept_next, ite_self, ↓State.onIsland_kept]

@[simp] theorem State.tamperEvent_kept (s : State) (i active) : (s.tamperEvent i active).kept = s.kept := by
  simp only [State.tamperEvent, ↓State.islandEvent_kept]

@[simp] theorem execTamperInput_kept (i sec) (s : State) : outKept (execTamperInput i sec s) = some s.kept := by
  simp only [execTamperInput, ↓kept_ite, ↓outKept_next, ite_self, ↓State.onIsland_kept, ↓State.tamper_kept, ↓State.tamperEvent_kept]

@[simp] theorem execTamperInputInactive_kept (i) (s : State) : outKept (execTamperInputInactive i s) = some s.kept := by
  simp only [execTamperInputInactive, ↓kept_ite, ↓outKept_next, ite_self, ↓State.tamperEvent_kept, ↓State.onIsland_kept]

@[simp] theorem execTheftSecond_kept (sec sums) (s : State) : outKept (execTheftSecond sec sums s) = some s.kept := by
  unfold execTheftSecond
  dsimp only
  (repeat' split) <;> simp only [↓outKept_next, ↓State.onIsland_kept, ↓State.islandEvent_kept]

@[simp] theorem execWakeNLow_kept (s : State) : outKept (execWakeNLow s) = some s.kept := by
  simp only [execWakeNLow, ↓kept_ite, ↓outKept_next, ite_self, ↓State.wakeBy_kept]

@[simp] theorem execRtcAlarm_kept (sec) (s : State) : outKept (execRtcAlarm sec s) = some s.kept := by
  simp only [execRtcAlarm, ↓kept_ite, ↓outKept_next, ite_self, ↓State.islandEvent_kept, ↓State.wakeBy_kept, ↓State.onIsland_kept]

@[simp] theorem execWakeSourceOccurrence_kept (src) (s : State) : outKept (execWakeSourceOccurrence src s) = some s.kept := by
  simp only [execWakeSourceOccurrence, ↓kept_ite, ↓outKept_next, ite_self, ↓State.wakeBy_kept]

@[simp] theorem execDevWakeWrite_kept (value) (s : State) : outKept (execDevWakeWrite value s) = some s.kept := by
  simp only [execDevWakeWrite, ↓kept_ite, ↓outKept_next, ite_self, ↓State.wakeBy_kept]

@[simp] theorem cardLowPower_kept (o code state flags wakeAt) (s : State) : (cardLowPower o code state flags wakeAt s).kept = s.kept := by
  simp only [cardLowPower, ↓kept_mk, implies_true, kept_pending, kept_cells, kept_eta, ↓cardLater_kept, ↓State.endSessions_kept, ↓State.onBoot_kept,
    ↓State.onIsland_kept]

@[simp] theorem execLowpowerEnterQuiet_kept (o state flags wakeAt) (s : State) : outKept (execLowpowerEnterQuiet o state flags wakeAt s) = some s.kept := by
  simp only [execLowpowerEnterQuiet, ↓outKept_next, ↓cardLowPower_kept]

@[simp] theorem execLowpowerEnterIsland_kept (o state flags wakeAt) (s : State) : outKept (execLowpowerEnterIsland o state flags wakeAt s) = some s.kept := by
  simp only [execLowpowerEnterIsland, ↓outKept_next, ↓cardLowPower_kept]

@[simp] theorem State.lowPowerBoundary_kept (s : State) : s.lowPowerBoundary.kept = s.kept := by
  unfold State.lowPowerBoundary
  (repeat' split) <;> simp only [↓kept_mk, kept_pending, kept_cells, kept_eta, ↓State.drawn_kept, ↓State.twinLinkDown_kept, ↓State.lanesDown_kept,
    ↓State.finalSweep_kept, ↓State.onBoot_kept, ↓State.onRing_kept, ↓State.ok_kept, ↓State.onIsland_kept]

@[simp] theorem cardIslandConfig_kept (o en minMa c0 c1 c2 c3) (s : State) : (cardIslandConfig o en minMa c0 c1 c2 c3 s).kept = s.kept := by
  exact card_kept fun t => by simp only [↓State.onIsland_kept]

@[simp] theorem execIslandConfig_kept (o en minMa c0 c1 c2 c3) (s : State) : outKept (execIslandConfig o en minMa c0 c1 c2 c3 s) = some s.kept := by
  simp only [execIslandConfig, ↓outKept_next, ↓cardIslandConfig_kept]

@[simp] theorem cardIslandStatus_kept (o) (s : State) : (cardIslandStatus o s).kept = s.kept := by
  exact card_kept fun t => by simp only [↓State.onIsland_kept, ↓State.drawn_kept]

@[simp] theorem execIslandStatus_kept (o) (s : State) : outKept (execIslandStatus o s) = some s.kept := by
  simp only [execIslandStatus, ↓outKept_next, ↓cardIslandStatus_kept]

/- Machine/Courts.lean -/

@[simp] theorem State.courtGo_kept (s : State) (c st) : (s.courtGo c st).kept = s.kept := by
  simp only [State.courtGo, ↓State.raiseNow_kept, ↓State.onCourt_kept]

@[simp] theorem State.setWindows_kept (s : State) (c words) : (s.setWindows c words).kept = s.kept := by
  simp only [State.setWindows, implies_true, ↓kept_foldl, ↓State.onRegion_kept]

@[simp] theorem cardCourtCreate_kept (o court sup region grant i0 o0 c0 i1 o1 c1 i2 o2 c2 i3 o3 c3) (s : State)
    : (cardCourtCreate o court sup region grant i0 o0 c0 i1 o1 c1 i2 o2 c2 i3 o3 c3 s).kept = s.kept := by
  refine cardLater_kept fun t => ?_
  (repeat' split) <;> simp only [↓State.arm_kept]

@[simp] theorem execCourtCreate_kept (o court sup region grant i0 o0 c0 i1 o1 c1 i2 o2 c2 i3 o3 c3) (s : State)
    : outKept (execCourtCreate o court sup region grant i0 o0 c0 i1 o1 c1 i2 o2 c2 i3 o3 c3 s) = some s.kept := by
  simp only [execCourtCreate, ↓outKept_next, ↓cardCourtCreate_kept]

@[simp] theorem cardCourtRestart_kept (o court) (s : State) : (cardCourtRestart o court s).kept = s.kept := by
  refine cardLater_kept fun t => ?_
  (repeat' split) <;> simp only [↓State.onCourt_kept]

@[simp] theorem execCourtRestart_kept (o court) (s : State) : outKept (execCourtRestart o court s) = some s.kept := by
  simp only [execCourtRestart, ↓outKept_next, ↓cardCourtRestart_kept]

@[simp] theorem cardCourtTeardown_kept (o court flags) (s : State) : (cardCourtTeardown o court flags s).kept = s.kept := by
  refine cardLater_kept fun t => ?_
  (repeat' split) <;> simp only [↓kept_ite, ite_self, ↓State.onCourt_kept, ↓State.queueBurn_kept]

@[simp] theorem execCourtTeardown_kept (o court flags) (s : State) : outKept (execCourtTeardown o court flags s) = some s.kept := by
  simp only [execCourtTeardown, ↓outKept_next, ↓cardCourtTeardown_kept]

@[simp] theorem State.bayRestart_kept (s : State) (b) : (s.bayRestart b).kept = s.kept := by
  simp only [State.bayRestart, ↓State.onBay_kept, ↓State.settleSess_kept, ↓State.sessEnd_kept]

@[simp] theorem State.courtBoundary_kept (s : State) : s.courtBoundary.kept = s.kept := by
  refine kept_foldl _ (fun t x => ?_) _ _
  (repeat' split) <;> simp only [implies_true, ↓kept_foldl, ↓State.courtGo_kept, ↓State.onCourt_kept, ↓State.bayRestart_kept]

@[simp] theorem State.reloadCells_kept (s : State) (c) : (s.reloadCells c).kept = s.kept := by
  simp only [State.reloadCells, ↓kept_mk, ↓kept_ite, implies_true, ↓kept_foldl, kept_pending, kept_cells, kept_eta, ite_self, ↓State.onBay_kept]

@[simp] theorem cardCourtStatus_kept (o court) (s : State) : (cardCourtStatus o court s).kept = s.kept := by
  simp only [cardCourtStatus, ↓courtReport_kept]

@[simp] theorem execCourtStatus_kept (o court) (s : State) : outKept (execCourtStatus o court s) = some s.kept := by
  simp only [execCourtStatus, ↓outKept_next, ↓cardCourtStatus_kept]

@[simp] theorem State.burnAnswer_kept (s : State) (f o ok) : (s.burnAnswer f o ok).kept = s.kept := by
  unfold State.burnAnswer
  (repeat' split) <;> simp only [↓State.safeFused_kept, ↓State.refuse_kept, ↓State.onCourt_kept, ↓State.raiseAnswer_kept, ↓State.ok_kept,
    ↓State.answer_kept]

@[simp] theorem execFuseBurnDone_kept (verified) (s : State) : outKept (execFuseBurnDone verified s) = some s.kept := by
  unfold execFuseBurnDone
  (repeat' split) <;> simp only [↓kept_mk, ↓outKept_next, kept_pending, kept_cells, kept_eta, ↓State.burnOne_kept, ↓State.drawn_kept,
    ↓State.burnAnswer_kept]

/- Machine/HostPort.lean -/

@[simp] theorem State.readDev_kept (s : State) (a) : (s.readDev a).1.kept = s.kept := by
  unfold State.readDev
  (repeat' split) <;> simp only [↓kept_mk, kept_pending, kept_cells, kept_eta]

@[simp] theorem State.readArch_kept (s : State) (a) : (s.readArch a).1.kept = s.kept := by
  unfold State.readArch
  (repeat' split) <;> simp only [↓State.onRegion_kept, ↓State.onFaults_kept]

@[simp] theorem State.readTime_kept (s : State) (a) : (s.readTime a).1.kept = s.kept := by
  unfold State.readTime
  (repeat' split) <;> simp only [↓kept_mk, kept_pending, kept_cells, kept_eta]

@[simp] theorem State.readMbx_kept (s : State) (c m a) : (s.readMbx c m a).1.kept = s.kept := by
  unfold State.readMbx
  (repeat' split) <;> simp only [↓State.onMbx_kept]

@[simp] theorem State.readPage_kept (s : State) (c a) : (s.readPage c a).1.kept = s.kept := by
  unfold State.readPage
  (repeat' split) <;> simp only [↓State.readMbx_kept]

@[simp] theorem State.regRead_kept (s : State) (a) : (s.regRead a).1.kept = s.kept := by
  unfold State.regRead
  (repeat' split) <;> simp only [↓State.readDev_kept, ↓State.readArch_kept, ↓State.readTime_kept, ↓State.readPage_kept]

@[simp] theorem State.writeDev_kept (s : State) (a v) : (s.writeDev a v).kept = s.kept := by
  simp only [State.writeDev, ↓kept_mk, ↓kept_ite, kept_pending, kept_cells, kept_eta, ite_self, ↓State.wakeBy_kept]

@[simp] theorem State.writeArch_kept (s : State) (a v) : (s.writeArch a v).kept = s.kept := by
  unfold State.writeArch
  (repeat' split) <;> simp only [↓State.onRegion_kept]

@[simp] theorem State.writeTime_kept (s : State) (a v) : (s.writeTime a v).kept = s.kept := by
  simp only [State.writeTime, ↓kept_mk, ↓kept_ite, kept_pending, kept_cells, kept_eta, ite_self]

@[simp] theorem State.writeEvt_kept (s : State) (a v) : (s.writeEvt a v).kept = s.kept := by
  unfold State.writeEvt
  (repeat' split) <;> simp only [↓kept_mk, kept_pending, kept_cells, kept_eta, ↓State.settleLine_kept, ↓State.evtAck_kept, ↓State.wakeWrite_kept]

@[simp] theorem State.writeCfg_kept (s : State) (m v) : (s.writeCfg m v).kept = s.kept := by
  simp only [State.writeCfg, ↓kept_ite, ite_self, ↓State.closeMbx_kept, ↓State.onMbx_kept]

@[simp] theorem State.writeMbx_kept (s : State) (c m a v) : (s.writeMbx c m a v).kept = s.kept := by
  simp only [State.writeMbx, ↓kept_ite, ite_self, ↓State.onMbx_kept, ↓State.writeCfg_kept, ↓ringBell_kept]

@[simp] theorem State.writeMsix_kept (s : State) (a v) : (s.writeMsix a v).kept = s.kept := by
  simp only [State.writeMsix, ↓kept_mk, ↓kept_ite, kept_pending, kept_cells, kept_eta, ite_self]

@[simp] theorem State.regWrite_kept (s : State) (a v) : (s.regWrite a v).kept = s.kept := by
  unfold State.regWrite
  (repeat' split) <;> simp only [↓State.writeDev_kept, ↓State.writeArch_kept, ↓State.writeTime_kept, ↓State.writeEvt_kept, ↓State.writeMbx_kept,
    ↓State.writeMsix_kept]

@[simp] theorem execRegisterWrite_kept (offset value) (s : State) : outKept (execRegisterWrite offset value s) = some s.kept := by
  simp only [execRegisterWrite, ↓kept_ite, ↓outKept_next, ite_self, ↓State.regWrite_kept]

@[simp] theorem execReadClear_kept (offset) (s : State) : outKept (execReadClear offset s) = some s.kept := by
  simp only [execReadClear, ↓kept_mk, ↓kept_ite, ↓outKept_next, kept_pending, kept_cells, kept_eta, ite_self, ↓State.regRead_kept]

@[simp] theorem execHostReadFail_kept (bit served c) (s : State) : outKept (execHostReadFail bit served c s) = some s.kept := by
  simp only [execHostReadFail, ↓kept_mk, ↓kept_ite, ↓outKept_next, kept_pending, kept_cells, kept_eta, ite_self, ↓State.raiseNow_kept]

@[simp] theorem cardRegRead_kept (o offset) (s : State) : (cardRegRead o offset s).kept = s.kept := by
  exact card_kept fun t => by simp only [↓State.regRead_kept]

@[simp] theorem execRegRead_kept (o offset) (s : State) : outKept (execRegRead o offset s) = some s.kept := by
  simp only [execRegRead, ↓outKept_next, ↓cardRegRead_kept]

@[simp] theorem cardRegWrite_kept (o offset value) (s : State) : (cardRegWrite o offset value s).kept = s.kept := by
  exact card_kept fun t => by simp only [↓State.regWrite_kept]

@[simp] theorem execRegWrite_kept (o offset value) (s : State) : outKept (execRegWrite o offset value s) = some s.kept := by
  simp only [execRegWrite, ↓outKept_next, ↓cardRegWrite_kept]

/- Machine/BayTable.lean -/

@[simp] theorem State.reloadRefuse_kept (s : State) (o n st dt bay) : (s.reloadRefuse o n st dt bay).kept = s.kept := by
  simp only [State.reloadRefuse, ↓State.answer_kept]

@[simp] theorem cardBayReload_kept (o bays reads) (s : State) : (cardBayReload o bays reads s).kept = s.kept := by
  unfold cardBayReload
  dsimp only
  (repeat' split) <;> simp only [↓State.take_kept, ↓State.reloadRefuse_kept, ↓State.arm_kept]

@[simp] theorem execBayReload_kept (o bays reads) (s : State) : outKept (execBayReload o bays reads s) = some s.kept := by
  simp only [execBayReload, ↓outKept_next, ↓cardBayReload_kept]

@[simp] theorem State.reloadEnds_kept (s : State) (b e) : (s.reloadEnds b e).kept = s.kept := by
  simp only [State.reloadEnds, ↓kept_ite, ite_self, ↓State.slacEnd_kept, ↓State.sessEnd_kept, ↓State.onBay_kept]

@[simp] theorem State.applyEntry_kept (s : State) (b e moved) : (s.applyEntry b e moved).kept = s.kept := by
  simp only [State.applyEntry, ↓kept_ite, ite_self, ↓State.dispReload_kept, ↓State.onBay_kept, ↓State.reloadEnds_kept, ↓State.clearTrips_kept,
    ↓State.linkReload_kept]

@[simp] theorem State.applyReload_kept (s : State) (entries moved) : (s.applyReload entries moved).kept = s.kept := by
  unfold State.applyReload
  simp only [↓kept_atBay, implies_true, ↓kept_foldl, ↓State.applyEntry_kept]

@[simp] theorem cardBayTableBase_kept (o base) (s : State) : (cardBayTableBase o base s).kept = s.kept := by
  exact card_kept fun t => by simp only [↓kept_mk, kept_pending, kept_cells, kept_eta]

@[simp] theorem execBayTableBase_kept (o base) (s : State) : outKept (execBayTableBase o base s) = some s.kept := by
  simp only [execBayTableBase, ↓outKept_next, ↓cardBayTableBase_kept]

@[simp] theorem cardBayStatus_kept (o bay) (s : State) : (cardBayStatus o bay s).kept = s.kept := by
  exact card_kept fun _ => rfl

@[simp] theorem execBayStatus_kept (o bay) (s : State) : outKept (execBayStatus o bay s) = some s.kept := by
  simp only [execBayStatus, ↓outKept_next, ↓cardBayStatus_kept]

/- Machine/Fabric.lean -/

@[simp] theorem State.respond_kept (s : State) (op ws) : (s.respond op ws).kept = s.kept := by
  simp only [State.respond, ↓kept_mk, kept_pending, kept_cells, kept_eta]

@[simp] theorem State.fwRefuse_kept (s : State) (t0) : (s.fwRefuse t0).kept = s.kept := by
  simp only [State.fwRefuse, ↓kept_ite, ite_self, ↓State.onRegion_kept, ↓State.raiseNow_kept, ↓State.respond_kept]

@[simp] theorem State.nextFlow_kept (s : State) (t0) : (s.nextFlow t0).kept = s.kept := by
  simp only [State.nextFlow, ↓kept_mk, kept_pending, kept_cells, kept_eta]

@[simp] theorem State.correctedCell_kept (s : State) (id word) : (s.correctedCell id word).kept = s.kept := by
  unfold State.correctedCell
  (repeat' split) <;> simp only [↓State.onCell_kept]

@[simp] theorem State.storeBad_kept (s : State) (id word) : (s.storeBad id word).kept = s.kept := by
  simp only [State.storeBad, ↓kept_ite, ite_self, ↓State.sbFail_kept, ↓State.safeUnit_kept, ↓State.mirrorFault_kept]

@[simp] theorem execScrub_kept (id word f) (s : State) : outKept (execScrub id word f s) = some s.kept := by
  unfold execScrub
  (repeat' split) <;> simp only [↓kept_ite, ↓outKept_next, ite_self, ↓State.correctedCell_kept, ↓State.countCorrected_kept, ↓State.onSafety_kept,
    ↓State.countUncorrected_kept, ↓State.storeBad_kept, ↓State.sbNote_kept]

/- Machine/Attest.lean -/

@[simp] theorem cardAttest_kept (o nonceLen nonce) (s : State) : (cardAttest o nonceLen nonce s).kept = s.kept := by
  exact cardBulk_kept fun t => by simp only [↓State.drbg_kept]

@[simp] theorem execAttest_kept (o nonceLen nonce) (s : State) : outKept (execAttest o nonceLen nonce s) = some s.kept := by
  simp only [execAttest, ↓outKept_next, ↓cardAttest_kept]

/- Machine/Time.lean -/

@[simp] theorem State.onClock_kept (s : State) (f) : (s.onClock f).kept = s.kept := by
  simp only [State.onClock, ↓kept_mk, kept_pending, kept_cells, kept_eta]

@[simp] theorem State.timeGo_kept (s : State) (st source) : (s.timeGo st source).kept = s.kept := by
  simp only [State.timeGo, ↓kept_ite, ite_self, ↓State.onClock_kept, ↓State.raiseNow_kept]

@[simp] theorem State.offsetMoved_kept (s : State) (old) : (s.offsetMoved old).kept = s.kept := by
  simp only [State.offsetMoved, ↓State.legalShift_kept]

@[simp] theorem State.stepTime_kept (s : State) (epoch bySet) : (s.stepTime epoch bySet).kept = s.kept := by
  simp only [State.stepTime, ↓State.onClock_kept, ↓State.legalShift_kept, ↓State.raiseNow_kept]

@[simp] theorem State.ptpSync_kept (s : State) (m) : (s.ptpSync m).kept = s.kept := by
  simp only [State.ptpSync, ↓kept_ite, ite_self, ↓State.onClock_kept, ↓State.drawn_kept, ↓State.offsetMoved_kept, ↓State.timeGo_kept]

@[simp] theorem State.timeInput_kept (s : State) (epoch isSet freq off utc) : (s.timeInput epoch isSet freq off utc).kept = s.kept := by
  simp only [State.timeInput, ↓kept_ite, ite_self, ↓State.onClock_kept, ↓State.offsetMoved_kept, ↓State.stepTime_kept]

@[simp] theorem State.ptpSyncMirrored_kept (s : State) (m) : (s.ptpSyncMirrored m).kept = s.kept := by
  simp only [State.ptpSyncMirrored, ↓kept_ite, ite_self, ↓State.onClock_kept, ↓State.drawn_kept, ↓State.timeGo_kept, ↓State.postMirror_kept]

@[simp] theorem execPtpSync_kept (m) (s : State) : outKept (execPtpSync m s) = some s.kept := by
  simp only [execPtpSync, ↓kept_ite, ↓outKept_next, ite_self, ↓State.ptpSyncMirrored_kept, ↓State.ptpSync_kept]

@[simp] theorem execPtpDelayResp_kept (origin arrival departure receipt) (s : State)
    : outKept (execPtpDelayResp origin arrival departure receipt s) = some s.kept := by
  simp only [execPtpDelayResp, ↓kept_ite, ↓outKept_next, ite_self, ↓State.onClock_kept]

@[simp] theorem execSiteTimeStep_kept (s : State) : outKept (execSiteTimeStep s) = some s.kept := by
  simp only [execSiteTimeStep, ↓kept_ite, ↓outKept_next, ite_self, ↓State.postMirror_kept, ↓State.onClock_kept, ↓State.stepTime_kept]

@[simp] theorem execTimeLocked_kept (s : State) : outKept (execTimeLocked s) = some s.kept := by
  simp only [execTimeLocked, ↓kept_ite, ↓outKept_next, ite_self, ↓State.timeGo_kept]

@[simp] theorem execSyncTimeout_kept (s : State) : outKept (execSyncTimeout s) = some s.kept := by
  simp only [execSyncTimeout, ↓kept_ite, ↓outKept_next, ite_self, ↓State.timeGo_kept, ↓State.onClock_kept]

@[simp] theorem cardTimeConfig_kept (o source domain transport step) (s : State) : (cardTimeConfig o source domain transport step s).kept = s.kept := by
  exact cardLater_kept fun t => by simp only [↓State.arm_kept]

@[simp] theorem execTimeConfig_kept (o source domain transport step) (s : State) : outKept (execTimeConfig o source domain transport step s) = some s.kept
    := by
  simp only [execTimeConfig, ↓outKept_next, ↓cardTimeConfig_kept]

@[simp] theorem State.timeByConfig_kept (s : State) : s.timeByConfig.kept = s.kept := by
  simp only [State.timeByConfig, ↓State.onClock_kept, ↓State.timeGo_kept]

@[simp] theorem State.applyTime_kept (s : State) (cfg) : (s.applyTime cfg).kept = s.kept := by
  simp only [State.applyTime, ↓kept_ite, ite_self, ↓State.onClock_kept, ↓State.offsetMoved_kept, ↓State.timeByConfig_kept]

@[simp] theorem cardTimeSet_kept (o siteNs apply) (s : State) : (cardTimeSet o siteNs apply s).kept = s.kept := by
  simp only [cardTimeSet, implies_true, ↓cardLater_kept, ↓State.onClock_kept]

@[simp] theorem execTimeSet_kept (o siteNs apply) (s : State) : outKept (execTimeSet o siteNs apply s) = some s.kept := by
  simp only [execTimeSet, ↓outKept_next, ↓cardTimeSet_kept]

@[simp] theorem execTimeSetApply_kept (s : State) : outKept (execTimeSetApply s) = some s.kept := by
  unfold execTimeSetApply
  (repeat' split) <;> simp only [↓outKept_next, ↓State.onClock_kept, ↓State.stepTime_kept, ↓State.ok_kept]

@[simp] theorem State.timeBoundary_kept (s : State) : s.timeBoundary.kept = s.kept := by
  unfold State.timeBoundary
  (repeat' split) <;> simp only [↓kept_ite, ite_self, ↓State.onClock_kept, ↓State.timeGo_kept, ↓State.timeByConfig_kept]

/- Machine/Requests.lean -/

@[simp] theorem withFields_kept {o : Origin} {ws rs : List Nat} {p : List Byte} {f : Origin → List Nat → State → State} {s : State}
    (h : ∀ o fs t, (f o fs t).kept = t.kept) : (withFields o ws rs p f s).kept = s.kept := h _ _ _

@[simp] theorem withTail_kept {o : Origin} {ws rs : List Nat} {tl : List Nat → Nat} {p : List Byte} {f : Origin → List Nat → List Byte → State → State}
    {s : State} (h : ∀ o fs x t, (f o fs x t).kept = t.kept) : (withTail o ws rs tl p f s).kept = s.kept := h _ _ _ _

@[simp] theorem State.badOpcode_kept (s : State) (o op) : (s.badOpcode o op).kept = s.kept := by
  simp only [State.badOpcode, ↓kept_ite, ite_self, ↓State.answer_kept, ↓State.take_kept]

@[simp] theorem cardBadOp_kept (o : Origin) (op : Nat) (lay cs : List Nat) (p : Nat) (s : State) : (cardBadOp o op lay cs p s).kept = s.kept :=
  cardLater_kept (fun _ => rfl)

@[simp] theorem requestGroup01_kept (o op p) (s : State) : (requestGroup01 o op p s).kept = s.kept := by
  simp only [requestGroup01, ↓kept_ite, implies_true, ite_self, ↓withFields_kept, ↓cardRegRead_kept, ↓cardRegWrite_kept, ↓cardTimeConfig_kept,
    ↓cardTimeSet_kept, ↓cardMemHealth_kept, ↓cardLowPower_kept, ↓cardIslandStatus_kept, ↓cardIslandConfig_kept, ↓State.badOpcode_kept]

@[simp] theorem requestGroup02_kept (o op p) (s : State) : (requestGroup02 o op p s).kept = s.kept := by
  simp only [requestGroup02, ↓kept_ite, implies_true, ite_self, ↓cardMbxEcho_kept, ↓withFields_kept, ↓cardCourtCreate_kept, ↓cardCourtRestart_kept,
    ↓cardCourtTeardown_kept, ↓cardCourtStatus_kept, ↓cardMbxPlace_kept, ↓cardEvtMask_kept, ↓State.badOpcode_kept]

@[simp] theorem requestGroup03_kept (o op p reads) (s : State) : (requestGroup03 o op p reads s).kept = s.kept := by
  simp only [requestGroup03, ↓kept_ite, implies_true, ite_self, ↓withFields_kept, ↓cardBayTableBase_kept, ↓cardBayReload_kept, ↓cardBayStatus_kept,
    ↓cardLinkStatus_kept, ↓cardLinkRetrain_kept, ↓cardHeadFwLoad_kept, ↓State.badOpcode_kept]

@[simp] theorem requestGroup04_kept (o op p) (s : State) : (requestGroup04 o op p s).kept = s.kept := by
  simp only [requestGroup04, ↓kept_ite, implies_true, ite_self, ↓withFields_kept, ↓cardPilotStatus_kept, ↓cardPilotUnavailable_kept,
    ↓cardPlcStatus_kept, ↓cardSlacMatrix_kept, ↓cardSlacAssign_kept, ↓State.badOpcode_kept]

@[simp] theorem requestGroup05_kept (o op p) (s : State) : (requestGroup05 o op p s).kept = s.kept := by
  simp only [requestGroup05, ↓kept_ite, implies_true, ite_self, ↓withFields_kept, ↓cardSessionStatus_kept, ↓cardSessionAuth_kept,
    ↓cardSessionStop_kept, ↓cardSessionLimit_kept, ↓cardCertLoad_kept, ↓cardCertResponse_kept, ↓State.badOpcode_kept]

@[simp] theorem requestGroup06_kept (o op p) (s : State) : (requestGroup06 o op p s).kept = s.kept := by
  simp only [requestGroup06, ↓kept_ite, implies_true, ite_self, ↓withFields_kept, ↓cardIdentStatus_kept, ↓withTail_kept, ↓cardCardApdu_kept,
    ↓cardCardRelease_kept, ↓cardTagList_kept, ↓cardTagRead_kept, ↓cardTagWrite_kept, ↓State.badOpcode_kept]

@[simp] theorem requestGroup07_kept (o op p) (s : State) : (requestGroup07 o op p s).kept = s.kept := by
  simp only [requestGroup07, ↓kept_ite, implies_true, ite_self, ↓withFields_kept, ↓cardModStatus_kept, ↓cardModPulse_kept, ↓cardLoopStatus_kept,
    ↓cardLoopTune_kept, ↓State.badOpcode_kept]

@[simp] theorem requestGroup08_kept (o op p) (s : State) : (requestGroup08 o op p s).kept = s.kept := by
  simp only [requestGroup08, ↓kept_ite, implies_true, ite_self, ↓withFields_kept, ↓cardChanStatus_kept, ↓cardChanSet_kept, ↓cardChanReset_kept,
    ↓State.badOpcode_kept]

@[simp] theorem requestGroup09_kept (o op p) (s : State) : (requestGroup09 o op p s).kept = s.kept := by
  simp only [requestGroup09, ↓kept_ite, implies_true, ite_self, ↓withFields_kept, ↓cardEarthStatus_kept, ↓cardEarthReset_kept, ↓cardEarthTest_kept,
    ↓State.badOpcode_kept]

@[simp] theorem requestGroup0A_kept (o op p) (s : State) : (requestGroup0A o op p s).kept = s.kept := by
  simp only [requestGroup0A, ↓kept_ite, implies_true, ite_self, ↓withFields_kept, ↓cardMeterStatus_kept, ↓cardMeterRead_kept,
    ↓cardMeterHarmonics_kept, ↓cardCalLoad_kept, ↓cardPulseMap_kept, ↓cardS0Config_kept, ↓cardS0Read_kept, ↓State.badOpcode_kept]

@[simp] theorem requestGroup0B_kept (o op p) (s : State) : (requestGroup0B o op p s).kept = s.kept := by
  simp only [requestGroup0B, ↓kept_ite, implies_true, ite_self, ↓withFields_kept, ↓cardLegalRead_kept, ↓cardLegalSign_kept, ↓cardTamperRead_kept,
    ↓cardLogRead_kept, ↓cardLegalStatus_kept, ↓cardCalendarLoadActive_kept, ↓cardCalendarLoadPassive_kept, ↓cardBadOp_kept, ↓cardLegalConfig_kept,
    ↓cardLegalCheckpoint_kept, ↓cardLegalRestore_kept, ↓State.badOpcode_kept, withFields_kept, ite_apply]

@[simp] theorem requestGroup0C_kept (o op p) (s : State) : (requestGroup0C o op p s).kept = s.kept := by
  simp only [requestGroup0C, ↓kept_ite, implies_true, ite_self, ↓withFields_kept, ↓cardDispShow_kept, ↓cardDispStatus_kept, ↓cardDispStressRead_kept,
    ↓cardDispStressLoad_kept, ↓State.badOpcode_kept]

@[simp] theorem requestGroup0D_kept (o op p) (s : State) : (requestGroup0D o op p s).kept = s.kept := by
  simp only [requestGroup0D, ↓kept_ite, implies_true, ite_self, ↓withFields_kept, ↓cardLedgerConfig_kept, ↓cardLedgerStatus_kept,
    ↓cardLedgerBay_kept, ↓cardSiteBase_kept, ↓cardLedgerStore_kept, ↓cardLedgerGrid_kept, ↓State.badOpcode_kept]

@[simp] theorem requestGroup0E_kept (o op p) (s : State) : (requestGroup0E o op p s).kept = s.kept := by
  simp only [requestGroup0E, ↓kept_ite, implies_true, ite_self, ↓withFields_kept, ↓cardSafetyStatus_kept, ↓cardEncRead_kept,
    ↓cardSafetyConfigLoad_kept, ↓cardSafetyLogRead_kept, ↓cardSafeConnStatus_kept, ↓cardSafetyCommission_kept, ↓State.badOpcode_kept]

@[simp] theorem requestGroup0F_kept (o op p) (s : State) : (requestGroup0F o op p s).kept = s.kept := by
  simp only [requestGroup0F, ↓kept_ite, implies_true, ite_self, ↓withFields_kept, ↓cardFuseRead_kept, ↓cardFuseBurn_kept, ↓withTail_kept,
    ↓cardDebugChallenge_kept, ↓cardDebugUnlock_kept, ↓cardBadOp_kept, ↓cardSiteRootGenerate_kept, ↓cardSiteRootLoad_kept, ↓cardSiteRootExport_kept,
    ↓cardKeyPurposeGen_kept, ↓cardKeyCreate_kept, ↓cardKeySign_kept, ↓cardKeyEcdh_kept, ↓cardKeyAeadSeal_kept, ↓cardKeyAeadOpen_kept,
    ↓cardRngRead_kept, ↓cardAttest_kept, ↓State.badOpcode_kept, withTail_kept, withFields_kept, ite_apply]

@[simp] theorem requestGroup10_kept (o op p) (s : State) : (requestGroup10 o op p s).kept = s.kept := by
  simp only [requestGroup10, ↓kept_ite, implies_true, ite_self, ↓withFields_kept, ↓cardFaultStatus_kept, ↓cardCellStatus_kept,
    ↓cardScorebookRead_kept, ↓cardScorebookRelease_kept, ↓State.drawn_kept, ↓cardFaultInject_kept, ↓State.badOpcode_kept]

@[simp] theorem requestGroup11_kept (o op p) (s : State) : (requestGroup11 o op p s).kept = s.kept := by
  unfold requestGroup11
  repeat' (first | with_reducible rfl | with_reducible refine withFields_kept fun o fs t => ?_ | (simp only [↓kept_ite, implies_true, ite_self, ↓withFields_kept, ↓cardTwinStatus_kept, ↓cardTwinJoin_kept, ↓cardTwinHandover_kept, ↓cardTwinTake_kept, ↓cardTwinLeave_kept, ↓cardBadOp_kept, ↓cardRingConfig_kept, ↓cardRingStatus_kept, ↓State.badOpcode_kept]; done) | split)

@[simp] theorem requestGroup12_kept (o op p) (s : State) : (requestGroup12 o op p s).kept = s.kept := by
  unfold requestGroup12
  repeat' (first | with_reducible rfl | with_reducible refine withFields_kept fun o fs t => ?_ | (simp only [↓kept_ite, implies_true, ite_self, ↓withFields_kept, ↓cardSysReset_kept, ↓cardBootStatus_kept, ↓cardBootHost_kept, ↓cardBundleGoldenCopy_kept, ↓cardBundleWrite_kept, ↓cardUpdateActivate_kept, ↓cardUpdateConfirm_kept, ↓cardUpdateSwap_kept, ↓State.badOpcode_kept]; done) | split)

@[simp] theorem runRequest_kept (o op p reads) (s : State) : (runRequest o op p reads s).kept = s.kept := by
  simp only [runRequest, ↓kept_ite, ite_self, ↓requestGroup01_kept, ↓requestGroup02_kept, ↓requestGroup03_kept, ↓requestGroup04_kept,
    ↓requestGroup05_kept, ↓requestGroup06_kept, ↓requestGroup07_kept, ↓requestGroup08_kept, ↓requestGroup09_kept, ↓requestGroup0A_kept,
    ↓requestGroup0B_kept, ↓requestGroup0C_kept, ↓requestGroup0D_kept, ↓requestGroup0E_kept, ↓requestGroup0F_kept, ↓requestGroup10_kept,
    ↓requestGroup11_kept, ↓requestGroup12_kept, ↓State.badOpcode_kept]

@[simp] theorem requestBulk_kept (o p first last) (s : State) : (requestBulk o p first last s).kept = s.kept := by
  simp only [requestBulk, ↓bulkPut_kept]

@[simp] theorem State.handleRequest_kept (s : State) (c m b late reads) : (s.handleRequest c m b late reads).kept = s.kept := by
  simp only [State.handleRequest, ↓kept_ite, ite_self, ↓requestBulk_kept, ↓State.badOpcode_kept, ↓runRequest_kept]

@[simp] theorem State.sequenced_kept (s : State) (c m b late reads) : (s.sequenced c m b late reads).kept = s.kept := by
  unfold State.sequenced
  dsimp only
  (repeat' split) <;> simp only [↓State.postMirror_kept, ↓State.handleRequest_kept, ↓State.post_kept]

@[simp] theorem State.fetched_kept (s : State) (c m) : (s.fetched c m).kept = s.kept := by
  simp only [State.fetched, ↓kept_mk, kept_pending, kept_cells, kept_eta, ↓State.onMbx_kept]

@[simp] theorem State.badTrailer_kept (s : State) (c m) : (s.badTrailer c m).kept = s.kept := by
  simp only [State.badTrailer, ↓State.raiseNow_kept, ↓State.onMbx_kept]

@[simp] theorem execMbxRequest_kept (c m bytes late reads) (s : State) : outKept (execMbxRequest c m bytes late reads s) = some s.kept := by
  simp only [execMbxRequest, ↓kept_ite, ↓outKept_next, ite_self, ↓State.fetched_kept, ↓State.badTrailer_kept, ↓State.sequenced_kept]

/- Machine/TwinLate.lean -/

@[simp] theorem State.loadVerdict_kept (s : State) (st dt) : (s.loadVerdict st dt).kept = s.kept := by
  unfold State.loadVerdict
  (repeat' split) <;> simp only [↓kept_mk, kept_pending, kept_cells, kept_eta, ↓State.refuse_kept]

@[simp] theorem State.mirrorRequest_kept (s : State) (t0 c m b reads) : (s.mirrorRequest t0 c m b reads).kept = s.kept := by
  simp only [State.mirrorRequest, ↓kept_ite, ite_self, ↓State.onTwin_kept, ↓State.onMbx_kept, ↓State.handleRequest_kept, ↓State.postMirror_kept]

@[simp] theorem State.mirrorRun_kept (s : State) (x) : (s.mirrorRun x).kept = s.kept := by
  unfold State.mirrorRun
  (repeat' split) <;> simp only [↓kept_mk, kept_pending, kept_cells, kept_eta, ↓State.mirrorRequest_kept, ↓State.timeInput_kept, ↓State.dispGot_kept,
    ↓State.loadVerdict_kept]

@[simp] theorem State.loadAlone_kept (s : State) : s.loadAlone.kept = s.kept := by
  unfold State.loadAlone
  (repeat' split) <;> simp only [↓State.loadVerdict_kept]

@[simp] theorem State.mirrorBoundary_kept (s : State) : s.mirrorBoundary.kept = s.kept := by
  simp only [State.mirrorBoundary, implies_true, ↓kept_foldl, ↓State.onTwin_kept, ↓State.loadAlone_kept, ↓State.mirrorRun_kept]

@[simp] theorem execMirrorMessage_kept (seq tick input) (s : State) : outKept (execMirrorMessage seq tick input s) = some s.kept := by
  simp only [execMirrorMessage, ↓kept_ite, ↓outKept_next, ite_self, ↓State.onTwin_kept]

@[simp] theorem execMirrorAckTimeout_kept (s : State) : outKept (execMirrorAckTimeout s) = some s.kept := by
  simp only [execMirrorAckTimeout, ↓kept_ite, ↓outKept_next, ite_self, ↓State.leaveStep_kept]

@[simp] theorem State.blockNoted_kept (s : State) (t0 acks) : (s.blockNoted t0 acks).kept = s.kept := by
  simp only [State.blockNoted, ↓State.onTwin_kept]

@[simp] theorem State.leftBy_kept (s : State) (t0) : (s.leftBy t0).kept = s.kept := by
  simp only [State.leftBy, ↓State.drawn_kept, ↓State.leaveStep_kept]

@[simp] theorem State.serverBlock_kept (s : State) (t0) : (s.serverBlock t0).kept = s.kept := by
  simp only [State.serverBlock, ↓kept_ite, ite_self, ↓State.onTwin_kept, ↓State.joined_kept, ↓State.postMirror_kept, ↓State.leftBy_kept]

@[simp] theorem State.chipInputs_kept (s : State) (was now) : (s.chipInputs was now).kept = s.kept := by
  simp only [State.chipInputs, ↓kept_ite, implies_true, ↓kept_foldl, ite_self, ↓State.tamper_kept]

@[simp] theorem State.mismatch_kept (s : State) (r) : (s.mismatch r).kept = s.kept := by
  simp only [State.mismatch, ↓kept_ite, ite_self, ↓State.raiseNow_kept, ↓State.onTwin_kept, ↓State.leaveStep_kept]

@[simp] theorem State.returnerBlock_kept (s : State) (t0 wasIn) : (s.returnerBlock t0 wasIn).kept = s.kept := by
  simp only [State.returnerBlock, ↓kept_ite, implies_true, ↓kept_foldl, ite_self, ↓State.joinStart_kept, ↓State.leftBy_kept, ↓State.chipInputs_kept,
    ↓State.mismatch_kept, ↓State.joined_kept]

@[simp] theorem execTickControlBlock_kept (t0 acks) (s : State) : outKept (execTickControlBlock t0 acks s) = some s.kept := by
  simp only [execTickControlBlock, ↓kept_ite, ↓outKept_next, ite_self, ↓State.blockNoted_kept, ↓State.settleRoles_kept, ↓State.serverBlock_kept,
    ↓State.returnerBlock_kept]

@[simp] theorem execTwinForwardedCommand_kept (opcode payload bulk) (s : State) : outKept (execTwinForwardedCommand opcode payload bulk s) = some s.kept := by
  unfold execTwinForwardedCommand
  (repeat' split) <;> simp only [↓outKept_next, ↓State.onCourt_kept, ↓State.onTwin_kept, ↓runRequest_kept]

@[simp] theorem execTwinForwardResult_kept (opcode st dt vals) (s : State) : outKept (execTwinForwardResult opcode st dt vals s) = some s.kept := by
  unfold execTwinForwardResult
  (repeat' split) <;> simp only [↓outKept_next, ↓State.postMirror_kept, ↓State.answer_kept, ↓State.onTwin_kept]

@[simp] theorem execTwinForwardTimeout_kept (s : State) : outKept (execTwinForwardTimeout s) = some s.kept := by
  unfold execTwinForwardTimeout
  (repeat' split) <;> simp only [↓outKept_next, ↓State.refuse_kept, ↓State.onTwin_kept]

/- Machine/Tick.lean -/

@[simp] theorem State.twinIntake_kept (s : State) (b) : (s.twinIntake b).kept = s.kept := by
  unfold State.twinIntake
  (repeat' split) <;> simp only [↓State.onBay_kept, ↓State.onLink_kept, ↓State.onTwin_kept]

@[simp] theorem State.intakeBay_kept (s : State) (b) : (s.intakeBay b).kept = s.kept := by
  simp only [State.intakeBay, ↓kept_ite, ite_self, ↓State.twinIntake_kept, ↓State.onLink_kept, ↓State.dispPublish_kept, ↓State.publishBay_kept]

@[simp] theorem execIntakePublish_kept (s : State) : outKept (execIntakePublish s) = some s.kept := by
  simp only [execIntakePublish, ↓kept_ite, implies_true, ↓kept_foldl, ↓outKept_next, ite_self, ↓State.intakeBay_kept]

@[simp] theorem State.bayWork_kept (s : State) (b off line) : (s.bayWork b off line).kept = s.kept := by
  unfold State.bayWork
  (repeat' split) <;> simp only [↓State.plcTickA_kept, ↓State.plcTickB_kept, ↓State.sessTick_kept, ↓State.modTick_kept, ↓State.currentTick_kept,
    ↓State.voltageTick_kept, ↓State.earthTick_kept, ↓State.dispTick_kept, ↓State.chansTick_kept, ↓State.identTick_kept, ↓State.guardTick_kept]

@[simp] theorem State.cellWork_kept (s : State) (c line) : (s.cellWork c line).kept = s.kept := by
  unfold State.cellWork
  (repeat' split) <;> simp only [↓State.bayWork_kept, ↓State.shardTick_kept]

@[simp] theorem State.queueReads_kept (s : State) (r n) : (s.queueReads r n).1.kept = s.kept := by
  simp only [State.queueReads, ↓State.onRegion_kept]

@[simp] theorem execCellTickWork_kept (c d line) (s : State) : outKept (execCellTickWork c d line s) = some s.kept := by
  simp only [execCellTickWork, ↓kept_ite, ↓outKept_next, ite_self, ↓State.queueReads_kept, ↓State.onFaults_kept, ↓State.cellWork_kept]

@[simp] theorem execBackgroundSlice_kept (c w) (s : State) : outKept (execBackgroundSlice c w s) = some s.kept := by
  unfold execBackgroundSlice
  (repeat' split) <;> simp only [↓outKept_next, ↓State.crcAccess_kept, ↓State.plcSymbol_kept, ↓State.onPlc_kept, ↓State.plcRxGain_kept]

@[simp] theorem State.buildBay_kept (s : State) (b) : (s.buildBay b).kept = s.kept := by
  simp only [State.buildBay, ↓kept_ite, ite_self, ↓State.interlock_kept]

@[simp] theorem execOutletBuild_kept (s : State) : outKept (execOutletBuild s) = some s.kept := by
  simp only [execOutletBuild, ↓kept_ite, implies_true, ↓kept_foldl, ↓outKept_next, ite_self, ↓State.buildBay_kept]

@[simp] theorem State.shardHold_kept (s : State) (r) : (s.shardHold r).kept = s.kept := by
  simp only [State.shardHold, ↓kept_mk, ↓kept_ite, implies_true, ↓kept_foldl, kept_pending, kept_cells, kept_eta, ite_self, ↓State.onBay_kept]

@[simp] theorem State.commitShard_kept (s : State) (r) : (s.commitShard r).kept = s.kept := by
  simp only [State.commitShard, ↓kept_ite, ite_self, ↓State.shardCommit_kept, ↓State.shardHold_kept]

@[simp] theorem State.lateOverruns_kept (s : State) : s.lateOverruns.kept = s.kept := by
  simp only [State.lateOverruns, implies_true, ↓kept_foldl, ↓State.overrun_kept, ↓State.onFaults_kept]

@[simp] theorem State.countMarks_kept (s : State) : s.countMarks.kept = s.kept := by
  refine kept_foldl _ (fun t x => ?_) _ _
  (repeat' split) <;> simp only [↓State.sbWrite_kept, ↓State.countUncorrected_kept, ↓State.faultCount_kept, ↓State.onCell_kept, ↓State.onFaults_kept,
    ↓State.overrun_kept]

@[simp] theorem State.noteFrame_kept (s : State) (b f code stop) : (s.noteFrame b f code stop).kept = s.kept := by
  simp only [State.noteFrame, ↓State.onBay_kept]

@[simp] theorem State.sendFrame_kept (s : State) (b) : (s.sendFrame b).kept = s.kept := by
  unfold State.sendFrame
  dsimp only
  (repeat' split) <;> simp only [↓State.noteFrame_kept, ↓State.drawn_kept]

@[simp] theorem State.masksBoundary_kept (s : State) : s.masksBoundary.kept = s.kept := by
  simp only [State.masksBoundary, ↓kept_mk, kept_pending, kept_cells, kept_eta]

@[simp] theorem State.nextTick_kept (s : State) : s.nextTick.kept = s.kept := by
  simp only [State.nextTick, ↓kept_mk, ↓kept_ite, implies_true, ↓kept_foldl, kept_pending, kept_cells, kept_eta, ite_self, ↓State.releaseEvents_kept,
    ↓State.masksBoundary_kept, ↓State.onFaults_kept, ↓State.earthBoundary_kept, ↓State.onLink_kept, ↓State.injectNow_kept,
    ↓State.lowPowerBoundary_kept, ↓State.softBoundary_kept, ↓State.legalBoundary_kept, ↓State.swapBoundary_kept, ↓State.courtBoundary_kept,
    ↓State.retrainBoundary_kept, ↓State.placeBoundary_kept, ↓State.mirrorBoundary_kept, ↓State.twinBoundary_kept, ↓State.timeBoundary_kept,
    ↓State.ledgerBoundary_kept, ↓State.onTwin_kept]

/- Machine/Settings.lean -/

@[simp] theorem State.answerSetting_kept (s : State) (a) : (s.answerSetting a).kept = s.kept := by
  unfold State.answerSetting
  (repeat' split) <;> simp only [↓State.ok_kept, ↓State.drawn_kept]

/- The operations that write memory. -/

/-- The queue stays, and memory keeps its canonical form. -/
structure Keeps (s t : State) : Prop where
  pending : t.pending = s.pending
  wf : Memory.wf s.mem.cells = true → Memory.wf t.mem.cells = true

theorem Keeps.refl (s : State) : Keeps s s := ⟨rfl, id⟩

theorem Keeps.trans {s t u : State} (h : Keeps s t) (k : Keeps t u) : Keeps s u := ⟨k.pending.trans h.pending, fun w => k.wf (h.wf w)⟩

/-- What leaves the queue and every byte of memory keeps both. -/
theorem Keeps.of_kept {s t : State} (h : t.kept = s.kept) : Keeps s t := by
  have e := Prod.mk.inj h
  exact ⟨e.1, fun w => e.2 ▸ w⟩

theorem Keeps.foldl {α : Type} {f : State → α → State} (h : ∀ t x, Keeps t (f t x)) (l : List α) (s : State) : Keeps s (l.foldl f s) := by
  induction l generalizing s with
  | nil => exact .refl s
  | cons x l ih => exact (h s x).trans (ih _)

theorem State.modRecords_keeps (s : State) (b : BayId) : Keeps s (s.modRecords b) := by
  refine ⟨rfl, fun w => ?_⟩
  unfold State.modRecords
  dsimp only
  split
  · exact wf_memPutWords _ _ _ _ (wf_memPutWords _ _ _ _ w)
  · exact wf_memPutWords _ _ _ _ w

theorem State.restarted_keeps (s : State) (cause : Nat) (i : StartIn) : Keeps s (s.restarted cause i) := ⟨rfl, fun _ => rfl⟩

theorem State.startChip_keeps (s : State) (cause : Nat) (i : StartIn) : Keeps s (s.startChip cause i) := by
  refine (State.restarted_keeps s cause i).trans (.of_kept ?_)
  unfold State.startChip
  dsimp only
  split
  · rfl
  · split
    · rfl
    · split
      · split <;> simp only [State.raiseNow_kept, State.myavatStart_kept, State.runBundle_kept] <;> rfl
      · rfl

theorem State.clearWindows_keeps (s : State) (c : CourtId) : Keeps s (s.clearWindows c) := by
  unfold State.clearWindows
  refine .foldl (fun t r => ?_) allRegions s
  refine .foldl (fun u e => ?_) _ t
  exact ⟨rfl, wf_memClear _ _⟩

theorem State.applyCreate_keeps (s : State) (c : CourtId) (sup region : Nat) (grant : BayMask) (places : List (Nat × Nat × Nat)) :
    Keeps s (s.applyCreate c sup region grant places) := by
  unfold State.applyCreate
  dsimp only
  exact Keeps.trans (.of_kept ((State.setWindows_kept _ _ _).trans (State.onCourt_kept _ _ _)))
    ((State.clearWindows_keeps _ c).trans (.of_kept ((State.courtGo_kept _ _ _).trans (State.onCourt_kept _ _ _))))

theorem State.transfer_keeps (s : State) (t : Transfer) : Keeps s (s.transfer t) := by
  unfold State.transfer
  dsimp only
  split
  · exact .of_kept (by simp only [State.respond_kept, State.onRegion_kept, State.nextFlow_kept])
  · split
    · exact .of_kept (by simp only [State.nextFlow_kept])
    · split
      · exact .of_kept (by simp only [State.respond_kept, State.nextFlow_kept])
      · split
        · exact .of_kept (by simp only [State.respond_kept, State.nextFlow_kept])
        · split
          · exact .of_kept (by simp only [State.fwRefuse_kept, State.nextFlow_kept])
          · split
            · exact ⟨rfl, fun w => wf_memPutWords _ _ _ _ w⟩
            · exact .of_kept (by simp only [State.respond_kept, State.nextFlow_kept])

theorem State.commitBay_keeps (s : State) (b : BayId) : Keeps s (s.commitBay b) := by
  unfold State.commitBay
  refine Keeps.trans ?_ (.of_kept (State.raiseAll_kept _ _))
  split
  · exact Keeps.trans (.of_kept (State.onBay_kept s b _)) ((State.modRecords_keeps _ b).trans (.of_kept (State.pulseAnswer_kept _ _)))
  · exact .of_kept (State.onBay_kept s b _)

theorem State.commitTick_keeps (s : State) : Keeps s s.commitTick := by
  have h1 : Keeps s (allBays.foldl State.buildBay s.lateOverruns) :=
    .of_kept ((kept_foldl _ State.buildBay_kept _ _).trans (State.lateOverruns_kept _))
  have h2 := (h1.trans (.foldl State.commitBay_keeps allBays _)).trans (.of_kept (kept_foldl _ State.commitShard_kept allRegions _))
  have h3 := h2.trans (.of_kept ((kept_foldl _ State.sendFrame_kept allBays _).trans (State.countMarks_kept _)))
  unfold State.commitTick
  dsimp only
  split
  · exact h3.trans (.of_kept (State.onTwin_kept _ _))
  · exact h3

theorem State.applySetting_keeps (s : State) (a : Armed) : Keeps s (s.applySetting a) := by
  unfold State.applySetting
  split
  case h_12 => exact State.applyCreate_keeps _ _ _ _ _ _
  all_goals
    refine .of_kept ?_
    (repeat' split) <;> simp only [State.consumeXfer_kept, kept_atBay, State.applyCal_kept, State.applyPulseMap_kept, State.applyS0_kept, State.applyUnavail_kept,
      State.applyAuth_kept, State.applyStop_kept, State.applyLimit_kept, State.applyLedger_kept, State.applyRing_kept, State.applyTime_kept, State.applyReload_kept, implies_true]

theorem State.settingsEffective_keeps (s : State) : Keeps s s.settingsEffective := by
  unfold State.settingsEffective
  dsimp only
  refine Keeps.trans (.of_kept ?_) ((Keeps.foldl State.applySetting_keeps _ _).trans (.of_kept (kept_foldl _ State.answerSetting_kept _ _)))
  split
  · exact (State.bumpSite_kept _).trans (State.bumpBays_kept _ _)
  · exact State.bumpBays_kept _ _

/-- A command that leaves the queue and every byte of memory answers a next state that keeps both. -/
theorem keeps_of_outKept {o : Out} {s : State} (h : outKept o = some s.kept) : ∃ t, o = .next t ∧ Keeps s t := by
  cases o with
  | next t => exact ⟨t, rfl, .of_kept (Option.some.inj h)⟩
  | _ => simp [outKept] at h

/- The commands that start the chip, write memory or clear it: each answers a next state. -/

theorem execPowerOnReset_keeps (i : StartIn) (s : State) : ∃ t, execPowerOnReset i s = .next t ∧ Keeps s t := ⟨_, rfl, s.startChip_keeps 0 i⟩

theorem execPinReset_keeps (i : StartIn) (s : State) : ∃ t, execPinReset i s = .next t ∧ Keeps s t := ⟨_, rfl, s.startChip_keeps 1 i⟩

theorem execSoftReset_keeps (i : StartIn) (s : State) : ∃ t, execSoftReset i s = .next t ∧ Keeps s t := by
  refine ⟨_, rfl, ?_⟩
  (repeat' split) <;> first | exact s.startChip_keeps 2 i | exact .refl s

theorem execWdogReset_keeps (i : StartIn) (s : State) : ∃ t, execWdogReset i s = .next t ∧ Keeps s t := by
  refine ⟨_, rfl, ?_⟩
  split
  · split
    · exact s.startChip_keeps 4 i
    · exact .refl s
  · split
    · split
      · exact s.startChip_keeps 3 i
      · exact .refl s
    · exact .refl s

theorem execIslandRailsReady_keeps (i : StartIn) (s : State) : ∃ t, execIslandRailsReady i s = .next t ∧ Keeps s t := by
  refine ⟨_, rfl, ?_⟩
  split
  · exact s.startChip_keeps _ i
  · exact .refl s

theorem execTickCommit_keeps (s : State) : ∃ t, execTickCommit s = .next t ∧ Keeps s t := by
  unfold execTickCommit
  refine ⟨_, rfl, ?_⟩
  split
  · exact s.commitTick_keeps.trans (.of_kept (State.nextTick_kept _))
  · exact .refl s

theorem execSettingsEffective_keeps (s : State) : ∃ t, execSettingsEffective s = .next t ∧ Keeps s t := ⟨_, rfl, s.settingsEffective_keeps⟩

theorem execFabricTransfer_keeps (x : Transfer) (s : State) : ∃ t, execFabricTransfer x s = .next t ∧ Keeps s t := by
  refine ⟨_, rfl, ?_⟩
  split
  · exact s.transfer_keeps x
  · exact .refl s

theorem execCourtRestartDone_keeps (c : CourtId) (s : State) : ∃ t, execCourtRestartDone c s = .next t ∧ Keeps s t := by
  refine ⟨_, rfl, ?_⟩
  dsimp only
  split
  · exact .refl s
  · refine Keeps.trans (.of_kept (State.reloadCells_kept s c)) ((State.clearWindows_keeps _ c).trans (.of_kept ?_))
    split <;> simp only [State.ok_kept, State.courtGo_kept, State.onCourt_kept]

theorem execCourtTeardownDone_keeps (c : CourtId) (s : State) : ∃ t, execCourtTeardownDone c s = .next t ∧ Keeps s t := by
  refine ⟨_, rfl, ?_⟩
  dsimp only
  split
  · exact .refl s
  · refine (State.clearWindows_keeps s c).trans (.of_kept (Eq.trans ?_ (State.setWindows_kept (s.clearWindows c) c 0)))
    generalize (s.clearWindows c).setWindows c 0 = u
    (repeat' split) <;> simp only [State.ok_kept, State.refuse_kept, State.courtGo_kept, State.onCourt_kept, kept_mk, kept_pending, kept_cells, kept_eta]

end Sys2Proof.Machine
end

