-- ==== Sys2Proof/Laws/State.lean ====
section
/-! SUPPORT. Each named update of the state, field by field: what it sets and what it leaves. -/

namespace Sys2Proof.Machine
/- onCourt changes courts. -/
@[simp] theorem State.onCourt_clock (s : State) (c : CourtId) (f : Court → Court) : (s.onCourt c f).clock = s.clock := rfl
@[simp] theorem State.onCourt_gens (s : State) (c : CourtId) (f : Court → Court) : (s.onCourt c f).gens = s.gens := rfl
@[simp] theorem State.onCourt_armed (s : State) (c : CourtId) (f : Court → Court) : (s.onCourt c f).armed = s.armed := rfl
@[simp] theorem State.onCourt_courts (s : State) (c : CourtId) (f : Court → Court) : (s.onCourt c f).courts = vmod s.courts c f := rfl
@[simp] theorem State.onCourt_host (s : State) (c : CourtId) (f : Court → Court) : (s.onCourt c f).host = s.host := rfl
@[simp] theorem State.onCourt_evt (s : State) (c : CourtId) (f : Court → Court) : (s.onCourt c f).evt = s.evt := rfl
@[simp] theorem State.onCourt_regions (s : State) (c : CourtId) (f : Court → Court) : (s.onCourt c f).regions = s.regions := rfl
@[simp] theorem State.onCourt_mem (s : State) (c : CourtId) (f : Court → Court) : (s.onCourt c f).mem = s.mem := rfl
@[simp] theorem State.onCourt_bays (s : State) (c : CourtId) (f : Court → Court) : (s.onCourt c f).bays = s.bays := rfl
@[simp] theorem State.onCourt_heads (s : State) (c : CourtId) (f : Court → Court) : (s.onCourt c f).heads = s.heads := rfl
@[simp] theorem State.onCourt_slac (s : State) (c : CourtId) (f : Court → Court) : (s.onCourt c f).slac = s.slac := rfl
@[simp] theorem State.onCourt_ledger (s : State) (c : CourtId) (f : Court → Court) : (s.onCourt c f).ledger = s.ledger := rfl
@[simp] theorem State.onCourt_certs (s : State) (c : CourtId) (f : Court → Court) : (s.onCourt c f).certs = s.certs := rfl
@[simp] theorem State.onCourt_safety (s : State) (c : CourtId) (f : Court → Court) : (s.onCourt c f).safety = s.safety := rfl
@[simp] theorem State.onCourt_safePairs (s : State) (c : CourtId) (f : Court → Court) : (s.onCourt c f).safePairs = s.safePairs := rfl
@[simp] theorem State.onCourt_safeAccepted (s : State) (c : CourtId) (f : Court → Court) : (s.onCourt c f).safeAccepted = s.safeAccepted := rfl
@[simp] theorem State.onCourt_roundPos (s : State) (c : CourtId) (f : Court → Court) : (s.onCourt c f).roundPos = s.roundPos := rfl
@[simp] theorem State.onCourt_legal (s : State) (c : CourtId) (f : Court → Court) : (s.onCourt c f).legal = s.legal := rfl
@[simp] theorem State.onCourt_pulses (s : State) (c : CourtId) (f : Court → Court) : (s.onCourt c f).pulses = s.pulses := rfl
@[simp] theorem State.onCourt_fwLoad (s : State) (c : CourtId) (f : Court → Court) : (s.onCourt c f).fwLoad = s.fwLoad := rfl
@[simp] theorem State.onCourt_twin (s : State) (c : CourtId) (f : Court → Court) : (s.onCourt c f).twin = s.twin := rfl
@[simp] theorem State.onCourt_ring (s : State) (c : CourtId) (f : Court → Court) : (s.onCourt c f).ring = s.ring := rfl
@[simp] theorem State.onCourt_boot (s : State) (c : CourtId) (f : Court → Court) : (s.onCourt c f).boot = s.boot := rfl
@[simp] theorem State.onCourt_island (s : State) (c : CourtId) (f : Court → Court) : (s.onCourt c f).island = s.island := rfl
@[simp] theorem State.onCourt_keys (s : State) (c : CourtId) (f : Court → Court) : (s.onCourt c f).keys = s.keys := rfl
@[simp] theorem State.onCourt_faults (s : State) (c : CourtId) (f : Court → Court) : (s.onCourt c f).faults = s.faults := rfl
@[simp] theorem State.onCourt_free (s : State) (c : CourtId) (f : Court → Court) : (s.onCourt c f).free = s.free := rfl
@[simp] theorem State.onCourt_pending (s : State) (c : CourtId) (f : Court → Court) : (s.onCourt c f).pending = s.pending := rfl

/- onMbx changes courts. -/
@[simp] theorem State.onMbx_clock (s : State) (c : CourtId) (m : MbxId) (f : Mailbox → Mailbox) : (s.onMbx c m f).clock = s.clock := rfl
@[simp] theorem State.onMbx_gens (s : State) (c : CourtId) (m : MbxId) (f : Mailbox → Mailbox) : (s.onMbx c m f).gens = s.gens := rfl
@[simp] theorem State.onMbx_armed (s : State) (c : CourtId) (m : MbxId) (f : Mailbox → Mailbox) : (s.onMbx c m f).armed = s.armed := rfl
@[simp] theorem State.onMbx_courts (s : State) (c : CourtId) (m : MbxId) (f : Mailbox → Mailbox) : (s.onMbx c m f).courts = vmod s.courts c fun k => { k with mbx := vmod k.mbx m f } := rfl
@[simp] theorem State.onMbx_host (s : State) (c : CourtId) (m : MbxId) (f : Mailbox → Mailbox) : (s.onMbx c m f).host = s.host := rfl
@[simp] theorem State.onMbx_evt (s : State) (c : CourtId) (m : MbxId) (f : Mailbox → Mailbox) : (s.onMbx c m f).evt = s.evt := rfl
@[simp] theorem State.onMbx_regions (s : State) (c : CourtId) (m : MbxId) (f : Mailbox → Mailbox) : (s.onMbx c m f).regions = s.regions := rfl
@[simp] theorem State.onMbx_mem (s : State) (c : CourtId) (m : MbxId) (f : Mailbox → Mailbox) : (s.onMbx c m f).mem = s.mem := rfl
@[simp] theorem State.onMbx_bays (s : State) (c : CourtId) (m : MbxId) (f : Mailbox → Mailbox) : (s.onMbx c m f).bays = s.bays := rfl
@[simp] theorem State.onMbx_heads (s : State) (c : CourtId) (m : MbxId) (f : Mailbox → Mailbox) : (s.onMbx c m f).heads = s.heads := rfl
@[simp] theorem State.onMbx_slac (s : State) (c : CourtId) (m : MbxId) (f : Mailbox → Mailbox) : (s.onMbx c m f).slac = s.slac := rfl
@[simp] theorem State.onMbx_ledger (s : State) (c : CourtId) (m : MbxId) (f : Mailbox → Mailbox) : (s.onMbx c m f).ledger = s.ledger := rfl
@[simp] theorem State.onMbx_certs (s : State) (c : CourtId) (m : MbxId) (f : Mailbox → Mailbox) : (s.onMbx c m f).certs = s.certs := rfl
@[simp] theorem State.onMbx_safety (s : State) (c : CourtId) (m : MbxId) (f : Mailbox → Mailbox) : (s.onMbx c m f).safety = s.safety := rfl
@[simp] theorem State.onMbx_safePairs (s : State) (c : CourtId) (m : MbxId) (f : Mailbox → Mailbox) : (s.onMbx c m f).safePairs = s.safePairs := rfl
@[simp] theorem State.onMbx_safeAccepted (s : State) (c : CourtId) (m : MbxId) (f : Mailbox → Mailbox) : (s.onMbx c m f).safeAccepted = s.safeAccepted := rfl
@[simp] theorem State.onMbx_roundPos (s : State) (c : CourtId) (m : MbxId) (f : Mailbox → Mailbox) : (s.onMbx c m f).roundPos = s.roundPos := rfl
@[simp] theorem State.onMbx_legal (s : State) (c : CourtId) (m : MbxId) (f : Mailbox → Mailbox) : (s.onMbx c m f).legal = s.legal := rfl
@[simp] theorem State.onMbx_pulses (s : State) (c : CourtId) (m : MbxId) (f : Mailbox → Mailbox) : (s.onMbx c m f).pulses = s.pulses := rfl
@[simp] theorem State.onMbx_fwLoad (s : State) (c : CourtId) (m : MbxId) (f : Mailbox → Mailbox) : (s.onMbx c m f).fwLoad = s.fwLoad := rfl
@[simp] theorem State.onMbx_twin (s : State) (c : CourtId) (m : MbxId) (f : Mailbox → Mailbox) : (s.onMbx c m f).twin = s.twin := rfl
@[simp] theorem State.onMbx_ring (s : State) (c : CourtId) (m : MbxId) (f : Mailbox → Mailbox) : (s.onMbx c m f).ring = s.ring := rfl
@[simp] theorem State.onMbx_boot (s : State) (c : CourtId) (m : MbxId) (f : Mailbox → Mailbox) : (s.onMbx c m f).boot = s.boot := rfl
@[simp] theorem State.onMbx_island (s : State) (c : CourtId) (m : MbxId) (f : Mailbox → Mailbox) : (s.onMbx c m f).island = s.island := rfl
@[simp] theorem State.onMbx_keys (s : State) (c : CourtId) (m : MbxId) (f : Mailbox → Mailbox) : (s.onMbx c m f).keys = s.keys := rfl
@[simp] theorem State.onMbx_faults (s : State) (c : CourtId) (m : MbxId) (f : Mailbox → Mailbox) : (s.onMbx c m f).faults = s.faults := rfl
@[simp] theorem State.onMbx_free (s : State) (c : CourtId) (m : MbxId) (f : Mailbox → Mailbox) : (s.onMbx c m f).free = s.free := rfl
@[simp] theorem State.onMbx_pending (s : State) (c : CourtId) (m : MbxId) (f : Mailbox → Mailbox) : (s.onMbx c m f).pending = s.pending := rfl

/- onBay changes bays. -/
@[simp] theorem State.onBay_clock (s : State) (b : BayId) (f : Bay → Bay) : (s.onBay b f).clock = s.clock := rfl
@[simp] theorem State.onBay_gens (s : State) (b : BayId) (f : Bay → Bay) : (s.onBay b f).gens = s.gens := rfl
@[simp] theorem State.onBay_armed (s : State) (b : BayId) (f : Bay → Bay) : (s.onBay b f).armed = s.armed := rfl
@[simp] theorem State.onBay_courts (s : State) (b : BayId) (f : Bay → Bay) : (s.onBay b f).courts = s.courts := rfl
@[simp] theorem State.onBay_host (s : State) (b : BayId) (f : Bay → Bay) : (s.onBay b f).host = s.host := rfl
@[simp] theorem State.onBay_evt (s : State) (b : BayId) (f : Bay → Bay) : (s.onBay b f).evt = s.evt := rfl
@[simp] theorem State.onBay_regions (s : State) (b : BayId) (f : Bay → Bay) : (s.onBay b f).regions = s.regions := rfl
@[simp] theorem State.onBay_mem (s : State) (b : BayId) (f : Bay → Bay) : (s.onBay b f).mem = s.mem := rfl
@[simp] theorem State.onBay_bays (s : State) (b : BayId) (f : Bay → Bay) : (s.onBay b f).bays = vmod s.bays b f := rfl
@[simp] theorem State.onBay_heads (s : State) (b : BayId) (f : Bay → Bay) : (s.onBay b f).heads = s.heads := rfl
@[simp] theorem State.onBay_slac (s : State) (b : BayId) (f : Bay → Bay) : (s.onBay b f).slac = s.slac := rfl
@[simp] theorem State.onBay_ledger (s : State) (b : BayId) (f : Bay → Bay) : (s.onBay b f).ledger = s.ledger := rfl
@[simp] theorem State.onBay_certs (s : State) (b : BayId) (f : Bay → Bay) : (s.onBay b f).certs = s.certs := rfl
@[simp] theorem State.onBay_safety (s : State) (b : BayId) (f : Bay → Bay) : (s.onBay b f).safety = s.safety := rfl
@[simp] theorem State.onBay_safePairs (s : State) (b : BayId) (f : Bay → Bay) : (s.onBay b f).safePairs = s.safePairs := rfl
@[simp] theorem State.onBay_safeAccepted (s : State) (b : BayId) (f : Bay → Bay) : (s.onBay b f).safeAccepted = s.safeAccepted := rfl
@[simp] theorem State.onBay_roundPos (s : State) (b : BayId) (f : Bay → Bay) : (s.onBay b f).roundPos = s.roundPos := rfl
@[simp] theorem State.onBay_legal (s : State) (b : BayId) (f : Bay → Bay) : (s.onBay b f).legal = s.legal := rfl
@[simp] theorem State.onBay_pulses (s : State) (b : BayId) (f : Bay → Bay) : (s.onBay b f).pulses = s.pulses := rfl
@[simp] theorem State.onBay_fwLoad (s : State) (b : BayId) (f : Bay → Bay) : (s.onBay b f).fwLoad = s.fwLoad := rfl
@[simp] theorem State.onBay_twin (s : State) (b : BayId) (f : Bay → Bay) : (s.onBay b f).twin = s.twin := rfl
@[simp] theorem State.onBay_ring (s : State) (b : BayId) (f : Bay → Bay) : (s.onBay b f).ring = s.ring := rfl
@[simp] theorem State.onBay_boot (s : State) (b : BayId) (f : Bay → Bay) : (s.onBay b f).boot = s.boot := rfl
@[simp] theorem State.onBay_island (s : State) (b : BayId) (f : Bay → Bay) : (s.onBay b f).island = s.island := rfl
@[simp] theorem State.onBay_keys (s : State) (b : BayId) (f : Bay → Bay) : (s.onBay b f).keys = s.keys := rfl
@[simp] theorem State.onBay_faults (s : State) (b : BayId) (f : Bay → Bay) : (s.onBay b f).faults = s.faults := rfl
@[simp] theorem State.onBay_free (s : State) (b : BayId) (f : Bay → Bay) : (s.onBay b f).free = s.free := rfl
@[simp] theorem State.onBay_pending (s : State) (b : BayId) (f : Bay → Bay) : (s.onBay b f).pending = s.pending := rfl

/- onRegion changes regions. -/
@[simp] theorem State.onRegion_clock (s : State) (r : RegionId) (f : Region → Region) : (s.onRegion r f).clock = s.clock := rfl
@[simp] theorem State.onRegion_gens (s : State) (r : RegionId) (f : Region → Region) : (s.onRegion r f).gens = s.gens := rfl
@[simp] theorem State.onRegion_armed (s : State) (r : RegionId) (f : Region → Region) : (s.onRegion r f).armed = s.armed := rfl
@[simp] theorem State.onRegion_courts (s : State) (r : RegionId) (f : Region → Region) : (s.onRegion r f).courts = s.courts := rfl
@[simp] theorem State.onRegion_host (s : State) (r : RegionId) (f : Region → Region) : (s.onRegion r f).host = s.host := rfl
@[simp] theorem State.onRegion_evt (s : State) (r : RegionId) (f : Region → Region) : (s.onRegion r f).evt = s.evt := rfl
@[simp] theorem State.onRegion_regions (s : State) (r : RegionId) (f : Region → Region) : (s.onRegion r f).regions = vmod s.regions r f := rfl
@[simp] theorem State.onRegion_mem (s : State) (r : RegionId) (f : Region → Region) : (s.onRegion r f).mem = s.mem := rfl
@[simp] theorem State.onRegion_bays (s : State) (r : RegionId) (f : Region → Region) : (s.onRegion r f).bays = s.bays := rfl
@[simp] theorem State.onRegion_heads (s : State) (r : RegionId) (f : Region → Region) : (s.onRegion r f).heads = s.heads := rfl
@[simp] theorem State.onRegion_slac (s : State) (r : RegionId) (f : Region → Region) : (s.onRegion r f).slac = s.slac := rfl
@[simp] theorem State.onRegion_ledger (s : State) (r : RegionId) (f : Region → Region) : (s.onRegion r f).ledger = s.ledger := rfl
@[simp] theorem State.onRegion_certs (s : State) (r : RegionId) (f : Region → Region) : (s.onRegion r f).certs = s.certs := rfl
@[simp] theorem State.onRegion_safety (s : State) (r : RegionId) (f : Region → Region) : (s.onRegion r f).safety = s.safety := rfl
@[simp] theorem State.onRegion_safePairs (s : State) (r : RegionId) (f : Region → Region) : (s.onRegion r f).safePairs = s.safePairs := rfl
@[simp] theorem State.onRegion_safeAccepted (s : State) (r : RegionId) (f : Region → Region) : (s.onRegion r f).safeAccepted = s.safeAccepted := rfl
@[simp] theorem State.onRegion_roundPos (s : State) (r : RegionId) (f : Region → Region) : (s.onRegion r f).roundPos = s.roundPos := rfl
@[simp] theorem State.onRegion_legal (s : State) (r : RegionId) (f : Region → Region) : (s.onRegion r f).legal = s.legal := rfl
@[simp] theorem State.onRegion_pulses (s : State) (r : RegionId) (f : Region → Region) : (s.onRegion r f).pulses = s.pulses := rfl
@[simp] theorem State.onRegion_fwLoad (s : State) (r : RegionId) (f : Region → Region) : (s.onRegion r f).fwLoad = s.fwLoad := rfl
@[simp] theorem State.onRegion_twin (s : State) (r : RegionId) (f : Region → Region) : (s.onRegion r f).twin = s.twin := rfl
@[simp] theorem State.onRegion_ring (s : State) (r : RegionId) (f : Region → Region) : (s.onRegion r f).ring = s.ring := rfl
@[simp] theorem State.onRegion_boot (s : State) (r : RegionId) (f : Region → Region) : (s.onRegion r f).boot = s.boot := rfl
@[simp] theorem State.onRegion_island (s : State) (r : RegionId) (f : Region → Region) : (s.onRegion r f).island = s.island := rfl
@[simp] theorem State.onRegion_keys (s : State) (r : RegionId) (f : Region → Region) : (s.onRegion r f).keys = s.keys := rfl
@[simp] theorem State.onRegion_faults (s : State) (r : RegionId) (f : Region → Region) : (s.onRegion r f).faults = s.faults := rfl
@[simp] theorem State.onRegion_free (s : State) (r : RegionId) (f : Region → Region) : (s.onRegion r f).free = s.free := rfl
@[simp] theorem State.onRegion_pending (s : State) (r : RegionId) (f : Region → Region) : (s.onRegion r f).pending = s.pending := rfl

/- onHead changes heads. -/
@[simp] theorem State.onHead_clock (s : State) (b : BayId) (f : Head → Head) : (s.onHead b f).clock = s.clock := rfl
@[simp] theorem State.onHead_gens (s : State) (b : BayId) (f : Head → Head) : (s.onHead b f).gens = s.gens := rfl
@[simp] theorem State.onHead_armed (s : State) (b : BayId) (f : Head → Head) : (s.onHead b f).armed = s.armed := rfl
@[simp] theorem State.onHead_courts (s : State) (b : BayId) (f : Head → Head) : (s.onHead b f).courts = s.courts := rfl
@[simp] theorem State.onHead_host (s : State) (b : BayId) (f : Head → Head) : (s.onHead b f).host = s.host := rfl
@[simp] theorem State.onHead_evt (s : State) (b : BayId) (f : Head → Head) : (s.onHead b f).evt = s.evt := rfl
@[simp] theorem State.onHead_regions (s : State) (b : BayId) (f : Head → Head) : (s.onHead b f).regions = s.regions := rfl
@[simp] theorem State.onHead_mem (s : State) (b : BayId) (f : Head → Head) : (s.onHead b f).mem = s.mem := rfl
@[simp] theorem State.onHead_bays (s : State) (b : BayId) (f : Head → Head) : (s.onHead b f).bays = s.bays := rfl
@[simp] theorem State.onHead_heads (s : State) (b : BayId) (f : Head → Head) : (s.onHead b f).heads = vmod s.heads b f := rfl
@[simp] theorem State.onHead_slac (s : State) (b : BayId) (f : Head → Head) : (s.onHead b f).slac = s.slac := rfl
@[simp] theorem State.onHead_ledger (s : State) (b : BayId) (f : Head → Head) : (s.onHead b f).ledger = s.ledger := rfl
@[simp] theorem State.onHead_certs (s : State) (b : BayId) (f : Head → Head) : (s.onHead b f).certs = s.certs := rfl
@[simp] theorem State.onHead_safety (s : State) (b : BayId) (f : Head → Head) : (s.onHead b f).safety = s.safety := rfl
@[simp] theorem State.onHead_safePairs (s : State) (b : BayId) (f : Head → Head) : (s.onHead b f).safePairs = s.safePairs := rfl
@[simp] theorem State.onHead_safeAccepted (s : State) (b : BayId) (f : Head → Head) : (s.onHead b f).safeAccepted = s.safeAccepted := rfl
@[simp] theorem State.onHead_roundPos (s : State) (b : BayId) (f : Head → Head) : (s.onHead b f).roundPos = s.roundPos := rfl
@[simp] theorem State.onHead_legal (s : State) (b : BayId) (f : Head → Head) : (s.onHead b f).legal = s.legal := rfl
@[simp] theorem State.onHead_pulses (s : State) (b : BayId) (f : Head → Head) : (s.onHead b f).pulses = s.pulses := rfl
@[simp] theorem State.onHead_fwLoad (s : State) (b : BayId) (f : Head → Head) : (s.onHead b f).fwLoad = s.fwLoad := rfl
@[simp] theorem State.onHead_twin (s : State) (b : BayId) (f : Head → Head) : (s.onHead b f).twin = s.twin := rfl
@[simp] theorem State.onHead_ring (s : State) (b : BayId) (f : Head → Head) : (s.onHead b f).ring = s.ring := rfl
@[simp] theorem State.onHead_boot (s : State) (b : BayId) (f : Head → Head) : (s.onHead b f).boot = s.boot := rfl
@[simp] theorem State.onHead_island (s : State) (b : BayId) (f : Head → Head) : (s.onHead b f).island = s.island := rfl
@[simp] theorem State.onHead_keys (s : State) (b : BayId) (f : Head → Head) : (s.onHead b f).keys = s.keys := rfl
@[simp] theorem State.onHead_faults (s : State) (b : BayId) (f : Head → Head) : (s.onHead b f).faults = s.faults := rfl
@[simp] theorem State.onHead_free (s : State) (b : BayId) (f : Head → Head) : (s.onHead b f).free = s.free := rfl
@[simp] theorem State.onHead_pending (s : State) (b : BayId) (f : Head → Head) : (s.onHead b f).pending = s.pending := rfl

/- onClock changes clock. -/
@[simp] theorem State.onClock_clock (s : State) (f : Clock → Clock) : (s.onClock f).clock = f s.clock := rfl
@[simp] theorem State.onClock_gens (s : State) (f : Clock → Clock) : (s.onClock f).gens = s.gens := rfl
@[simp] theorem State.onClock_armed (s : State) (f : Clock → Clock) : (s.onClock f).armed = s.armed := rfl
@[simp] theorem State.onClock_courts (s : State) (f : Clock → Clock) : (s.onClock f).courts = s.courts := rfl
@[simp] theorem State.onClock_host (s : State) (f : Clock → Clock) : (s.onClock f).host = s.host := rfl
@[simp] theorem State.onClock_evt (s : State) (f : Clock → Clock) : (s.onClock f).evt = s.evt := rfl
@[simp] theorem State.onClock_regions (s : State) (f : Clock → Clock) : (s.onClock f).regions = s.regions := rfl
@[simp] theorem State.onClock_mem (s : State) (f : Clock → Clock) : (s.onClock f).mem = s.mem := rfl
@[simp] theorem State.onClock_bays (s : State) (f : Clock → Clock) : (s.onClock f).bays = s.bays := rfl
@[simp] theorem State.onClock_heads (s : State) (f : Clock → Clock) : (s.onClock f).heads = s.heads := rfl
@[simp] theorem State.onClock_slac (s : State) (f : Clock → Clock) : (s.onClock f).slac = s.slac := rfl
@[simp] theorem State.onClock_ledger (s : State) (f : Clock → Clock) : (s.onClock f).ledger = s.ledger := rfl
@[simp] theorem State.onClock_certs (s : State) (f : Clock → Clock) : (s.onClock f).certs = s.certs := rfl
@[simp] theorem State.onClock_safety (s : State) (f : Clock → Clock) : (s.onClock f).safety = s.safety := rfl
@[simp] theorem State.onClock_safePairs (s : State) (f : Clock → Clock) : (s.onClock f).safePairs = s.safePairs := rfl
@[simp] theorem State.onClock_safeAccepted (s : State) (f : Clock → Clock) : (s.onClock f).safeAccepted = s.safeAccepted := rfl
@[simp] theorem State.onClock_roundPos (s : State) (f : Clock → Clock) : (s.onClock f).roundPos = s.roundPos := rfl
@[simp] theorem State.onClock_legal (s : State) (f : Clock → Clock) : (s.onClock f).legal = s.legal := rfl
@[simp] theorem State.onClock_pulses (s : State) (f : Clock → Clock) : (s.onClock f).pulses = s.pulses := rfl
@[simp] theorem State.onClock_fwLoad (s : State) (f : Clock → Clock) : (s.onClock f).fwLoad = s.fwLoad := rfl
@[simp] theorem State.onClock_twin (s : State) (f : Clock → Clock) : (s.onClock f).twin = s.twin := rfl
@[simp] theorem State.onClock_ring (s : State) (f : Clock → Clock) : (s.onClock f).ring = s.ring := rfl
@[simp] theorem State.onClock_boot (s : State) (f : Clock → Clock) : (s.onClock f).boot = s.boot := rfl
@[simp] theorem State.onClock_island (s : State) (f : Clock → Clock) : (s.onClock f).island = s.island := rfl
@[simp] theorem State.onClock_keys (s : State) (f : Clock → Clock) : (s.onClock f).keys = s.keys := rfl
@[simp] theorem State.onClock_faults (s : State) (f : Clock → Clock) : (s.onClock f).faults = s.faults := rfl
@[simp] theorem State.onClock_free (s : State) (f : Clock → Clock) : (s.onClock f).free = s.free := rfl
@[simp] theorem State.onClock_pending (s : State) (f : Clock → Clock) : (s.onClock f).pending = s.pending := rfl

/- onLegal changes legal. -/
@[simp] theorem State.onLegal_clock (s : State) (f : Legal → Legal) : (s.onLegal f).clock = s.clock := rfl
@[simp] theorem State.onLegal_gens (s : State) (f : Legal → Legal) : (s.onLegal f).gens = s.gens := rfl
@[simp] theorem State.onLegal_armed (s : State) (f : Legal → Legal) : (s.onLegal f).armed = s.armed := rfl
@[simp] theorem State.onLegal_courts (s : State) (f : Legal → Legal) : (s.onLegal f).courts = s.courts := rfl
@[simp] theorem State.onLegal_host (s : State) (f : Legal → Legal) : (s.onLegal f).host = s.host := rfl
@[simp] theorem State.onLegal_evt (s : State) (f : Legal → Legal) : (s.onLegal f).evt = s.evt := rfl
@[simp] theorem State.onLegal_regions (s : State) (f : Legal → Legal) : (s.onLegal f).regions = s.regions := rfl
@[simp] theorem State.onLegal_mem (s : State) (f : Legal → Legal) : (s.onLegal f).mem = s.mem := rfl
@[simp] theorem State.onLegal_bays (s : State) (f : Legal → Legal) : (s.onLegal f).bays = s.bays := rfl
@[simp] theorem State.onLegal_heads (s : State) (f : Legal → Legal) : (s.onLegal f).heads = s.heads := rfl
@[simp] theorem State.onLegal_slac (s : State) (f : Legal → Legal) : (s.onLegal f).slac = s.slac := rfl
@[simp] theorem State.onLegal_ledger (s : State) (f : Legal → Legal) : (s.onLegal f).ledger = s.ledger := rfl
@[simp] theorem State.onLegal_certs (s : State) (f : Legal → Legal) : (s.onLegal f).certs = s.certs := rfl
@[simp] theorem State.onLegal_safety (s : State) (f : Legal → Legal) : (s.onLegal f).safety = s.safety := rfl
@[simp] theorem State.onLegal_safePairs (s : State) (f : Legal → Legal) : (s.onLegal f).safePairs = s.safePairs := rfl
@[simp] theorem State.onLegal_safeAccepted (s : State) (f : Legal → Legal) : (s.onLegal f).safeAccepted = s.safeAccepted := rfl
@[simp] theorem State.onLegal_roundPos (s : State) (f : Legal → Legal) : (s.onLegal f).roundPos = s.roundPos := rfl
@[simp] theorem State.onLegal_legal (s : State) (f : Legal → Legal) : (s.onLegal f).legal = f s.legal := rfl
@[simp] theorem State.onLegal_pulses (s : State) (f : Legal → Legal) : (s.onLegal f).pulses = s.pulses := rfl
@[simp] theorem State.onLegal_fwLoad (s : State) (f : Legal → Legal) : (s.onLegal f).fwLoad = s.fwLoad := rfl
@[simp] theorem State.onLegal_twin (s : State) (f : Legal → Legal) : (s.onLegal f).twin = s.twin := rfl
@[simp] theorem State.onLegal_ring (s : State) (f : Legal → Legal) : (s.onLegal f).ring = s.ring := rfl
@[simp] theorem State.onLegal_boot (s : State) (f : Legal → Legal) : (s.onLegal f).boot = s.boot := rfl
@[simp] theorem State.onLegal_island (s : State) (f : Legal → Legal) : (s.onLegal f).island = s.island := rfl
@[simp] theorem State.onLegal_keys (s : State) (f : Legal → Legal) : (s.onLegal f).keys = s.keys := rfl
@[simp] theorem State.onLegal_faults (s : State) (f : Legal → Legal) : (s.onLegal f).faults = s.faults := rfl
@[simp] theorem State.onLegal_free (s : State) (f : Legal → Legal) : (s.onLegal f).free = s.free := rfl
@[simp] theorem State.onLegal_pending (s : State) (f : Legal → Legal) : (s.onLegal f).pending = s.pending := rfl

/- onRegs changes legal. -/
@[simp] theorem State.onRegs_clock (s : State) (f : LegalRegs → LegalRegs) : (s.onRegs f).clock = s.clock := rfl
@[simp] theorem State.onRegs_gens (s : State) (f : LegalRegs → LegalRegs) : (s.onRegs f).gens = s.gens := rfl
@[simp] theorem State.onRegs_armed (s : State) (f : LegalRegs → LegalRegs) : (s.onRegs f).armed = s.armed := rfl
@[simp] theorem State.onRegs_courts (s : State) (f : LegalRegs → LegalRegs) : (s.onRegs f).courts = s.courts := rfl
@[simp] theorem State.onRegs_host (s : State) (f : LegalRegs → LegalRegs) : (s.onRegs f).host = s.host := rfl
@[simp] theorem State.onRegs_evt (s : State) (f : LegalRegs → LegalRegs) : (s.onRegs f).evt = s.evt := rfl
@[simp] theorem State.onRegs_regions (s : State) (f : LegalRegs → LegalRegs) : (s.onRegs f).regions = s.regions := rfl
@[simp] theorem State.onRegs_mem (s : State) (f : LegalRegs → LegalRegs) : (s.onRegs f).mem = s.mem := rfl
@[simp] theorem State.onRegs_bays (s : State) (f : LegalRegs → LegalRegs) : (s.onRegs f).bays = s.bays := rfl
@[simp] theorem State.onRegs_heads (s : State) (f : LegalRegs → LegalRegs) : (s.onRegs f).heads = s.heads := rfl
@[simp] theorem State.onRegs_slac (s : State) (f : LegalRegs → LegalRegs) : (s.onRegs f).slac = s.slac := rfl
@[simp] theorem State.onRegs_ledger (s : State) (f : LegalRegs → LegalRegs) : (s.onRegs f).ledger = s.ledger := rfl
@[simp] theorem State.onRegs_certs (s : State) (f : LegalRegs → LegalRegs) : (s.onRegs f).certs = s.certs := rfl
@[simp] theorem State.onRegs_safety (s : State) (f : LegalRegs → LegalRegs) : (s.onRegs f).safety = s.safety := rfl
@[simp] theorem State.onRegs_safePairs (s : State) (f : LegalRegs → LegalRegs) : (s.onRegs f).safePairs = s.safePairs := rfl
@[simp] theorem State.onRegs_safeAccepted (s : State) (f : LegalRegs → LegalRegs) : (s.onRegs f).safeAccepted = s.safeAccepted := rfl
@[simp] theorem State.onRegs_roundPos (s : State) (f : LegalRegs → LegalRegs) : (s.onRegs f).roundPos = s.roundPos := rfl
@[simp] theorem State.onRegs_legal (s : State) (f : LegalRegs → LegalRegs) : (s.onRegs f).legal = { s.legal with regs := f s.legal.regs } := rfl
@[simp] theorem State.onRegs_pulses (s : State) (f : LegalRegs → LegalRegs) : (s.onRegs f).pulses = s.pulses := rfl
@[simp] theorem State.onRegs_fwLoad (s : State) (f : LegalRegs → LegalRegs) : (s.onRegs f).fwLoad = s.fwLoad := rfl
@[simp] theorem State.onRegs_twin (s : State) (f : LegalRegs → LegalRegs) : (s.onRegs f).twin = s.twin := rfl
@[simp] theorem State.onRegs_ring (s : State) (f : LegalRegs → LegalRegs) : (s.onRegs f).ring = s.ring := rfl
@[simp] theorem State.onRegs_boot (s : State) (f : LegalRegs → LegalRegs) : (s.onRegs f).boot = s.boot := rfl
@[simp] theorem State.onRegs_island (s : State) (f : LegalRegs → LegalRegs) : (s.onRegs f).island = s.island := rfl
@[simp] theorem State.onRegs_keys (s : State) (f : LegalRegs → LegalRegs) : (s.onRegs f).keys = s.keys := rfl
@[simp] theorem State.onRegs_faults (s : State) (f : LegalRegs → LegalRegs) : (s.onRegs f).faults = s.faults := rfl
@[simp] theorem State.onRegs_free (s : State) (f : LegalRegs → LegalRegs) : (s.onRegs f).free = s.free := rfl
@[simp] theorem State.onRegs_pending (s : State) (f : LegalRegs → LegalRegs) : (s.onRegs f).pending = s.pending := rfl

/- onSafety changes safety. -/
@[simp] theorem State.onSafety_clock (s : State) (f : Safety → Safety) : (s.onSafety f).clock = s.clock := rfl
@[simp] theorem State.onSafety_gens (s : State) (f : Safety → Safety) : (s.onSafety f).gens = s.gens := rfl
@[simp] theorem State.onSafety_armed (s : State) (f : Safety → Safety) : (s.onSafety f).armed = s.armed := rfl
@[simp] theorem State.onSafety_courts (s : State) (f : Safety → Safety) : (s.onSafety f).courts = s.courts := rfl
@[simp] theorem State.onSafety_host (s : State) (f : Safety → Safety) : (s.onSafety f).host = s.host := rfl
@[simp] theorem State.onSafety_evt (s : State) (f : Safety → Safety) : (s.onSafety f).evt = s.evt := rfl
@[simp] theorem State.onSafety_regions (s : State) (f : Safety → Safety) : (s.onSafety f).regions = s.regions := rfl
@[simp] theorem State.onSafety_mem (s : State) (f : Safety → Safety) : (s.onSafety f).mem = s.mem := rfl
@[simp] theorem State.onSafety_bays (s : State) (f : Safety → Safety) : (s.onSafety f).bays = s.bays := rfl
@[simp] theorem State.onSafety_heads (s : State) (f : Safety → Safety) : (s.onSafety f).heads = s.heads := rfl
@[simp] theorem State.onSafety_slac (s : State) (f : Safety → Safety) : (s.onSafety f).slac = s.slac := rfl
@[simp] theorem State.onSafety_ledger (s : State) (f : Safety → Safety) : (s.onSafety f).ledger = s.ledger := rfl
@[simp] theorem State.onSafety_certs (s : State) (f : Safety → Safety) : (s.onSafety f).certs = s.certs := rfl
@[simp] theorem State.onSafety_safety (s : State) (f : Safety → Safety) : (s.onSafety f).safety = f s.safety := rfl
@[simp] theorem State.onSafety_safePairs (s : State) (f : Safety → Safety) : (s.onSafety f).safePairs = s.safePairs := rfl
@[simp] theorem State.onSafety_safeAccepted (s : State) (f : Safety → Safety) : (s.onSafety f).safeAccepted = s.safeAccepted := rfl
@[simp] theorem State.onSafety_roundPos (s : State) (f : Safety → Safety) : (s.onSafety f).roundPos = s.roundPos := rfl
@[simp] theorem State.onSafety_legal (s : State) (f : Safety → Safety) : (s.onSafety f).legal = s.legal := rfl
@[simp] theorem State.onSafety_pulses (s : State) (f : Safety → Safety) : (s.onSafety f).pulses = s.pulses := rfl
@[simp] theorem State.onSafety_fwLoad (s : State) (f : Safety → Safety) : (s.onSafety f).fwLoad = s.fwLoad := rfl
@[simp] theorem State.onSafety_twin (s : State) (f : Safety → Safety) : (s.onSafety f).twin = s.twin := rfl
@[simp] theorem State.onSafety_ring (s : State) (f : Safety → Safety) : (s.onSafety f).ring = s.ring := rfl
@[simp] theorem State.onSafety_boot (s : State) (f : Safety → Safety) : (s.onSafety f).boot = s.boot := rfl
@[simp] theorem State.onSafety_island (s : State) (f : Safety → Safety) : (s.onSafety f).island = s.island := rfl
@[simp] theorem State.onSafety_keys (s : State) (f : Safety → Safety) : (s.onSafety f).keys = s.keys := rfl
@[simp] theorem State.onSafety_faults (s : State) (f : Safety → Safety) : (s.onSafety f).faults = s.faults := rfl
@[simp] theorem State.onSafety_free (s : State) (f : Safety → Safety) : (s.onSafety f).free = s.free := rfl
@[simp] theorem State.onSafety_pending (s : State) (f : Safety → Safety) : (s.onSafety f).pending = s.pending := rfl

/- onTwin changes twin. -/
@[simp] theorem State.onTwin_clock (s : State) (f : Twin → Twin) : (s.onTwin f).clock = s.clock := rfl
@[simp] theorem State.onTwin_gens (s : State) (f : Twin → Twin) : (s.onTwin f).gens = s.gens := rfl
@[simp] theorem State.onTwin_armed (s : State) (f : Twin → Twin) : (s.onTwin f).armed = s.armed := rfl
@[simp] theorem State.onTwin_courts (s : State) (f : Twin → Twin) : (s.onTwin f).courts = s.courts := rfl
@[simp] theorem State.onTwin_host (s : State) (f : Twin → Twin) : (s.onTwin f).host = s.host := rfl
@[simp] theorem State.onTwin_evt (s : State) (f : Twin → Twin) : (s.onTwin f).evt = s.evt := rfl
@[simp] theorem State.onTwin_regions (s : State) (f : Twin → Twin) : (s.onTwin f).regions = s.regions := rfl
@[simp] theorem State.onTwin_mem (s : State) (f : Twin → Twin) : (s.onTwin f).mem = s.mem := rfl
@[simp] theorem State.onTwin_bays (s : State) (f : Twin → Twin) : (s.onTwin f).bays = s.bays := rfl
@[simp] theorem State.onTwin_heads (s : State) (f : Twin → Twin) : (s.onTwin f).heads = s.heads := rfl
@[simp] theorem State.onTwin_slac (s : State) (f : Twin → Twin) : (s.onTwin f).slac = s.slac := rfl
@[simp] theorem State.onTwin_ledger (s : State) (f : Twin → Twin) : (s.onTwin f).ledger = s.ledger := rfl
@[simp] theorem State.onTwin_certs (s : State) (f : Twin → Twin) : (s.onTwin f).certs = s.certs := rfl
@[simp] theorem State.onTwin_safety (s : State) (f : Twin → Twin) : (s.onTwin f).safety = s.safety := rfl
@[simp] theorem State.onTwin_safePairs (s : State) (f : Twin → Twin) : (s.onTwin f).safePairs = s.safePairs := rfl
@[simp] theorem State.onTwin_safeAccepted (s : State) (f : Twin → Twin) : (s.onTwin f).safeAccepted = s.safeAccepted := rfl
@[simp] theorem State.onTwin_roundPos (s : State) (f : Twin → Twin) : (s.onTwin f).roundPos = s.roundPos := rfl
@[simp] theorem State.onTwin_legal (s : State) (f : Twin → Twin) : (s.onTwin f).legal = s.legal := rfl
@[simp] theorem State.onTwin_pulses (s : State) (f : Twin → Twin) : (s.onTwin f).pulses = s.pulses := rfl
@[simp] theorem State.onTwin_fwLoad (s : State) (f : Twin → Twin) : (s.onTwin f).fwLoad = s.fwLoad := rfl
@[simp] theorem State.onTwin_twin (s : State) (f : Twin → Twin) : (s.onTwin f).twin = f s.twin := rfl
@[simp] theorem State.onTwin_ring (s : State) (f : Twin → Twin) : (s.onTwin f).ring = s.ring := rfl
@[simp] theorem State.onTwin_boot (s : State) (f : Twin → Twin) : (s.onTwin f).boot = s.boot := rfl
@[simp] theorem State.onTwin_island (s : State) (f : Twin → Twin) : (s.onTwin f).island = s.island := rfl
@[simp] theorem State.onTwin_keys (s : State) (f : Twin → Twin) : (s.onTwin f).keys = s.keys := rfl
@[simp] theorem State.onTwin_faults (s : State) (f : Twin → Twin) : (s.onTwin f).faults = s.faults := rfl
@[simp] theorem State.onTwin_free (s : State) (f : Twin → Twin) : (s.onTwin f).free = s.free := rfl
@[simp] theorem State.onTwin_pending (s : State) (f : Twin → Twin) : (s.onTwin f).pending = s.pending := rfl

/- onRing changes ring. -/
@[simp] theorem State.onRing_clock (s : State) (f : Ring → Ring) : (s.onRing f).clock = s.clock := rfl
@[simp] theorem State.onRing_gens (s : State) (f : Ring → Ring) : (s.onRing f).gens = s.gens := rfl
@[simp] theorem State.onRing_armed (s : State) (f : Ring → Ring) : (s.onRing f).armed = s.armed := rfl
@[simp] theorem State.onRing_courts (s : State) (f : Ring → Ring) : (s.onRing f).courts = s.courts := rfl
@[simp] theorem State.onRing_host (s : State) (f : Ring → Ring) : (s.onRing f).host = s.host := rfl
@[simp] theorem State.onRing_evt (s : State) (f : Ring → Ring) : (s.onRing f).evt = s.evt := rfl
@[simp] theorem State.onRing_regions (s : State) (f : Ring → Ring) : (s.onRing f).regions = s.regions := rfl
@[simp] theorem State.onRing_mem (s : State) (f : Ring → Ring) : (s.onRing f).mem = s.mem := rfl
@[simp] theorem State.onRing_bays (s : State) (f : Ring → Ring) : (s.onRing f).bays = s.bays := rfl
@[simp] theorem State.onRing_heads (s : State) (f : Ring → Ring) : (s.onRing f).heads = s.heads := rfl
@[simp] theorem State.onRing_slac (s : State) (f : Ring → Ring) : (s.onRing f).slac = s.slac := rfl
@[simp] theorem State.onRing_ledger (s : State) (f : Ring → Ring) : (s.onRing f).ledger = s.ledger := rfl
@[simp] theorem State.onRing_certs (s : State) (f : Ring → Ring) : (s.onRing f).certs = s.certs := rfl
@[simp] theorem State.onRing_safety (s : State) (f : Ring → Ring) : (s.onRing f).safety = s.safety := rfl
@[simp] theorem State.onRing_safePairs (s : State) (f : Ring → Ring) : (s.onRing f).safePairs = s.safePairs := rfl
@[simp] theorem State.onRing_safeAccepted (s : State) (f : Ring → Ring) : (s.onRing f).safeAccepted = s.safeAccepted := rfl
@[simp] theorem State.onRing_roundPos (s : State) (f : Ring → Ring) : (s.onRing f).roundPos = s.roundPos := rfl
@[simp] theorem State.onRing_legal (s : State) (f : Ring → Ring) : (s.onRing f).legal = s.legal := rfl
@[simp] theorem State.onRing_pulses (s : State) (f : Ring → Ring) : (s.onRing f).pulses = s.pulses := rfl
@[simp] theorem State.onRing_fwLoad (s : State) (f : Ring → Ring) : (s.onRing f).fwLoad = s.fwLoad := rfl
@[simp] theorem State.onRing_twin (s : State) (f : Ring → Ring) : (s.onRing f).twin = s.twin := rfl
@[simp] theorem State.onRing_ring (s : State) (f : Ring → Ring) : (s.onRing f).ring = f s.ring := rfl
@[simp] theorem State.onRing_boot (s : State) (f : Ring → Ring) : (s.onRing f).boot = s.boot := rfl
@[simp] theorem State.onRing_island (s : State) (f : Ring → Ring) : (s.onRing f).island = s.island := rfl
@[simp] theorem State.onRing_keys (s : State) (f : Ring → Ring) : (s.onRing f).keys = s.keys := rfl
@[simp] theorem State.onRing_faults (s : State) (f : Ring → Ring) : (s.onRing f).faults = s.faults := rfl
@[simp] theorem State.onRing_free (s : State) (f : Ring → Ring) : (s.onRing f).free = s.free := rfl
@[simp] theorem State.onRing_pending (s : State) (f : Ring → Ring) : (s.onRing f).pending = s.pending := rfl

/- onBoot changes boot. -/
@[simp] theorem State.onBoot_clock (s : State) (f : Boot → Boot) : (s.onBoot f).clock = s.clock := rfl
@[simp] theorem State.onBoot_gens (s : State) (f : Boot → Boot) : (s.onBoot f).gens = s.gens := rfl
@[simp] theorem State.onBoot_armed (s : State) (f : Boot → Boot) : (s.onBoot f).armed = s.armed := rfl
@[simp] theorem State.onBoot_courts (s : State) (f : Boot → Boot) : (s.onBoot f).courts = s.courts := rfl
@[simp] theorem State.onBoot_host (s : State) (f : Boot → Boot) : (s.onBoot f).host = s.host := rfl
@[simp] theorem State.onBoot_evt (s : State) (f : Boot → Boot) : (s.onBoot f).evt = s.evt := rfl
@[simp] theorem State.onBoot_regions (s : State) (f : Boot → Boot) : (s.onBoot f).regions = s.regions := rfl
@[simp] theorem State.onBoot_mem (s : State) (f : Boot → Boot) : (s.onBoot f).mem = s.mem := rfl
@[simp] theorem State.onBoot_bays (s : State) (f : Boot → Boot) : (s.onBoot f).bays = s.bays := rfl
@[simp] theorem State.onBoot_heads (s : State) (f : Boot → Boot) : (s.onBoot f).heads = s.heads := rfl
@[simp] theorem State.onBoot_slac (s : State) (f : Boot → Boot) : (s.onBoot f).slac = s.slac := rfl
@[simp] theorem State.onBoot_ledger (s : State) (f : Boot → Boot) : (s.onBoot f).ledger = s.ledger := rfl
@[simp] theorem State.onBoot_certs (s : State) (f : Boot → Boot) : (s.onBoot f).certs = s.certs := rfl
@[simp] theorem State.onBoot_safety (s : State) (f : Boot → Boot) : (s.onBoot f).safety = s.safety := rfl
@[simp] theorem State.onBoot_safePairs (s : State) (f : Boot → Boot) : (s.onBoot f).safePairs = s.safePairs := rfl
@[simp] theorem State.onBoot_safeAccepted (s : State) (f : Boot → Boot) : (s.onBoot f).safeAccepted = s.safeAccepted := rfl
@[simp] theorem State.onBoot_roundPos (s : State) (f : Boot → Boot) : (s.onBoot f).roundPos = s.roundPos := rfl
@[simp] theorem State.onBoot_legal (s : State) (f : Boot → Boot) : (s.onBoot f).legal = s.legal := rfl
@[simp] theorem State.onBoot_pulses (s : State) (f : Boot → Boot) : (s.onBoot f).pulses = s.pulses := rfl
@[simp] theorem State.onBoot_fwLoad (s : State) (f : Boot → Boot) : (s.onBoot f).fwLoad = s.fwLoad := rfl
@[simp] theorem State.onBoot_twin (s : State) (f : Boot → Boot) : (s.onBoot f).twin = s.twin := rfl
@[simp] theorem State.onBoot_ring (s : State) (f : Boot → Boot) : (s.onBoot f).ring = s.ring := rfl
@[simp] theorem State.onBoot_boot (s : State) (f : Boot → Boot) : (s.onBoot f).boot = f s.boot := rfl
@[simp] theorem State.onBoot_island (s : State) (f : Boot → Boot) : (s.onBoot f).island = s.island := rfl
@[simp] theorem State.onBoot_keys (s : State) (f : Boot → Boot) : (s.onBoot f).keys = s.keys := rfl
@[simp] theorem State.onBoot_faults (s : State) (f : Boot → Boot) : (s.onBoot f).faults = s.faults := rfl
@[simp] theorem State.onBoot_free (s : State) (f : Boot → Boot) : (s.onBoot f).free = s.free := rfl
@[simp] theorem State.onBoot_pending (s : State) (f : Boot → Boot) : (s.onBoot f).pending = s.pending := rfl

/- onIsland changes island. -/
@[simp] theorem State.onIsland_clock (s : State) (f : Island → Island) : (s.onIsland f).clock = s.clock := rfl
@[simp] theorem State.onIsland_gens (s : State) (f : Island → Island) : (s.onIsland f).gens = s.gens := rfl
@[simp] theorem State.onIsland_armed (s : State) (f : Island → Island) : (s.onIsland f).armed = s.armed := rfl
@[simp] theorem State.onIsland_courts (s : State) (f : Island → Island) : (s.onIsland f).courts = s.courts := rfl
@[simp] theorem State.onIsland_host (s : State) (f : Island → Island) : (s.onIsland f).host = s.host := rfl
@[simp] theorem State.onIsland_evt (s : State) (f : Island → Island) : (s.onIsland f).evt = s.evt := rfl
@[simp] theorem State.onIsland_regions (s : State) (f : Island → Island) : (s.onIsland f).regions = s.regions := rfl
@[simp] theorem State.onIsland_mem (s : State) (f : Island → Island) : (s.onIsland f).mem = s.mem := rfl
@[simp] theorem State.onIsland_bays (s : State) (f : Island → Island) : (s.onIsland f).bays = s.bays := rfl
@[simp] theorem State.onIsland_heads (s : State) (f : Island → Island) : (s.onIsland f).heads = s.heads := rfl
@[simp] theorem State.onIsland_slac (s : State) (f : Island → Island) : (s.onIsland f).slac = s.slac := rfl
@[simp] theorem State.onIsland_ledger (s : State) (f : Island → Island) : (s.onIsland f).ledger = s.ledger := rfl
@[simp] theorem State.onIsland_certs (s : State) (f : Island → Island) : (s.onIsland f).certs = s.certs := rfl
@[simp] theorem State.onIsland_safety (s : State) (f : Island → Island) : (s.onIsland f).safety = s.safety := rfl
@[simp] theorem State.onIsland_safePairs (s : State) (f : Island → Island) : (s.onIsland f).safePairs = s.safePairs := rfl
@[simp] theorem State.onIsland_safeAccepted (s : State) (f : Island → Island) : (s.onIsland f).safeAccepted = s.safeAccepted := rfl
@[simp] theorem State.onIsland_roundPos (s : State) (f : Island → Island) : (s.onIsland f).roundPos = s.roundPos := rfl
@[simp] theorem State.onIsland_legal (s : State) (f : Island → Island) : (s.onIsland f).legal = s.legal := rfl
@[simp] theorem State.onIsland_pulses (s : State) (f : Island → Island) : (s.onIsland f).pulses = s.pulses := rfl
@[simp] theorem State.onIsland_fwLoad (s : State) (f : Island → Island) : (s.onIsland f).fwLoad = s.fwLoad := rfl
@[simp] theorem State.onIsland_twin (s : State) (f : Island → Island) : (s.onIsland f).twin = s.twin := rfl
@[simp] theorem State.onIsland_ring (s : State) (f : Island → Island) : (s.onIsland f).ring = s.ring := rfl
@[simp] theorem State.onIsland_boot (s : State) (f : Island → Island) : (s.onIsland f).boot = s.boot := rfl
@[simp] theorem State.onIsland_island (s : State) (f : Island → Island) : (s.onIsland f).island = f s.island := rfl
@[simp] theorem State.onIsland_keys (s : State) (f : Island → Island) : (s.onIsland f).keys = s.keys := rfl
@[simp] theorem State.onIsland_faults (s : State) (f : Island → Island) : (s.onIsland f).faults = s.faults := rfl
@[simp] theorem State.onIsland_free (s : State) (f : Island → Island) : (s.onIsland f).free = s.free := rfl
@[simp] theorem State.onIsland_pending (s : State) (f : Island → Island) : (s.onIsland f).pending = s.pending := rfl

/- onFaults changes faults. -/
@[simp] theorem State.onFaults_clock (s : State) (f : Faults → Faults) : (s.onFaults f).clock = s.clock := rfl
@[simp] theorem State.onFaults_gens (s : State) (f : Faults → Faults) : (s.onFaults f).gens = s.gens := rfl
@[simp] theorem State.onFaults_armed (s : State) (f : Faults → Faults) : (s.onFaults f).armed = s.armed := rfl
@[simp] theorem State.onFaults_courts (s : State) (f : Faults → Faults) : (s.onFaults f).courts = s.courts := rfl
@[simp] theorem State.onFaults_host (s : State) (f : Faults → Faults) : (s.onFaults f).host = s.host := rfl
@[simp] theorem State.onFaults_evt (s : State) (f : Faults → Faults) : (s.onFaults f).evt = s.evt := rfl
@[simp] theorem State.onFaults_regions (s : State) (f : Faults → Faults) : (s.onFaults f).regions = s.regions := rfl
@[simp] theorem State.onFaults_mem (s : State) (f : Faults → Faults) : (s.onFaults f).mem = s.mem := rfl
@[simp] theorem State.onFaults_bays (s : State) (f : Faults → Faults) : (s.onFaults f).bays = s.bays := rfl
@[simp] theorem State.onFaults_heads (s : State) (f : Faults → Faults) : (s.onFaults f).heads = s.heads := rfl
@[simp] theorem State.onFaults_slac (s : State) (f : Faults → Faults) : (s.onFaults f).slac = s.slac := rfl
@[simp] theorem State.onFaults_ledger (s : State) (f : Faults → Faults) : (s.onFaults f).ledger = s.ledger := rfl
@[simp] theorem State.onFaults_certs (s : State) (f : Faults → Faults) : (s.onFaults f).certs = s.certs := rfl
@[simp] theorem State.onFaults_safety (s : State) (f : Faults → Faults) : (s.onFaults f).safety = s.safety := rfl
@[simp] theorem State.onFaults_safePairs (s : State) (f : Faults → Faults) : (s.onFaults f).safePairs = s.safePairs := rfl
@[simp] theorem State.onFaults_safeAccepted (s : State) (f : Faults → Faults) : (s.onFaults f).safeAccepted = s.safeAccepted := rfl
@[simp] theorem State.onFaults_roundPos (s : State) (f : Faults → Faults) : (s.onFaults f).roundPos = s.roundPos := rfl
@[simp] theorem State.onFaults_legal (s : State) (f : Faults → Faults) : (s.onFaults f).legal = s.legal := rfl
@[simp] theorem State.onFaults_pulses (s : State) (f : Faults → Faults) : (s.onFaults f).pulses = s.pulses := rfl
@[simp] theorem State.onFaults_fwLoad (s : State) (f : Faults → Faults) : (s.onFaults f).fwLoad = s.fwLoad := rfl
@[simp] theorem State.onFaults_twin (s : State) (f : Faults → Faults) : (s.onFaults f).twin = s.twin := rfl
@[simp] theorem State.onFaults_ring (s : State) (f : Faults → Faults) : (s.onFaults f).ring = s.ring := rfl
@[simp] theorem State.onFaults_boot (s : State) (f : Faults → Faults) : (s.onFaults f).boot = s.boot := rfl
@[simp] theorem State.onFaults_island (s : State) (f : Faults → Faults) : (s.onFaults f).island = s.island := rfl
@[simp] theorem State.onFaults_keys (s : State) (f : Faults → Faults) : (s.onFaults f).keys = s.keys := rfl
@[simp] theorem State.onFaults_faults (s : State) (f : Faults → Faults) : (s.onFaults f).faults = f s.faults := rfl
@[simp] theorem State.onFaults_free (s : State) (f : Faults → Faults) : (s.onFaults f).free = s.free := rfl
@[simp] theorem State.onFaults_pending (s : State) (f : Faults → Faults) : (s.onFaults f).pending = s.pending := rfl

/- onLink changes bays. -/
@[simp] theorem State.onLink_clock (s : State) (b : BayId) (f : Link → Link) : (s.onLink b f).clock = s.clock := rfl
@[simp] theorem State.onLink_gens (s : State) (b : BayId) (f : Link → Link) : (s.onLink b f).gens = s.gens := rfl
@[simp] theorem State.onLink_armed (s : State) (b : BayId) (f : Link → Link) : (s.onLink b f).armed = s.armed := rfl
@[simp] theorem State.onLink_courts (s : State) (b : BayId) (f : Link → Link) : (s.onLink b f).courts = s.courts := rfl
@[simp] theorem State.onLink_host (s : State) (b : BayId) (f : Link → Link) : (s.onLink b f).host = s.host := rfl
@[simp] theorem State.onLink_evt (s : State) (b : BayId) (f : Link → Link) : (s.onLink b f).evt = s.evt := rfl
@[simp] theorem State.onLink_regions (s : State) (b : BayId) (f : Link → Link) : (s.onLink b f).regions = s.regions := rfl
@[simp] theorem State.onLink_mem (s : State) (b : BayId) (f : Link → Link) : (s.onLink b f).mem = s.mem := rfl
@[simp] theorem State.onLink_bays (s : State) (b : BayId) (f : Link → Link) : (s.onLink b f).bays = vmod s.bays b fun y => { y with link := f y.link } := rfl
@[simp] theorem State.onLink_heads (s : State) (b : BayId) (f : Link → Link) : (s.onLink b f).heads = s.heads := rfl
@[simp] theorem State.onLink_slac (s : State) (b : BayId) (f : Link → Link) : (s.onLink b f).slac = s.slac := rfl
@[simp] theorem State.onLink_ledger (s : State) (b : BayId) (f : Link → Link) : (s.onLink b f).ledger = s.ledger := rfl
@[simp] theorem State.onLink_certs (s : State) (b : BayId) (f : Link → Link) : (s.onLink b f).certs = s.certs := rfl
@[simp] theorem State.onLink_safety (s : State) (b : BayId) (f : Link → Link) : (s.onLink b f).safety = s.safety := rfl
@[simp] theorem State.onLink_safePairs (s : State) (b : BayId) (f : Link → Link) : (s.onLink b f).safePairs = s.safePairs := rfl
@[simp] theorem State.onLink_safeAccepted (s : State) (b : BayId) (f : Link → Link) : (s.onLink b f).safeAccepted = s.safeAccepted := rfl
@[simp] theorem State.onLink_roundPos (s : State) (b : BayId) (f : Link → Link) : (s.onLink b f).roundPos = s.roundPos := rfl
@[simp] theorem State.onLink_legal (s : State) (b : BayId) (f : Link → Link) : (s.onLink b f).legal = s.legal := rfl
@[simp] theorem State.onLink_pulses (s : State) (b : BayId) (f : Link → Link) : (s.onLink b f).pulses = s.pulses := rfl
@[simp] theorem State.onLink_fwLoad (s : State) (b : BayId) (f : Link → Link) : (s.onLink b f).fwLoad = s.fwLoad := rfl
@[simp] theorem State.onLink_twin (s : State) (b : BayId) (f : Link → Link) : (s.onLink b f).twin = s.twin := rfl
@[simp] theorem State.onLink_ring (s : State) (b : BayId) (f : Link → Link) : (s.onLink b f).ring = s.ring := rfl
@[simp] theorem State.onLink_boot (s : State) (b : BayId) (f : Link → Link) : (s.onLink b f).boot = s.boot := rfl
@[simp] theorem State.onLink_island (s : State) (b : BayId) (f : Link → Link) : (s.onLink b f).island = s.island := rfl
@[simp] theorem State.onLink_keys (s : State) (b : BayId) (f : Link → Link) : (s.onLink b f).keys = s.keys := rfl
@[simp] theorem State.onLink_faults (s : State) (b : BayId) (f : Link → Link) : (s.onLink b f).faults = s.faults := rfl
@[simp] theorem State.onLink_free (s : State) (b : BayId) (f : Link → Link) : (s.onLink b f).free = s.free := rfl
@[simp] theorem State.onLink_pending (s : State) (b : BayId) (f : Link → Link) : (s.onLink b f).pending = s.pending := rfl

/- onGrp changes bays. -/
@[simp] theorem State.onGrp_clock (s : State) (b : BayId) (f : Grp → Grp) : (s.onGrp b f).clock = s.clock := rfl
@[simp] theorem State.onGrp_gens (s : State) (b : BayId) (f : Grp → Grp) : (s.onGrp b f).gens = s.gens := rfl
@[simp] theorem State.onGrp_armed (s : State) (b : BayId) (f : Grp → Grp) : (s.onGrp b f).armed = s.armed := rfl
@[simp] theorem State.onGrp_courts (s : State) (b : BayId) (f : Grp → Grp) : (s.onGrp b f).courts = s.courts := rfl
@[simp] theorem State.onGrp_host (s : State) (b : BayId) (f : Grp → Grp) : (s.onGrp b f).host = s.host := rfl
@[simp] theorem State.onGrp_evt (s : State) (b : BayId) (f : Grp → Grp) : (s.onGrp b f).evt = s.evt := rfl
@[simp] theorem State.onGrp_regions (s : State) (b : BayId) (f : Grp → Grp) : (s.onGrp b f).regions = s.regions := rfl
@[simp] theorem State.onGrp_mem (s : State) (b : BayId) (f : Grp → Grp) : (s.onGrp b f).mem = s.mem := rfl
@[simp] theorem State.onGrp_bays (s : State) (b : BayId) (f : Grp → Grp) : (s.onGrp b f).bays = vmod s.bays b fun y => { y with grp := f y.grp } := rfl
@[simp] theorem State.onGrp_heads (s : State) (b : BayId) (f : Grp → Grp) : (s.onGrp b f).heads = s.heads := rfl
@[simp] theorem State.onGrp_slac (s : State) (b : BayId) (f : Grp → Grp) : (s.onGrp b f).slac = s.slac := rfl
@[simp] theorem State.onGrp_ledger (s : State) (b : BayId) (f : Grp → Grp) : (s.onGrp b f).ledger = s.ledger := rfl
@[simp] theorem State.onGrp_certs (s : State) (b : BayId) (f : Grp → Grp) : (s.onGrp b f).certs = s.certs := rfl
@[simp] theorem State.onGrp_safety (s : State) (b : BayId) (f : Grp → Grp) : (s.onGrp b f).safety = s.safety := rfl
@[simp] theorem State.onGrp_safePairs (s : State) (b : BayId) (f : Grp → Grp) : (s.onGrp b f).safePairs = s.safePairs := rfl
@[simp] theorem State.onGrp_safeAccepted (s : State) (b : BayId) (f : Grp → Grp) : (s.onGrp b f).safeAccepted = s.safeAccepted := rfl
@[simp] theorem State.onGrp_roundPos (s : State) (b : BayId) (f : Grp → Grp) : (s.onGrp b f).roundPos = s.roundPos := rfl
@[simp] theorem State.onGrp_legal (s : State) (b : BayId) (f : Grp → Grp) : (s.onGrp b f).legal = s.legal := rfl
@[simp] theorem State.onGrp_pulses (s : State) (b : BayId) (f : Grp → Grp) : (s.onGrp b f).pulses = s.pulses := rfl
@[simp] theorem State.onGrp_fwLoad (s : State) (b : BayId) (f : Grp → Grp) : (s.onGrp b f).fwLoad = s.fwLoad := rfl
@[simp] theorem State.onGrp_twin (s : State) (b : BayId) (f : Grp → Grp) : (s.onGrp b f).twin = s.twin := rfl
@[simp] theorem State.onGrp_ring (s : State) (b : BayId) (f : Grp → Grp) : (s.onGrp b f).ring = s.ring := rfl
@[simp] theorem State.onGrp_boot (s : State) (b : BayId) (f : Grp → Grp) : (s.onGrp b f).boot = s.boot := rfl
@[simp] theorem State.onGrp_island (s : State) (b : BayId) (f : Grp → Grp) : (s.onGrp b f).island = s.island := rfl
@[simp] theorem State.onGrp_keys (s : State) (b : BayId) (f : Grp → Grp) : (s.onGrp b f).keys = s.keys := rfl
@[simp] theorem State.onGrp_faults (s : State) (b : BayId) (f : Grp → Grp) : (s.onGrp b f).faults = s.faults := rfl
@[simp] theorem State.onGrp_free (s : State) (b : BayId) (f : Grp → Grp) : (s.onGrp b f).free = s.free := rfl
@[simp] theorem State.onGrp_pending (s : State) (b : BayId) (f : Grp → Grp) : (s.onGrp b f).pending = s.pending := rfl

/- onEarth changes bays. -/
@[simp] theorem State.onEarth_clock (s : State) (b : BayId) (f : Earth → Earth) : (s.onEarth b f).clock = s.clock := rfl
@[simp] theorem State.onEarth_gens (s : State) (b : BayId) (f : Earth → Earth) : (s.onEarth b f).gens = s.gens := rfl
@[simp] theorem State.onEarth_armed (s : State) (b : BayId) (f : Earth → Earth) : (s.onEarth b f).armed = s.armed := rfl
@[simp] theorem State.onEarth_courts (s : State) (b : BayId) (f : Earth → Earth) : (s.onEarth b f).courts = s.courts := rfl
@[simp] theorem State.onEarth_host (s : State) (b : BayId) (f : Earth → Earth) : (s.onEarth b f).host = s.host := rfl
@[simp] theorem State.onEarth_evt (s : State) (b : BayId) (f : Earth → Earth) : (s.onEarth b f).evt = s.evt := rfl
@[simp] theorem State.onEarth_regions (s : State) (b : BayId) (f : Earth → Earth) : (s.onEarth b f).regions = s.regions := rfl
@[simp] theorem State.onEarth_mem (s : State) (b : BayId) (f : Earth → Earth) : (s.onEarth b f).mem = s.mem := rfl
@[simp] theorem State.onEarth_bays (s : State) (b : BayId) (f : Earth → Earth) : (s.onEarth b f).bays = vmod s.bays b fun y => { y with earth := f y.earth } := rfl
@[simp] theorem State.onEarth_heads (s : State) (b : BayId) (f : Earth → Earth) : (s.onEarth b f).heads = s.heads := rfl
@[simp] theorem State.onEarth_slac (s : State) (b : BayId) (f : Earth → Earth) : (s.onEarth b f).slac = s.slac := rfl
@[simp] theorem State.onEarth_ledger (s : State) (b : BayId) (f : Earth → Earth) : (s.onEarth b f).ledger = s.ledger := rfl
@[simp] theorem State.onEarth_certs (s : State) (b : BayId) (f : Earth → Earth) : (s.onEarth b f).certs = s.certs := rfl
@[simp] theorem State.onEarth_safety (s : State) (b : BayId) (f : Earth → Earth) : (s.onEarth b f).safety = s.safety := rfl
@[simp] theorem State.onEarth_safePairs (s : State) (b : BayId) (f : Earth → Earth) : (s.onEarth b f).safePairs = s.safePairs := rfl
@[simp] theorem State.onEarth_safeAccepted (s : State) (b : BayId) (f : Earth → Earth) : (s.onEarth b f).safeAccepted = s.safeAccepted := rfl
@[simp] theorem State.onEarth_roundPos (s : State) (b : BayId) (f : Earth → Earth) : (s.onEarth b f).roundPos = s.roundPos := rfl
@[simp] theorem State.onEarth_legal (s : State) (b : BayId) (f : Earth → Earth) : (s.onEarth b f).legal = s.legal := rfl
@[simp] theorem State.onEarth_pulses (s : State) (b : BayId) (f : Earth → Earth) : (s.onEarth b f).pulses = s.pulses := rfl
@[simp] theorem State.onEarth_fwLoad (s : State) (b : BayId) (f : Earth → Earth) : (s.onEarth b f).fwLoad = s.fwLoad := rfl
@[simp] theorem State.onEarth_twin (s : State) (b : BayId) (f : Earth → Earth) : (s.onEarth b f).twin = s.twin := rfl
@[simp] theorem State.onEarth_ring (s : State) (b : BayId) (f : Earth → Earth) : (s.onEarth b f).ring = s.ring := rfl
@[simp] theorem State.onEarth_boot (s : State) (b : BayId) (f : Earth → Earth) : (s.onEarth b f).boot = s.boot := rfl
@[simp] theorem State.onEarth_island (s : State) (b : BayId) (f : Earth → Earth) : (s.onEarth b f).island = s.island := rfl
@[simp] theorem State.onEarth_keys (s : State) (b : BayId) (f : Earth → Earth) : (s.onEarth b f).keys = s.keys := rfl
@[simp] theorem State.onEarth_faults (s : State) (b : BayId) (f : Earth → Earth) : (s.onEarth b f).faults = s.faults := rfl
@[simp] theorem State.onEarth_free (s : State) (b : BayId) (f : Earth → Earth) : (s.onEarth b f).free = s.free := rfl
@[simp] theorem State.onEarth_pending (s : State) (b : BayId) (f : Earth → Earth) : (s.onEarth b f).pending = s.pending := rfl

/- onGuard changes bays. -/
@[simp] theorem State.onGuard_clock (s : State) (b : BayId) (f : Guard → Guard) : (s.onGuard b f).clock = s.clock := rfl
@[simp] theorem State.onGuard_gens (s : State) (b : BayId) (f : Guard → Guard) : (s.onGuard b f).gens = s.gens := rfl
@[simp] theorem State.onGuard_armed (s : State) (b : BayId) (f : Guard → Guard) : (s.onGuard b f).armed = s.armed := rfl
@[simp] theorem State.onGuard_courts (s : State) (b : BayId) (f : Guard → Guard) : (s.onGuard b f).courts = s.courts := rfl
@[simp] theorem State.onGuard_host (s : State) (b : BayId) (f : Guard → Guard) : (s.onGuard b f).host = s.host := rfl
@[simp] theorem State.onGuard_evt (s : State) (b : BayId) (f : Guard → Guard) : (s.onGuard b f).evt = s.evt := rfl
@[simp] theorem State.onGuard_regions (s : State) (b : BayId) (f : Guard → Guard) : (s.onGuard b f).regions = s.regions := rfl
@[simp] theorem State.onGuard_mem (s : State) (b : BayId) (f : Guard → Guard) : (s.onGuard b f).mem = s.mem := rfl
@[simp] theorem State.onGuard_bays (s : State) (b : BayId) (f : Guard → Guard) : (s.onGuard b f).bays = vmod s.bays b fun y => { y with guard := f y.guard } := rfl
@[simp] theorem State.onGuard_heads (s : State) (b : BayId) (f : Guard → Guard) : (s.onGuard b f).heads = s.heads := rfl
@[simp] theorem State.onGuard_slac (s : State) (b : BayId) (f : Guard → Guard) : (s.onGuard b f).slac = s.slac := rfl
@[simp] theorem State.onGuard_ledger (s : State) (b : BayId) (f : Guard → Guard) : (s.onGuard b f).ledger = s.ledger := rfl
@[simp] theorem State.onGuard_certs (s : State) (b : BayId) (f : Guard → Guard) : (s.onGuard b f).certs = s.certs := rfl
@[simp] theorem State.onGuard_safety (s : State) (b : BayId) (f : Guard → Guard) : (s.onGuard b f).safety = s.safety := rfl
@[simp] theorem State.onGuard_safePairs (s : State) (b : BayId) (f : Guard → Guard) : (s.onGuard b f).safePairs = s.safePairs := rfl
@[simp] theorem State.onGuard_safeAccepted (s : State) (b : BayId) (f : Guard → Guard) : (s.onGuard b f).safeAccepted = s.safeAccepted := rfl
@[simp] theorem State.onGuard_roundPos (s : State) (b : BayId) (f : Guard → Guard) : (s.onGuard b f).roundPos = s.roundPos := rfl
@[simp] theorem State.onGuard_legal (s : State) (b : BayId) (f : Guard → Guard) : (s.onGuard b f).legal = s.legal := rfl
@[simp] theorem State.onGuard_pulses (s : State) (b : BayId) (f : Guard → Guard) : (s.onGuard b f).pulses = s.pulses := rfl
@[simp] theorem State.onGuard_fwLoad (s : State) (b : BayId) (f : Guard → Guard) : (s.onGuard b f).fwLoad = s.fwLoad := rfl
@[simp] theorem State.onGuard_twin (s : State) (b : BayId) (f : Guard → Guard) : (s.onGuard b f).twin = s.twin := rfl
@[simp] theorem State.onGuard_ring (s : State) (b : BayId) (f : Guard → Guard) : (s.onGuard b f).ring = s.ring := rfl
@[simp] theorem State.onGuard_boot (s : State) (b : BayId) (f : Guard → Guard) : (s.onGuard b f).boot = s.boot := rfl
@[simp] theorem State.onGuard_island (s : State) (b : BayId) (f : Guard → Guard) : (s.onGuard b f).island = s.island := rfl
@[simp] theorem State.onGuard_keys (s : State) (b : BayId) (f : Guard → Guard) : (s.onGuard b f).keys = s.keys := rfl
@[simp] theorem State.onGuard_faults (s : State) (b : BayId) (f : Guard → Guard) : (s.onGuard b f).faults = s.faults := rfl
@[simp] theorem State.onGuard_free (s : State) (b : BayId) (f : Guard → Guard) : (s.onGuard b f).free = s.free := rfl
@[simp] theorem State.onGuard_pending (s : State) (b : BayId) (f : Guard → Guard) : (s.onGuard b f).pending = s.pending := rfl

/- stage changes bays. -/
@[simp] theorem State.stage_clock (s : State) (b : BayId) (off : Nat) (e : Ev) : (s.stage b off e).clock = s.clock := rfl
@[simp] theorem State.stage_gens (s : State) (b : BayId) (off : Nat) (e : Ev) : (s.stage b off e).gens = s.gens := rfl
@[simp] theorem State.stage_armed (s : State) (b : BayId) (off : Nat) (e : Ev) : (s.stage b off e).armed = s.armed := rfl
@[simp] theorem State.stage_courts (s : State) (b : BayId) (off : Nat) (e : Ev) : (s.stage b off e).courts = s.courts := rfl
@[simp] theorem State.stage_host (s : State) (b : BayId) (off : Nat) (e : Ev) : (s.stage b off e).host = s.host := rfl
@[simp] theorem State.stage_evt (s : State) (b : BayId) (off : Nat) (e : Ev) : (s.stage b off e).evt = s.evt := rfl
@[simp] theorem State.stage_regions (s : State) (b : BayId) (off : Nat) (e : Ev) : (s.stage b off e).regions = s.regions := rfl
@[simp] theorem State.stage_mem (s : State) (b : BayId) (off : Nat) (e : Ev) : (s.stage b off e).mem = s.mem := rfl
@[simp] theorem State.stage_bays (s : State) (b : BayId) (off : Nat) (e : Ev) : (s.stage b off e).bays = vmod s.bays b fun y => { y with staged := y.staged ++ [(off, e)] } := rfl
@[simp] theorem State.stage_heads (s : State) (b : BayId) (off : Nat) (e : Ev) : (s.stage b off e).heads = s.heads := rfl
@[simp] theorem State.stage_slac (s : State) (b : BayId) (off : Nat) (e : Ev) : (s.stage b off e).slac = s.slac := rfl
@[simp] theorem State.stage_ledger (s : State) (b : BayId) (off : Nat) (e : Ev) : (s.stage b off e).ledger = s.ledger := rfl
@[simp] theorem State.stage_certs (s : State) (b : BayId) (off : Nat) (e : Ev) : (s.stage b off e).certs = s.certs := rfl
@[simp] theorem State.stage_safety (s : State) (b : BayId) (off : Nat) (e : Ev) : (s.stage b off e).safety = s.safety := rfl
@[simp] theorem State.stage_safePairs (s : State) (b : BayId) (off : Nat) (e : Ev) : (s.stage b off e).safePairs = s.safePairs := rfl
@[simp] theorem State.stage_safeAccepted (s : State) (b : BayId) (off : Nat) (e : Ev) : (s.stage b off e).safeAccepted = s.safeAccepted := rfl
@[simp] theorem State.stage_roundPos (s : State) (b : BayId) (off : Nat) (e : Ev) : (s.stage b off e).roundPos = s.roundPos := rfl
@[simp] theorem State.stage_legal (s : State) (b : BayId) (off : Nat) (e : Ev) : (s.stage b off e).legal = s.legal := rfl
@[simp] theorem State.stage_pulses (s : State) (b : BayId) (off : Nat) (e : Ev) : (s.stage b off e).pulses = s.pulses := rfl
@[simp] theorem State.stage_fwLoad (s : State) (b : BayId) (off : Nat) (e : Ev) : (s.stage b off e).fwLoad = s.fwLoad := rfl
@[simp] theorem State.stage_twin (s : State) (b : BayId) (off : Nat) (e : Ev) : (s.stage b off e).twin = s.twin := rfl
@[simp] theorem State.stage_ring (s : State) (b : BayId) (off : Nat) (e : Ev) : (s.stage b off e).ring = s.ring := rfl
@[simp] theorem State.stage_boot (s : State) (b : BayId) (off : Nat) (e : Ev) : (s.stage b off e).boot = s.boot := rfl
@[simp] theorem State.stage_island (s : State) (b : BayId) (off : Nat) (e : Ev) : (s.stage b off e).island = s.island := rfl
@[simp] theorem State.stage_keys (s : State) (b : BayId) (off : Nat) (e : Ev) : (s.stage b off e).keys = s.keys := rfl
@[simp] theorem State.stage_faults (s : State) (b : BayId) (off : Nat) (e : Ev) : (s.stage b off e).faults = s.faults := rfl
@[simp] theorem State.stage_free (s : State) (b : BayId) (off : Nat) (e : Ev) : (s.stage b off e).free = s.free := rfl
@[simp] theorem State.stage_pending (s : State) (b : BayId) (off : Nat) (e : Ev) : (s.stage b off e).pending = s.pending := rfl

/- drawn changes free. -/
@[simp] theorem State.drawn_clock (s : State) : s.drawn.clock = s.clock := rfl
@[simp] theorem State.drawn_gens (s : State) : s.drawn.gens = s.gens := rfl
@[simp] theorem State.drawn_armed (s : State) : s.drawn.armed = s.armed := rfl
@[simp] theorem State.drawn_courts (s : State) : s.drawn.courts = s.courts := rfl
@[simp] theorem State.drawn_host (s : State) : s.drawn.host = s.host := rfl
@[simp] theorem State.drawn_evt (s : State) : s.drawn.evt = s.evt := rfl
@[simp] theorem State.drawn_regions (s : State) : s.drawn.regions = s.regions := rfl
@[simp] theorem State.drawn_mem (s : State) : s.drawn.mem = s.mem := rfl
@[simp] theorem State.drawn_bays (s : State) : s.drawn.bays = s.bays := rfl
@[simp] theorem State.drawn_heads (s : State) : s.drawn.heads = s.heads := rfl
@[simp] theorem State.drawn_slac (s : State) : s.drawn.slac = s.slac := rfl
@[simp] theorem State.drawn_ledger (s : State) : s.drawn.ledger = s.ledger := rfl
@[simp] theorem State.drawn_certs (s : State) : s.drawn.certs = s.certs := rfl
@[simp] theorem State.drawn_safety (s : State) : s.drawn.safety = s.safety := rfl
@[simp] theorem State.drawn_safePairs (s : State) : s.drawn.safePairs = s.safePairs := rfl
@[simp] theorem State.drawn_safeAccepted (s : State) : s.drawn.safeAccepted = s.safeAccepted := rfl
@[simp] theorem State.drawn_roundPos (s : State) : s.drawn.roundPos = s.roundPos := rfl
@[simp] theorem State.drawn_legal (s : State) : s.drawn.legal = s.legal := rfl
@[simp] theorem State.drawn_pulses (s : State) : s.drawn.pulses = s.pulses := rfl
@[simp] theorem State.drawn_fwLoad (s : State) : s.drawn.fwLoad = s.fwLoad := rfl
@[simp] theorem State.drawn_twin (s : State) : s.drawn.twin = s.twin := rfl
@[simp] theorem State.drawn_ring (s : State) : s.drawn.ring = s.ring := rfl
@[simp] theorem State.drawn_boot (s : State) : s.drawn.boot = s.boot := rfl
@[simp] theorem State.drawn_island (s : State) : s.drawn.island = s.island := rfl
@[simp] theorem State.drawn_keys (s : State) : s.drawn.keys = s.keys := rfl
@[simp] theorem State.drawn_faults (s : State) : s.drawn.faults = s.faults := rfl
@[simp] theorem State.drawn_free (s : State) : s.drawn.free = s.free + 1 := rfl
@[simp] theorem State.drawn_pending (s : State) : s.drawn.pending = s.pending := rfl

/- drawnN changes free. -/
@[simp] theorem State.drawnN_clock (s : State) (n : Nat) : (s.drawnN n).clock = s.clock := rfl
@[simp] theorem State.drawnN_gens (s : State) (n : Nat) : (s.drawnN n).gens = s.gens := rfl
@[simp] theorem State.drawnN_armed (s : State) (n : Nat) : (s.drawnN n).armed = s.armed := rfl
@[simp] theorem State.drawnN_courts (s : State) (n : Nat) : (s.drawnN n).courts = s.courts := rfl
@[simp] theorem State.drawnN_host (s : State) (n : Nat) : (s.drawnN n).host = s.host := rfl
@[simp] theorem State.drawnN_evt (s : State) (n : Nat) : (s.drawnN n).evt = s.evt := rfl
@[simp] theorem State.drawnN_regions (s : State) (n : Nat) : (s.drawnN n).regions = s.regions := rfl
@[simp] theorem State.drawnN_mem (s : State) (n : Nat) : (s.drawnN n).mem = s.mem := rfl
@[simp] theorem State.drawnN_bays (s : State) (n : Nat) : (s.drawnN n).bays = s.bays := rfl
@[simp] theorem State.drawnN_heads (s : State) (n : Nat) : (s.drawnN n).heads = s.heads := rfl
@[simp] theorem State.drawnN_slac (s : State) (n : Nat) : (s.drawnN n).slac = s.slac := rfl
@[simp] theorem State.drawnN_ledger (s : State) (n : Nat) : (s.drawnN n).ledger = s.ledger := rfl
@[simp] theorem State.drawnN_certs (s : State) (n : Nat) : (s.drawnN n).certs = s.certs := rfl
@[simp] theorem State.drawnN_safety (s : State) (n : Nat) : (s.drawnN n).safety = s.safety := rfl
@[simp] theorem State.drawnN_safePairs (s : State) (n : Nat) : (s.drawnN n).safePairs = s.safePairs := rfl
@[simp] theorem State.drawnN_safeAccepted (s : State) (n : Nat) : (s.drawnN n).safeAccepted = s.safeAccepted := rfl
@[simp] theorem State.drawnN_roundPos (s : State) (n : Nat) : (s.drawnN n).roundPos = s.roundPos := rfl
@[simp] theorem State.drawnN_legal (s : State) (n : Nat) : (s.drawnN n).legal = s.legal := rfl
@[simp] theorem State.drawnN_pulses (s : State) (n : Nat) : (s.drawnN n).pulses = s.pulses := rfl
@[simp] theorem State.drawnN_fwLoad (s : State) (n : Nat) : (s.drawnN n).fwLoad = s.fwLoad := rfl
@[simp] theorem State.drawnN_twin (s : State) (n : Nat) : (s.drawnN n).twin = s.twin := rfl
@[simp] theorem State.drawnN_ring (s : State) (n : Nat) : (s.drawnN n).ring = s.ring := rfl
@[simp] theorem State.drawnN_boot (s : State) (n : Nat) : (s.drawnN n).boot = s.boot := rfl
@[simp] theorem State.drawnN_island (s : State) (n : Nat) : (s.drawnN n).island = s.island := rfl
@[simp] theorem State.drawnN_keys (s : State) (n : Nat) : (s.drawnN n).keys = s.keys := rfl
@[simp] theorem State.drawnN_faults (s : State) (n : Nat) : (s.drawnN n).faults = s.faults := rfl
@[simp] theorem State.drawnN_free (s : State) (n : Nat) : (s.drawnN n).free = s.free + n := rfl
@[simp] theorem State.drawnN_pending (s : State) (n : Nat) : (s.drawnN n).pending = s.pending := rfl

/- raise changes evt. -/
@[simp] theorem State.raise_clock (s : State) (e : Ev) : (s.raise e).clock = s.clock := rfl
@[simp] theorem State.raise_gens (s : State) (e : Ev) : (s.raise e).gens = s.gens := rfl
@[simp] theorem State.raise_armed (s : State) (e : Ev) : (s.raise e).armed = s.armed := rfl
@[simp] theorem State.raise_courts (s : State) (e : Ev) : (s.raise e).courts = s.courts := rfl
@[simp] theorem State.raise_host (s : State) (e : Ev) : (s.raise e).host = s.host := rfl
@[simp] theorem State.raise_evt (s : State) (e : Ev) : (s.raise e).evt = { s.evt with fresh := s.evt.fresh ++ [e] } := rfl
@[simp] theorem State.raise_regions (s : State) (e : Ev) : (s.raise e).regions = s.regions := rfl
@[simp] theorem State.raise_mem (s : State) (e : Ev) : (s.raise e).mem = s.mem := rfl
@[simp] theorem State.raise_bays (s : State) (e : Ev) : (s.raise e).bays = s.bays := rfl
@[simp] theorem State.raise_heads (s : State) (e : Ev) : (s.raise e).heads = s.heads := rfl
@[simp] theorem State.raise_slac (s : State) (e : Ev) : (s.raise e).slac = s.slac := rfl
@[simp] theorem State.raise_ledger (s : State) (e : Ev) : (s.raise e).ledger = s.ledger := rfl
@[simp] theorem State.raise_certs (s : State) (e : Ev) : (s.raise e).certs = s.certs := rfl
@[simp] theorem State.raise_safety (s : State) (e : Ev) : (s.raise e).safety = s.safety := rfl
@[simp] theorem State.raise_safePairs (s : State) (e : Ev) : (s.raise e).safePairs = s.safePairs := rfl
@[simp] theorem State.raise_safeAccepted (s : State) (e : Ev) : (s.raise e).safeAccepted = s.safeAccepted := rfl
@[simp] theorem State.raise_roundPos (s : State) (e : Ev) : (s.raise e).roundPos = s.roundPos := rfl
@[simp] theorem State.raise_legal (s : State) (e : Ev) : (s.raise e).legal = s.legal := rfl
@[simp] theorem State.raise_pulses (s : State) (e : Ev) : (s.raise e).pulses = s.pulses := rfl
@[simp] theorem State.raise_fwLoad (s : State) (e : Ev) : (s.raise e).fwLoad = s.fwLoad := rfl
@[simp] theorem State.raise_twin (s : State) (e : Ev) : (s.raise e).twin = s.twin := rfl
@[simp] theorem State.raise_ring (s : State) (e : Ev) : (s.raise e).ring = s.ring := rfl
@[simp] theorem State.raise_boot (s : State) (e : Ev) : (s.raise e).boot = s.boot := rfl
@[simp] theorem State.raise_island (s : State) (e : Ev) : (s.raise e).island = s.island := rfl
@[simp] theorem State.raise_keys (s : State) (e : Ev) : (s.raise e).keys = s.keys := rfl
@[simp] theorem State.raise_faults (s : State) (e : Ev) : (s.raise e).faults = s.faults := rfl
@[simp] theorem State.raise_free (s : State) (e : Ev) : (s.raise e).free = s.free := rfl
@[simp] theorem State.raise_pending (s : State) (e : Ev) : (s.raise e).pending = s.pending := rfl

/- raiseNow changes evt. -/
@[simp] theorem State.raiseNow_clock (s : State) (src kind data : Nat) : (s.raiseNow src kind data).clock = s.clock := rfl
@[simp] theorem State.raiseNow_gens (s : State) (src kind data : Nat) : (s.raiseNow src kind data).gens = s.gens := rfl
@[simp] theorem State.raiseNow_armed (s : State) (src kind data : Nat) : (s.raiseNow src kind data).armed = s.armed := rfl
@[simp] theorem State.raiseNow_courts (s : State) (src kind data : Nat) : (s.raiseNow src kind data).courts = s.courts := rfl
@[simp] theorem State.raiseNow_host (s : State) (src kind data : Nat) : (s.raiseNow src kind data).host = s.host := rfl
@[simp] theorem State.raiseNow_evt (s : State) (src kind data : Nat) : (s.raiseNow src kind data).evt = { s.evt with fresh := s.evt.fresh ++ [⟨src, kind, data % 2 ^ 32, s.clock.tick⟩] } := rfl
@[simp] theorem State.raiseNow_regions (s : State) (src kind data : Nat) : (s.raiseNow src kind data).regions = s.regions := rfl
@[simp] theorem State.raiseNow_mem (s : State) (src kind data : Nat) : (s.raiseNow src kind data).mem = s.mem := rfl
@[simp] theorem State.raiseNow_bays (s : State) (src kind data : Nat) : (s.raiseNow src kind data).bays = s.bays := rfl
@[simp] theorem State.raiseNow_heads (s : State) (src kind data : Nat) : (s.raiseNow src kind data).heads = s.heads := rfl
@[simp] theorem State.raiseNow_slac (s : State) (src kind data : Nat) : (s.raiseNow src kind data).slac = s.slac := rfl
@[simp] theorem State.raiseNow_ledger (s : State) (src kind data : Nat) : (s.raiseNow src kind data).ledger = s.ledger := rfl
@[simp] theorem State.raiseNow_certs (s : State) (src kind data : Nat) : (s.raiseNow src kind data).certs = s.certs := rfl
@[simp] theorem State.raiseNow_safety (s : State) (src kind data : Nat) : (s.raiseNow src kind data).safety = s.safety := rfl
@[simp] theorem State.raiseNow_safePairs (s : State) (src kind data : Nat) : (s.raiseNow src kind data).safePairs = s.safePairs := rfl
@[simp] theorem State.raiseNow_safeAccepted (s : State) (src kind data : Nat) : (s.raiseNow src kind data).safeAccepted = s.safeAccepted := rfl
@[simp] theorem State.raiseNow_roundPos (s : State) (src kind data : Nat) : (s.raiseNow src kind data).roundPos = s.roundPos := rfl
@[simp] theorem State.raiseNow_legal (s : State) (src kind data : Nat) : (s.raiseNow src kind data).legal = s.legal := rfl
@[simp] theorem State.raiseNow_pulses (s : State) (src kind data : Nat) : (s.raiseNow src kind data).pulses = s.pulses := rfl
@[simp] theorem State.raiseNow_fwLoad (s : State) (src kind data : Nat) : (s.raiseNow src kind data).fwLoad = s.fwLoad := rfl
@[simp] theorem State.raiseNow_twin (s : State) (src kind data : Nat) : (s.raiseNow src kind data).twin = s.twin := rfl
@[simp] theorem State.raiseNow_ring (s : State) (src kind data : Nat) : (s.raiseNow src kind data).ring = s.ring := rfl
@[simp] theorem State.raiseNow_boot (s : State) (src kind data : Nat) : (s.raiseNow src kind data).boot = s.boot := rfl
@[simp] theorem State.raiseNow_island (s : State) (src kind data : Nat) : (s.raiseNow src kind data).island = s.island := rfl
@[simp] theorem State.raiseNow_keys (s : State) (src kind data : Nat) : (s.raiseNow src kind data).keys = s.keys := rfl
@[simp] theorem State.raiseNow_faults (s : State) (src kind data : Nat) : (s.raiseNow src kind data).faults = s.faults := rfl
@[simp] theorem State.raiseNow_free (s : State) (src kind data : Nat) : (s.raiseNow src kind data).free = s.free := rfl
@[simp] theorem State.raiseNow_pending (s : State) (src kind data : Nat) : (s.raiseNow src kind data).pending = s.pending := rfl

/- take changes courts. -/
@[simp] theorem State.take_clock (s : State) (c : CourtId) (m : MbxId) (op : Nat) (lay : List Nat) : (s.take c m op lay).clock = s.clock := rfl
@[simp] theorem State.take_gens (s : State) (c : CourtId) (m : MbxId) (op : Nat) (lay : List Nat) : (s.take c m op lay).gens = s.gens := rfl
@[simp] theorem State.take_armed (s : State) (c : CourtId) (m : MbxId) (op : Nat) (lay : List Nat) : (s.take c m op lay).armed = s.armed := rfl
@[simp] theorem State.take_host (s : State) (c : CourtId) (m : MbxId) (op : Nat) (lay : List Nat) : (s.take c m op lay).host = s.host := rfl
@[simp] theorem State.take_evt (s : State) (c : CourtId) (m : MbxId) (op : Nat) (lay : List Nat) : (s.take c m op lay).evt = s.evt := rfl
@[simp] theorem State.take_regions (s : State) (c : CourtId) (m : MbxId) (op : Nat) (lay : List Nat) : (s.take c m op lay).regions = s.regions := rfl
@[simp] theorem State.take_mem (s : State) (c : CourtId) (m : MbxId) (op : Nat) (lay : List Nat) : (s.take c m op lay).mem = s.mem := rfl
@[simp] theorem State.take_bays (s : State) (c : CourtId) (m : MbxId) (op : Nat) (lay : List Nat) : (s.take c m op lay).bays = s.bays := rfl
@[simp] theorem State.take_heads (s : State) (c : CourtId) (m : MbxId) (op : Nat) (lay : List Nat) : (s.take c m op lay).heads = s.heads := rfl
@[simp] theorem State.take_slac (s : State) (c : CourtId) (m : MbxId) (op : Nat) (lay : List Nat) : (s.take c m op lay).slac = s.slac := rfl
@[simp] theorem State.take_ledger (s : State) (c : CourtId) (m : MbxId) (op : Nat) (lay : List Nat) : (s.take c m op lay).ledger = s.ledger := rfl
@[simp] theorem State.take_certs (s : State) (c : CourtId) (m : MbxId) (op : Nat) (lay : List Nat) : (s.take c m op lay).certs = s.certs := rfl
@[simp] theorem State.take_safety (s : State) (c : CourtId) (m : MbxId) (op : Nat) (lay : List Nat) : (s.take c m op lay).safety = s.safety := rfl
@[simp] theorem State.take_safePairs (s : State) (c : CourtId) (m : MbxId) (op : Nat) (lay : List Nat) : (s.take c m op lay).safePairs = s.safePairs := rfl
@[simp] theorem State.take_safeAccepted (s : State) (c : CourtId) (m : MbxId) (op : Nat) (lay : List Nat) : (s.take c m op lay).safeAccepted = s.safeAccepted := rfl
@[simp] theorem State.take_roundPos (s : State) (c : CourtId) (m : MbxId) (op : Nat) (lay : List Nat) : (s.take c m op lay).roundPos = s.roundPos := rfl
@[simp] theorem State.take_legal (s : State) (c : CourtId) (m : MbxId) (op : Nat) (lay : List Nat) : (s.take c m op lay).legal = s.legal := rfl
@[simp] theorem State.take_pulses (s : State) (c : CourtId) (m : MbxId) (op : Nat) (lay : List Nat) : (s.take c m op lay).pulses = s.pulses := rfl
@[simp] theorem State.take_fwLoad (s : State) (c : CourtId) (m : MbxId) (op : Nat) (lay : List Nat) : (s.take c m op lay).fwLoad = s.fwLoad := rfl
@[simp] theorem State.take_twin (s : State) (c : CourtId) (m : MbxId) (op : Nat) (lay : List Nat) : (s.take c m op lay).twin = s.twin := rfl
@[simp] theorem State.take_ring (s : State) (c : CourtId) (m : MbxId) (op : Nat) (lay : List Nat) : (s.take c m op lay).ring = s.ring := rfl
@[simp] theorem State.take_boot (s : State) (c : CourtId) (m : MbxId) (op : Nat) (lay : List Nat) : (s.take c m op lay).boot = s.boot := rfl
@[simp] theorem State.take_island (s : State) (c : CourtId) (m : MbxId) (op : Nat) (lay : List Nat) : (s.take c m op lay).island = s.island := rfl
@[simp] theorem State.take_keys (s : State) (c : CourtId) (m : MbxId) (op : Nat) (lay : List Nat) : (s.take c m op lay).keys = s.keys := rfl
@[simp] theorem State.take_faults (s : State) (c : CourtId) (m : MbxId) (op : Nat) (lay : List Nat) : (s.take c m op lay).faults = s.faults := rfl
@[simp] theorem State.take_free (s : State) (c : CourtId) (m : MbxId) (op : Nat) (lay : List Nat) : (s.take c m op lay).free = s.free := rfl
@[simp] theorem State.take_pending (s : State) (c : CourtId) (m : MbxId) (op : Nat) (lay : List Nat) : (s.take c m op lay).pending = s.pending := rfl

/- consumeXfer changes courts. -/
@[simp] theorem State.consumeXfer_clock (s : State) (c : CourtId) (num : Nat) : (s.consumeXfer c num).clock = s.clock := rfl
@[simp] theorem State.consumeXfer_gens (s : State) (c : CourtId) (num : Nat) : (s.consumeXfer c num).gens = s.gens := rfl
@[simp] theorem State.consumeXfer_armed (s : State) (c : CourtId) (num : Nat) : (s.consumeXfer c num).armed = s.armed := rfl
@[simp] theorem State.consumeXfer_host (s : State) (c : CourtId) (num : Nat) : (s.consumeXfer c num).host = s.host := rfl
@[simp] theorem State.consumeXfer_evt (s : State) (c : CourtId) (num : Nat) : (s.consumeXfer c num).evt = s.evt := rfl
@[simp] theorem State.consumeXfer_regions (s : State) (c : CourtId) (num : Nat) : (s.consumeXfer c num).regions = s.regions := rfl
@[simp] theorem State.consumeXfer_mem (s : State) (c : CourtId) (num : Nat) : (s.consumeXfer c num).mem = s.mem := rfl
@[simp] theorem State.consumeXfer_bays (s : State) (c : CourtId) (num : Nat) : (s.consumeXfer c num).bays = s.bays := rfl
@[simp] theorem State.consumeXfer_heads (s : State) (c : CourtId) (num : Nat) : (s.consumeXfer c num).heads = s.heads := rfl
@[simp] theorem State.consumeXfer_slac (s : State) (c : CourtId) (num : Nat) : (s.consumeXfer c num).slac = s.slac := rfl
@[simp] theorem State.consumeXfer_ledger (s : State) (c : CourtId) (num : Nat) : (s.consumeXfer c num).ledger = s.ledger := rfl
@[simp] theorem State.consumeXfer_certs (s : State) (c : CourtId) (num : Nat) : (s.consumeXfer c num).certs = s.certs := rfl
@[simp] theorem State.consumeXfer_safety (s : State) (c : CourtId) (num : Nat) : (s.consumeXfer c num).safety = s.safety := rfl
@[simp] theorem State.consumeXfer_safePairs (s : State) (c : CourtId) (num : Nat) : (s.consumeXfer c num).safePairs = s.safePairs := rfl
@[simp] theorem State.consumeXfer_safeAccepted (s : State) (c : CourtId) (num : Nat) : (s.consumeXfer c num).safeAccepted = s.safeAccepted := rfl
@[simp] theorem State.consumeXfer_roundPos (s : State) (c : CourtId) (num : Nat) : (s.consumeXfer c num).roundPos = s.roundPos := rfl
@[simp] theorem State.consumeXfer_legal (s : State) (c : CourtId) (num : Nat) : (s.consumeXfer c num).legal = s.legal := rfl
@[simp] theorem State.consumeXfer_pulses (s : State) (c : CourtId) (num : Nat) : (s.consumeXfer c num).pulses = s.pulses := rfl
@[simp] theorem State.consumeXfer_fwLoad (s : State) (c : CourtId) (num : Nat) : (s.consumeXfer c num).fwLoad = s.fwLoad := rfl
@[simp] theorem State.consumeXfer_twin (s : State) (c : CourtId) (num : Nat) : (s.consumeXfer c num).twin = s.twin := rfl
@[simp] theorem State.consumeXfer_ring (s : State) (c : CourtId) (num : Nat) : (s.consumeXfer c num).ring = s.ring := rfl
@[simp] theorem State.consumeXfer_boot (s : State) (c : CourtId) (num : Nat) : (s.consumeXfer c num).boot = s.boot := rfl
@[simp] theorem State.consumeXfer_island (s : State) (c : CourtId) (num : Nat) : (s.consumeXfer c num).island = s.island := rfl
@[simp] theorem State.consumeXfer_keys (s : State) (c : CourtId) (num : Nat) : (s.consumeXfer c num).keys = s.keys := rfl
@[simp] theorem State.consumeXfer_faults (s : State) (c : CourtId) (num : Nat) : (s.consumeXfer c num).faults = s.faults := rfl
@[simp] theorem State.consumeXfer_free (s : State) (c : CourtId) (num : Nat) : (s.consumeXfer c num).free = s.free := rfl
@[simp] theorem State.consumeXfer_pending (s : State) (c : CourtId) (num : Nat) : (s.consumeXfer c num).pending = s.pending := rfl

/- sendBulk changes courts. -/
@[simp] theorem State.sendBulk_clock (s : State) (c : CourtId) (data : List Byte) : (s.sendBulk c data).clock = s.clock := rfl
@[simp] theorem State.sendBulk_gens (s : State) (c : CourtId) (data : List Byte) : (s.sendBulk c data).gens = s.gens := rfl
@[simp] theorem State.sendBulk_armed (s : State) (c : CourtId) (data : List Byte) : (s.sendBulk c data).armed = s.armed := rfl
@[simp] theorem State.sendBulk_host (s : State) (c : CourtId) (data : List Byte) : (s.sendBulk c data).host = s.host := rfl
@[simp] theorem State.sendBulk_evt (s : State) (c : CourtId) (data : List Byte) : (s.sendBulk c data).evt = s.evt := rfl
@[simp] theorem State.sendBulk_regions (s : State) (c : CourtId) (data : List Byte) : (s.sendBulk c data).regions = s.regions := rfl
@[simp] theorem State.sendBulk_mem (s : State) (c : CourtId) (data : List Byte) : (s.sendBulk c data).mem = s.mem := rfl
@[simp] theorem State.sendBulk_bays (s : State) (c : CourtId) (data : List Byte) : (s.sendBulk c data).bays = s.bays := rfl
@[simp] theorem State.sendBulk_heads (s : State) (c : CourtId) (data : List Byte) : (s.sendBulk c data).heads = s.heads := rfl
@[simp] theorem State.sendBulk_slac (s : State) (c : CourtId) (data : List Byte) : (s.sendBulk c data).slac = s.slac := rfl
@[simp] theorem State.sendBulk_ledger (s : State) (c : CourtId) (data : List Byte) : (s.sendBulk c data).ledger = s.ledger := rfl
@[simp] theorem State.sendBulk_certs (s : State) (c : CourtId) (data : List Byte) : (s.sendBulk c data).certs = s.certs := rfl
@[simp] theorem State.sendBulk_safety (s : State) (c : CourtId) (data : List Byte) : (s.sendBulk c data).safety = s.safety := rfl
@[simp] theorem State.sendBulk_safePairs (s : State) (c : CourtId) (data : List Byte) : (s.sendBulk c data).safePairs = s.safePairs := rfl
@[simp] theorem State.sendBulk_safeAccepted (s : State) (c : CourtId) (data : List Byte) : (s.sendBulk c data).safeAccepted = s.safeAccepted := rfl
@[simp] theorem State.sendBulk_roundPos (s : State) (c : CourtId) (data : List Byte) : (s.sendBulk c data).roundPos = s.roundPos := rfl
@[simp] theorem State.sendBulk_legal (s : State) (c : CourtId) (data : List Byte) : (s.sendBulk c data).legal = s.legal := rfl
@[simp] theorem State.sendBulk_pulses (s : State) (c : CourtId) (data : List Byte) : (s.sendBulk c data).pulses = s.pulses := rfl
@[simp] theorem State.sendBulk_fwLoad (s : State) (c : CourtId) (data : List Byte) : (s.sendBulk c data).fwLoad = s.fwLoad := rfl
@[simp] theorem State.sendBulk_twin (s : State) (c : CourtId) (data : List Byte) : (s.sendBulk c data).twin = s.twin := rfl
@[simp] theorem State.sendBulk_ring (s : State) (c : CourtId) (data : List Byte) : (s.sendBulk c data).ring = s.ring := rfl
@[simp] theorem State.sendBulk_boot (s : State) (c : CourtId) (data : List Byte) : (s.sendBulk c data).boot = s.boot := rfl
@[simp] theorem State.sendBulk_island (s : State) (c : CourtId) (data : List Byte) : (s.sendBulk c data).island = s.island := rfl
@[simp] theorem State.sendBulk_keys (s : State) (c : CourtId) (data : List Byte) : (s.sendBulk c data).keys = s.keys := rfl
@[simp] theorem State.sendBulk_faults (s : State) (c : CourtId) (data : List Byte) : (s.sendBulk c data).faults = s.faults := rfl
@[simp] theorem State.sendBulk_free (s : State) (c : CourtId) (data : List Byte) : (s.sendBulk c data).free = s.free := rfl
@[simp] theorem State.sendBulk_pending (s : State) (c : CourtId) (data : List Byte) : (s.sendBulk c data).pending = s.pending := rfl

/- arm changes armed. -/
@[simp] theorem State.arm_clock (s : State) (o : Origin) (cmd : Setting) (bays : BayMask) (site same : Bool) (clash : Setting → Bool) : (s.arm o cmd bays site same clash).clock = s.clock := rfl
@[simp] theorem State.arm_gens (s : State) (o : Origin) (cmd : Setting) (bays : BayMask) (site same : Bool) (clash : Setting → Bool) : (s.arm o cmd bays site same clash).gens = s.gens := rfl
@[simp] theorem State.arm_courts (s : State) (o : Origin) (cmd : Setting) (bays : BayMask) (site same : Bool) (clash : Setting → Bool) : (s.arm o cmd bays site same clash).courts = s.courts := rfl
@[simp] theorem State.arm_host (s : State) (o : Origin) (cmd : Setting) (bays : BayMask) (site same : Bool) (clash : Setting → Bool) : (s.arm o cmd bays site same clash).host = s.host := rfl
@[simp] theorem State.arm_evt (s : State) (o : Origin) (cmd : Setting) (bays : BayMask) (site same : Bool) (clash : Setting → Bool) : (s.arm o cmd bays site same clash).evt = s.evt := rfl
@[simp] theorem State.arm_regions (s : State) (o : Origin) (cmd : Setting) (bays : BayMask) (site same : Bool) (clash : Setting → Bool) : (s.arm o cmd bays site same clash).regions = s.regions := rfl
@[simp] theorem State.arm_mem (s : State) (o : Origin) (cmd : Setting) (bays : BayMask) (site same : Bool) (clash : Setting → Bool) : (s.arm o cmd bays site same clash).mem = s.mem := rfl
@[simp] theorem State.arm_bays (s : State) (o : Origin) (cmd : Setting) (bays : BayMask) (site same : Bool) (clash : Setting → Bool) : (s.arm o cmd bays site same clash).bays = s.bays := rfl
@[simp] theorem State.arm_heads (s : State) (o : Origin) (cmd : Setting) (bays : BayMask) (site same : Bool) (clash : Setting → Bool) : (s.arm o cmd bays site same clash).heads = s.heads := rfl
@[simp] theorem State.arm_slac (s : State) (o : Origin) (cmd : Setting) (bays : BayMask) (site same : Bool) (clash : Setting → Bool) : (s.arm o cmd bays site same clash).slac = s.slac := rfl
@[simp] theorem State.arm_ledger (s : State) (o : Origin) (cmd : Setting) (bays : BayMask) (site same : Bool) (clash : Setting → Bool) : (s.arm o cmd bays site same clash).ledger = s.ledger := rfl
@[simp] theorem State.arm_certs (s : State) (o : Origin) (cmd : Setting) (bays : BayMask) (site same : Bool) (clash : Setting → Bool) : (s.arm o cmd bays site same clash).certs = s.certs := rfl
@[simp] theorem State.arm_safety (s : State) (o : Origin) (cmd : Setting) (bays : BayMask) (site same : Bool) (clash : Setting → Bool) : (s.arm o cmd bays site same clash).safety = s.safety := rfl
@[simp] theorem State.arm_safePairs (s : State) (o : Origin) (cmd : Setting) (bays : BayMask) (site same : Bool) (clash : Setting → Bool) : (s.arm o cmd bays site same clash).safePairs = s.safePairs := rfl
@[simp] theorem State.arm_safeAccepted (s : State) (o : Origin) (cmd : Setting) (bays : BayMask) (site same : Bool) (clash : Setting → Bool) : (s.arm o cmd bays site same clash).safeAccepted = s.safeAccepted := rfl
@[simp] theorem State.arm_roundPos (s : State) (o : Origin) (cmd : Setting) (bays : BayMask) (site same : Bool) (clash : Setting → Bool) : (s.arm o cmd bays site same clash).roundPos = s.roundPos := rfl
@[simp] theorem State.arm_legal (s : State) (o : Origin) (cmd : Setting) (bays : BayMask) (site same : Bool) (clash : Setting → Bool) : (s.arm o cmd bays site same clash).legal = s.legal := rfl
@[simp] theorem State.arm_pulses (s : State) (o : Origin) (cmd : Setting) (bays : BayMask) (site same : Bool) (clash : Setting → Bool) : (s.arm o cmd bays site same clash).pulses = s.pulses := rfl
@[simp] theorem State.arm_fwLoad (s : State) (o : Origin) (cmd : Setting) (bays : BayMask) (site same : Bool) (clash : Setting → Bool) : (s.arm o cmd bays site same clash).fwLoad = s.fwLoad := rfl
@[simp] theorem State.arm_twin (s : State) (o : Origin) (cmd : Setting) (bays : BayMask) (site same : Bool) (clash : Setting → Bool) : (s.arm o cmd bays site same clash).twin = s.twin := rfl
@[simp] theorem State.arm_ring (s : State) (o : Origin) (cmd : Setting) (bays : BayMask) (site same : Bool) (clash : Setting → Bool) : (s.arm o cmd bays site same clash).ring = s.ring := rfl
@[simp] theorem State.arm_boot (s : State) (o : Origin) (cmd : Setting) (bays : BayMask) (site same : Bool) (clash : Setting → Bool) : (s.arm o cmd bays site same clash).boot = s.boot := rfl
@[simp] theorem State.arm_island (s : State) (o : Origin) (cmd : Setting) (bays : BayMask) (site same : Bool) (clash : Setting → Bool) : (s.arm o cmd bays site same clash).island = s.island := rfl
@[simp] theorem State.arm_keys (s : State) (o : Origin) (cmd : Setting) (bays : BayMask) (site same : Bool) (clash : Setting → Bool) : (s.arm o cmd bays site same clash).keys = s.keys := rfl
@[simp] theorem State.arm_faults (s : State) (o : Origin) (cmd : Setting) (bays : BayMask) (site same : Bool) (clash : Setting → Bool) : (s.arm o cmd bays site same clash).faults = s.faults := rfl
@[simp] theorem State.arm_free (s : State) (o : Origin) (cmd : Setting) (bays : BayMask) (site same : Bool) (clash : Setting → Bool) : (s.arm o cmd bays site same clash).free = s.free := rfl
@[simp] theorem State.arm_pending (s : State) (o : Origin) (cmd : Setting) (bays : BayMask) (site same : Bool) (clash : Setting → Bool) : (s.arm o cmd bays site same clash).pending = s.pending := rfl

/- replied changes courts. -/
@[simp] theorem State.replied_clock (s : State) (o : Origin) (op st dt : Nat) (bulk : Bool) (fs : List Field) : (s.replied o op st dt bulk fs).clock = s.clock := rfl
@[simp] theorem State.replied_gens (s : State) (o : Origin) (op st dt : Nat) (bulk : Bool) (fs : List Field) : (s.replied o op st dt bulk fs).gens = s.gens := rfl
@[simp] theorem State.replied_armed (s : State) (o : Origin) (op st dt : Nat) (bulk : Bool) (fs : List Field) : (s.replied o op st dt bulk fs).armed = s.armed := rfl
@[simp] theorem State.replied_host (s : State) (o : Origin) (op st dt : Nat) (bulk : Bool) (fs : List Field) : (s.replied o op st dt bulk fs).host = s.host := rfl
@[simp] theorem State.replied_evt (s : State) (o : Origin) (op st dt : Nat) (bulk : Bool) (fs : List Field) : (s.replied o op st dt bulk fs).evt = s.evt := rfl
@[simp] theorem State.replied_regions (s : State) (o : Origin) (op st dt : Nat) (bulk : Bool) (fs : List Field) : (s.replied o op st dt bulk fs).regions = s.regions := rfl
@[simp] theorem State.replied_mem (s : State) (o : Origin) (op st dt : Nat) (bulk : Bool) (fs : List Field) : (s.replied o op st dt bulk fs).mem = s.mem := rfl
@[simp] theorem State.replied_bays (s : State) (o : Origin) (op st dt : Nat) (bulk : Bool) (fs : List Field) : (s.replied o op st dt bulk fs).bays = s.bays := rfl
@[simp] theorem State.replied_heads (s : State) (o : Origin) (op st dt : Nat) (bulk : Bool) (fs : List Field) : (s.replied o op st dt bulk fs).heads = s.heads := rfl
@[simp] theorem State.replied_slac (s : State) (o : Origin) (op st dt : Nat) (bulk : Bool) (fs : List Field) : (s.replied o op st dt bulk fs).slac = s.slac := rfl
@[simp] theorem State.replied_ledger (s : State) (o : Origin) (op st dt : Nat) (bulk : Bool) (fs : List Field) : (s.replied o op st dt bulk fs).ledger = s.ledger := rfl
@[simp] theorem State.replied_certs (s : State) (o : Origin) (op st dt : Nat) (bulk : Bool) (fs : List Field) : (s.replied o op st dt bulk fs).certs = s.certs := rfl
@[simp] theorem State.replied_safety (s : State) (o : Origin) (op st dt : Nat) (bulk : Bool) (fs : List Field) : (s.replied o op st dt bulk fs).safety = s.safety := rfl
@[simp] theorem State.replied_safePairs (s : State) (o : Origin) (op st dt : Nat) (bulk : Bool) (fs : List Field) : (s.replied o op st dt bulk fs).safePairs = s.safePairs := rfl
@[simp] theorem State.replied_safeAccepted (s : State) (o : Origin) (op st dt : Nat) (bulk : Bool) (fs : List Field) : (s.replied o op st dt bulk fs).safeAccepted = s.safeAccepted := rfl
@[simp] theorem State.replied_roundPos (s : State) (o : Origin) (op st dt : Nat) (bulk : Bool) (fs : List Field) : (s.replied o op st dt bulk fs).roundPos = s.roundPos := rfl
@[simp] theorem State.replied_legal (s : State) (o : Origin) (op st dt : Nat) (bulk : Bool) (fs : List Field) : (s.replied o op st dt bulk fs).legal = s.legal := rfl
@[simp] theorem State.replied_pulses (s : State) (o : Origin) (op st dt : Nat) (bulk : Bool) (fs : List Field) : (s.replied o op st dt bulk fs).pulses = s.pulses := rfl
@[simp] theorem State.replied_fwLoad (s : State) (o : Origin) (op st dt : Nat) (bulk : Bool) (fs : List Field) : (s.replied o op st dt bulk fs).fwLoad = s.fwLoad := rfl
@[simp] theorem State.replied_twin (s : State) (o : Origin) (op st dt : Nat) (bulk : Bool) (fs : List Field) : (s.replied o op st dt bulk fs).twin = s.twin := rfl
@[simp] theorem State.replied_ring (s : State) (o : Origin) (op st dt : Nat) (bulk : Bool) (fs : List Field) : (s.replied o op st dt bulk fs).ring = s.ring := rfl
@[simp] theorem State.replied_boot (s : State) (o : Origin) (op st dt : Nat) (bulk : Bool) (fs : List Field) : (s.replied o op st dt bulk fs).boot = s.boot := rfl
@[simp] theorem State.replied_island (s : State) (o : Origin) (op st dt : Nat) (bulk : Bool) (fs : List Field) : (s.replied o op st dt bulk fs).island = s.island := rfl
@[simp] theorem State.replied_keys (s : State) (o : Origin) (op st dt : Nat) (bulk : Bool) (fs : List Field) : (s.replied o op st dt bulk fs).keys = s.keys := rfl
@[simp] theorem State.replied_faults (s : State) (o : Origin) (op st dt : Nat) (bulk : Bool) (fs : List Field) : (s.replied o op st dt bulk fs).faults = s.faults := rfl
@[simp] theorem State.replied_free (s : State) (o : Origin) (op st dt : Nat) (bulk : Bool) (fs : List Field) : (s.replied o op st dt bulk fs).free = s.free := rfl
@[simp] theorem State.replied_pending (s : State) (o : Origin) (op st dt : Nat) (bulk : Bool) (fs : List Field) : (s.replied o op st dt bulk fs).pending = s.pending := rfl

end Sys2Proof.Machine
end

