-- ==== Sys2Proof/Laws/Site.lean ====
section
/-! SUPPORT. What the shared operations of the island, the twin and the ring can do. -/

namespace Sys2Proof.Machine

/-- A wake touches only the island's record of it. -/
theorem wakeBy_eq (s : State) (cause source : Nat) : ∃ c w p, s.wakeBy cause source =
    { s with island := { s.island with wakeCause := c, wakeSource := w, pwrReq := p } } := by
  unfold State.wakeBy
  split
  · exact ⟨_, _, _, rfl⟩
  · exact ⟨_, _, _, rfl⟩

/-- An island event is raised once, and may wake the QN960. -/
theorem islandEvent_eq (s : State) (src kind data : Nat) : ∃ c w p, s.islandEvent src kind data =
    { s.raise ⟨src, kind, data % 2 ^ 32, if s.clock.cellRuns then s.now else 0⟩ with
      island := { s.island with wakeCause := c, wakeSource := w, pwrReq := p } } := by
  unfold State.islandEvent
  simp only
  split
  · obtain ⟨c, w, p, h⟩ := wakeBy_eq (s.raise ⟨src, kind, data % 2 ^ 32, if s.clock.cellRuns then s.now else 0⟩) 4 src
    exact ⟨c, w, p, h⟩
  · exact ⟨_, _, _, rfl⟩

end Sys2Proof.Machine
end

