-- ==== Sys2Proof/WellFormed.lean ====
section
/-! DEFINITION. Well-formed commands: every operand that the spec gives a width or a length keeps to it. `exec` does not ask for it: a card whose field
is outside its stated range answers as the spec says. -/

namespace Sys2Proof

/-- Whether a number has at most `w` bits. -/
def fits (w n : Nat) : Bool := n < 2 ^ w

/-- Whether the operands of a command keep to the widths and lengths of their fields (R75, R82 and the command cards). -/
def Instr.wf (i : Instr) : Bool :=
  match i with
  | .powerOnReset _ => true
  | .pinReset _ => true
  | .softReset _ => true
  | .wdogReset _ => true
  | .selfCheck => true
  | .intakePublish => true
  | .uplinkFrame _ _ => true
  | .cellTickWork _ _ _ => true
  | .backgroundSlice _ _ => true
  | .outletBuild => true
  | .tickCommit => true
  | .settingsEffective => true
  | .mbxRequest _ _ bytes _ _ => bytes.length ≤ 4160
  | .outboundWrite _ _ => true
  | .eventBatchWrite _ => true
  | .mbxBellInbound _ _ index => fits 13 index
  | .mbxBellOutbound _ _ index => fits 13 index
  | .mbxOpen _ => true
  | .mbxClose _ => true
  | .bulkPut _ num off _ _ data => fits 16 num && fits 32 off && data.length ≤ 4072
  | .flashPutDone _ => true
  | .bulkTransferExpire _ num => fits 16 num
  | .hostReadFail _ _ _ => true
  | .pcieHotReset => true
  | .perstAssert => true
  | .registerWrite offset value => fits 32 offset && fits 32 value
  | .readClear offset => fits 32 offset
  | .tickLoRead => true
  | .evtAck src count => fits 9 src && fits 8 count
  | .holdoffExpire _ => true
  | .evtWakeWrite _ value => fits 32 value
  | .evtWakeCommit => true
  | .devWakeWrite value => fits 32 value
  | .fabricTransfer _ => true
  | .queuePacket _ _ => true
  | .scrub id word _ => fits 16 id && fits 20 word
  | .ptpSync _ => true
  | .siteTimeStep => true
  | .timeLocked => true
  | .syncTimeout => true
  | .timeSetApply => true
  | .legalTimeValid => true
  | .signalDetect _ => true
  | .blockLockGained _ => true
  | .blockLockLost _ => true
  | .alignmentBlockRx _ _ tick => fits 64 tick
  | .lockTimeout _ => true
  | .measureTimeout _ => true
  | .downHoldExpire _ => true
  | .trainingAnswer _ _ roundTrip turnPs _ => fits 32 roundTrip && fits 32 turnPs
  | .configResponse _ _ => true
  | .configRetryTimeout _ => true
  | .linkLost _ => true
  | .headFwLoaded _ => true
  | .headFwTimeout _ => true
  | .headReject _ => true
  | .headPowerUp _ _ => true
  | .headFrameApply _ _ _ _ _ => true
  | .headHeldLimit _ => true
  | .headPilotHoldLimit _ => true
  | .headIdentHoldLimit _ => true
  | .headWhistleStop _ _ _ => true
  | .headRelease _ => true
  | .headConfigRequest _ _ _ => true
  | .headPortOutOfService _ _ _ => true
  | .headSafeFrame _ _ _ _ => true
  | .pilotEvaluation _ _ => true
  | .ppEvaluation _ _ _ => true
  | .plcFrameRx _ _ => true
  | .slacParmReq _ _ runId mac => fits 64 runId && fits 48 mac
  | .startAttenChar _ _ runId => fits 64 runId
  | .mnbcSound _ _ runId _ _ => fits 64 runId
  | .slacMatchReq _ runId => fits 64 runId
  | .slacValidate _ => true
  | .slacSlotAssign => true
  | .slacDecision _ => true
  | .slacSlotFree _ => true
  | .slacMatchTimeout _ => true
  | .slacAssignLapse => true
  | .sessionPilotChange _ => true
  | .sdpRequest _ _ => true
  | .tlsHandshake _ _ => true
  | .v2gRequest _ _ => true
  | .contactorConfirmTimeout _ => true
  | .weldVerdictTimeout _ => true
  | .matchingTimeout _ => true
  | .matchPauseEnd _ => true
  | .sessionTimeout _ _ => true
  | .authTimeout _ => true
  | .tokenHoldExpire _ => true
  | .acOvercurrent _ => true
  | .basicPauseTimeout _ => true
  | .basicPwmRestore _ => true
  | .faultPilotTimer _ => true
  | .tlsCloseTimer _ => true
  | .cardPoll _ => true
  | .cardExchangeDone _ _ => true
  | .cardPresenceCheck _ => true
  | .cardHoldExpire _ => true
  | .kytInventory _ => true
  | .kytSlot _ _ => true
  | .kytAckReply _ _ _ _ _ _ _ => true
  | .kytAckTimeout _ => true
  | .kytReadReply _ _ _ _ _ => true
  | .kytWriteReply _ _ _ _ _ => true
  | .tagEntryExpire _ => true
  | .modBootDone _ => true
  | .gainSetReturn _ _ => true
  | .loopTuneDone _ => true
  | .shortRetry _ _ => true
  | .retryCountReset _ _ => true
  | .openLoadDetect _ _ => true
  | .uvRestart _ => true
  | .freewheelVerdict _ _ => true
  | .contactorLost _ => true
  | .weldBlock _ => true
  | .earthTrip _ => true
  | .rcTestStart _ => true
  | .rcTestEnd _ => true
  | .rcTestOverdue _ => true
  | .imdHalfSwitch _ => true
  | .imdCycleEnd _ => true
  | .arcSpectrum _ _ mag => fits 16 mag
  | .arcSelftest _ _ => true
  | .meterIndex _ => true
  | .energyRecord _ => true
  | .meterCellTimeout _ => true
  | .pulseStart _ => true
  | .pulseEnd _ => true
  | .s0Pulse _ _ _ => true
  | .demandIntervalEnd => true
  | .tariffSwitch => true
  | .calendarActivate => true
  | .sessionReading _ => true
  | .mirrorSweep => true
  | .pfailFall => true
  | .finalSweepDone => true
  | .dispFrameRead _ _ => true
  | .dispStressMinute => true
  | .dispGainDaily => true
  | .ledgerFallback _ => true
  | .ledgerStale => true
  | .ledgerOver => true
  | .safetyStartupDone _ _ => true
  | .safetyLoop m1 m2 _ => m1.enc.length == 10 && m2.enc.length == 10
  | .discrepancyTimeout _ _ => true
  | .stop1Expire _ => true
  | .twoHandWindowExpire _ => true
  | .muteLimit _ => true
  | .resetEdge _ => true
  | .resetStuck _ => true
  | .encFault _ => true
  | .encReference _ => true
  | .pairSohOn _ _ _ => true
  | .pairTest _ _ _ => true
  | .monitorFault _ => true
  | .stopBusToggleLost _ => true
  | .safeFrameSend _ => true
  | .safeFrameRx _ _ => true
  | .safeWatchdog _ => true
  | .safeConnRestart _ => true
  | .configLockoutEnd => true
  | .trngReady => true
  | .trngStartupFail => true
  | .trngContinuousFail => true
  | .trngRetryReset => true
  | .drbgReseed _ => true
  | .debugChallengeExpire => true
  | .cellFailure _ _ _ _ _ => true
  | .spareResume _ => true
  | .degradedClear _ => true
  | .guardStale _ => true
  | .blockStoreLost _ _ _ => true
  | .assistJobFault _ _ _ _ => true
  | .regionFault _ _ => true
  | .islandCopyDone => true
  | .watchdogStage1 _ _ => true
  | .watchdogStage2 _ => true
  | .refclkLoss => true
  | .refclkReturn => true
  | .tempWarning _ => true
  | .thermalStop _ => true
  | .tickControlBlock _ _ => true
  | .mirrorMessage seq tick _ => fits 32 seq && fits 64 tick
  | .mirrorAckTimeout => true
  | .twinResendTimeout _ _ => true
  | .twinLinkUp _ => true
  | .heartbeatCheck _ => true
  | .takeover => true
  | .handoverApply => true
  | .yieldTake => true
  | .joinPhaseDone _ => true
  | .cutIn _ => true
  | .joinTimeout => true
  | .autoRejoin => true
  | .kickoffWaitEnd => true
  | .ringClaim _ id => fits 64 id
  | .ringMaster => true
  | .ringAnnounce _ id => fits 64 id
  | .ringCheckSend => true
  | .ringCheck _ _ => true
  | .ringCheckLost => true
  | .ringFrameForward _ _ => true
  | .ringBundleFrame _ hash op offset _ => fits 16 hash && fits 8 op && fits 32 offset
  | .trialTimeout => true
  | .updateSwapApply _ _ => true
  | .courtRestartDone _ => true
  | .courtTeardownDone _ => true
  | .islandSupplySwitch _ => true
  | .crystalStop => true
  | .crystalResume => true
  | .islandBrownout => true
  | .islandFreshStart => true
  | .vbatMeasure _ => true
  | .rtcSet => true
  | .tamperInput _ sec => fits 40 sec
  | .theftSecond sec _ => fits 40 sec
  | .wakeNLow => true
  | .rtcAlarm sec => fits 40 sec
  | .wakeSourceOccurrence src => fits 9 src
  | .islandRailsReady _ => true
  | .regRead _ offset => fits 32 offset
  | .regWrite _ offset value => fits 32 offset && fits 32 value
  | .timeConfig _ source domain transport step => fits 8 source && fits 8 domain && fits 8 transport && fits 32 step
  | .timeSet _ siteNs apply => fits 64 siteNs && fits 64 apply
  | .memHealth _ region flags => fits 8 region && fits 8 flags
  | .lowpowerEnterQuiet _ state flags wakeAt => state == 1 && fits 8 flags && fits 64 wakeAt
  | .lowpowerEnterIsland _ state flags wakeAt => state == 2 && fits 8 flags && fits 64 wakeAt
  | .islandStatus _ => true
  | .islandConfig _ en minMa c0 c1 c2 c3 => fits 8 en && fits 16 minMa && fits 32 c0 && fits 32 c1 && fits 32 c2 && fits 32 c3
  | .mbxEcho _ data => data.length ≤ 444
  | .courtCreate _ court sup region grant i0 o0 c0 i1 o1 c1 i2 o2 c2 i3 o3 c3 =>
    fits 8 court && fits 16 sup && fits 16 region && fits 96 grant && fits 64 i0 && fits 64 o0 && fits 32 c0 && fits 64 i1 &&
      fits 64 o1 && fits 32 c1 && fits 64 i2 && fits 64 o2 && fits 32 c2 && fits 64 i3 && fits 64 o3 && fits 32 c3
  | .courtRestart _ court => fits 8 court
  | .courtTeardown _ court flags => fits 8 court && fits 8 flags
  | .courtStatus _ court => fits 8 court
  | .mbxPlace _ court mbx inBase outBase cfg => fits 8 court && fits 8 mbx && fits 64 inBase && fits 64 outBase && fits 32 cfg
  | .evtMask _ _ => true
  | .bayTableBase _ base => fits 64 base
  | .bayReload _ _ reads => reads.all fun e => e.length == 512
  | .bayStatus _ bay => fits 8 bay
  | .linkStatus _ bay => fits 8 bay
  | .linkRetrain _ _ => true
  | .headFwLoad _ _ transfer size hash => fits 16 transfer && fits 32 size && fits 384 hash
  | .pilotStatus _ bay => fits 8 bay
  | .pilotUnavailable _ bay set => fits 8 bay && fits 8 set
  | .plcStatus _ bay => fits 8 bay
  | .slacMatrix _ => true
  | .slacAssign _ mac bay => fits 48 mac && fits 8 bay
  | .sessionStatus _ bay => fits 8 bay
  | .sessionAuth _ bay decision id limit energy => fits 8 bay && fits 8 decision && fits 64 id && fits 32 limit && fits 32 energy
  | .sessionStop _ bay id => fits 8 bay && fits 64 id
  | .sessionLimit _ bay id limit energy => fits 8 bay && fits 64 id && fits 32 limit && fits 32 energy
  | .certLoad _ type_ protocol transfer keyId => fits 8 type_ && fits 8 protocol && fits 16 transfer && fits 32 keyId
  | .certResponse _ bay result transfer id => fits 8 bay && fits 8 result && fits 16 transfer && fits 64 id
  | .identStatus _ bay => fits 8 bay
  | .cardApdu _ bay len apdu => fits 8 bay && fits 16 len && apdu.length == len
  | .cardRelease _ bay => fits 8 bay
  | .tagList _ bay => fits 8 bay
  | .tagRead _ bay count addr tag => fits 8 bay && fits 8 count && fits 16 addr && fits 96 tag
  | .tagWrite _ bay count addr tag data => fits 8 bay && fits 8 count && fits 16 addr && fits 96 tag && data.length == 8 * count
  | .modStatus _ bay => fits 8 bay
  | .modPulse _ bay leg flags tgt edges => fits 8 bay && fits 8 leg && fits 8 flags && fits 8 tgt && edges.length == 4 && edges.all (fits 16)
  | .loopStatus _ bay => fits 8 bay
  | .loopTune _ bay loop step fcHz maxDev => fits 8 bay && fits 8 loop && fits 16 step && fits 16 fcHz && fits 32 maxDev
  | .chanStatus _ bay => fits 8 bay
  | .chanSet _ bay mask on => fits 8 bay && fits 16 mask && fits 16 on
  | .chanReset _ bay mask => fits 8 bay && fits 16 mask
  | .earthStatus _ bay => fits 8 bay
  | .earthReset _ bay => fits 8 bay
  | .earthTest _ bay => fits 8 bay
  | .meterStatus _ bay => fits 8 bay
  | .meterRead _ bay => fits 8 bay
  | .meterHarmonics _ bay channel => fits 8 bay && fits 8 channel
  | .calLoad _ bay transfer => fits 8 bay && fits 16 transfer
  | .pulseMap _ ball bay source polarity const width =>
    fits 8 ball && fits 8 bay && fits 8 source && fits 8 polarity && fits 32 const && fits 16 width
  | .s0Config _ input polarity minMs const => fits 8 input && fits 8 polarity && fits 16 minMs && fits 32 const
  | .s0Read _ => true
  | .legalRead _ meter => fits 8 meter
  | .legalSign _ meter reg nonceLen nonce => fits 8 meter && fits 8 reg && fits 8 nonceLen && nonce.length == 32
  | .tamperRead _ => true
  | .logRead _ fromSeq count flags => fits 32 fromSeq && fits 16 count && fits 8 flags
  | .legalStatus _ => true
  | .calendarLoadActive _ transfer activate => fits 16 transfer && fits 64 activate
  | .calendarLoadPassive _ transfer activate => fits 16 transfer && fits 64 activate
  | .legalConfig _ transfer => fits 16 transfer
  | .legalCheckpoint _ => true
  | .legalRestore _ transfer => fits 16 transfer
  | .dispShow _ bay flags gen addr r0 r1 r2 r3 =>
    fits 8 bay && fits 8 flags && fits 16 gen && fits 64 addr && fits 72 r0 && fits 72 r1 && fits 72 r2 && fits 72 r3
  | .dispStatus _ bay => fits 8 bay
  | .dispStressRead _ bay => fits 8 bay
  | .dispStressLoad _ bay transfer => fits 8 bay && fits 16 transfer
  | .ledgerConfig _ imp exp res peak floor_ bmax btime excess =>
    fits 32 imp && fits 32 exp && fits 32 res && fits 32 peak && fits 32 floor_ && fits 32 bmax && fits 16 btime && fits 16 excess
  | .ledgerStatus _ => true
  | .ledgerBay _ bay => fits 8 bay
  | .siteBase _ base => fits 32 base
  | .ledgerStore _ bay chg dis pSet vLow => fits 8 bay && fits 32 chg && fits 32 dis && fits 32 pSet && fits 32 vLow
  | .ledgerGrid _ bay pSet vLink phi => fits 8 bay && fits 32 pSet && fits 32 vLink && fits 32 phi
  | .safetyStatus _ => true
  | .encRead _ => true
  | .safetyConfigLoad _ transfer tail0 tail1 passLen pass =>
    fits 16 transfer && fits 16 tail0 && fits 16 tail1 && fits 8 passLen && pass.length == 64
  | .safetyConfigApply => true
  | .safetyLogRead _ fromSeq => fits 32 fromSeq
  | .safeConnStatus _ => true
  | .safetyCommission _ passLen pass => fits 8 passLen && pass.length == 64
  | .fuseRead _ => true
  | .fuseBurn _ field value => fits 8 field && fits 384 value
  | .debugChallenge _ tokenLen => fits 16 tokenLen
  | .debugUnlock _ token _ _ => token.length ≤ 1024
  | .siteRootGenerate _ pos blob => fits 8 pos && fits 768 blob
  | .siteRootLoad _ pos blob => fits 8 pos && blob.length == 96
  | .siteRootExport _ pos blob => fits 8 pos && fits 768 blob
  | .keyPurposeGen _ purpose gen => fits 8 purpose && fits 32 gen
  | .keyCreate _ keyId alg flags => fits 32 keyId && fits 8 alg && fits 8 flags
  | .keySign _ keyId flags data => fits 32 keyId && fits 8 flags && data.length ≤ 4000
  | .keyEcdh _ keyId peer => fits 32 keyId && fits 16 peer.length
  | .keyAeadSeal _ keyId nonce aad data => fits 32 keyId && fits 96 nonce && aad.length ≤ 256 && data.length ≤ 400
  | .keyAeadOpen _ keyId nonce aad data => fits 32 keyId && fits 96 nonce && aad.length ≤ 256 && data.length ≤ 416
  | .rngRead _ count flags => fits 16 count && fits 8 flags
  | .attest _ nonceLen nonce => fits 8 nonceLen && nonce.length == 32
  | .faultStatus _ => true
  | .cellStatus _ region block slot => fits 8 region && fits 8 block && fits 8 slot
  | .scorebookRead _ source count from_ => fits 8 source && fits 16 count && fits 32 from_
  | .scorebookRelease _ flags _ => fits 8 flags
  | .faultInject _ region block slot kind => fits 8 region && fits 8 block && fits 8 slot && fits 8 kind
  | .twinStatus _ => true
  | .twinJoin _ apply => fits 64 apply
  | .twinHandover _ apply => fits 64 apply
  | .twinTake _ apply => fits 64 apply
  | .twinLeave _ apply => fits 64 apply
  | .ringConfig _ en prio => fits 8 en && fits 32 prio
  | .ringStatus _ => true
  | .sysReset _ pos => fits 8 pos
  | .bootStatus _ pos => fits 8 pos
  | .bootHost _ transfer => fits 16 transfer
  | .bundleWrite _ pos source flags transfer => fits 8 pos && fits 8 source && fits 8 flags && fits 16 transfer
  | .bundleGoldenCopy _ pos flags transfer => fits 8 pos && fits 8 flags && fits 16 transfer
  | .updateActivate _ pos slot trialS => fits 8 pos && fits 8 slot && fits 32 trialS
  | .updateConfirm _ pos hash => fits 8 pos && fits 384 hash
  | .updateSwap _ apply => fits 64 apply
  | .requestDatagram bytes _ => bytes.length ≤ 4100
  | .arpIcmpEcho address => fits 32 address
  | .ptpDelayResp _ _ _ _ => true
  | .busMasterEnable _ => true
  | .lossOfSignal _ => true
  | .tamperInputInactive _ => true
  | .twinTrainingAnswer roundTrip turnPs _ => fits 32 roundTrip && fits 32 turnPs
  | .twinForwardedCommand opcode payload _ => fits 16 opcode && payload.length ≤ 4080
  | .twinForwardResult opcode st dt _ => fits 16 opcode && fits 8 st && fits 16 dt
  | .twinForwardTimeout => true
  | .bundleWriteDone code => code ≤ 7
  | .fuseBurnDone _ => true

end Sys2Proof
end

