-- ==== Sys2Proof/Tests/Slice0.lean ====
section
/-! SUPPORT. Checks of the model's own work: small steps with results taken from the spec, and for every statement with hypotheses a witness: concrete
states and operands that meet, clause by clause, all of a clause's hypotheses together. -/

section
set_option Elab.async false

namespace Sys2Proof.Tests
open Sys2Proof.Machine

/-- An open mailbox. -/
def mbxUp : Mailbox := { Mailbox.reset with en := true }

/-- A mailbox with a request in execution. -/
def mbxBusy : Mailbox := { mbxUp with running := some ⟨0, 1, 0, [], 0⟩ }

/-- Every court is active with the given mailboxes. -/
def withMbx (m : Mailbox) (s : State) : State :=
  { s with courts := Vector.replicate 16 { Court.absent with state := .active, mbx := Vector.replicate 4 m } }

/-- After reset, with every court and mailbox open. -/
def wS : State := withMbx mbxUp State.reset

/-- The same with a request in execution at every mailbox. -/
def wR : State := withMbx mbxBusy State.reset

/-- A request of a court on its command mailbox 0, with nothing amiss. -/
def wO (c : CourtId) : Origin := ⟨c, 0, 0, false, false, 0⟩

/-- Every bay alike. -/
def bays (f : Bay → Bay) (s : State) : State := { s with bays := Vector.replicate 96 (f Bay.reset) }

/-- The tick count. -/
def at_ (n : Nat) (s : State) : State := { s with clock := { s.clock with tick := n } }

/-- Bytes that are zero but for some. -/
def table (n : Nat) (l : List (Nat × Nat)) : List Byte :=
  (List.range n).map fun i => match l.find? (fun x => x.1 == i) with
    | some x => BitVec.ofNat 8 x.2
    | none => 0

/-- A bay table entry that is zero but for some bytes. -/
def entry (l : List (Nat × Nat)) : List Byte := table 512 l

/-- A calendar of one day, one season and one zone. -/
def calendar : List Byte :=
  table 640 ([(0, 1), (1, 1), (2, 1), (4, 1), (272, 33)] ++ (List.range 14).map fun i => (18 + i, 255))

/-- A request message with a payload, its trailer right. -/
def msg (c m op seq : Nat) (p : List Byte) : List Byte :=
  let h := leBytes (c + 16 * m) 1 ++ [3] ++ leBytes 0 2 ++ leBytes seq 4 ++ leBytes op 2 ++ leBytes p.length 2 ++ leBytes 0 4 ++ p
  h ++ leBytes (crc32c h) 4

/-- A mailbox with one message in its ring. -/
def mbxIn : Mailbox := { mbxUp with slotUnits := 8, inProd := 1 }

/-- A state in which mailbox 0 of court 0 is the next to be visited. -/
def wIn : State :=
  { wS with courts := wS.courts.set 0 { Court.absent with state := .active, mbx := Vector.replicate 4 mbxIn }, host := { wS.host with busMaster := true },
            roundPos := roundPlace 0 0 }

/-- An uplink frame of a tick. -/
def uf (t : Nat) : UpFrame :=
  { crcOk := true, dropped := false, tick := t, alive := 7, ftype := 1, hstate := 0, stopped := false, localTrip := false, selected := 0, dlBad := 0,
    dtClamp := 0, legRej := 0, appliedTick := 0, temp := 25, dispGen := 0, ctrl := [], plc := [], agc := 0, clip := 0, metro := [], metroValid := 0,
    switchI := [], residual := [], insulation := [], earthStatus := 0, rfBb := [] }

/-- A downlink frame of a tick. -/
def df (t : Nat) : DownFrame :=
  { crcOk := true, early := true, tick := t, alive := 7, ftype := 1, whistle := ⟨0, 0, 0, 0, 0, true, true⟩, legs := [], sw := [], rearm := false, plcTx := [],
    plcCtl := 0, pilotMode := 1, pilotDuty := 0, disp := none, ident := [], config := none, fw := none }

/-- The CRC of an unused entry (VERSION 1, all other bytes zero), in steps of 32 bytes. -/
theorem crc_unused : crc32c ((1 : Byte) :: List.replicate 507 0) = 97609867 := by
  have e : (1 : Byte) :: List.replicate 507 0 = (1 :: List.replicate 27 0) ++ (List.replicate 32 (0 : Byte) ++ (List.replicate 32 (0 : Byte) ++ (List.replicate 32 (0 : Byte) ++ (List.replicate 32 (0 : Byte) ++ (List.replicate 32 (0 : Byte) ++ (List.replicate 32 (0 : Byte) ++ (List.replicate 32 (0 : Byte) ++ (List.replicate 32 (0 : Byte) ++ (List.replicate 32 (0 : Byte) ++ (List.replicate 32 (0 : Byte) ++ (List.replicate 32 (0 : Byte) ++ (List.replicate 32 (0 : Byte) ++ (List.replicate 32 (0 : Byte) ++ (List.replicate 32 (0 : Byte) ++ (List.replicate 32 (0 : Byte)))))))))))))))) := by
    decide +kernel
  rw [crc32c, e]
  simp only [List.foldl_append]
  rw [show List.foldl (crcByte 32 0x82F63B78 true) 4294967295 ((1 : Byte) :: List.replicate 27 0) = 2854466466 from by decide +kernel]
  rw [show List.foldl (crcByte 32 0x82F63B78 true) 2854466466 (List.replicate 32 (0 : Byte)) = 3494862485 from by decide +kernel]
  rw [show List.foldl (crcByte 32 0x82F63B78 true) 3494862485 (List.replicate 32 (0 : Byte)) = 548758141 from by decide +kernel]
  rw [show List.foldl (crcByte 32 0x82F63B78 true) 548758141 (List.replicate 32 (0 : Byte)) = 1559443876 from by decide +kernel]
  rw [show List.foldl (crcByte 32 0x82F63B78 true) 1559443876 (List.replicate 32 (0 : Byte)) = 2874937654 from by decide +kernel]
  rw [show List.foldl (crcByte 32 0x82F63B78 true) 2874937654 (List.replicate 32 (0 : Byte)) = 3137600697 from by decide +kernel]
  rw [show List.foldl (crcByte 32 0x82F63B78 true) 3137600697 (List.replicate 32 (0 : Byte)) = 1267994109 from by decide +kernel]
  rw [show List.foldl (crcByte 32 0x82F63B78 true) 1267994109 (List.replicate 32 (0 : Byte)) = 2352940235 from by decide +kernel]
  rw [show List.foldl (crcByte 32 0x82F63B78 true) 2352940235 (List.replicate 32 (0 : Byte)) = 2830054822 from by decide +kernel]
  rw [show List.foldl (crcByte 32 0x82F63B78 true) 2830054822 (List.replicate 32 (0 : Byte)) = 1354203559 from by decide +kernel]
  rw [show List.foldl (crcByte 32 0x82F63B78 true) 1354203559 (List.replicate 32 (0 : Byte)) = 1124765501 from by decide +kernel]
  rw [show List.foldl (crcByte 32 0x82F63B78 true) 1124765501 (List.replicate 32 (0 : Byte)) = 3304341382 from by decide +kernel]
  rw [show List.foldl (crcByte 32 0x82F63B78 true) 3304341382 (List.replicate 32 (0 : Byte)) = 3193602717 from by decide +kernel]
  rw [show List.foldl (crcByte 32 0x82F63B78 true) 3193602717 (List.replicate 32 (0 : Byte)) = 2226676275 from by decide +kernel]
  rw [show List.foldl (crcByte 32 0x82F63B78 true) 2226676275 (List.replicate 32 (0 : Byte)) = 2663668558 from by decide +kernel]
  rw [show List.foldl (crcByte 32 0x82F63B78 true) 2663668558 (List.replicate 32 (0 : Byte)) = 4197357428 from by decide +kernel]
  rfl

/-- The entry of an unused bay. -/
def unusedEntry : List Byte := (1 : Byte) :: List.replicate 507 0 ++ leBytes 97609867 4

theorem unusedEntry_take : unusedEntry.take 508 = (1 : Byte) :: List.replicate 507 0 := by decide +kernel

/-- After reset, every court and mailbox open and the bay table's base address given. -/
def bayBaseS : State := { wS with host := { wS.host with bayBaseSet := true } }

theorem unusedEntry_ok :
    (bayBaseS.take (wO 0).court (wO 0).mbx 0x0302 (reloadLayout 1)).entriesFail (wO 0) [(3, unusedEntry)] = none := by
  rw [State.entriesFail, State.entryChecks, unusedEntry_take, crc_unused]
  decide +kernel

/-- A transfer that holds a calendar. -/
def calX : InXfer := ⟨9, calendar, true, 0, false, false⟩

/-- After a restart, with the active calendar's hash known and its bytes handed in again. -/
def calS : State :=
  { wS with
    legal := { wS.legal with valid := true, regs := { wS.legal.regs with activeHash := Config.sha384 calendar } }
    courts := Vector.replicate 16 { Court.absent with state := .active, mbx := Vector.replicate 4 mbxUp, inXfers := [calX] } }

/- Worked results of the spec. -/

/-- The nine ASCII bytes "123456789". -/
def nineDigits : List Byte := (List.range 9).map fun i => BitVec.ofNat 8 (49 + i)

/-- R137: the check value of CRC-32C. -/
theorem test_crc32c_check : crc32c nineDigits = 0xE3069283 := by decide +kernel

/-- R518: the check value of the safety CRC. -/
theorem test_crcSafe_check : crcSafe nineDigits = 0x1697D06A := by decide +kernel

/-- R137, R138: the check values of the five presets of a CRC unit. -/
theorem test_crc_presets :
    (((⟨0, false, false, 9, 0, none⟩ : CrcUnit).feed (leGet nineDigits 0 9)).final = 0xF4) ∧
    (((⟨1, false, false, 9, 0xFFFF, none⟩ : CrcUnit).feed (leGet nineDigits 0 9)).final = 0x29B1) ∧
    (((⟨2, true, true, 9, 0xFFFFFFFF, none⟩ : CrcUnit).feed (leGet nineDigits 0 9)).final = 0xCBF43926) ∧
    (((⟨3, true, true, 9, 0xFFFFFFFF, none⟩ : CrcUnit).feed (leGet nineDigits 0 9)).final = 0xE3069283) ∧
    (((⟨4, false, false, 9, 0, none⟩ : CrcUnit).feed (leGet nineDigits 0 9)).final = 0x6C40DF5F0B497347) := by decide +kernel

/-- The example "locating the cells of bay 29" (spec/01): region 4; cell 4.6.4 is the pilot and session cell, 4.7.0 the meter cell, 4.7.3 the guard cell. -/
theorem test_bay29_cells :
    (CellId.bay 29 2).region = 4 ∧ (CellId.bay 29 0).slot = 50 ∧ (CellId.bay 29 2).slot = 8 * 6 + 4 ∧ (CellId.bay 29 6).slot = 8 * 7 + 0 ∧
    (CellId.bay 29 9).slot = 8 * 7 + 3 ∧ (CellId.site 4 0).slot = 8 * 7 + 4 := by decide +kernel

/-- Bay 29 of the example "one tick of leg 0" (spec/10): leg 0 complementary, DT_PS 100,000, CARRIER_U 65,536. -/
def leg0Bay : Bay :=
  { Bay.reset with
    entry := some (entry [(0, 1), (1, 1), (3, 1), (192, 1), (196, 0xA0), (197, 0x86), (198, 1), (202, 1), (206, 0xFF), (207, 0xFF)])
    link := { Bay.reset.link with dtMin := 40000, dtWritten := 0, dtOld := 0 } }

/-- Its step 1: the duty is 26,214; dt_u is 6,554. -/
theorem test_leg0_duty : leg0Bay.duty ⟨26114, 0x20000, 1200, 0, 0, true⟩ 1150 = 26214 ∧ leg0Bay.dtU = 6554 := by decide +kernel

/-- Its steps 2 and 3: the four edges and their targets. -/
theorem test_leg0_edges :
    (leg0Bay.planLeg 0 5 26214 0 ⟨[], 1, 0, 0⟩).2 = ⟨[0, 2, 0, 1], [19661, 26215, 45875, 52429]⟩ := by decide +kernel

/-- Its step 4 passes the interlock; the second edge at 25,000 does not, with code 3. -/
theorem test_leg0_interlock :
    leg0Bay.ilkCheck 0 ⟨1, -19661, -262144⟩ ⟨[0, 2, 0, 1], [19661, 26215, 45875, 52429]⟩ = 0 ∧
    leg0Bay.ilkCheck 0 ⟨1, -19661, -262144⟩ ⟨[0, 2, 0, 1], [19661, 25000, 45875, 52429]⟩ = 3 := by decide +kernel

/-- The queue of the example "a bay link intake queue" (spec/05): 16 words, W 19, R 5. -/
def queue19 : Queue := { Queue.reset 4 with words := List.replicate 14 (0, 0), w := 19, r := 5 }

/-- Its step 2: a packet of three words is dropped, and the reader's 14 words stay. -/
theorem test_queue_overflow : (queue19.offer ⟨[1, 2, 3], true, true, false, false⟩).1 = queue19 := by decide +kernel

/-- The example "an inventory on bay 52" (spec/09): ACC 51 gives Q 3, ACC 80 gives Q 4. -/
theorem test_inventory_q : ({ Ident.reset with acc := 80 }).qForce = 4 ∧ ({ Ident.reset with acc := 51 }).qForce = 3 := by decide +kernel

/-- No row of the opcode table gives bits, so no word spells a command. -/
theorem test_no_word_spells : decodeTableWord 8 0 = none ∧ decodeTableWord 64 0xFFFFFFFF = none := ⟨rfl, rfl⟩

/- A malformed command for each check of well-formedness. -/

theorem test_wf_value_width : (Instr.registerWrite 0x100 (2 ^ 32)).wf = false ∧ (Instr.registerWrite 0x100 (2 ^ 32 - 1)).wf = true := by decide +kernel

theorem test_wf_source_width : (Instr.evtAck 512 1).wf = false ∧ (Instr.evtAck 511 256).wf = false ∧ (Instr.evtAck 511 255).wf = true := by decide +kernel

theorem test_wf_index_width : (Instr.mbxBellInbound 0 0 8192).wf = false ∧ (Instr.mbxBellOutbound 0 0 8192).wf = false := by decide +kernel

theorem test_wf_data_length : (Instr.bulkPut (wO 0) 1 0 0 0 (List.replicate 4073 0)).wf = false ∧ (Instr.bulkPut (wO 0) 1 0 0 0 [1]).wf = true := by
  decide +kernel

/- Witnesses of the statements about every command, every state or every number. -/

/-- A state with a command waiting. -/
def waiting : State := { State.reset with pending := [.refclkLoss] }

/-- The hypotheses of StepTakesFront can be met, clause by clause. -/
theorem witness_StepTakesFront :
    (∃ (s : State) (c : Instr) (rest : List Instr), s.pending = c :: rest) ∧ (∃ s : State, s.pending = []) :=
  ⟨⟨waiting, .refclkLoss, [], rfl⟩, ⟨State.reset, rfl⟩⟩

/-- The hypothesis of CommandsLeaveQueue can be met. -/
theorem witness_CommandsLeaveQueue : ∃ (c : Instr) (s t : State), exec c s = .next t := ⟨.siteTimeStep, State.reset, _, rfl⟩

/-- The hypotheses of StepKeepsInvariant can be met by a state with memory listed and a command waiting. -/
theorem witness_StepKeepsInvariant : ∃ s t : State, s.Inv ∧ step s = .next t :=
  ⟨{ waiting with mem := { waiting.mem with cells := [⟨9, 1⟩] } }, _, by unfold State.Inv; decide +kernel, rfl⟩

/-- The hypotheses of PilotBands can be met at both ends of the range of HALF_W. -/
theorem witness_PilotBands : (∃ w : Int, 0 < w ∧ w ≤ 1500 ∧ w = 1) ∧ (∃ w : Int, 0 < w ∧ w ≤ 1500 ∧ w = 1500) :=
  ⟨⟨1, by decide, by decide, rfl⟩, ⟨1500, by decide, by decide, rfl⟩⟩

/-- The hypothesis of LastWordRing can be met at the last place of the ring. -/
theorem witness_LastWordRing : ∃ k : Scorebook, k.lwNext < 8 ∧ k.lwNext = 7 :=
  ⟨{ State.reset.faults.book with lwNext := 7 }, by decide +kernel, rfl⟩

/-- The hypotheses of ReadsChangeNothing can be met by commands of both lists. -/
theorem witness_ReadsChangeNothing :
    (∃ (o : Origin) (bay : Nat) (c : Instr), c ∈ [Instr.pilotStatus o bay]) ∧ (∃ (o : Origin) (bay : Nat) (c : Instr), c ∈ [Instr.legalRead o bay]) :=
  ⟨⟨wO 0, 3, .pilotStatus (wO 0) 3, by simp⟩, ⟨wO 0, 3, .legalRead (wO 0) 3, by simp⟩⟩

/-- The hypotheses of TickPhases can be met, clause by clause. -/
theorem witness_TickPhases :
    (∃ (s : State) (b : BayId) (f : UpFrame), s.clock.cellRuns = true ∧ s.maskedIntake = false ∧ s.bankFailed b = false ∧ s.bays[(b : BayId)].link.held = some f ∧ (f.tick + 2) % 2 ^ 48 = s.now % 2 ^ 48) ∧
    (∃ (s : State) (b : BayId), s.clock.cellRuns = true ∧ s.bays[(b : BayId)].link.held = none) ∧
    (∃ (s : State) (c : CellId) (d : TickDone), s.clock.cellRuns = true ∧ s.cellUp c = true ∧ s.faults.marks = [] ∧ s.idleCell c = true ∧ d.reads = 0) ∧
    (∃ (s : State) (b : BayId) (d : TickDone), s.clock.cellRuns = true ∧ s.cellUp (.bay b 7) = true ∧ s.faults.marks = [] ∧ s.idleCell (.bay b 7) = false ∧ d.reads = 0) ∧
    (∃ (s : State) (c : CellId) (m : CellMark), m ∈ s.faults.marks ∧ m.cell = c) ∧
    (∃ (s : State) (b : BayId), s.clock.cellRuns = true ∧ s.cellUp (.bay b 0) = true ∧ s.bays[(b : BayId)].pilotFlag 2 = true) ∧
    (∃ (s : State), s.clock.cellRuns = true) ∧
    (∃ (s : State), s.clock.cellRuns = true ∧ s.twin.en = false ∧ s.twin.mirrors = [] ∧ s.twin.todo = []) ∧
    (∃ (s : State), s.clock.cellRuns = false) :=
  ⟨⟨bays (fun y => { y with link := { y.link with held := some (uf 3) } }) (at_ 5 wS), 3, uf 3, by decide +kernel⟩,
   ⟨wS, 3, by decide +kernel⟩,
   ⟨wS, .bay 3 0, ⟨some 10, none, 0⟩, by decide +kernel⟩,
   ⟨bays (fun y => { y with entry := some (entry [(1, 1), (3, 1), (384, 1)]) }) wS, 3, ⟨some 10, none, 0⟩, by decide +kernel⟩,
   ⟨(fun s : State => { s with faults := { s.faults with marks := [⟨.bay 3 0, 5, none, false⟩] } }) wS, .bay 3 0, ⟨.bay 3 0, 5, none, false⟩, by decide +kernel⟩,
   ⟨bays (fun y => { y with entry := some (entry [(1, 1), (3, 1), (64, 4)]) }) wS, 3, by decide +kernel⟩,
   ⟨wS, by decide +kernel⟩,
   ⟨wS, by decide +kernel⟩,
   ⟨(fun s : State => { s with clock := { s.clock with cellRuns := false } }) wS, by decide +kernel⟩⟩

/-- The hypotheses of SettingsAndRequests can be met, clause by clause. -/
theorem witness_SettingsAndRequests :
    (∃ (s : State), ((∀ a, a ∈ s.armed → s.now < a.tick))) ∧
    (∃ (s : State) (a : Armed) (c : LedgerCfg), s.armed = [a] ∧ a.tick ≤ s.now ∧ a.cmd = .ledgerConfig c ∧ a.same = false ∧ a.site = true ∧ a.bays = 0 ∧ s.gens.siteTick ≠ s.now ∧ (s.mbox a.origin.court a.origin.mbx).running.isSome = true) ∧
    (∃ (s : State) (c : CourtId) (m : MbxId) (b : List Byte), s.isTurn c m = true ∧ s.host.port = .pcie ∧ s.msgFits c m b = true ∧ s.trailerOk b = true ∧ hdrFault c m b = 0 ∧ m.val < 2 ∧ s.mirroring = false ∧ msgSeq b = (s.mbox c m).expectSeq ∧ msgOpcode b = 0x0B03 ∧ msgLen b = 4 ∧ leGet b 16 4 = 0) ∧
    (∃ (s : State) (c : CourtId) (m : MbxId) (b : List Byte), s.isTurn c m = true ∧ s.host.port = .pcie ∧ s.msgFits c m b = true ∧ s.trailerOk b = false) ∧
    (∃ (s : State) (c : CourtId) (m : MbxId) (b : List Byte), s.isTurn c m = true ∧ s.host.port = .pcie ∧ s.msgFits c m b = true ∧ s.trailerOk b = true ∧ msgSeq b ≠ (s.mbox c m).expectSeq ∧ (s.mbox c m).cache = []) ∧
    (∃ (s : State) (c : CourtId) (m : MbxId), s.isTurn c m = false) :=
  ⟨⟨wS, by decide +kernel⟩,
   ⟨(fun s : State => { s with armed := [⟨0, wO 0, .ledgerConfig ⟨1, 0, 0, 0, 0, 0, 1, 1⟩, 0, true, false⟩], gens := { s.gens with siteTick := 7 } }) wR, ⟨0, wO 0, .ledgerConfig ⟨1, 0, 0, 0, 0, 0, 1, 1⟩, 0, true, false⟩, ⟨1, 0, 0, 0, 0, 0, 1, 1⟩, by decide +kernel⟩,
   ⟨wIn, 0, 0, msg 0 0 0x0B03 1 [0, 0, 0, 0], by decide +kernel⟩,
   ⟨wIn, 0, 0, (msg 0 0 0x0B03 1 [0, 0, 0, 0]).set 4 9, by decide +kernel⟩,
   ⟨wIn, 0, 0, msg 0 0 0x0B03 5 [0, 0, 0, 0], by decide +kernel⟩,
   ⟨wS, 0, 0, by decide +kernel⟩⟩

/-- The hypotheses of SiteTime can be met, clause by clause. -/
theorem witness_SiteTime :
    (∃ (s : State) (m : SyncMsg), m.valid = true ∧ s.ptpRuns = true ∧ s.mirroring = false ∧ s.clock.epochSet = false) ∧
    (∃ (s : State) (m : SyncMsg), m.valid = true ∧ s.ptpRuns = true ∧ s.mirroring = false ∧ s.clock.epochSet = true ∧ s.clock.state = .locked) ∧
    (∃ (m : SyncMsg), m.valid = false) ∧
    (∃ (s : State), s.ptpRuns = true) ∧
    (∃ (s : State), s.ptpRuns = true ∧ s.clock.epochSet = true ∧ 16 ≤ s.clock.beyond ∧ s.mirroring = false) ∧
    (∃ (s : State), s.clock.beyond < 16) ∧
    (∃ (s : State), s.ptpRuns = true ∧ s.clock.state = .locking ∧ 16 ≤ s.clock.within) ∧
    (∃ (s : State), s.ptpRuns = true ∧ s.clock.state = .locked ∧ s.clock.lastSync + 3000000 ≤ s.now) ∧
    (∃ (s : State) (w : TimeSetWait), s.clock.timeSet = [w] ∧ w.applyTick ≤ s.now ∧ s.clock.epochSet = false ∧ (s.mbox w.origin.court w.origin.mbx).running.isSome = true) ∧
    (∃ (s : State) (w : TimeSetWait), s.clock.timeSet = [w] ∧ s.now < w.applyTick) ∧
    (∃ (o : Origin) (s : State) (source : Nat) (domain : Nat) (transport : Nat) (step : Nat), Serves o s ∧ FromCourt o [0] ∧ source ≤ 3 ∧ domain ≤ 127 ∧ transport ≤ 1 ∧ 100 ≤ step ∧ step ≤ 1000000) ∧
    (∃ (o : Origin) (s : State) (apply : Nat), Serves o s ∧ FromCourt o [0] ∧ s.now + 1000 ≤ apply) ∧
    (∃ (o : Origin) (s : State) (apply : Nat), Serves o s ∧ FromCourt o [0] ∧ apply < s.now + 1000) :=
  ⟨⟨(fun s : State => { s with clock := { s.clock with cfg := ⟨2, 0, 0, 1000⟩ } }) wS, ⟨5000, 4000, 37, true⟩, by decide +kernel⟩,
   ⟨(fun s : State => { s with clock := { s.clock with cfg := ⟨2, 0, 0, 1000⟩, epochSet := true, state := .locked } }) wS, ⟨5000, 4000, 37, true⟩, by decide +kernel⟩,
   ⟨⟨5000, 4000, 37, false⟩, by decide +kernel⟩,
   ⟨(fun s : State => { s with clock := { s.clock with cfg := ⟨2, 0, 0, 1000⟩ } }) wS, by decide +kernel⟩,
   ⟨(fun s : State => { s with clock := { s.clock with cfg := ⟨2, 0, 0, 1000⟩, epochSet := true, beyond := 16 } }) wS, by decide +kernel⟩,
   ⟨wS, by decide +kernel⟩,
   ⟨(fun s : State => { s with clock := { s.clock with cfg := ⟨2, 0, 0, 1000⟩, state := .locking, within := 16 } }) wS, by decide +kernel⟩,
   ⟨(fun s : State => { s with clock := { s.clock with cfg := ⟨2, 0, 0, 1000⟩, state := .locked, tick := 3000000 } }) wS, by decide +kernel⟩,
   ⟨(fun s : State => { s with clock := { s.clock with timeSet := [⟨5000, 7, wO 0⟩], tick := 7 } }) wR, ⟨5000, 7, wO 0⟩, by decide +kernel⟩,
   ⟨(fun s : State => { s with clock := { s.clock with timeSet := [⟨5000, 7, wO 0⟩], tick := 6 } }) wS, ⟨5000, 7, wO 0⟩, by decide +kernel⟩,
   ⟨(wO 0), wS, 3, 127, 1, 100, by decide +kernel⟩,
   ⟨(wO 0), wS, 1000, by decide +kernel⟩,
   ⟨(wO 0), wS, 999, by decide +kernel⟩⟩

/-- The hypotheses of MailboxBells can be met, clause by clause. -/
theorem witness_MailboxBells :
    (∃ (s : State) (m : MbxId), s.host.ready = true ∧ s.host.port = .pcie ∧ (s.mbox 0 m).en = false) ∧
    (∃ (s : State), s.host.ready = true ∧ s.host.port = .pcie) ∧
    (∃ (s : State) (c : CourtId) (m : MbxId) (index : Nat), s.host.ready = true ∧ s.host.port = .pcie ∧ s.courts[c].state = .active ∧ s.mbxOpen c m = true ∧ m.val ≠ 2 ∧ ahead (s.mbox c m).inLog2 index (s.mbox c m).inCons ≤ 2 ^ (s.mbox c m).inLog2 ∧ ahead (s.mbox c m).inLog2 (s.mbox c m).inProd (s.mbox c m).inCons ≤ ahead (s.mbox c m).inLog2 index (s.mbox c m).inCons) ∧
    (∃ (s : State) (c : CourtId) (m : MbxId) (index : Nat), s.host.ready = true ∧ s.host.port = .pcie ∧ s.courts[c].state = .active ∧ s.mbxOpen c m = true ∧ ahead (s.mbox c m).outLog2 (s.mbox c m).outProd index ≤ 2 ^ (s.mbox c m).outLog2 ∧ ahead (s.mbox c m).outLog2 index (s.mbox c m).outCons ≤ ahead (s.mbox c m).outLog2 (s.mbox c m).outProd (s.mbox c m).outCons) ∧
    (∃ (s : State) (c : CourtId) (m : MbxId) (index : Nat), s.host.ready = true ∧ s.host.port = .pcie ∧ s.courts[c].state = .active ∧ ((s.mbxOpen c m = false ∨ m.val = 2 ∨ 2 ^ (s.mbox c m).inLog2 < ahead (s.mbox c m).inLog2 index (s.mbox c m).inCons))) :=
  ⟨⟨State.reset, 0, by decide +kernel⟩,
   ⟨wS, by decide +kernel⟩,
   ⟨wS, 0, 0, 4, by decide +kernel⟩,
   ⟨wS, 0, 0, 0, by decide +kernel⟩,
   ⟨wS, 0, 2, 0, by decide +kernel⟩⟩

/-- The hypotheses of MessagesAndBulk can be met, clause by clause. -/
theorem witness_MessagesAndBulk :
    (∃ (s : State) (c : CourtId) (m : MbxId) (msg : OutMsg) (rest : List OutMsg), (s.mbox c m).out = msg :: rest ∧ msg.opcode ≠ 0x0291 ∧ m.val ≠ 2 ∧ s.outSlotFree c m = true ∧ s.host.port = .pcie) ∧
    (∃ (s : State) (c : CourtId), s.outSlotFree c 2 = true ∧ s.courts[c].lost = 0 ∧ s.courts[c].records ≠ [] ∧ 255 ≤ (64 * (s.mbox c 2).slotUnits - 20) / 16 ∧ s.courts[c].records.length ≤ 255) ∧
    (∃ (s : State) (bytes : List Byte), s.host.ready = true ∧ s.host.port = .eth10g ∧ bytes.length = 20 + leGet bytes 10 2 ∧ leGet bytes (16 + leGet bytes 10 2) 4 = crc32c (bytes.take (16 + leGet bytes 10 2)) ∧ leGet bytes 0 1 = 0 ∧ (s.mbox 0 0).held.length < 8) ∧
    (∃ (s : State), ((s.host.port = .eth10g ∨ s.host.port = .sgmii))) ∧
    (∃ (o : Origin) (s : State) (num : Nat) (off : Nat) (data : List Byte), s.canTake o.court 3 = true ∧ s.twin.armAt = none ∧ reserved o = none ∧ s.isReturner = false ∧ s.inLoader = false ∧ s.heldXfer o.court num = none ∧ 1 ≤ data.length ∧ data.length ≤ 4072 ∧ 1 ≤ num ∧ num < 0xFF00 ∧ off = 0 ∧ s.courts[o.court].inXfers.length < 4 ∧ s.poolUsed + poolWords data.length ≤ s.poolSize) ∧
    (∃ (s : State) (x : InXfer), s.courts[(0 : Fin 16)].inXfers = [x] ∧ x.writing = true ∧ (s.mbox 0 3).running.isSome = true) ∧
    (∃ (s : State) (c : CourtId) (x : InXfer), s.courts[c].inXfers = [x] ∧ x.closed = true ∧ x.writing = false ∧ x.forDisplay = false ∧ x.closedAt + 60000000 ≤ s.now) :=
  ⟨⟨(fun s : State => { s with host := { s.host with busMaster := true } }) (withMbx { mbxUp with out := [⟨0x0B03, 1, true, true, false, [], 0⟩] } State.reset), 0, 0, ⟨0x0B03, 1, true, true, false, [], 0⟩, [], by decide +kernel⟩,
   ⟨{ wS with courts := Vector.replicate 16 { Court.absent with state := .active, mbx := Vector.replicate 4 { mbxUp with slotUnits := 65 }, records := [⟨300, 1, 2, 3⟩] }, host := { wS.host with busMaster := true } }, 0, by decide +kernel⟩,
   ⟨(fun s : State => { s with host := { s.host with port := .eth10g } }) wS, msg 0 0 0x0B03 1 [0, 0, 0, 0], by decide +kernel⟩,
   ⟨(fun s : State => { s with host := { s.host with port := .eth10g } }) wS, by decide +kernel⟩,
   ⟨(wO 0), wS, 1, 0, [1], by decide +kernel⟩,
   ⟨{ wR with courts := wR.courts.set 0 { Court.absent with state := .active, mbx := Vector.replicate 4 mbxBusy, inXfers := [⟨0xFF00, [1], true, 0, true, false⟩] } }, ⟨0xFF00, [1], true, 0, true, false⟩, by decide +kernel⟩,
   ⟨at_ 60000000 { wS with courts := wS.courts.set 5 { Court.absent with inXfers := [⟨9, [1], true, 0, false, false⟩] } }, 5, ⟨9, [1], true, 0, false, false⟩, by decide +kernel⟩⟩

/-- The hypotheses of MailboxCards can be met, clause by clause. -/
theorem witness_MailboxCards :
    (∃ (o : Origin) (s : State) (c : CourtId), Serves o s ∧ ((o.court.val = 0 ∨ o.court = c))) ∧
    (∃ (o : Origin) (s : State) (c : CourtId), Serves o s ∧ o.court.val ≠ 0 ∧ o.court ≠ c) ∧
    (∃ (o : Origin) (s : State) (c : CourtId) (m : MbxId) (ib : Nat) (ob : Nat) (cfg : Nat), Serves o s ∧ FromCourt o [0] ∧ 1 ≤ c.val ∧ ib % 64 = 0 ∧ ob % 64 = 0 ∧ cfgOk m.val cfg = true ∧ s.courts[c].state ≠ .absent) ∧
    (∃ (o : Origin) (s : State) (mask : BitVec 512), Serves o s ∧ mask &&& ~~~ rightsMask s o.court = 0) ∧
    (∃ (o : Origin) (s : State) (mask : BitVec 512), Serves o s ∧ mask &&& ~~~ rightsMask s o.court ≠ 0) :=
  ⟨⟨wO 5, wS, 5, by decide +kernel⟩,
   ⟨wO 5, wS, 6, by decide +kernel⟩,
   ⟨(wO 0), wS, 15, 0, 64, 128, 2 * 2 + 256 * 2 + 4096 * 2, by decide +kernel⟩,
   ⟨(wO 0), wS, 5, by decide +kernel⟩,
   ⟨wO 5, wS, 1, by decide +kernel⟩⟩

/-- The hypotheses of EchoReturnsPayload can be met, clause by clause. -/
theorem witness_EchoReturnsPayload :
    (∃ (o : Origin) (s : State) (data : List Byte), Serves o s ∧ data.length ≤ 444) ∧
    (∃ (o : Origin) (s : State) (data : List Byte), Serves o s ∧ 444 < data.length) :=
  ⟨⟨wO 5, wS, List.replicate 444 0, by decide +kernel⟩,
   ⟨wO 5, wS, List.replicate 445 0, by decide +kernel⟩⟩

/-- The hypotheses of HostRegisters can be met, clause by clause. -/
theorem witness_HostRegisters :
    (∃ (s : State), s.host.port = .pcie) ∧
    (∃ (a : Nat), ((0x20000 ≤ a ∧ a < 0x30000 ∨ 0x5000 ≤ a ∧ a < 0x10000 ∨ 0x3000 ≤ a ∧ a < 0x4000))) ∧
    (∃ (s : State), s.host.port = .pcie ∧ s.host.ready = true ∧ s.clock.cellRuns = true) ∧
    (∃ (s : State), s.host.port = .pcie) ∧
    (∃ (s : State), s.host.ready = true ∧ s.clock.cellRuns = true) ∧
    (∃ (served : Fin 4), served ≠ 0) ∧
    (∃ (s : State), s.host.port = .pcie) ∧
    (∃ (s : State), s.host.port = .pcie) ∧
    (∃ (s : State), s.host.port = .pcie) ∧
    (∃ (o : Origin) (s : State), Serves o s ∧ FromCourt o [0]) ∧
    (∃ (o : Origin) (s : State), Serves o s ∧ FromCourt o [0]) ∧
    (∃ (o : Origin) (s : State) (a : Nat), Serves o s ∧ FromCourt o [0] ∧ ((a % 4 ≠ 0 ∨ 0x10000 ≤ a))) ∧
    (∃ (o : Origin) (s : State) (a : Nat), Serves o s ∧ FromCourt o [0] ∧ ((a % 4 ≠ 0 ∨ 0x10000 ≤ a))) :=
  ⟨⟨wS, by decide +kernel⟩,
   ⟨0x3000, by decide +kernel⟩,
   ⟨wS, by decide +kernel⟩,
   ⟨wS, by decide +kernel⟩,
   ⟨wS, by decide +kernel⟩,
   ⟨1, by decide +kernel⟩,
   ⟨wS, by decide +kernel⟩,
   ⟨wS, by decide +kernel⟩,
   ⟨wS, by decide +kernel⟩,
   ⟨(wO 0), wS, by decide +kernel⟩,
   ⟨(wO 0), wS, by decide +kernel⟩,
   ⟨(wO 0), wS, 0x10000, by decide +kernel⟩,
   ⟨(wO 0), wS, 2, by decide +kernel⟩⟩

/-- The hypotheses of EventControl can be met, clause by clause. -/
theorem witness_EventControl :
    (∃ (s : State) (n : Nat), s.host.ready = true ∧ s.clock.cellRuns = true ∧ n < 256) ∧
    (∃ (s : State) (g : Fin 32) (n : Nat), s.evt.holdUntil[(g : Fin 32)] = some n ∧ n ≤ s.now) ∧
    (∃ (s : State), s.host.ready = true ∧ s.clock.cellRuns = true) ∧
    (∃ (s : State) (i : Fin 32) (w : WakeEntry) (rest : List (Nat × WakeEntry)), s.evt.wakeWrites = (i.val, w) :: rest ∧ s.island.running = true) ∧
    (∃ (s : State) (e : Ev) (i : Fin 512), e.source = i.val ∧ s.evt.count[i] < 255 ∧ (s.releaseEvent e).evt.count = s.evt.count.set i (s.evt.count[i] + 1) ∧ (s.releaseEvent e).evt.pend.getLsbD i.val = true) :=
  ⟨⟨wS, 255, by decide +kernel⟩,
   ⟨at_ 9 { wS with evt := { wS.evt with holdUntil := Vector.replicate 32 (some 9) } }, 31, 9, by decide +kernel⟩,
   ⟨wS, by decide +kernel⟩,
   ⟨(fun s : State => { s with evt := { s.evt with wakeWrites := [(31, ⟨300, true⟩)] } }) wS, 31, ⟨300, true⟩, [], by decide +kernel⟩,
   ⟨wS, ⟨300, 1, 2, 3⟩, 300, by decide +kernel⟩⟩

/-- The hypotheses of CourtLife can be met, clause by clause. -/
theorem witness_CourtLife :
    (∃ (o : Origin) (s : State) (c : CourtId) (sup : Nat) (reg : Nat) (cfg : Nat), Serves o s ∧ FromCourt o [0] ∧ 3 ≤ c.val ∧ 4 ≤ sup ∧ sup ≤ 64 ∧ sup % 4 = 0 ∧ reg ≤ 1024 ∧ reg % 64 = 0 ∧ s.tenants = [] ∧ s.poolUsed + 1024 * sup ≤ s.poolSize ∧ s.retired c = false ∧ cfgOk 0 cfg = true ∧ ((∀ r : RegionId, s.regions[r].fw.length + (tenantFw s.regions[r].fw c reg).length ≤ 64))) ∧
    (∃ (o : Origin) (s : State) (c : CourtId), Serves o s ∧ FromCourt o [0] ∧ c.val ≠ 1 ∧ c.val ≠ 2 ∧ s.courts[c].state = .active ∧ s.courts[c].next = none) ∧
    (∃ (o : Origin) (s : State) (c : CourtId), Serves o s ∧ FromCourt o [0] ∧ 3 ≤ c.val ∧ s.courts[c].state = .active ∧ s.courts[c].next = none ∧ s.ownedMask c = 0) ∧
    (∃ (o : Origin) (s : State), Serves o s ∧ o.court.val ≠ 0) ∧
    (∃ (s : State) (c : CourtId), s.courts[(c : CourtId)].state = .restarting ∧ s.courts[c].moveBy = none) ∧
    (∃ (s : State) (c : CourtId), s.courts[(c : CourtId)].state = .tearingDown ∧ s.teardownBurns c = false ∧ s.courts[c].moveBy = none) :=
  ⟨⟨(wO 0), { wS with courts := Vector.ofFn fun c => if c.val < 3 then { Court.absent with state := .active, mbx := Vector.replicate 4 mbxUp } else Court.absent }, 15, 64, 1024, 2 * 2 + 256 * 2 + 4096 * 2, by decide +kernel⟩,
   ⟨(wO 0), wS, 5, by decide +kernel⟩,
   ⟨(wO 0), wS, 5, by decide +kernel⟩,
   ⟨wO 5, wS, by decide +kernel⟩,
   ⟨{ wS with courts := Vector.replicate 16 { Court.absent with state := .restarting } }, 5, by decide +kernel⟩,
   ⟨{ wS with courts := Vector.replicate 16 { Court.absent with state := .tearingDown } }, 5, by decide +kernel⟩⟩

/-- The hypotheses of BayTableCards can be met, clause by clause. -/
theorem witness_BayTableCards :
    (∃ (o : Origin) (s : State) (base : Nat), Serves o s ∧ FromCourt o [0] ∧ base % 4096 = 0) ∧
    (∃ (o : Origin) (s : State) (base : Nat), Serves o s ∧ FromCourt o [0] ∧ base % 4096 ≠ 0) ∧
    (∃ (o : Origin) (s : State) (bays : BayMask) (b : BayId) (e : List Byte), Serves o s ∧ FromCourt o [0] ∧ baysIn bays = [b] ∧ s.host.bayBaseSet = true ∧ (s.take o.court o.mbx 0x0302 (reloadLayout 1)).entriesFail o [(b, e)] = none ∧ s.entryMoves b e = true) ∧
    (∃ (o : Origin) (s : State) (bays : BayMask) (b : BayId) (e : List Byte) (st : Nat) (dt : Nat), Serves o s ∧ FromCourt o [0] ∧ baysIn bays = [b] ∧ s.host.bayBaseSet = true ∧ (s.take o.court o.mbx 0x0302 (reloadLayout 1)).entriesFail o [(b, e)] = some (b, st, dt)) ∧
    (∃ (o : Origin) (s : State) (b : BayId), Serves o s ∧ ((o.court.val = 0 ∨ 3 ≤ o.court.val ∧ s.owner b = o.court.val))) ∧
    (∃ (o : Origin) (s : State) (b : BayId), Serves o s ∧ 3 ≤ o.court.val ∧ s.owner b ≠ o.court.val) :=
  ⟨⟨(wO 0), wS, 4096, by decide +kernel⟩,
   ⟨(wO 0), wS, 4095, by decide +kernel⟩,
   ⟨(wO 0), bayBaseS, bayBit 3, 3, unusedEntry, by decide +kernel, by decide +kernel, by decide +kernel, by decide +kernel, unusedEntry_ok, by decide +kernel⟩,
   ⟨(wO 0), (fun s : State => { s with host := { s.host with bayBaseSet := true } }) wS, bayBit 3, 3, [], stFAIL, 0, by decide +kernel⟩,
   ⟨wO 5, bays (fun y => { y with entry := some (entry [(1, 1), (3, 1), (2, 5)]) }) wS, 3, by decide +kernel⟩,
   ⟨wO 5, bays (fun y => { y with entry := some (entry [(1, 1), (3, 1), (2, 6)]) }) wS, 3, by decide +kernel⟩⟩

/-- The hypotheses of FabricAndMemory can be met, clause by clause. -/
theorem witness_FabricAndMemory :
    (∃ (s : State) (x : Transfer), s.clock.cellRuns = true ∧ x.cls < 3 ∧ x.op = 0 ∧ x.words.length ≤ 256 ∧ x.linkFails < 3 ∧ s.regions[x.src].regionFail = false ∧ s.regions[x.dst].admits x = true) ∧
    (∃ (s : State) (x : Transfer), s.clock.cellRuns = true ∧ x.cls < 3 ∧ x.op = 1 ∧ x.words.length ≤ 256 ∧ x.linkFails < 3 ∧ s.regions[x.src].regionFail = false ∧ s.regions[x.dst].admits x = true) ∧
    (∃ (s : State) (x : Transfer), s.clock.cellRuns = true ∧ x.cls < 3 ∧ x.op < 2 ∧ x.words.length ≤ 256 ∧ x.linkFails < 3 ∧ s.regions[x.src].regionFail = false ∧ s.regions[x.dst].admits x = false) ∧
    (∃ (s : State) (r : RegionId) (p : Packet), s.regions[(r : RegionId)].queue.fill + p.words.length ≤ 2 ^ s.regions[r].queue.k ∧ p.checkOk = true ∧ p.lenOk = true ∧ p.poisoned = false ∧ p.aborted = false) ∧
    (∃ (s : State) (r : RegionId) (p : Packet), s.regions[(r : RegionId)].queue.fill + p.words.length ≤ 2 ^ s.regions[r].queue.k ∧ ((p.checkOk = false ∨ p.lenOk = false))) ∧
    (∃ (s : State) (id : Nat) (word : Nat), id < 2 ^ 16 ∧ id / 2 ^ 12 = 1 ∧ word < 2 ^ 32 ∧ (bump 32 (s.health id).corrected) % 1024 ≠ 0) ∧
    (∃ (id : Nat), id < 2 ^ 16 ∧ id / 2 ^ 12 = 3) ∧
    (∃ (o : Origin) (s : State), Serves o s ∧ FromCourt o [0, 2]) :=
  ⟨⟨wS, ⟨0, 1, 2, 0, 0xE000, 0, 2, false, none, [5, 6], 2⟩, by decide +kernel⟩,
   ⟨wS, ⟨0, 1, 2, 0, 0xE3FD, 1, 2, false, none, [5, 6], 2⟩, by decide +kernel⟩,
   ⟨wS, ⟨0, 1, 2, 0, 0xE3FE, 1, 2, false, none, [5, 6], 2⟩, by decide +kernel⟩,
   ⟨wS, 2, ⟨List.replicate 16 1, true, true, false, false⟩, by decide +kernel⟩,
   ⟨wS, 2, ⟨[1, 2], true, false, false, false⟩, by decide +kernel⟩,
   ⟨wS, 0x1FFF, 7, by decide +kernel⟩,
   ⟨0x3000, by decide +kernel⟩,
   ⟨wO 2, wS, by decide +kernel⟩⟩

/-- The hypotheses of LinkLane can be met, clause by clause. -/
theorem witness_LinkLane :
    (∃ (s : State) (b : BayId), s.bays[(b : BayId)].link.st = .down ∧ s.bays[b].link.holdUntil ≤ s.now ∧ s.lanesHeld = false) ∧
    (∃ (s : State) (b : BayId), s.bays[(b : BayId)].link.st = .down ∧ s.bays[b].link.signal = true ∧ s.bays[b].link.holdUntil ≤ s.now ∧ s.lanesHeld = false) ∧
    (∃ (s : State) (b : BayId), s.bays[(b : BayId)].link.blockLock = false ∧ s.bays[b].link.st = .down) ∧
    (∃ (s : State) (b : BayId), s.bays[(b : BayId)].link.st ≠ .down) ∧
    (∃ (s : State) (b : BayId), s.bays[(b : BayId)].link.st ≠ .down ∧ s.bays[b].link.blockLock = true ∧ s.bays[b].link.fw = none) ∧
    (∃ (s : State) (b : BayId) (pos : Nat) (tick : Nat), s.bays[(b : BayId)].link.st = .lock ∧ s.bays[b].link.blockLock = true ∧ ((pos = 0 ∨ pos = 8 ∨ pos = 15)) ∧ tick % 22 = pos ∧ s.bays[b].link.alignNext = some pos ∧ s.bays[b].link.alignCount = 2) ∧
    (∃ (s : State) (b : BayId), s.bays[(b : BayId)].link.st = .lock ∧ s.bays[b].link.enteredAt + 10000 ≤ s.now ∧ s.bays[b].link.fw = none) ∧
    (∃ (s : State) (b : BayId), s.bays[(b : BayId)].link.st = .measure ∧ s.bays[b].link.enteredAt + 10000 ≤ s.now ∧ s.bays[b].link.fw = none) ∧
    (∃ (s : State) (b : BayId) (seq : Nat), s.bays[(b : BayId)].link.st = .measure ∧ seq = s.bays[b].link.exchanges.length ∧ seq < 15) ∧
    (∃ (s : State) (b : BayId), s.bays[(b : BayId)].link.st = .measure ∧ s.bays[b].link.exchanges.length = 15) :=
  ⟨⟨wS, 3, by decide +kernel⟩,
   ⟨bays (fun y => { y with link := { y.link with signal := true, holdUntil := 5 } }) (at_ 5 wS), 3, by decide +kernel⟩,
   ⟨bays (fun y => { y with link := { y.link with signal := true } }) wS, 3, by decide +kernel⟩,
   ⟨bays (fun y => { y with link := { y.link with st := .lock } }) wS, 3, by decide +kernel⟩,
   ⟨bays (fun y => { y with link := { y.link with st := .service, blockLock := true } }) wS, 3, by decide +kernel⟩,
   ⟨bays (fun y => { y with link := { y.link with st := .lock, blockLock := true, alignNext := some 15, alignCount := 2 } }) wS, 3, 15, 37, by decide +kernel⟩,
   ⟨bays (fun y => { y with link := { y.link with st := .lock } }) (at_ 10000 wS), 3, by decide +kernel⟩,
   ⟨bays (fun y => { y with link := { y.link with st := .measure } }) (at_ 10000 wS), 3, by decide +kernel⟩,
   ⟨bays (fun y => { y with link := { y.link with st := .measure, exchanges := List.replicate 14 (1, 1) } }) wS, 3, 14, by decide +kernel⟩,
   ⟨bays (fun y => { y with link := { y.link with st := .measure, exchanges := List.replicate 15 (1, 1) } }) wS, 3, by decide +kernel⟩⟩

/-- The hypotheses of LinkTraffic can be met, clause by clause. -/
theorem witness_LinkTraffic :
    (∃ (s : State) (b : BayId) (q : MgmtOut) (r : MgmtRsp), s.bays[(b : BayId)].link.req = some q ∧ q.req.op = 2 ∧ q.req.addr = 0x11 ∧ r.tag = q.req.tag ∧ r.addr = q.req.addr ∧ r.status = 0 ∧ s.bays[b].link.st = .service ∧ s.bays[b].link.queue = [] ∧ s.bays[b].link.fw = none) ∧
    (∃ (s : State) (b : BayId) (q : MgmtOut) (r : MgmtRsp), s.bays[(b : BayId)].link.req = some q ∧ ((r.tag ≠ q.req.tag ∨ r.addr ≠ q.req.addr))) ∧
    (∃ (s : State) (b : BayId) (q : MgmtOut), s.bays[(b : BayId)].link.req = some q ∧ q.sentAt + 8 ≤ s.now ∧ q.repeats < 16) ∧
    (∃ (s : State) (b : BayId) (q : MgmtOut), s.bays[(b : BayId)].link.req = some q ∧ q.sentAt + 8 ≤ s.now ∧ 16 ≤ q.repeats ∧ s.bays[b].link.fw = none) ∧
    (∃ (s : State) (b : BayId), s.bays[(b : BayId)].link.st = .service ∧ 16 ≤ s.bays[b].link.missRun ∧ s.bays[b].link.fw = none) ∧
    (∃ (s : State) (b : BayId) (f : UpFrame), s.bays[(b : BayId)].link.st = .service ∧ f.dropped = false ∧ f.crcOk = true ∧ f.ftype = 1 ∧ f.tick ∉ s.bays[b].link.accepted ∧ (f.tick + 1) % 2 ^ 48 = s.now % 2 ^ 48 ∧ (f.tick + 2) % 2 ^ 48 ≠ s.now % 2 ^ 48 ∧ s.bays[b].link.lastAlive ≠ some f.alive) ∧
    (∃ (s : State) (b : BayId) (f : UpFrame), s.bays[(b : BayId)].link.st = .service ∧ f.dropped = false ∧ f.crcOk = false) ∧
    (∃ (s : State) (b : BayId) (last : Nat), s.bays[(b : BayId)].link.rejAt = some last ∧ last + 1000 ≤ s.now ∧ 0 < s.bays[b].link.rejLeg) ∧
    (∃ (s : State) (b : BayId) (l : FwLoad) (f : FwSend) (at_ : Nat), s.fwLoad = some l ∧ s.bays[(b : BayId)].link.fw = some f ∧ f.restartAt = some at_ ∧ s.bays[b].link.st = .ready ∧ s.bays[b].link.fwHash = l.hash % 2 ^ 32 ∧ l.bays = bayBit b ∧ l.failed = none) ∧
    (∃ (s : State) (b : BayId) (l : FwLoad) (f : FwSend) (at_ : Nat), s.fwLoad = some l ∧ s.bays[(b : BayId)].link.fw = some f ∧ f.restartAt = some at_ ∧ at_ + 2000000 ≤ s.now ∧ l.bays = bayBit b ∧ l.failed = none) :=
  ⟨⟨bays (fun y => { y with link := { y.link with req := some ⟨⟨2, 5, 0x11, 7⟩, 0, 0⟩, st := .service } }) wS, 3, ⟨⟨2, 5, 0x11, 7⟩, 0, 0⟩, ⟨5, 0, 0x11, 9, 0⟩, by decide +kernel⟩,
   ⟨bays (fun y => { y with link := { y.link with req := some ⟨⟨2, 5, 0x11, 7⟩, 0, 0⟩, st := .service } }) wS, 3, ⟨⟨2, 5, 0x11, 7⟩, 0, 0⟩, ⟨6, 0, 0x11, 9, 0⟩, by decide +kernel⟩,
   ⟨bays (fun y => { y with link := { y.link with req := some ⟨⟨2, 5, 0x11, 7⟩, 0, 15⟩, st := .service } }) (at_ 8 wS), 3, ⟨⟨2, 5, 0x11, 7⟩, 0, 15⟩, by decide +kernel⟩,
   ⟨bays (fun y => { y with link := { y.link with req := some ⟨⟨2, 5, 0x11, 7⟩, 0, 16⟩, st := .service } }) (at_ 8 wS), 3, ⟨⟨2, 5, 0x11, 7⟩, 0, 16⟩, by decide +kernel⟩,
   ⟨bays (fun y => { y with link := { y.link with st := .service, missRun := 16 } }) wS, 3, by decide +kernel⟩,
   ⟨bays (fun y => { y with link := { y.link with st := .service } }) (at_ 6 wS), 3, uf 5, by decide +kernel⟩,
   ⟨bays (fun y => { y with link := { y.link with st := .service } }) (at_ 6 wS), 3, { uf 5 with crcOk := false }, by decide +kernel⟩,
   ⟨bays (fun y => { y with link := { y.link with rejAt := some 0, rejLeg := 1 } }) (at_ 1000 wS), 3, 0, by decide +kernel⟩,
   ⟨(fun s : State => { s with fwLoad := some ⟨wO 0, 9, [1], 77, bayBit 3, none⟩ }) (bays (fun y => { y with link := { y.link with st := .ready, fwHash := 77, fw := some ⟨1, some 5⟩ } }) wR), 3, ⟨wO 0, 9, [1], 77, bayBit 3, none⟩, ⟨1, some 5⟩, 5, by decide +kernel⟩,
   ⟨(fun s : State => { s with fwLoad := some ⟨wO 0, 9, [1], 77, bayBit 3, none⟩ }) (bays (fun y => { y with link := { y.link with st := .ready, fwHash := 76, fw := some ⟨1, some 5⟩ } }) (at_ 2000005 wR)), 3, ⟨wO 0, 9, [1], 77, bayBit 3, none⟩, ⟨1, some 5⟩, 5, by decide +kernel⟩⟩

/-- The hypotheses of LinkCards can be met, clause by clause. -/
theorem witness_LinkCards :
    (∃ (o : Origin) (s : State) (b : BayId), Serves o s ∧ ((FromCourt o [0, 2] ∨ 3 ≤ o.court.val ∧ s.owner b = o.court.val))) ∧
    (∃ (o : Origin) (s : State) (bays : BayMask) (b : BayId), Serves o s ∧ FromCourt o [0] ∧ bays ≠ 0 ∧ baysIn bays = [b] ∧ s.bays[b].session.st.isIdle = true) ∧
    (∃ (o : Origin) (s : State), Serves o s ∧ FromCourt o [0]) ∧
    (∃ (o : Origin) (s : State) (bays : BayMask) (b : BayId) (num : Nat) (d : InXfer), Serves o s ∧ FromCourt o [0] ∧ bays ≠ 0 ∧ baysIn bays = [b] ∧ s.courts[o.court].inXfers.find? (fun x => x.number == num && x.closed) = some d ∧ 1 ≤ d.data.length ∧ d.data.length ≤ 4194304 ∧ s.fwLoad = none ∧ s.bays[b].link.st = .ready ∧ s.bays[b].session.st.isIdle = true) :=
  ⟨⟨wO 5, bays (fun y => { y with entry := some (entry [(1, 1), (3, 1), (2, 5)]) }) wS, 3, by decide +kernel⟩,
   ⟨(wO 0), wS, bayBit 3, 3, by decide +kernel⟩,
   ⟨(wO 0), wS, by decide +kernel⟩,
   ⟨(wO 0), (fun s : State => { s with courts := Vector.replicate 16 { Court.absent with state := .active, mbx := Vector.replicate 4 mbxUp, inXfers := [⟨9, List.replicate 4 1, true, 0, false, false⟩] } }) (bays (fun y => { y with link := { y.link with st := .ready } }) wS), bayBit 3, 3, 9, ⟨9, List.replicate 4 1, true, 0, false, false⟩, by decide +kernel⟩⟩

/-- The hypotheses of BayHeads can be met, clause by clause. -/
theorem witness_BayHeads :
    (∃ (s : State) (b : BayId), 5 ≤ s.heads[(b : BayId)].heldRun) ∧
    (∃ (s : State) (b : BayId), 1000 ≤ s.heads[(b : BayId)].heldRun) ∧
    (∃ (s : State) (b : BayId), 1000 ≤ s.heads[(b : BayId)].heldRun) ∧
    (∃ (s : State) (b : BayId) (p : Fin 2), (s.heads[(b : BayId)].ports[(p : Fin 2)]).inService = true) ∧
    (∃ (s : State) (b : BayId) (p : Fin 2), (s.heads[(b : BayId)].ports[(p : Fin 2)]).inService = false) ∧
    (∃ (s : State) (b : BayId) (f : DownFrame), s.heads[(b : BayId)].ready = some f) ∧
    (∃ (s : State) (b : BayId) (p : Fin 2) (lost : Bool), ((lost = true ∨ 16 ≤ (s.heads[(b : BayId)].ports[(p : Fin 2)]).noFrame))) ∧
    (∃ (s : State) (b : BayId) (p : Fin 2), ((s.heads[(b : BayId)].selected = 0 ∨ s.heads[b].selected = p.val + 1))) ∧
    (∃ (s : State) (b : BayId) (p : Fin 2), s.heads[(b : BayId)].selected ≠ 0 ∧ s.heads[b].selected ≠ p.val + 1) ∧
    (∃ (s : State) (b : BayId) (p : Fin 2) (f : List Byte), (s.heads[(b : BayId)].ports[(p : Fin 2)]).dlDone = some f) :=
  ⟨⟨{ wS with heads := Vector.replicate 96 { Head.reset 0 with heldRun := 5 } }, 3, by decide +kernel⟩,
   ⟨{ wS with heads := Vector.replicate 96 { Head.reset 0 with heldRun := 1000 } }, 3, by decide +kernel⟩,
   ⟨{ wS with heads := Vector.replicate 96 { Head.reset 0 with heldRun := 1000 } }, 3, by decide +kernel⟩,
   ⟨{ wS with heads := Vector.replicate 96 { Head.reset 0 with ports := Vector.replicate 2 { HeadPort.reset with inService := true } } }, 3, 1, by decide +kernel⟩,
   ⟨wS, 3, 1, by decide +kernel⟩,
   ⟨{ wS with heads := Vector.replicate 96 { Head.reset 0 with ready := some (df 5) } }, 3, df 5, by decide +kernel⟩,
   ⟨{ wS with heads := Vector.replicate 96 { Head.reset 0 with ports := Vector.replicate 2 { HeadPort.reset with noFrame := 16 } } }, 3, 1, false, by decide +kernel⟩,
   ⟨wS, 3, 1, by decide +kernel⟩,
   ⟨{ wS with heads := Vector.replicate 96 { Head.reset 0 with selected := 1 } }, 3, 1, by decide +kernel⟩,
   ⟨{ wS with heads := Vector.replicate 96 { Head.reset 0 with ports := Vector.replicate 2 { HeadPort.reset with dlDone := some (List.replicate 32 0) } } }, 3, 1, List.replicate 32 0, by decide +kernel⟩⟩

/-- The hypotheses of PilotAndSounding can be met, clause by clause. -/
theorem witness_PilotAndSounding :
    (∃ (s : State) (b : BayId) (m : PilotMeas), s.bays[(b : BayId)].pilotFlag 0 = true ∧ s.bays[b].pilot.st ≠ 7 ∧ s.bays[b].serving = true ∧ s.bays[b].discards m (s.bays[b].pilot.actingAt (m.tick / 1000 * 1000)).1 = true ∧ s.bays[b].pilot.bad = 0) ∧
    (∃ (s : State) (b : BayId) (m : PilotMeas) (l : Nat) (run : Nat) (first : Nat), s.bays[(b : BayId)].pilotFlag 0 = true ∧ s.bays[b].pilot.st ≠ 7 ∧ s.bays[b].serving = true ∧ s.bays[b].discards m (s.bays[b].pilot.actingAt (m.tick / 1000 * 1000)).1 = false ∧ lineState (s.bays[b].pilot.actingAt (m.tick / 1000 * 1000)).1 s.bays[b].halfW m.vHi = some l ∧ l ≠ s.bays[b].pilot.st ∧ s.bays[b].pilot.cand = some ⟨l, run, first⟩ ∧ s.bays[b].ent 65 1 ≤ run + 1) ∧
    (∃ (s : State) (b : BayId) (m : PilotMeas) (l : Nat) (run : Nat) (first : Nat), s.bays[(b : BayId)].pilotFlag 0 = true ∧ s.bays[b].pilot.st ≠ 7 ∧ s.bays[b].serving = true ∧ s.bays[b].discards m (s.bays[b].pilot.actingAt (m.tick / 1000 * 1000)).1 = false ∧ lineState (s.bays[b].pilot.actingAt (m.tick / 1000 * 1000)).1 s.bays[b].halfW m.vHi = some l ∧ l ≠ s.bays[b].pilot.st ∧ s.bays[b].pilot.cand = some ⟨l, run, first⟩ ∧ run + 1 < s.bays[b].ent 65 1) ∧
    (∃ (s : State) (b : BayId) (mean : Int) (run : Nat) (first : Nat), s.bays[(b : BayId)].pilotFlag 1 = true ∧ s.bays[b].pilot.pp ≠ 0 ∧ s.bays[b].serving = true ∧ ppClass (s.bays[b].ent 70 2) (s.bays[b].ent 72 2) mean ≠ s.bays[b].pilot.pp ∧ s.bays[b].pilot.ppCand = some ⟨ppClass (s.bays[b].ent 70 2) (s.bays[b].ent 72 2) mean, run, first⟩ ∧ s.bays[b].ent 65 1 ≤ run + 1) ∧
    (∃ (s : State) (b : BayId), s.bays[(b : BayId)].pilotFlag 0 = false) ∧
    (∃ (s : State) (b : BayId) (f : PlcRx), s.bays[(b : BayId)].pilotFlag 2 = true ∧ s.assistFailed (plcBlock b) 0 = false ∧ s.assistFailed (plcBlock b) 1 = false ∧ f.fcOk = true ∧ f.robo = true ∧ f.payloadOk = true ∧ s.bays[b].plc.matched = true ∧ f.src = s.bays[b].plc.mac ∧ f.ack = true) ∧
    (∃ (s : State) (b : BayId) (f : PlcRx), s.bays[(b : BayId)].pilotFlag 2 = true ∧ s.assistFailed (plcBlock b) 0 = false ∧ s.assistFailed (plcBlock b) 1 = false ∧ f.fcOk = false) ∧
    (∃ (s : State) (b : BayId) (runId : Nat), s.bays[(b : BayId)].pilotFlag 2 = true ∧ s.slac.slotOf runId = none ∧ (s.slac.heard.any fun h => h.runId == runId) = false) ∧
    (∃ (s : State) (b : BayId) (runId : Nat) (i : Fin 16), s.bays[(b : BayId)].pilotFlag 2 = true ∧ s.slac.slotOf runId = some i) ∧
    (∃ (s : State) (b : BayId) (runId : Nat) (i : Fin 16) (tick : Nat) (f : Nat) (groups : List Nat), s.bays[(b : BayId)].pilotFlag 2 = true ∧ s.slac.slotOf runId = some i ∧ s.slac.slots[i].first = some f ∧ s.slac.slots[i].close = none ∧ f ≤ tick ∧ tick < f + 600000 ∧ groups.length = 58) ∧
    (∃ (s : State) (h : SlacHeard) (b : BayId), s.slac.heard = [h] ∧ h.tick + 32 ≤ s.now ∧ s.slac.slots[(0 : Fin 16)].st = 0 ∧ baysIn h.bays = [b] ∧ s.bays[b].pilotFlag 2 = false) :=
  ⟨⟨bays (fun y => { y with entry := some (entry [(1, 1), (3, 1), (64, 7), (65, 2), (66, 232), (67, 3), (70, 74), (71, 1), (72, 136), (73, 19)]), grp := { y.grp with pilot := { y.grp.pilot with st := 0 } }, link := { y.link with st := .service } }) (at_ 10 wS), 3, ⟨5, 9000, 0, 1001, 100, 30, 30, 0, 0⟩, by decide +kernel⟩,
   ⟨bays (fun y => { y with entry := some (entry [(1, 1), (3, 1), (64, 7), (65, 2), (66, 232), (67, 3), (70, 74), (71, 1), (72, 136), (73, 19)]), grp := { y.grp with pilot := { y.grp.pilot with st := 0, cand := some ⟨1, 1, 4⟩ } }, link := { y.link with st := .service } }) (at_ 10 wS), 3, ⟨5, 9000, 0, 100, 100, 30, 30, 0, 0⟩, 1, 1, 4, by decide +kernel⟩,
   ⟨bays (fun y => { y with entry := some (entry [(1, 1), (3, 1), (64, 7), (65, 2), (66, 232), (67, 3), (70, 74), (71, 1), (72, 136), (73, 19)]), grp := { y.grp with pilot := { y.grp.pilot with st := 0, cand := some ⟨1, 0, 4⟩ } }, link := { y.link with st := .service } }) (at_ 10 wS), 3, ⟨5, 9000, 0, 100, 100, 30, 30, 0, 0⟩, 1, 0, 4, by decide +kernel⟩,
   ⟨bays (fun y => { y with entry := some (entry [(1, 1), (3, 1), (64, 7), (65, 2), (66, 232), (67, 3), (70, 74), (71, 1), (72, 136), (73, 19)]), grp := { y.grp with pilot := { y.grp.pilot with st := 0, pp := 1, ppCand := some ⟨ppClass 330 5000 (-9000), 1, 4⟩ } }, link := { y.link with st := .service } }) (at_ 10 wS), 3, -9000, 1, 4, by decide +kernel⟩,
   ⟨wS, 3, by decide +kernel⟩,
   ⟨bays (fun y => { y with entry := some (entry [(1, 1), (3, 1), (64, 7), (65, 2), (66, 232), (67, 3), (70, 74), (71, 1), (72, 136), (73, 19)]), grp := { y.grp with plc := { y.grp.plc with matched := true, mac := 77 } } }) wS, 3, ⟨true, true, true, 77, true, 40, [1]⟩, by decide +kernel⟩,
   ⟨bays (fun y => { y with entry := some (entry [(1, 1), (3, 1), (64, 7), (65, 2), (66, 232), (67, 3), (70, 74), (71, 1), (72, 136), (73, 19)]) }) wS, 3, ⟨false, true, true, 77, true, 40, [1]⟩, by decide +kernel⟩,
   ⟨bays (fun y => { y with entry := some (entry [(1, 1), (3, 1), (64, 7), (65, 2), (66, 232), (67, 3), (70, 74), (71, 1), (72, 136), (73, 19)]) }) wS, 3, 5, by decide +kernel⟩,
   ⟨(fun s : State => { s with slac := { Slac.reset with slots := Vector.replicate 16 { SlacSlot.free with runId := 5, mac := 6, st := 1 } } }) (bays (fun y => { y with entry := some (entry [(1, 1), (3, 1), (64, 7), (65, 2), (66, 232), (67, 3), (70, 74), (71, 1), (72, 136), (73, 19)]) }) wS), 3, 5, 0, by decide +kernel⟩,
   ⟨(fun s : State => { s with slac := { Slac.reset with slots := Vector.replicate 16 { SlacSlot.free with runId := 5, mac := 6, st := 1, first := some 100 } } }) (bays (fun y => { y with entry := some (entry [(1, 1), (3, 1), (64, 7), (65, 2), (66, 232), (67, 3), (70, 74), (71, 1), (72, 136), (73, 19)]) }) wS), 3, 5, 0, 600099, 100, List.replicate 58 3, by decide +kernel⟩,
   ⟨(fun s : State => { s with slac := { s.slac with heard := [⟨5, 6, 0, bayBit 3⟩] } }) (bays (fun y => { y with  }) (at_ 32 wS)), ⟨5, 6, 0, bayBit 3⟩, 3, by decide +kernel⟩⟩

/-- The hypotheses of SlacMatching can be met, clause by clause. -/
theorem witness_SlacMatching :
    (∃ (s : State) (i : Fin 16) (c : Nat) (b : BayId), s.slac.slots[i].st = 1 ∧ s.slac.slots[i].close = some c ∧ s.slac.slots[i].first ≠ none ∧ c + 32 ≤ s.now ∧ s.candidates s.slac.slots[i] = [b] ∧ s.slac.assigns = [] ∧ s.clearOf i b = true) ∧
    (∃ (s : State) (i : Fin 16) (c : Nat), s.slac.slots[i].st = 1 ∧ s.slac.slots[i].close = some c ∧ s.slac.slots[i].first ≠ none ∧ c + 32 ≤ s.now ∧ s.candidates s.slac.slots[i] = [] ∧ s.slac.assigns = []) ∧
    (∃ (s : State) (b : BayId) (runId : Nat) (i : Fin 16), s.slac.slotOf runId = some i ∧ s.slac.slots[i].st = 2 ∧ s.slac.slots[i].bay = b.val ∧ s.bays[(b : BayId)].plc.slot = some i.val ∧ s.bays[b].session.st = .connected) ∧
    (∃ (s : State) (b : BayId), s.bays[(b : BayId)].pilotFlag 2 = true) ∧
    (∃ (s : State) (i : Fin 16), s.slac.slots[i].st = 5) ∧
    (∃ (s : State) (b : BayId) (at_ : Nat), s.bays[(b : BayId)].plc.attenAt = some at_ ∧ at_ + 2000000 ≤ s.now ∧ s.bays[b].plc.slot = none ∧ s.bays[b].plc.matched = true) :=
  ⟨⟨(fun s : State => { s with slac := { Slac.reset with slots := vmod (Vector.replicate 16 SlacSlot.free) (2 : Fin 16) fun _ => { SlacSlot.free with runId := 5, mac := 6, st := 1, first := some 0, close := some 0, sums := vmod (Vector.replicate 96 (0, 0)) (3 : BayId) fun _ => (290, 5) } } }) (bays (fun y => { y with entry := some (entry [(1, 1), (3, 1), (64, 15), (65, 2), (66, 232), (67, 3), (70, 74), (71, 1), (72, 136), (73, 19)]), grp := { y.grp with pilot := { y.grp.pilot with st := 1 } } }) (at_ 32 wS)), 2, 0, 3, by decide +kernel⟩,
   ⟨(fun s : State => { s with slac := { Slac.reset with slots := vmod (Vector.replicate 16 SlacSlot.free) (2 : Fin 16) fun _ => { SlacSlot.free with runId := 5, mac := 6, st := 1, first := some 0, close := some 0 } } }) (bays (fun y => { y with entry := some (entry [(1, 1), (3, 1), (64, 15), (65, 2), (66, 232), (67, 3), (70, 74), (71, 1), (72, 136), (73, 19)]), grp := { y.grp with pilot := { y.grp.pilot with st := 1 } } }) (at_ 32 wS)), 2, 0, by decide +kernel⟩,
   ⟨(fun s : State => { s with slac := { Slac.reset with slots := vmod (Vector.replicate 16 SlacSlot.free) (2 : Fin 16) fun _ => { SlacSlot.free with runId := 5, mac := 6, st := 2, bay := 3 } } }) (bays (fun y => { y with entry := some (entry [(1, 1), (3, 1), (64, 15), (65, 2), (66, 232), (67, 3), (70, 74), (71, 1), (72, 136), (73, 19)]), grp := { y.grp with plc := { y.grp.plc with slot := some 2 }, session := { y.grp.session with st := .connected } } }) wS), 3, 5, 2, by decide +kernel⟩,
   ⟨bays (fun y => { y with entry := some (entry [(1, 1), (3, 1), (64, 7), (65, 2), (66, 232), (67, 3), (70, 74), (71, 1), (72, 136), (73, 19)]) }) wS, 3, by decide +kernel⟩,
   ⟨(fun s : State => { s with slac := { Slac.reset with slots := vmod (Vector.replicate 16 SlacSlot.free) (2 : Fin 16) fun _ => { SlacSlot.free with runId := 5, mac := 6, st := 5 } } }) wS, 2, by decide +kernel⟩,
   ⟨bays (fun y => { y with grp := { y.grp with plc := { y.grp.plc with attenAt := some 0, matched := true } } }) (at_ 2000000 wS), 3, 0, by decide +kernel⟩⟩

/-- The hypotheses of PilotPlcCards can be met, clause by clause. -/
theorem witness_PilotPlcCards :
    (∃ (o : Origin) (s : State) (b : BayId), Serves o s ∧ ((FromCourt o [0] ∨ 3 ≤ o.court.val ∧ s.owner b = o.court.val))) ∧
    (∃ (o : Origin) (s : State) (b : BayId) (set : Nat), Serves o s ∧ ((FromCourt o [0] ∨ 3 ≤ o.court.val ∧ s.owner b = o.court.val)) ∧ set ≤ 1 ∧ ((set = 0 ∨ s.bays[b].pilotFlag 0 = true ∧ s.bays[b].session.st = .idle))) ∧
    (∃ (o : Origin) (s : State) (b : BayId), Serves o s ∧ ((FromCourt o [0] ∨ 3 ≤ o.court.val ∧ s.owner b = o.court.val))) ∧
    (∃ (o : Origin) (s : State), Serves o s ∧ FromCourt o [0] ∧ s.bulkFree o.court = true) ∧
    (∃ (o : Origin) (s : State), Serves o s ∧ FromCourt o [0] ∧ s.bulkFree o.court = false) ∧
    (∃ (o : Origin) (s : State) (mac : Nat) (b : BayId), Serves o s ∧ FromCourt o [0] ∧ s.bays[b].pilotFlag 3 = true ∧ s.bays[b].plc.matched = false ∧ (s.slac.assigns.filter fun a => a.mac != mac).length < 32) :=
  ⟨⟨wO 5, bays (fun y => { y with entry := some (entry [(1, 1), (3, 1), (2, 5)]) }) wS, 3, by decide +kernel⟩,
   ⟨wO 5, bays (fun y => { y with entry := some (entry [(1, 1), (3, 1), (2, 5), (64, 1)]) }) wS, 3, 1, by decide +kernel⟩,
   ⟨wO 5, bays (fun y => { y with entry := some (entry [(1, 1), (3, 1), (2, 5)]) }) wS, 3, by decide +kernel⟩,
   ⟨(wO 0), wS, by decide +kernel⟩,
   ⟨(wO 0), { wS with courts := wS.courts.map fun k => { k with outXfers := List.replicate 4 ⟨1, 1⟩ } }, by decide +kernel⟩,
   ⟨(wO 0), bays (fun y => { y with entry := some (entry [(1, 1), (3, 1), (64, 15), (65, 2), (66, 232), (67, 3), (70, 74), (71, 1), (72, 136), (73, 19)]) }) wS, 77, 3, by decide +kernel⟩⟩

/-- The hypotheses of Sessions can be met, clause by clause. -/
theorem witness_Sessions :
    (∃ (s : State) (b : BayId) (at_ : Nat) (next : SessSt), s.bays[(b : BayId)].session.closing = some (at_, next) ∧ at_ + 100000 ≤ s.now ∧ s.bays[b].grpCk.chans.closed = false ∧ s.bays[b].session.st = .parameters ∧ s.bays[b].session.reason = 0 ∧ bitOf s.bays[b].session.reasons 4 = false) ∧
    (∃ (s : State) (b : BayId), s.bays[(b : BayId)].session.st = .weldCheck ∧ s.bays[b].session.entered + 2000000 ≤ s.now ∧ s.bays[b].session.reason ≠ 0 ∧ bitOf s.bays[b].session.reasons 4 = false) ∧
    (∃ (s : State) (b : BayId), s.bays[(b : BayId)].session.st = .matching ∧ s.bays[b].session.pauseUntil = none ∧ s.bays[b].session.matchFrom + 20000000 ≤ s.now ∧ s.bays[b].session.tries + 1 < s.bays[b].ses 144 1) ∧
    (∃ (s : State) (b : BayId) (at_ : Nat), s.bays[(b : BayId)].session.pauseUntil = some at_ ∧ at_ ≤ s.now) ∧
    (∃ (s : State) (b : BayId) (from_ : Nat), s.bays[(b : BayId)].session.st = .setup ∧ s.bays[b].session.setupFrom = some from_ ∧ from_ + 20000000 ≤ s.now ∧ s.bays[b].session.reason = 0 ∧ bitOf s.bays[b].session.reasons 0x12 = false) ∧
    (∃ (s : State) (b : BayId), s.bays[(b : BayId)].session.st = .stopping ∧ s.bays[b].session.entered + 1000000 ≤ s.now) ∧
    (∃ (s : State) (b : BayId), s.bays[(b : BayId)].session.st = .authorising ∧ s.bays[b].session.auth < 2 ∧ s.bays[b].session.token = none ∧ s.bays[b].session.entered + 1000000 * s.bays[b].ses 132 2 ≤ s.now ∧ s.bays[b].session.reason = 0 ∧ bitOf s.bays[b].session.reasons 0x11 = false) ∧
    (∃ (s : State) (b : BayId) (tok : Token), s.bays[(b : BayId)].session.heldToken = some tok ∧ tok.tick + 60000000 ≤ s.now) ∧
    (∃ (s : State) (b : BayId) (from_ : Nat), s.bays[(b : BayId)].session.overSince = some from_ ∧ from_ + 10000000 ≤ s.now ∧ s.bays[b].session.st = .energised ∧ s.bays[b].session.reason = 0 ∧ bitOf s.bays[b].session.reasons 0x0C = false) ∧
    (∃ (s : State) (b : BayId) (from_ : Nat), s.bays[(b : BayId)].session.st = .energised ∧ s.bays[b].session.proto = 4 ∧ s.bays[b].session.basicPause = true ∧ s.bays[b].session.pauseOpened = false ∧ s.bays[b].session.pilot = 2 ∧ s.bays[b].session.basicFrom = some from_ ∧ from_ + 3000000 ≤ s.now) ∧
    (∃ (s : State) (b : BayId) (from_ : Nat), s.bays[(b : BayId)].session.st = .energised ∧ s.bays[b].session.basicPause = true ∧ s.bays[b].session.okSince = some from_ ∧ from_ + 10000000 ≤ s.now ∧ s.bays[b].session.pilot ≠ 1) ∧
    (∃ (s : State) (b : BayId), s.bays[(b : BayId)].session.st = .fault ∧ s.bays[b].session.entered + 3000000 ≤ s.now) ∧
    (∃ (s : State) (b : BayId) (at_ : Nat), s.bays[(b : BayId)].session.closeAt = some at_ ∧ at_ ≤ s.now) ∧
    (∃ (s : State) (b : BayId), s.bays[(b : BayId)].session.st = .idle ∧ s.bays[b].session.pilot ≠ s.bays[b].pilot.st ∧ s.bays[b].pilot.st = 1 ∧ s.bays[b].isEv = true ∧ s.bays[b].unavail = false ∧ s.bays[b].session.heldToken = none) ∧
    (∃ (s : State) (b : BayId), s.bays[(b : BayId)].session.st = .setup ∧ s.bays[b].session.pilot ≠ 5 ∧ s.bays[b].pilot.st = 5 ∧ s.bays[b].session.reason = 0 ∧ bitOf s.bays[b].session.reasons 6 = false) ∧
    (∃ (s : State) (b : BayId), s.bays[(b : BayId)].session.pilot = s.bays[b].pilot.st) ∧
    (∃ (s : State) (b : BayId), s.bays[(b : BayId)].session.st = .setup ∧ s.bays[b].plc.matched = true ∧ s.offered b ≠ []) ∧
    (∃ (s : State) (b : BayId) (h : TlsHello), s.bays[(b : BayId)].session.st = .setup ∧ s.bays[b].session.sdp ≠ 0 ∧ s.bays[b].session.tcp = false ∧ s.tlsAlert b h = none ∧ h.alert = none) ∧
    (∃ (s : State) (b : BayId) (h : TlsHello) (a : Nat), s.bays[(b : BayId)].session.st = .setup ∧ s.bays[b].session.sdp ≠ 0 ∧ s.bays[b].session.tcp = false ∧ s.tlsAlert b h = some a ∧ s.bays[b].session.reason = 0 ∧ bitOf s.bays[b].session.reasons 0x13 = false) ∧
    (∃ (s : State) (b : BayId), s.bays[(b : BayId)].session.tcp = true ∧ s.bays[b].session.st = .setup ∧ s.bays[b].session.proto ≠ 0 ∧ s.bays[b].session.setupFrom ≠ none) ∧
    (∃ (s : State) (b : BayId), s.bays[(b : BayId)].session.tcp = true ∧ s.bays[b].session.st = .setup ∧ s.bays[b].session.reason = 0 ∧ s.bays[b].kind = 1 ∧ bitOf s.bays[b].session.reasons 0x14 = false) :=
  ⟨⟨bays (fun y => { y with entry := some (entry [(1, 1), (3, 1), (64, 7), (65, 2), (66, 232), (67, 3), (70, 74), (71, 1), (72, 136), (73, 19)]), grp := { y.grp with session := { y.grp.session with closing := some (0, .energised), st := .parameters } } }) (at_ 100000 wS), 3, 0, .energised, by decide +kernel⟩,
   ⟨bays (fun y => { y with entry := some (entry [(1, 1), (3, 1), (64, 7), (65, 2), (66, 232), (67, 3), (70, 74), (71, 1), (72, 136), (73, 19)]), grp := { y.grp with session := { y.grp.session with st := .weldCheck, reason := 5 } } }) (at_ 2000000 wS), 3, by decide +kernel⟩,
   ⟨bays (fun y => { y with entry := some (entry [(1, 1), (3, 1), (64, 7), (65, 2), (66, 232), (67, 3), (70, 74), (71, 1), (72, 136), (73, 19)]), grp := { y.grp with session := { y.grp.session with st := .matching, cfg := List.replicate 64 3 } } }) (at_ 20000000 wS), 3, by decide +kernel⟩,
   ⟨bays (fun y => { y with entry := some (entry [(1, 1), (3, 1), (64, 7), (65, 2), (66, 232), (67, 3), (70, 74), (71, 1), (72, 136), (73, 19)]), grp := { y.grp with session := { y.grp.session with pauseUntil := some 7 } } }) (at_ 7 wS), 3, 7, by decide +kernel⟩,
   ⟨bays (fun y => { y with entry := some (entry [(1, 1), (3, 1), (64, 7), (65, 2), (66, 232), (67, 3), (70, 74), (71, 1), (72, 136), (73, 19)]), grp := { y.grp with session := { y.grp.session with st := .setup, setupFrom := some 0 } } }) (at_ 20000000 wS), 3, 0, by decide +kernel⟩,
   ⟨bays (fun y => { y with entry := some (entry [(1, 1), (3, 1), (64, 7), (65, 2), (66, 232), (67, 3), (70, 74), (71, 1), (72, 136), (73, 19)]), grp := { y.grp with session := { y.grp.session with st := .stopping } } }) (at_ 1000000 wS), 3, by decide +kernel⟩,
   ⟨bays (fun y => { y with entry := some (entry [(1, 1), (3, 1), (64, 7), (65, 2), (66, 232), (67, 3), (70, 74), (71, 1), (72, 136), (73, 19)]), grp := { y.grp with session := { y.grp.session with st := .authorising } } }) (at_ 5 wS), 3, by decide +kernel⟩,
   ⟨bays (fun y => { y with entry := some (entry [(1, 1), (3, 1), (64, 7), (65, 2), (66, 232), (67, 3), (70, 74), (71, 1), (72, 136), (73, 19)]), grp := { y.grp with session := { y.grp.session with heldToken := some ⟨1, [1, 2], 5⟩ } } }) (at_ 60000005 wS), 3, ⟨1, [1, 2], 5⟩, by decide +kernel⟩,
   ⟨bays (fun y => { y with entry := some (entry [(1, 1), (3, 1), (64, 7), (65, 2), (66, 232), (67, 3), (70, 74), (71, 1), (72, 136), (73, 19)]), grp := { y.grp with session := { y.grp.session with overSince := some 0, st := .energised } } }) (at_ 10000000 wS), 3, 0, by decide +kernel⟩,
   ⟨bays (fun y => { y with entry := some (entry [(1, 1), (3, 1), (64, 7), (65, 2), (66, 232), (67, 3), (70, 74), (71, 1), (72, 136), (73, 19)]), grp := { y.grp with session := { y.grp.session with st := .energised, proto := 4, basicPause := true, pilot := 2, basicFrom := some 0 } } }) (at_ 3000000 wS), 3, 0, by decide +kernel⟩,
   ⟨bays (fun y => { y with entry := some (entry [(1, 1), (3, 1), (64, 7), (65, 2), (66, 232), (67, 3), (70, 74), (71, 1), (72, 136), (73, 19)]), grp := { y.grp with session := { y.grp.session with st := .energised, basicPause := true, okSince := some 0, pilot := 2 } } }) (at_ 10000000 wS), 3, 0, by decide +kernel⟩,
   ⟨bays (fun y => { y with entry := some (entry [(1, 1), (3, 1), (64, 7), (65, 2), (66, 232), (67, 3), (70, 74), (71, 1), (72, 136), (73, 19)]), grp := { y.grp with session := { y.grp.session with st := .fault } } }) (at_ 3000000 wS), 3, by decide +kernel⟩,
   ⟨bays (fun y => { y with entry := some (entry [(1, 1), (3, 1), (64, 7), (65, 2), (66, 232), (67, 3), (70, 74), (71, 1), (72, 136), (73, 19)]), grp := { y.grp with session := { y.grp.session with closeAt := some 5 } } }) (at_ 5 wS), 3, 5, by decide +kernel⟩,
   ⟨bays (fun y => { y with entry := some (entry [(1, 1), (3, 1), (64, 7), (65, 2), (66, 232), (67, 3), (70, 74), (71, 1), (72, 136), (73, 19)]), grp := { y.grp with session := { y.grp.session with pilot := 0 }, pilot := { y.grp.pilot with st := 1 } } }) wS, 3, by decide +kernel⟩,
   ⟨bays (fun y => { y with entry := some (entry [(1, 1), (3, 1), (64, 7), (65, 2), (66, 232), (67, 3), (70, 74), (71, 1), (72, 136), (73, 19)]), grp := { y.grp with session := { y.grp.session with st := .setup, pilot := 2 }, pilot := { y.grp.pilot with st := 5 } } }) wS, 3, by decide +kernel⟩,
   ⟨bays (fun y => { y with entry := some (entry [(1, 1), (3, 1), (64, 7), (65, 2), (66, 232), (67, 3), (70, 74), (71, 1), (72, 136), (73, 19)]), grp := { y.grp with session := { y.grp.session with pilot := 2 }, pilot := { y.grp.pilot with st := 2 } } }) wS, 3, by decide +kernel⟩,
   ⟨bays (fun y => { y with entry := some (entry [(1, 1), (3, 1), (64, 7), (65, 2), (66, 232), (67, 3), (70, 74), (71, 1), (72, 136), (73, 19)]), grp := { y.grp with session := { y.grp.session with st := .setup, cfg := [1] }, plc := { y.grp.plc with matched := true } } }) wS, 3, by decide +kernel⟩,
   ⟨(fun s : State => { s with certs := [⟨0, 0, 2, [[1]], 9, 0⟩], keys := { s.keys with nodes := [⟨0, 9, 4, false⟩] } }) (bays (fun y => { y with entry := some (entry [(1, 1), (3, 1), (64, 7), (65, 2), (66, 232), (67, 3), (70, 74), (71, 1), (72, 136), (73, 19)]), grp := { y.grp with session := { y.grp.session with st := .setup, cfg := [2], sdp := 1 } } }) wS), 3, ⟨12, [.ecdhCbc], [.secp256r1], [.p256Sha256], none⟩, by decide +kernel⟩,
   ⟨bays (fun y => { y with entry := some (entry [(1, 1), (3, 1), (64, 7), (65, 2), (66, 232), (67, 3), (70, 74), (71, 1), (72, 136), (73, 19)]), grp := { y.grp with session := { y.grp.session with st := .setup, cfg := [1], sdp := 1 } } }) wS, 3, ⟨12, [.ecdhCbc], [.secp256r1], [.p256Sha256], none⟩, 70, by decide +kernel⟩,
   ⟨bays (fun y => { y with entry := some (entry [(1, 1), (3, 1), (64, 7), (65, 2), (66, 232), (67, 3), (70, 74), (71, 1), (72, 136), (73, 19)]), grp := { y.grp with session := { y.grp.session with tcp := true, st := .setup, proto := 1, setupFrom := some 0 } } }) wS, 3, by decide +kernel⟩,
   ⟨bays (fun y => { y with entry := some (entry [(1, 1), (3, 1), (64, 7), (65, 2), (66, 232), (67, 3), (70, 74), (71, 1), (72, 136), (73, 19)]), grp := { y.grp with session := { y.grp.session with tcp := true, st := .setup } } }) wS, 3, by decide +kernel⟩⟩

/-- The hypotheses of SessionCards can be met, clause by clause. -/
theorem witness_SessionCards :
    (∃ (o : Origin) (s : State) (b : BayId), Serves o s ∧ ((FromCourt o [0] ∨ 3 ≤ o.court.val ∧ s.owner b = o.court.val))) ∧
    (∃ (o : Origin) (s : State) (b : BayId) (id : Nat) (limit : Nat) (tok : Token), Serves o s ∧ o.court.val ≠ 1 ∧ o.court.val ≠ 2 ∧ s.owner b = o.court.val ∧ limit ≤ 1000000 ∧ s.bays[b].hasSession id = true ∧ s.bays[b].session.st = .authorising ∧ s.bays[b].session.auth = 1 ∧ s.bays[b].session.token = some tok ∧ s.armed = []) ∧
    (∃ (o : Origin) (s : State) (b : BayId), Serves o s ∧ o.court.val ≠ 1 ∧ o.court.val ≠ 2 ∧ s.owner b ≠ o.court.val) ∧
    (∃ (o : Origin) (s : State) (b : BayId) (id : Nat), Serves o s ∧ ((FromCourt o [0] ∨ 3 ≤ o.court.val ∧ s.owner b = o.court.val)) ∧ s.bays[b].hasSession id = true) ∧
    (∃ (o : Origin) (s : State) (b : BayId) (id : Nat), Serves o s ∧ ((FromCourt o [0] ∨ 3 ≤ o.court.val ∧ s.owner b = o.court.val)) ∧ s.bays[b].hasSession id = false) ∧
    (∃ (o : Origin) (s : State) (b : BayId) (id : Nat), Serves o s ∧ o.court.val ≠ 1 ∧ o.court.val ≠ 2 ∧ s.owner b = o.court.val ∧ s.bays[b].hasSession id = true) ∧
    (∃ (o : Origin) (s : State) (num : Nat) (x : InXfer) (c : List Byte), Serves o s ∧ o.court.val ≠ 1 ∧ o.court.val ≠ 2 ∧ s.courts[o.court].inXfers = [x] ∧ x.number = num ∧ x.closed = true ∧ splitCerts (x.data.length + 1) x.data = some [c]) ∧
    (∃ (o : Origin) (s : State) (b : BayId) (num : Nat) (x : InXfer) (w : CertWait) (id : Nat), Serves o s ∧ o.court.val ≠ 1 ∧ o.court.val ≠ 2 ∧ s.owner b = o.court.val ∧ s.courts[o.court].inXfers = [x] ∧ x.number = num ∧ x.closed = true ∧ s.bays[b].hasSession id = true ∧ s.bays[b].session.cert = some w ∧ s.now ≤ w.tick + certLimit s.bays[b].session.proto) :=
  ⟨⟨wO 5, bays (fun y => { y with entry := some (entry [(1, 1), (3, 1), (64, 7), (65, 2), (66, 232), (67, 3), (70, 74), (71, 1), (72, 136), (73, 19), (2, 5)]) }) wS, 3, by decide +kernel⟩,
   ⟨wO 5, bays (fun y => { y with entry := some (entry [(1, 1), (3, 1), (64, 7), (65, 2), (66, 232), (67, 3), (70, 74), (71, 1), (72, 136), (73, 19), (2, 5)]), grp := { y.grp with session := { y.grp.session with id := 8, st := .authorising, auth := 1, token := some ⟨1, [1, 2], 5⟩ } } }) wS, 3, 8, 1000000, ⟨1, [1, 2], 5⟩, by decide +kernel⟩,
   ⟨wO 6, bays (fun y => { y with entry := some (entry [(1, 1), (3, 1), (64, 7), (65, 2), (66, 232), (67, 3), (70, 74), (71, 1), (72, 136), (73, 19), (2, 5)]) }) wS, 3, by decide +kernel⟩,
   ⟨wO 5, bays (fun y => { y with entry := some (entry [(1, 1), (3, 1), (64, 7), (65, 2), (66, 232), (67, 3), (70, 74), (71, 1), (72, 136), (73, 19), (2, 5)]), grp := { y.grp with session := { y.grp.session with id := 8, st := .energised } } }) wS, 3, 8, by decide +kernel⟩,
   ⟨wO 5, bays (fun y => { y with entry := some (entry [(1, 1), (3, 1), (64, 7), (65, 2), (66, 232), (67, 3), (70, 74), (71, 1), (72, 136), (73, 19), (2, 5)]), grp := { y.grp with session := { y.grp.session with id := 8, st := .energised } } }) wS, 3, 9, by decide +kernel⟩,
   ⟨wO 5, bays (fun y => { y with entry := some (entry [(1, 1), (3, 1), (64, 7), (65, 2), (66, 232), (67, 3), (70, 74), (71, 1), (72, 136), (73, 19), (2, 5)]), grp := { y.grp with session := { y.grp.session with id := 8, st := .energised } } }) wS, 3, 8, by decide +kernel⟩,
   ⟨(wO 0), (fun s : State => { s with courts := Vector.replicate 16 { Court.absent with state := .active, mbx := Vector.replicate 4 mbxUp, inXfers := [⟨9, (leBytes 3 4 ++ [1, 2, 3]), true, 0, false, false⟩] } }) wS, 9, ⟨9, (leBytes 3 4 ++ [1, 2, 3]), true, 0, false, false⟩, [1, 2, 3], by decide +kernel⟩,
   ⟨wO 5, (fun s : State => { s with courts := Vector.replicate 16 { Court.absent with state := .active, mbx := Vector.replicate 4 mbxUp, inXfers := [⟨9, [1, 2, 3], true, 0, false, false⟩] } }) (bays (fun y => { y with entry := some (entry [(1, 1), (3, 1), (64, 7), (65, 2), (66, 232), (67, 3), (70, 74), (71, 1), (72, 136), (73, 19), (2, 5)]), grp := { y.grp with session := { y.grp.session with id := 8, st := .energised, cert := some ⟨false, 5⟩ } } }) wS), 3, 9, ⟨9, [1, 2, 3], true, 0, false, false⟩, ⟨false, 5⟩, 8, by decide +kernel⟩⟩

/-- The hypotheses of CardsAndTags can be met, clause by clause. -/
theorem witness_CardsAndTags :
    (∃ (s : State) (b : BayId), s.bays[(b : BayId)].identFlag 0 = true ∧ s.bays[b].ident.card = none ∧ s.bays[b].ident.op = none ∧ s.bays[b].ident.opNext = none ∧ s.bays[b].ident.lastPoll + 1000 * s.bays[b].ent 450 2 ≤ s.now ∧ s.bays[b].ident.kytBusy s.now = false) ∧
    (∃ (s : State) (b : BayId), s.bays[(b : BayId)].ident.op = some .poll) ∧
    (∃ (s : State) (b : BayId) (c : CardFound), s.bays[(b : BayId)].ident.op = some .poll ∧ (if c.typeB then s.bays[b].identFlag 1 else s.bays[b].identFlag 0) = true ∧ s.bays[b].ident.gone = []) ∧
    (∃ (s : State) (b : BayId) (c : CardHeld), s.bays[(b : BayId)].ident.op = some .presence ∧ s.bays[b].ident.card = some c) ∧
    (∃ (s : State) (b : BayId) (o : Origin) (d : List Byte) (data : List Byte), s.bays[(b : BayId)].ident.op = some (.apdu o d) ∧ data.length ≤ 440 ∧ (s.mbox o.court o.mbx).running.isSome = true) ∧
    (∃ (s : State) (b : BayId) (c : CardHeld), s.bays[(b : BayId)].ident.card = some c ∧ s.bays[b].ident.op = none ∧ s.bays[b].ident.opNext = none ∧ c.lastCheck + 200000 ≤ s.now ∧ s.bays[b].ident.kytBusy s.now = false) ∧
    (∃ (s : State) (b : BayId) (c : CardHeld), s.bays[(b : BayId)].ident.card = some c ∧ s.bays[b].ident.op = none ∧ c.since + 30000000 ≤ s.now) ∧
    (∃ (s : State) (b : BayId), s.bays[(b : BayId)].identFlag 2 = true ∧ s.bays[b].ident.inv = none ∧ s.bays[b].ident.op = none ∧ s.bays[b].ident.started = true ∧ s.bays[b].ident.lastInv + 10000 * s.bays[b].ent 463 1 ≤ s.now) ∧
    (∃ (s : State) (b : BayId) (v : Inventory), s.bays[(b : BayId)].ident.inv = some v ∧ v.ackPhase = false ∧ v.next + 1 < 2 ^ v.q ∧ s.bays[b].ident.op = none ∧ s.bays[b].ident.acc = 20 * v.q ∧ 1 ≤ v.q ∧ v.q ≤ 10) ∧
    (∃ (s : State) (b : BayId) (v : Inventory), s.bays[(b : BayId)].ident.inv = some v ∧ v.ackPhase = false ∧ v.next + 1 < 2 ^ v.q ∧ s.bays[b].ident.op = none ∧ s.bays[b].ident.acc = 20 * v.q ∧ v.q ≤ 10) ∧
    (∃ (s : State) (b : BayId) (v : Inventory) (handle : Nat) (id : Nat) (c : TagCmd), s.bays[(b : BayId)].ident.inv = some v ∧ v.ackPhase = true ∧ v.openTag = none ∧ v.kept.head? = some (handle % 65536) ∧ s.bays[b].ident.cmds = [c] ∧ c.tag = id ∧ c.from_ ≤ s.now ∧ s.bays[b].ident.tags = []) ∧
    (∃ (s : State) (b : BayId) (v : Inventory), s.bays[(b : BayId)].ident.inv = some v ∧ v.ackPhase = true ∧ v.openTag = none ∧ v.frameAt + 1163 ≤ s.now ∧ 2 ≤ v.kept.length) ∧
    (∃ (s : State) (b : BayId) (v : Inventory) (id : Nat) (c : TagCmd), s.bays[(b : BayId)].ident.inv = some v ∧ v.openTag = some id ∧ s.bays[b].ident.cmds = [c] ∧ c.tag = id ∧ c.from_ ≤ s.now ∧ c.write = false ∧ 2 ≤ v.kept.length) ∧
    (∃ (s : State) (b : BayId) (v : Inventory) (id : Nat) (c : TagCmd), s.bays[(b : BayId)].ident.inv = some v ∧ v.openTag = some id ∧ s.bays[b].ident.cmds = [c] ∧ c.tag = id ∧ c.from_ ≤ s.now ∧ c.write = true ∧ 2 ≤ v.kept.length) :=
  ⟨⟨bays (fun y => { y with entry := some (entry [(1, 1), (3, 1), (448, 7), (450, 200), (451, 0), (463, 3)]), grp := { y.grp with ident := { y.grp.ident with lastPoll := 5 } } }) (at_ 200005 wS), 3, by decide +kernel⟩,
   ⟨bays (fun y => { y with entry := some (entry [(1, 1), (3, 1), (448, 7), (450, 200), (451, 0), (463, 3)]), grp := { y.grp with ident := { y.grp.ident with op := some .poll } } }) wS, 3, by decide +kernel⟩,
   ⟨bays (fun y => { y with entry := some (entry [(1, 1), (3, 1), (448, 7), (450, 200), (451, 0), (463, 3)]), grp := { y.grp with ident := { y.grp.ident with op := some .poll } } }) wS, 3, ⟨false, true, [1, 2, 3, 4], none⟩, by decide +kernel⟩,
   ⟨bays (fun y => { y with entry := some (entry [(1, 1), (3, 1), (448, 7), (450, 200), (451, 0), (463, 3)]), grp := { y.grp with ident := { y.grp.ident with op := some .presence, card := some ⟨2, [1, 2, 3, 4], 5, 5⟩ } } }) wS, 3, ⟨2, [1, 2, 3, 4], 5, 5⟩, by decide +kernel⟩,
   ⟨bays (fun y => { y with entry := some (entry [(1, 1), (3, 1), (448, 7), (450, 200), (451, 0), (463, 3)]), grp := { y.grp with ident := { y.grp.ident with op := some (.apdu (wO 0) [1]) } } }) wR, 3, wO 0, [1], [1, 2], by decide +kernel⟩,
   ⟨bays (fun y => { y with entry := some (entry [(1, 1), (3, 1), (448, 7), (450, 200), (451, 0), (463, 3)]), grp := { y.grp with ident := { y.grp.ident with card := some ⟨2, [1, 2, 3, 4], 5, 5⟩ } } }) (at_ 200005 wS), 3, ⟨2, [1, 2, 3, 4], 5, 5⟩, by decide +kernel⟩,
   ⟨bays (fun y => { y with entry := some (entry [(1, 1), (3, 1), (448, 7), (450, 200), (451, 0), (463, 3)]), grp := { y.grp with ident := { y.grp.ident with card := some ⟨2, [1, 2, 3, 4], 5, 5⟩ } } }) (at_ 30000005 wS), 3, ⟨2, [1, 2, 3, 4], 5, 5⟩, by decide +kernel⟩,
   ⟨bays (fun y => { y with entry := some (entry [(1, 1), (3, 1), (448, 7), (450, 200), (451, 0), (463, 3)]), grp := { y.grp with ident := { y.grp.ident with started := true } } }) (at_ 30000 wS), 3, by decide +kernel⟩,
   ⟨bays (fun y => { y with entry := some (entry [(1, 1), (3, 1), (448, 7), (450, 200), (451, 0), (463, 3)]), grp := { y.grp with ident := { y.grp.ident with inv := some ⟨1, 0, [], false, false, none, 0⟩, acc := 20 } } }) wS, 3, ⟨1, 0, [], false, false, none, 0⟩, by decide +kernel⟩,
   ⟨bays (fun y => { y with entry := some (entry [(1, 1), (3, 1), (448, 7), (450, 200), (451, 0), (463, 3)]), grp := { y.grp with ident := { y.grp.ident with inv := some ⟨10, 0, [], false, false, none, 0⟩, acc := 200 } } }) wS, 3, ⟨10, 0, [], false, false, none, 0⟩, by decide +kernel⟩,
   ⟨bays (fun y => { y with entry := some (entry [(1, 1), (3, 1), (448, 7), (450, 200), (451, 0), (463, 3)]), grp := { y.grp with ident := { y.grp.ident with inv := some ⟨4, 0, [7, 8], false, true, none, 0⟩, cmds := [⟨wO 0, true, 2, 1023, 55, [1], 5, 0⟩] } } }) (at_ 5 wS), 3, ⟨4, 0, [7, 8], false, true, none, 0⟩, 65543, 55, ⟨wO 0, true, 2, 1023, 55, [1], 5, 0⟩, by decide +kernel⟩,
   ⟨bays (fun y => { y with entry := some (entry [(1, 1), (3, 1), (448, 7), (450, 200), (451, 0), (463, 3)]), grp := { y.grp with ident := { y.grp.ident with inv := some ⟨4, 0, [7, 8], false, true, none, 0⟩ } } }) (at_ 1163 wS), 3, ⟨4, 0, [7, 8], false, true, none, 0⟩, by decide +kernel⟩,
   ⟨bays (fun y => { y with entry := some (entry [(1, 1), (3, 1), (448, 7), (450, 200), (451, 0), (463, 3)]), grp := { y.grp with ident := { y.grp.ident with inv := some ⟨4, 0, [7, 8], false, true, some 55, 0⟩, cmds := [⟨wO 0, false, 2, 1023, 55, [1], 5, 0⟩] } } }) (at_ 5 wR), 3, ⟨4, 0, [7, 8], false, true, some 55, 0⟩, 55, ⟨wO 0, false, 2, 1023, 55, [1], 5, 0⟩, by decide +kernel⟩,
   ⟨bays (fun y => { y with entry := some (entry [(1, 1), (3, 1), (448, 7), (450, 200), (451, 0), (463, 3)]), grp := { y.grp with ident := { y.grp.ident with inv := some ⟨4, 0, [7, 8], false, true, some 55, 0⟩, cmds := [⟨wO 0, true, 2, 1023, 55, [1], 5, 0⟩] } } }) (at_ 5 wR), 3, ⟨4, 0, [7, 8], false, true, some 55, 0⟩, 55, ⟨wO 0, true, 2, 1023, 55, [1], 5, 0⟩, by decide +kernel⟩⟩

/-- The hypotheses of IdentCards can be met, clause by clause. -/
theorem witness_IdentCards :
    (∃ (o : Origin) (s : State) (b : BayId), Serves o s ∧ ((FromCourt o [0] ∨ 3 ≤ o.court.val ∧ s.owner b = o.court.val))) ∧
    (∃ (o : Origin) (s : State) (b : BayId) (len : Nat), Serves o s ∧ o.court.val ≠ 1 ∧ o.court.val ≠ 2 ∧ s.owner b = o.court.val ∧ 4 ≤ len ∧ len ≤ 1024 ∧ s.bays[b].ident.holds true = true) ∧
    (∃ (o : Origin) (s : State) (b : BayId) (len : Nat), Serves o s ∧ o.court.val ≠ 1 ∧ o.court.val ≠ 2 ∧ s.owner b = o.court.val ∧ 4 ≤ len ∧ len ≤ 1024 ∧ s.bays[b].ident.card = none) ∧
    (∃ (o : Origin) (s : State) (b : BayId), Serves o s ∧ o.court.val ≠ 1 ∧ o.court.val ≠ 2 ∧ s.owner b = o.court.val ∧ s.bays[b].ident.holds false = true) ∧
    (∃ (o : Origin) (s : State) (b : BayId), Serves o s ∧ o.court.val ≠ 1 ∧ o.court.val ≠ 2 ∧ s.owner b = o.court.val ∧ s.bays[b].identFlag 2 = true ∧ s.bulkFree o.court = true) ∧
    (∃ (o : Origin) (s : State) (b : BayId) (count : Nat) (addr : Nat), Serves o s ∧ o.court.val ≠ 1 ∧ o.court.val ≠ 2 ∧ s.owner b = o.court.val ∧ 1 ≤ count ∧ count ≤ 16 ∧ addr ≤ 1023 ∧ s.bays[b].identFlag 2 = true ∧ s.bays[b].ident.cmds.length < 4) ∧
    (∃ (o : Origin) (s : State) (b : BayId) (count : Nat) (addr : Nat), Serves o s ∧ o.court.val ≠ 1 ∧ o.court.val ≠ 2 ∧ s.owner b = o.court.val ∧ 1 ≤ count ∧ count ≤ 4 ∧ addr ≤ 1023 ∧ s.bays[b].identFlag 2 = true ∧ s.bays[b].ident.cmds.length < 4) ∧
    (∃ (o : Origin) (s : State) (b : BayId) (count : Nat) (addr : Nat), Serves o s ∧ o.court.val ≠ 1 ∧ o.court.val ≠ 2 ∧ s.owner b = o.court.val ∧ 1 ≤ count ∧ count ≤ 16 ∧ addr ≤ 1023 ∧ s.bays[b].identFlag 2 = true ∧ 4 ≤ s.bays[b].ident.cmds.length) :=
  ⟨⟨wO 5, bays (fun y => { y with entry := some (entry [(1, 1), (3, 1), (448, 7), (450, 200), (451, 0), (463, 3), (2, 5)]) }) wS, 3, by decide +kernel⟩,
   ⟨wO 5, bays (fun y => { y with entry := some (entry [(1, 1), (3, 1), (448, 7), (450, 200), (451, 0), (463, 3), (2, 5)]), grp := { y.grp with ident := { y.grp.ident with card := some ⟨2, [1, 2, 3, 4], 5, 5⟩ } } }) wS, 3, 1024, by decide +kernel⟩,
   ⟨wO 5, bays (fun y => { y with entry := some (entry [(1, 1), (3, 1), (448, 7), (450, 200), (451, 0), (463, 3), (2, 5)]), grp := { y.grp with ident := { y.grp.ident with card := none } } }) wS, 3, 4, by decide +kernel⟩,
   ⟨wO 5, bays (fun y => { y with entry := some (entry [(1, 1), (3, 1), (448, 7), (450, 200), (451, 0), (463, 3), (2, 5)]), grp := { y.grp with ident := { y.grp.ident with card := some ⟨2, [1, 2, 3, 4], 5, 5⟩ } } }) wS, 3, by decide +kernel⟩,
   ⟨wO 5, bays (fun y => { y with entry := some (entry [(1, 1), (3, 1), (448, 7), (450, 200), (451, 0), (463, 3), (2, 5)]) }) wS, 3, by decide +kernel⟩,
   ⟨wO 5, bays (fun y => { y with entry := some (entry [(1, 1), (3, 1), (448, 7), (450, 200), (451, 0), (463, 3), (2, 5)]) }) wS, 3, 16, 1023, by decide +kernel⟩,
   ⟨wO 5, bays (fun y => { y with entry := some (entry [(1, 1), (3, 1), (448, 7), (450, 200), (451, 0), (463, 3), (2, 5)]) }) wS, 3, 4, 1023, by decide +kernel⟩,
   ⟨wO 5, bays (fun y => { y with entry := some (entry [(1, 1), (3, 1), (448, 7), (450, 200), (451, 0), (463, 3), (2, 5)]), grp := { y.grp with ident := { y.grp.ident with cmds := List.replicate 4 ⟨wO 0, false, 2, 1023, 55, [1], 5, 0⟩ } } }) wS, 3, 1, 0, by decide +kernel⟩⟩

/-- The hypotheses of ModulatorAndLoops can be met, clause by clause. -/
theorem witness_ModulatorAndLoops :
    (∃ (s : State) (b : BayId), s.bays[(b : BayId)].grp.mod.st = .boot ∧ s.bays[b].grp.mod.bootLeft = 0) ∧
    (∃ (s : State) (b : BayId) (l : Fin 4), (s.bays[(b : BayId)].grp.loops.cur[l]).fixed = true ∧ bitOf (s.bays[b].ent 257 1) 1 = true ∧ 64 ≤ (s.bays[b].grp.loops.cur[l]).underRun ∧ l.val < s.bays[b].clCount) ∧
    (∃ (s : State) (b : BayId) (u : Tuning), s.bays[(b : BayId)].grp.loops.tune = some u ∧ u.abort ≠ 0) ∧
    (∃ (o : Origin) (s : State) (b : BayId), Serves o s ∧ ((FromCourt o [0, 2] ∨ 3 ≤ o.court.val ∧ s.owner b = o.court.val))) ∧
    (∃ (o : Origin) (s : State) (b : BayId) (leg : Nat) (flags : Nat), Serves o s ∧ FromCourt o [0] ∧ leg < 8 ∧ s.bays[b].legUsed leg = true ∧ flags < 2 ∧ s.bays[b].session.st = .idle ∧ s.bays[b].grp.mod.st = .off ∧ s.bays[b].link.st = .service) ∧
    (∃ (o : Origin) (s : State) (b : BayId) (leg : Nat) (flags : Nat), Serves o s ∧ FromCourt o [0] ∧ leg < 8 ∧ s.bays[b].legUsed leg = true ∧ flags < 2 ∧ s.bays[b].grp.mod.st = .run) ∧
    (∃ (o : Origin) (s : State) (b : BayId), Serves o s ∧ ((FromCourt o [0, 2] ∨ 3 ≤ o.court.val ∧ s.owner b = o.court.val))) ∧
    (∃ (o : Origin) (s : State) (b : BayId) (loop : Nat) (step : Nat) (fc : Nat) (dev : Nat), Serves o s ∧ ((FromCourt o [0] ∨ 3 ≤ o.court.val ∧ s.owner b = o.court.val)) ∧ loop < 4 ∧ loop < s.bays[b].clCount ∧ 64 ≤ step ∧ step ≤ 4096 ∧ 500 ≤ fc ∧ fc ≤ 20000 ∧ 100 ≤ dev ∧ dev ≤ 100000 ∧ s.bays[b].grp.mod.st = .run ∧ s.bays[b].grp.loops.trip = 0 ∧ s.bays[b].grp.loops.tune = none ∧ s.bays[b].session.st = .energised ∧ 4 * (s.bays[b].grp.loops.meanOf loop).natAbs ≤ s.bays[b].ent 28 4) :=
  ⟨⟨bays (fun y => { y with entry := some (entry [(1, 1), (3, 1), (192, 255), (256, 2), (257, 2), (28, 160), (29, 134), (30, 1), (31, 0)]), grp := { y.grp with mod := { y.grp.mod with st := .boot } } }) wS, 3, by decide +kernel⟩,
   ⟨bays (fun y => { y with entry := some (entry [(1, 1), (3, 1), (192, 255), (256, 2), (257, 2), (28, 160), (29, 134), (30, 1), (31, 0)]), grp := { y.grp with loops := { y.grp.loops with cur := Vector.replicate 4 { CurLoop.reset with underRun := 64 } } } }) wS, 3, 1, by decide +kernel⟩,
   ⟨bays (fun y => { y with entry := some (entry [(1, 1), (3, 1), (192, 255), (256, 2), (257, 2), (28, 160), (29, 134), (30, 1), (31, 0)]), grp := { y.grp with loops := { y.grp.loops with tune := some ⟨wO 0, 0, 64, 500, 100, 0, 0, 0, [], 0, 0, 2⟩ } } }) wS, 3, ⟨wO 0, 0, 64, 500, 100, 0, 0, 0, [], 0, 0, 2⟩, by decide +kernel⟩,
   ⟨wO 5, bays (fun y => { y with entry := some (entry [(1, 1), (3, 1), (2, 5)]) }) wS, 3, by decide +kernel⟩,
   ⟨(wO 0), bays (fun y => { y with entry := some (entry [(1, 1), (3, 1), (192, 255), (256, 2), (257, 2), (28, 160), (29, 134), (30, 1), (31, 0)]), link := { y.link with st := .service } }) wS, 3, 7, 1, by decide +kernel⟩,
   ⟨(wO 0), bays (fun y => { y with entry := some (entry [(1, 1), (3, 1), (192, 255), (256, 2), (257, 2), (28, 160), (29, 134), (30, 1), (31, 0)]), grp := { y.grp with mod := { y.grp.mod with st := .run } } }) wS, 3, 7, 1, by decide +kernel⟩,
   ⟨wO 5, bays (fun y => { y with entry := some (entry [(1, 1), (3, 1), (2, 5)]) }) wS, 3, by decide +kernel⟩,
   ⟨(wO 0), bays (fun y => { y with entry := some (entry [(1, 1), (3, 1), (192, 255), (256, 2), (257, 2), (28, 160), (29, 134), (30, 1), (31, 0)]), grp := { y.grp with mod := { y.grp.mod with st := .run }, session := { y.grp.session with st := .energised } } }) wS, 3, 1, 64, 20000, 100, by decide +kernel⟩⟩

/-- The hypotheses of SwitchChannels can be met, clause by clause. -/
theorem witness_SwitchChannels :
    (∃ (s : State) (b : BayId) (k : Fin 12) (at_ : Nat), (s.bays[(b : BayId)].grp.chans.ch[k]).fault = .shortWait at_ ∧ at_ + 1000 * s.bays[b].ent 350 2 ≤ s.now) ∧
    (∃ (s : State) (b : BayId) (k : Fin 12), 10000000 ≤ (s.bays[(b : BayId)].grp.chans.ch[k]).onClean) ∧
    (∃ (s : State) (b : BayId) (k : Fin 12), s.bays[(b : BayId)].ent 352 2 ≠ 0 ∧ (s.bays[b].grp.chans.ch[k]).openFlag = false ∧ (s.bays[b].grp.chans.ch[k]).st = 2 ∧ 0 < s.bays[b].ent 354 2 ∧ 1000 * s.bays[b].ent 354 2 ≤ (s.bays[b].grp.chans.ch[k]).openRun) ∧
    (∃ (s : State) (b : BayId) (at_ : Nat), s.bays[(b : BayId)].grp.chans.uvOkSince = some at_ ∧ s.bays[b].grp.chans.uvOff = true ∧ at_ + 1000 * s.bays[b].ent 366 2 ≤ s.now) ∧
    (∃ (s : State) (b : BayId) (k : Fin 12) (w : FreeWheel) (x : Nat) (e : Nat), (s.bays[(b : BayId)].grp.chans.ch[k]).fw = some w ∧ w.t + 20066 ≤ s.now ∧ 4 * s.bays[b].ent 356 2 ≤ w.i0 ∧ w.missing ≤ 16 ∧ w.at64 = some x ∧ w.atEnd = some e ∧ x < s.bays[b].ent 356 2) ∧
    (∃ (s : State) (b : BayId) (k : Fin 12) (w : FreeWheel) (x : Nat) (e : Nat), (s.bays[(b : BayId)].grp.chans.ch[k]).fw = some w ∧ w.t + 20066 ≤ s.now ∧ 4 * s.bays[b].ent 356 2 ≤ w.i0 ∧ w.missing ≤ 16 ∧ w.at64 = some x ∧ w.atEnd = some e ∧ s.bays[b].ent 356 2 ≤ x ∧ s.bays[b].ent 356 2 ≤ e) ∧
    (∃ (s : State) (b : BayId) (k : Fin 12), s.bays[(b : BayId)].grp.chans.closed = true ∧ s.bays[b].conChans = [k] ∧ 16 ≤ (s.bays[b].grp.chans.ch[k]).failRun) ∧
    (∃ (s : State) (b : BayId) (w : WeldCheck), s.bays[(b : BayId)].grp.chans.weld = some w ∧ bitsOf (s.bays[b].ent 346 1) 1 2 = 0 ∧ w.t + 50002 ≤ s.now ∧ s.bays[b].session.st ≠ .weldCheck) :=
  ⟨⟨bays (fun y => { y with entry := some (entry [(1, 1), (3, 1), (320, 255), (321, 15), (350, 10), (351, 0), (352, 100), (353, 0), (354, 5), (355, 0), (356, 100), (357, 0), (366, 10), (367, 0), (134, 4), (135, 0)]), grp := { y.grp with chans := { y.grp.chans with ch := Vector.replicate 12 { Chan.reset with fault := .shortWait 5 } } } }) (at_ 10005 wS), 3, 5, 5, by decide +kernel⟩,
   ⟨bays (fun y => { y with entry := some (entry [(1, 1), (3, 1), (320, 255), (321, 15), (350, 10), (351, 0), (352, 100), (353, 0), (354, 5), (355, 0), (356, 100), (357, 0), (366, 10), (367, 0), (134, 4), (135, 0)]), grp := { y.grp with chans := { y.grp.chans with ch := Vector.replicate 12 { Chan.reset with onClean := 10000000 } } } }) wS, 3, 5, by decide +kernel⟩,
   ⟨bays (fun y => { y with entry := some (entry [(1, 1), (3, 1), (320, 255), (321, 15), (350, 10), (351, 0), (352, 100), (353, 0), (354, 5), (355, 0), (356, 100), (357, 0), (366, 10), (367, 0), (134, 4), (135, 0)]), grp := { y.grp with chans := { y.grp.chans with ch := Vector.replicate 12 { Chan.reset with st := 2, openRun := 5000 } } } }) wS, 3, 5, by decide +kernel⟩,
   ⟨bays (fun y => { y with entry := some (entry [(1, 1), (3, 1), (320, 255), (321, 15), (350, 10), (351, 0), (352, 100), (353, 0), (354, 5), (355, 0), (356, 100), (357, 0), (366, 10), (367, 0), (134, 4), (135, 0)]), grp := { y.grp with chans := { y.grp.chans with uvOff := true, uvOkSince := some 5 } } }) (at_ 10005 wS), 3, 5, by decide +kernel⟩,
   ⟨bays (fun y => { y with entry := some (entry [(1, 1), (3, 1), (320, 255), (321, 15), (350, 10), (351, 0), (352, 100), (353, 0), (354, 5), (355, 0), (356, 100), (357, 0), (366, 10), (367, 0), (134, 4), (135, 0)]), grp := { y.grp with chans := { y.grp.chans with ch := Vector.replicate 12 { Chan.reset with fw := some ⟨0, 400, 0, some 99, some 0, none⟩ } } } }) (at_ 20066 wS), 3, 5, ⟨0, 400, 0, some 99, some 0, none⟩, 99, 0, by decide +kernel⟩,
   ⟨bays (fun y => { y with entry := some (entry [(1, 1), (3, 1), (320, 255), (321, 15), (350, 10), (351, 0), (352, 100), (353, 0), (354, 5), (355, 0), (356, 100), (357, 0), (366, 10), (367, 0), (134, 4), (135, 0)]), grp := { y.grp with chans := { y.grp.chans with ch := Vector.replicate 12 { Chan.reset with fw := some ⟨0, 400, 0, some 100, some 100, none⟩ } } } }) (at_ 20066 wS), 3, 5, ⟨0, 400, 0, some 100, some 100, none⟩, 100, 100, by decide +kernel⟩,
   ⟨bays (fun y => { y with entry := some (entry [(1, 1), (3, 1), (320, 255), (321, 15), (350, 10), (351, 0), (352, 100), (353, 0), (354, 5), (355, 0), (356, 100), (357, 0), (366, 10), (367, 0), (134, 4), (135, 0)]), grp := { y.grp with chans := { y.grp.chans with ch := Vector.replicate 12 { Chan.reset with failRun := 16 }, closed := true } } }) wS, 3, 2, by decide +kernel⟩,
   ⟨bays (fun y => { y with entry := some (entry [(1, 1), (3, 1), (320, 255), (321, 15), (350, 10), (351, 0), (352, 100), (353, 0), (354, 5), (355, 0), (356, 100), (357, 0), (366, 10), (367, 0), (134, 4), (135, 0)]), grp := { y.grp with chans := { y.grp.chans with weld := some ⟨0, ⟨0, 0, 0, 0, 0, 0, 0⟩, [], [], 0⟩ } } }) (at_ 50002 wS), 3, ⟨0, ⟨0, 0, 0, 0, 0, 0, 0⟩, [], [], 0⟩, by decide +kernel⟩⟩

/-- The hypotheses of ChannelCards can be met, clause by clause. -/
theorem witness_ChannelCards :
    (∃ (o : Origin) (s : State) (b : BayId), Serves o s ∧ ((FromCourt o [0, 2] ∨ 3 ≤ o.court.val ∧ s.owner b = o.court.val))) ∧
    (∃ (o : Origin) (s : State) (b : BayId) (mask : Nat) (on : Nat), Serves o s ∧ o.court.val ≠ 1 ∧ o.court.val ≠ 2 ∧ s.owner b = o.court.val ∧ ((∀ k, k < 16 → bitOf mask k = true → bitOf s.bays[b].chanUsed k = true ∧ s.bays[b].isCon k = false ∧ s.bays[b].isEarth k = false ∧
        s.bays[b].isLed k = false)) ∧ ((∀ k : Fin 12, bitOf mask k.val = true → bitOf on k.val = true → (s.bays[b].grp.chans.ch[k]).fault ≠ .latched ∧ s.bays[b].grp.chans.uvOff = false))) ∧
    (∃ (o : Origin) (s : State) (b : BayId) (mask : Nat) (k : Nat), Serves o s ∧ o.court.val ≠ 1 ∧ o.court.val ≠ 2 ∧ s.owner b = o.court.val ∧ k < 12 ∧ bitOf mask k = true ∧ s.bays[b].isCon k = true) ∧
    (∃ (o : Origin) (s : State) (b : BayId) (mask : Nat), Serves o s ∧ o.court.val ≠ 1 ∧ o.court.val ≠ 2 ∧ s.owner b = o.court.val ∧ mask < 2 ^ 12 ∧ ((∀ k : Fin 12, bitOf mask k.val = true → (s.bays[b].grp.chans.ch[k]).fault = .latched))) :=
  ⟨⟨wO 5, bays (fun y => { y with entry := some (entry [(1, 1), (3, 1), (320, 255), (321, 15), (350, 10), (351, 0), (352, 100), (353, 0), (354, 5), (355, 0), (356, 100), (357, 0), (366, 10), (367, 0), (134, 4), (135, 0), (2, 5)]) }) wS, 3, by decide +kernel⟩,
   ⟨wO 5, bays (fun y => { y with entry := some (entry [(1, 1), (3, 1), (320, 255), (321, 15), (350, 10), (351, 0), (352, 100), (353, 0), (354, 5), (355, 0), (356, 100), (357, 0), (366, 10), (367, 0), (134, 4), (135, 0), (2, 5)]) }) wS, 3, 3, 1, by decide +kernel⟩,
   ⟨wO 5, bays (fun y => { y with entry := some (entry [(1, 1), (3, 1), (320, 255), (321, 15), (350, 10), (351, 0), (352, 100), (353, 0), (354, 5), (355, 0), (356, 100), (357, 0), (366, 10), (367, 0), (134, 4), (135, 0), (2, 5)]) }) wS, 3, 4, 2, by decide +kernel⟩,
   ⟨wO 5, bays (fun y => { y with entry := some (entry [(1, 1), (3, 1), (320, 255), (321, 15), (350, 10), (351, 0), (352, 100), (353, 0), (354, 5), (355, 0), (356, 100), (357, 0), (366, 10), (367, 0), (134, 4), (135, 0), (2, 5)]), grp := { y.grp with chans := { y.grp.chans with ch := Vector.replicate 12 { Chan.reset with fault := .latched } } } }) wS, 3, 3, by decide +kernel⟩⟩

/-- The hypotheses of EarthCell can be met, clause by clause. -/
theorem witness_EarthCell :
    (∃ (s : State) (b : BayId), s.bays[(b : BayId)].earthFlag 0 = true ∧ s.bays[b].earth.test = none ∧ s.bays[b].earth.testDue = true ∧ s.bays[b].conOnCk = false ∧ s.bays[b].earth.contactorOn = none) ∧
    (∃ (s : State) (b : BayId) (x : RcTest), s.bays[(b : BayId)].earth.test = some x ∧ s.bays[b].earth.wait = none ∧ x.start + 100003 ≤ s.now ∧ x.good = true ∧ ((7 * (s.bays[b].ent 410 2 * 100000) : Nat) : Int) ≤ 10 * (x.after - x.before) ∧ 10 * (x.after - x.before) ≤ ((13 * (s.bays[b].ent 410 2 * 100000) : Nat) : Int)) ∧
    (∃ (s : State) (b : BayId) (x : RcTest), s.bays[(b : BayId)].earth.test = some x ∧ s.bays[b].earth.wait = none ∧ x.start + 100003 ≤ s.now ∧ x.good = false ∧ s.bays[b].earth.trip = 0 ∧ s.bays[b].earth.counted = 0) ∧
    (∃ (s : State) (b : BayId), s.bays[(b : BayId)].earthFlag 0 = true ∧ max s.bays[b].earth.lastVerdict s.bays[b].earth.overdueAt + 604800000000 ≤ s.now) ∧
    (∃ (s : State) (b : BayId), (s.now + 2) % 1000000 = 0 ∧ s.bays[(b : BayId)].imdAdmits = true ∧ s.bays[b].earth.cycle = none) ∧
    (∃ (s : State) (b : BayId) (c : ImdCycle), (s.now + 2) % 1000000 = 500000 ∧ s.bays[(b : BayId)].earth.cycle = some c) ∧
    (∃ (s : State) (b : BayId) (c : ImdCycle), s.bays[(b : BayId)].earth.imdLast = some c ∧ c.t + 1000001 ≤ s.now ∧ c.admitted = false ∧ s.bays[b].earth.wasValid = true) ∧
    (∃ (s : State) (b : BayId), s.bays[(b : BayId)].earthFlag 2 = true ∧ (s.now % 100 = 1 ∨ s.now % 100 = 2) ∧ s.bays[b].earth.base = []) ∧
    (∃ (s : State) (b : BayId), s.bays[(b : BayId)].earthFlag 2 = true ∧ s.bays[b].earth.arcTestDue = true ∧ s.bays[b].earth.wait = none ∧ s.bays[b].earth.trip = 0 ∧ s.bays[b].earth.counted = 0) ∧
    (∃ (s : State) (b : BayId), s.bays[(b : BayId)].earth.line ≠ []) :=
  ⟨⟨bays (fun y => { y with entry := some (entry [(1, 1), (3, 1), (384, 7), (410, 10), (411, 0)]) }) wS, 3, by decide +kernel⟩,
   ⟨bays (fun y => { y with entry := some (entry [(1, 1), (3, 1), (384, 7), (410, 10), (411, 0)]), earth := { y.earth with test := some ⟨0, 0, 700000, true⟩ } }) (at_ 100003 wS), 3, ⟨0, 0, 700000, true⟩, by decide +kernel⟩,
   ⟨bays (fun y => { y with entry := some (entry [(1, 1), (3, 1), (384, 7), (410, 10), (411, 0)]), earth := { y.earth with test := some ⟨0, 0, 0, false⟩ } }) (at_ 100003 wS), 3, ⟨0, 0, 0, false⟩, by decide +kernel⟩,
   ⟨bays (fun y => { y with entry := some (entry [(1, 1), (3, 1), (384, 7), (410, 10), (411, 0)]) }) (at_ 604800000000 wS), 3, by decide +kernel⟩,
   ⟨bays (fun y => { y with entry := some (entry [(1, 1), (3, 1), (384, 7), (410, 10), (411, 0)]), grpCk := { y.grpCk with session := { y.grpCk.session with st := .cableCheck } } }) (at_ 999998 wS), 3, by decide +kernel⟩,
   ⟨bays (fun y => { y with entry := some (entry [(1, 1), (3, 1), (384, 7), (410, 10), (411, 0)]), earth := { y.earth with cycle := some ⟨0, true, true, ImdHalf.zero, ImdHalf.zero⟩ } }) (at_ 499998 wS), 3, ⟨0, true, true, ImdHalf.zero, ImdHalf.zero⟩, by decide +kernel⟩,
   ⟨bays (fun y => { y with entry := some (entry [(1, 1), (3, 1), (384, 7), (410, 10), (411, 0)]), earth := { y.earth with imdLast := some ⟨0, false, true, ImdHalf.zero, ImdHalf.zero⟩, wasValid := true } }) (at_ 1000001 wS), 3, ⟨0, false, true, ImdHalf.zero, ImdHalf.zero⟩, by decide +kernel⟩,
   ⟨bays (fun y => { y with entry := some (entry [(1, 1), (3, 1), (384, 7), (410, 10), (411, 0)]) }) (at_ 101 wS), 3, by decide +kernel⟩,
   ⟨bays (fun y => { y with entry := some (entry [(1, 1), (3, 1), (384, 7), (410, 10), (411, 0)]) }) wS, 3, by decide +kernel⟩,
   ⟨bays (fun y => { y with entry := some (entry [(1, 1), (3, 1), (384, 7), (410, 10), (411, 0)]), earth := { y.earth with line := [1] } }) wS, 3, by decide +kernel⟩⟩

/-- The hypotheses of EarthCards can be met, clause by clause. -/
theorem witness_EarthCards :
    (∃ (o : Origin) (s : State) (b : BayId), Serves o s ∧ ((FromCourt o [0, 2] ∨ 3 ≤ o.court.val ∧ s.owner b = o.court.val))) ∧
    (∃ (o : Origin) (s : State) (b : BayId), Serves o s ∧ FromCourt o [0, 2] ∧ s.bays[b].earthCk.trip ≠ 0 ∧ ((∀ c, c ∈ s.bays[b].earthCk.standing → s.bays[b].resetMet s.now c = true))) ∧
    (∃ (o : Origin) (s : State) (b : BayId), Serves o s ∧ FromCourt o [0, 2] ∧ s.bays[b].earthCk.trip = 0) ∧
    (∃ (o : Origin) (s : State) (b : BayId), Serves o s ∧ FromCourt o [0, 2] ∧ s.bays[b].conOnCk = false ∧ s.bays[b].earthCk.contactorOn = none ∧ s.bays[b].earthCk.wait = none ∧ s.bays[b].earthFlag 0 = true ∧ s.bays[b].earthFlag 2 = true ∧ s.bays[b].earth.test = none) :=
  ⟨⟨wO 5, bays (fun y => { y with entry := some (entry [(1, 1), (3, 1), (384, 7), (410, 10), (411, 0), (2, 5)]) }) wS, 3, by decide +kernel⟩,
   ⟨(wO 0), bays (fun y => { y with earthCk := { y.earthCk with trip := 8 } }) wS, 3, by decide +kernel⟩,
   ⟨(wO 0), wS, 3, by decide +kernel⟩,
   ⟨(wO 0), bays (fun y => { y with entry := some (entry [(1, 1), (3, 1), (384, 7), (410, 10), (411, 0)]) }) wS, 3, by decide +kernel⟩⟩

/-- The hypotheses of Counting can be met, clause by clause. -/
theorem witness_Counting :
    (∃ (s : State) (b : BayId), s.bays[(b : BayId)].meterOff = false ∧ 16 * s.bays[b].meter.next + 258 ≤ s.now) ∧
    (∃ (s : State) (b : BayId), s.bays[(b : BayId)].meterOff = false ∧ 16 * s.bays[b].meter.next + 258 ≤ s.now ∧ s.bays[b].present? s.bays[b].meter.next = none ∧ s.bays[b].meter.last = none) ∧
    (∃ (s : State) (b : BayId), s.legal.lastRecord[(b : BayId)] + 32 ≤ s.now ∧ s.bays[b].meterOff = false ∧ s.unverified s.bays[b] = 0 ∧ s.bays[b].serving = true ∧ s.bays[b].meter.lost = false) ∧
    (∃ (s : State) (i : Fin 8) (at_ : Nat) (q : List Nat), s.pulses.balls[i].queue = at_ :: q ∧ at_ ≤ s.now ∧ s.pulses.balls[i].level = false ∧ s.pulses.balls[i].gapUntil ≤ s.now) ∧
    (∃ (s : State) (b : BayId) (at_ : Nat) (q : List Nat), s.bays[(b : BayId)].meter.led.queue = at_ :: q ∧ s.now < at_) ∧
    (∃ (s : State) (b : BayId), s.bays[(b : BayId)].meter.led.level = true ∧ s.bays[b].meter.led.until_ ≤ s.now) ∧
    (∃ (s : State) (i : Fin 8) (idle : Nat) (on : Nat), s.pulses.s0[i].set = true ∧ 1000 * s.pulses.s0[i].minMs ≤ on ∧ 1000 * s.pulses.s0[i].minMs ≤ idle) ∧
    (∃ (s : State) (i : Fin 8) (on : Nat), s.pulses.s0[i].set = true ∧ on < 1000 * s.pulses.s0[i].minMs) ∧
    (∃ (s : State) (b : BayId) (r : EnergyRec) (l : List EnergyRec), s.bays[(b : BayId)].meterCk.records = r :: l ∧ s.legal.stopped = false ∧ s.legal.due = [] ∧ r.state = 2) ∧
    (∃ (s : State) (b : BayId) (r : EnergyRec) (l : List EnergyRec), s.bays[(b : BayId)].meterCk.records = r :: l ∧ s.legal.stopped = false ∧ s.legal.due = [] ∧ r.state ≠ 2) ∧
    (∃ (s : State), s.legal.stopped = true) :=
  ⟨⟨bays (fun y => { y with entry := some (entry [(1, 1), (3, 1), (416, 1)]) }) (at_ 258 wS), 3, by decide +kernel⟩,
   ⟨bays (fun y => { y with entry := some (entry [(1, 1), (3, 1), (416, 1)]) }) (at_ 258 wS), 3, by decide +kernel⟩,
   ⟨bays (fun y => { y with entry := some (entry [(1, 1), (3, 1), (416, 1)]), cal := some ⟨[0, 3], 0⟩, link := { y.link with st := .service } }) (at_ 32 wS), 3, by decide +kernel⟩,
   ⟨(fun s : State => { s with pulses := { s.pulses with balls := Vector.replicate 8 { PulseOut.reset with queue := [5] } } }) (at_ 5 wS), 7, 5, [], by decide +kernel⟩,
   ⟨bays (fun y => { y with meter := { y.meter with led := { y.meter.led with queue := [5] } } }) (at_ 4 wS), 3, 5, [], by decide +kernel⟩,
   ⟨bays (fun y => { y with meter := { y.meter with led := { y.meter.led with level := true } } }) (at_ 4 wS), 3, by decide +kernel⟩,
   ⟨{ wS with pulses := { wS.pulses with s0 := Vector.replicate 8 { S0Input.reset with set := true } } }, 7, 2000, 2000, by decide +kernel⟩,
   ⟨{ wS with pulses := { wS.pulses with s0 := Vector.replicate 8 { S0Input.reset with set := true } } }, 7, 1999, by decide +kernel⟩,
   ⟨bays (fun y => { y with meterCk := { y.meterCk with records := [⟨16, 0, 2, 5, 6, [], 0, 0, 0⟩] } }) wS, 3, ⟨16, 0, 2, 5, 6, [], 0, 0, 0⟩, [], by decide +kernel⟩,
   ⟨bays (fun y => { y with meterCk := { y.meterCk with records := [⟨16, 0, 1, 5, 6, [], 0, 0, 0⟩] } }) wS, 3, ⟨16, 0, 1, 5, 6, [], 0, 0, 0⟩, [], by decide +kernel⟩,
   ⟨(fun s : State => { s with legal := { s.legal with stopped := true } }) wS, by decide +kernel⟩⟩

/-- The hypotheses of MeterCards can be met, clause by clause. -/
theorem witness_MeterCards :
    (∃ (o : Origin) (s : State) (b : BayId), Serves o s ∧ ((FromCourt o [0, 1] ∨ 3 ≤ o.court.val ∧ s.owner b = o.court.val))) ∧
    (∃ (o : Origin) (s : State) (b : BayId) (r : MeterReading), Serves o s ∧ ((FromCourt o [0, 1] ∨ 3 ≤ o.court.val ∧ s.owner b = o.court.val)) ∧ s.bays[b].meterOff = false ∧ s.bays[b].meterCk.reading = some r) ∧
    (∃ (o : Origin) (s : State) (b : BayId), Serves o s ∧ ((FromCourt o [0, 1] ∨ 3 ≤ o.court.val ∧ s.owner b = o.court.val)) ∧ s.bays[b].meterOff = true) ∧
    (∃ (o : Origin) (s : State) (b : BayId) (ch : Nat) (h : Harmonics), Serves o s ∧ ((FromCourt o [0, 1] ∨ 3 ≤ o.court.val ∧ s.owner b = o.court.val)) ∧ ch < 8 ∧ bitOf (s.bays[b].calGet 2 1) ch = true ∧ s.bays[b].meterCk.harmonics.find? (·.ch == ch) = some h) ∧
    (∃ (o : Origin) (s : State) (b : BayId) (x : Nat) (d : InXfer), Serves o s ∧ FromCourt o [0, 1] ∧ s.xfer? o.court x = some d ∧ s.bays[b].calLocked = false ∧ (s.courts[o.court].inXfers.filter (!·.closed)).length < 4) ∧
    (∃ (o : Origin) (s : State) (b : BayId) (x : Nat) (d : InXfer), Serves o s ∧ FromCourt o [0, 1] ∧ s.xfer? o.court x = some d ∧ s.bays[b].calLocked = true) ∧
    (∃ (o : Origin) (s : State) (ball : Nat) (b : BayId) (source : Nat) (pol : Nat) (const : Nat) (width : Nat), Serves o s ∧ FromCourt o [0, 1] ∧ ball < 8 ∧ source ≤ 1 ∧ pol ≤ 1 ∧ 1 ≤ const ∧ const ≤ 100000 ∧ 10 ≤ width ∧ width ≤ 65535 ∧ s.bays[b].meterOff = false) ∧
    (∃ (o : Origin) (s : State) (inp : Nat) (pol : Nat) (ms : Nat) (const : Nat), Serves o s ∧ FromCourt o [0] ∧ inp < 8 ∧ pol ≤ 1 ∧ 2 ≤ ms ∧ ms ≤ 200 ∧ 1 ≤ const ∧ const ≤ 100000) ∧
    (∃ (o : Origin) (s : State), Serves o s ∧ FromCourt o [0, 1]) :=
  ⟨⟨wO 5, bays (fun y => { y with entry := some (entry [(1, 1), (3, 1), (416, 1), (2, 5)]) }) wS, 3, by decide +kernel⟩,
   ⟨wO 5, bays (fun y => { y with entry := some (entry [(1, 1), (3, 1), (416, 1), (2, 5)]), meterCk := { y.meterCk with reading := some ⟨0, 1, 0, 0, 0, [], [], [], [], 0, 0⟩ } }) wS, 3, ⟨0, 1, 0, 0, 0, [], [], [], [], 0, 0⟩, by decide +kernel⟩,
   ⟨wO 5, bays (fun y => { y with entry := some (entry [(1, 1), (3, 1), (2, 5)]) }) wS, 3, by decide +kernel⟩,
   ⟨wO 5, bays (fun y => { y with entry := some (entry [(1, 1), (3, 1), (416, 1), (2, 5)]), cal := some ⟨[0, 0, 128], 0⟩, meterCk := { y.meterCk with harmonics := [⟨7, 1, 0, 100, []⟩] } }) wS, 3, 7, ⟨7, 1, 0, 100, []⟩, by decide +kernel⟩,
   ⟨(wO 0), (fun s : State => { s with courts := Vector.replicate 16 { Court.absent with state := .active, mbx := Vector.replicate 4 mbxUp, inXfers := [⟨9, [1, 2, 3], true, 0, false, false⟩] } }) wS, 3, 9, ⟨9, [1, 2, 3], true, 0, false, false⟩, by decide +kernel⟩,
   ⟨(wO 0), (fun s : State => { s with courts := Vector.replicate 16 { Court.absent with state := .active, mbx := Vector.replicate 4 mbxUp, inXfers := [⟨9, [1, 2, 3], true, 0, false, false⟩] } }) (bays (fun y => { y with grp := { y.grp with session := { y.grp.session with st := .energised } } }) wS), 3, 9, ⟨9, [1, 2, 3], true, 0, false, false⟩, by decide +kernel⟩,
   ⟨(wO 0), bays (fun y => { y with entry := some (entry [(1, 1), (3, 1), (416, 1)]) }) wS, 7, 3, 1, 1, 100000, 65535, by decide +kernel⟩,
   ⟨(wO 0), wS, 7, 1, 200, 100000, by decide +kernel⟩,
   ⟨wO 1, wS, by decide +kernel⟩⟩

/-- The hypotheses of LegalCourt can be met, clause by clause. -/
theorem witness_LegalCourt :
    (∃ (s : State) (e : Nat), s.legal.subEnd = some e ∧ e + 259 ≤ s.now ∧ s.legal.stopped = false) ∧
    (∃ (s : State), s.legal.tariffAt s.now ≠ s.legal.tariff) ∧
    (∃ (s : State), s.legal.tariffAt s.now = s.legal.tariff) ∧
    (∃ (s : State) (cal : List Byte) (at_ : Nat), s.legal.passive = some (cal, at_) ∧ s.legal.valid = true ∧ at_ ≤ s.legal.utc s.now) ∧
    (∃ (s : State) (cal : List Byte) (at_ : Nat), s.legal.passive = some (cal, at_) ∧ s.legal.utc s.now < at_) ∧
    (∃ (s : State) (b : BayId) (tick : Nat), s.legal.due = [⟨b, false, tick⟩] ∧ s.legal.stopped = false ∧ tick + 259 ≤ s.now) ∧
    (∃ (s : State) (b : BayId) (tick : Nat), s.legal.due = [⟨b, true, tick⟩] ∧ s.legal.stopped = false ∧ tick + 259 ≤ s.now) ∧
    (∃ (s : State), s.now % 1000 = 0) ∧
    (∃ (s : State) (tick : Nat) (r : LegalRegs), s.legal.finalCopy = some (tick, r)) ∧
    (∃ (s : State), s.legal.valid = false ∧ s.clock.epochSet = true) ∧
    (∃ (s : State), s.clock.epochSet = false) :=
  ⟨⟨(fun s : State => { s with legal := { s.legal with subEnd := some 0 } }) (at_ 259 wS), 0, by decide +kernel⟩,
   ⟨(fun s : State => { s with legal := { s.legal with tariff := some 3 } }) wS, by decide +kernel⟩,
   ⟨wS, by decide +kernel⟩,
   ⟨(fun s : State => { s with legal := { s.legal with passive := some ([], 5), valid := true, bases := [(0, 6000000000)] } }) wS, [], 5, by decide +kernel⟩,
   ⟨(fun s : State => { s with legal := { s.legal with passive := some ([], 5), bases := [(0, 4000000000)] } }) wS, [], 5, by decide +kernel⟩,
   ⟨(fun s : State => { s with legal := { s.legal with due := [⟨3, false, 0⟩] } }) (at_ 259 wS), 3, 0, by decide +kernel⟩,
   ⟨(fun s : State => { s with legal := { s.legal with due := [⟨3, true, 0⟩] } }) (at_ 259 wS), 3, 0, by decide +kernel⟩,
   ⟨at_ 5000 wS, by decide +kernel⟩,
   ⟨(fun s : State => { s with legal := { s.legal with finalCopy := some (5, LegalRegs.zero) } }) wS, 5, LegalRegs.zero, by decide +kernel⟩,
   ⟨(fun s : State => { s with clock := { s.clock with epochSet := true } }) wS, by decide +kernel⟩,
   ⟨wS, by decide +kernel⟩⟩

/-- The hypotheses of LegalCards can be met, clause by clause. -/
theorem witness_LegalCards :
    (∃ (o : Origin) (s : State) (b : BayId), Serves o s ∧ ((FromCourt o [0, 1] ∨ 3 ≤ o.court.val ∧ s.owner b = o.court.val))) ∧
    (∃ (o : Origin) (s : State) (m : Fin 97) (reg : Nat) (n : Nat) (nonce : List Byte), Serves o s ∧ ((FromCourt o [0] ∨ 3 ≤ o.court.val ∧ ∃ b : BayId, b.val = m.val ∧ s.owner b = o.court.val)) ∧ regClass m.val reg ≠ 0 ∧ ((regClass m.val reg = 4 → bitOf (s.legal.regs.meters[m]).flags (if reg < 0x32 then 1 else 2) = true)) ∧ n ≤ 32 ∧ (nonce.drop n).all (· == (0 : Byte)) = true ∧ ((s.legalAlg = 1 → s.keys.trng = .ready))) ∧
    (∃ (o : Origin) (s : State), Serves o s ∧ FromCourt o [0, 1]) ∧
    (∃ (o : Origin) (s : State) (seq : Nat) (count : Nat) (flags : Nat), Serves o s ∧ FromCourt o [0, 1] ∧ s.bulkFree o.court = true ∧ (s.legal.regs.log.any (·.seq == seq)) = true ∧ 1 ≤ count ∧ count ≤ 4096 ∧ flags < 4 ∧ ((bitOf flags 0 = true → s.legalAlg = 1 → s.keys.trng = .ready))) ∧
    (∃ (o : Origin) (s : State), Serves o s) ∧
    (∃ (o : Origin) (s : State) (x : Nat) (d : InXfer), Serves o s ∧ FromCourt o [0] ∧ s.xfer? o.court x = some d ∧ d.data.length = 640 ∧ calendarOk d.data = true ∧ s.legal.valid = true ∧ s.legal.activeSeen = false ∧ s.legal.regs.activeHash = Config.sha384 d.data) ∧
    (∃ (o : Origin) (s : State) (x : Nat) (d : InXfer) (act : Nat), Serves o s ∧ FromCourt o [0] ∧ s.xfer? o.court x = some d ∧ d.data.length = 640 ∧ calendarOk d.data = true ∧ s.legal.valid = true ∧ s.legal.utc s.now + 60 ≤ act) ∧
    (∃ (o : Origin) (s : State) (x : Nat) (d : InXfer), Serves o s ∧ FromCourt o [0, 1] ∧ s.xfer? o.court x = some d) ∧
    (∃ (o : Origin) (s : State), Serves o s ∧ FromCourt o [0, 1] ∧ s.bulkFree o.court = true ∧ ((s.legalAlg = 1 → s.keys.trng = .ready))) ∧
    (∃ (o : Origin) (s : State) (x : Nat) (d : InXfer), Serves o s ∧ FromCourt o [0, 1] ∧ s.legal.regs.restoreOpen = true ∧ s.legal.restoreNext = none ∧ s.legal.valid = true ∧ s.xfer? o.court x = some d) :=
  ⟨⟨wO 5, bays (fun y => { y with entry := some (entry [(1, 1), (3, 1), (2, 5)]) }) wS, 3, by decide +kernel⟩,
   ⟨(wO 0), (fun s : State => { s with keys := { s.keys with trng := .ready } }) wS, 96, 33, 32, List.replicate 32 1, by decide +kernel⟩,
   ⟨wO 1, wS, by decide +kernel⟩,
   ⟨(wO 0), (fun s : State => { s with legal := { s.legal with regs := { s.legal.regs with log := [⟨7, 0, 0, 1, false, false, false, 3, 0⟩] } } }) wS, 7, 4096, 2, by decide +kernel⟩,
   ⟨wO 9, wS, by decide +kernel⟩,
   ⟨(wO 0), calS, 9, calX, by decide +kernel, by decide +kernel, by decide +kernel, by decide +kernel, by decide +kernel, by decide +kernel, by decide +kernel, by simp only [calS, calX]⟩,
   ⟨(wO 0), (fun s : State => { s with legal := { s.legal with valid := true, bases := [(0, 5000000000)] } }) ((fun s : State => { s with courts := Vector.replicate 16 { Court.absent with state := .active, mbx := Vector.replicate 4 mbxUp, inXfers := [⟨9, calendar, true, 0, false, false⟩] } }) wS), 9, ⟨9, calendar, true, 0, false, false⟩, 65, by decide +kernel⟩,
   ⟨(wO 0), (fun s : State => { s with courts := Vector.replicate 16 { Court.absent with state := .active, mbx := Vector.replicate 4 mbxUp, inXfers := [⟨9, [1, 2, 3], true, 0, false, false⟩] } }) wS, 9, ⟨9, [1, 2, 3], true, 0, false, false⟩, by decide +kernel⟩,
   ⟨(wO 0), (fun s : State => { s with keys := { s.keys with trng := .ready } }) wS, by decide +kernel⟩,
   ⟨(wO 0), (fun s : State => { s with legal := { s.legal with valid := true, regs := { s.legal.regs with restoreOpen := true } } }) ((fun s : State => { s with courts := Vector.replicate 16 { Court.absent with state := .active, mbx := Vector.replicate 4 mbxUp, inXfers := [⟨9, [1, 2, 3], true, 0, false, false⟩] } }) wS), 9, ⟨9, [1, 2, 3], true, 0, false, false⟩, by decide +kernel⟩⟩

/-- The hypotheses of Display can be met, clause by clause. -/
theorem witness_Display :
    (∃ (s : State) (b : BayId) (j : DispJob), s.bays[(b : BayId)].grp.disp.read = some j ∧ s.host.port = .pcie ∧ s.mirroring = false ∧ (s.mbox j.origin.court j.origin.mbx).running.isSome = true) ∧
    (∃ (s : State) (b : BayId) (j : DispJob), s.bays[(b : BayId)].grp.disp.read = some j ∧ s.host.port = .pcie ∧ s.mirroring = false ∧ s.bays[b].grp.disp.xfer = none ∧ (s.mbox j.origin.court j.origin.mbx).running.isSome = true) ∧
    (∃ (s : State), s.now % 60000000 ≠ 0) ∧
    (∃ (s : State), s.now % 60000000 = 0) ∧
    (∃ (s : State), s.now % 86400000000 = 0) ∧
    (∃ (s : State), s.now % 86400000000 ≠ 0) ∧
    (∃ (o : Origin) (s : State) (b : BayId) (flags : Nat) (gen : Nat) (addr : Nat), Serves o s ∧ o.court.val ≠ 1 ∧ o.court.val ≠ 2 ∧ s.owner b = o.court.val ∧ s.host.port = .pcie ∧ flags < 2 ∧ gen ≠ 0 ∧ addr % 8 = 0 ∧ s.bays[b].dispEn = true ∧ s.bays[b].link.st = .service ∧ s.bays[b].grpCk.disp.held ≠ gen ∧ s.bays[b].grpCk.disp.read = none ∧ s.bays[b].grpCk.disp.xfer = none ∧ s.bays[b].grp.disp.read = none ∧ s.bays[b].grp.disp.xfer = none) ∧
    (∃ (o : Origin) (s : State) (b : BayId) (flags : Nat) (gen : Nat) (addr : Nat), Serves o s ∧ o.court.val ≠ 1 ∧ o.court.val ≠ 2 ∧ s.owner b = o.court.val ∧ s.host.port = .pcie ∧ flags < 2 ∧ gen ≠ 0 ∧ addr % 8 = 0 ∧ s.bays[b].grpCk.disp.held = gen) ∧
    (∃ (o : Origin) (s : State) (b : BayId), Serves o s ∧ ((FromCourt o [0] ∨ 3 ≤ o.court.val ∧ s.owner b = o.court.val))) ∧
    (∃ (o : Origin) (s : State) (b : BayId), Serves o s ∧ ((FromCourt o [0] ∨ 3 ≤ o.court.val ∧ s.owner b = o.court.val)) ∧ s.bays[b].ageEn = true ∧ s.bulkFree o.court = true ∧ s.bays[b].grpCk.disp.stress ≠ []) ∧
    (∃ (o : Origin) (s : State) (b : BayId) (x : Nat) (d : InXfer), Serves o s ∧ ((FromCourt o [0] ∨ 3 ≤ o.court.val ∧ s.owner b = o.court.val)) ∧ s.xfer? o.court x = some d ∧ d.data.length = 2400 ∧ s.bays[b].ageEn = true ∧ s.bays[b].grpCk.disp.loaded = false) :=
  ⟨⟨bays (fun y => { y with grp := { y.grp with disp := { y.grp.disp with read := some ⟨wO 0, false, 7, 8, []⟩ } } }) wR, 3, ⟨wO 0, false, 7, 8, []⟩, by decide +kernel⟩,
   ⟨bays (fun y => { y with grp := { y.grp with disp := { y.grp.disp with read := some ⟨wO 0, false, 7, 8, []⟩ } } }) wR, 3, ⟨wO 0, false, 7, 8, []⟩, by decide +kernel⟩,
   ⟨at_ 59999999 wS, by decide +kernel⟩,
   ⟨wS, by decide +kernel⟩,
   ⟨wS, by decide +kernel⟩,
   ⟨at_ 1 wS, by decide +kernel⟩,
   ⟨wO 5, bays (fun y => { y with entry := some (entry [(1, 1), (3, 1), (2, 5), (464, 3)]), link := { y.link with st := .service } }) wS, 3, 1, 7, 8, by decide +kernel⟩,
   ⟨wO 5, bays (fun y => { y with entry := some (entry [(1, 1), (3, 1), (2, 5), (464, 3)]), grpCk := { y.grpCk with disp := { y.grpCk.disp with held := 7 } } }) wS, 3, 1, 7, 8, by decide +kernel⟩,
   ⟨wO 5, bays (fun y => { y with entry := some (entry [(1, 1), (3, 1), (2, 5), (464, 3)]) }) wS, 3, by decide +kernel⟩,
   ⟨wO 5, bays (fun y => { y with entry := some (entry [(1, 1), (3, 1), (2, 5), (464, 3)]) }) wS, 3, by decide +kernel⟩,
   ⟨wO 5, (fun s : State => { s with courts := Vector.replicate 16 { Court.absent with state := .active, mbx := Vector.replicate 4 mbxUp, inXfers := [⟨9, (List.replicate 2400 0), true, 0, false, false⟩] } }) (bays (fun y => { y with entry := some (entry [(1, 1), (3, 1), (2, 5), (464, 3)]) }) wS), 3, 9, ⟨9, (List.replicate 2400 0), true, 0, false, false⟩, by decide +kernel⟩⟩

/-- The hypotheses of SiteLedger can be met, clause by clause. -/
theorem witness_SiteLedger :
    (∃ (s : State) (b : BayId), 8 < s.bays[(b : BayId)].taken.miss ∧ s.bays[b].taken.fallback = false ∧ s.bays[b].inUse = true) ∧
    (∃ (s : State) (b : BayId), s.bays[(b : BayId)].taken.miss ≤ 8) ∧
    (∃ (s : State) (b : BayId) (v : LedgerStore), s.ledger.store[b] = some v ∧ v.stale = false ∧ v.tick + 10000000 ≤ s.now) ∧
    (∃ (s : State) (b : BayId) (v : LedgerGrid), s.ledger.grid[b] = some v ∧ v.stale = false ∧ v.tick + 10000000 ≤ s.now) ∧
    (∃ (s : State) (c : LedgerCfg) (at_ : Nat), s.ledger.cfg = some c ∧ s.ledger.overSince = some at_ ∧ at_ + 1000 * c.overMs ≤ s.now ∧ s.ledger.overRaised = false ∧ s.ledger.expSince = none ∧ s.ledger.root = 0) ∧
    (∃ (s : State), s.ledger.cfg = none) ∧
    (∃ (o : Origin) (s : State) (imp : Nat) (exp : Nat) (res : Nat) (peak : Nat) (fl : Nat) (bmax : Nat) (btime : Nat) (ms : Nat), Serves o s ∧ FromCourt o [0] ∧ 1 ≤ imp ∧ imp ≤ 400000000 ∧ exp ≤ 400000000 ∧ res ≤ peak ∧ peak ≤ imp ∧ -(exp : Int) ≤ sval 32 fl ∧ sval 32 fl ≤ (peak : Int) ∧ bmax ≤ 400000000 ∧ 1 ≤ btime ∧ btime ≤ 3600 ∧ 1 ≤ ms ∧ ms ≤ 60000) ∧
    (∃ (o : Origin) (s : State) (imp : Nat), Serves o s ∧ FromCourt o [0] ∧ imp = 0) ∧
    (∃ (o : Origin) (s : State) (base : Nat), Serves o s ∧ FromCourt o [0] ∧ -400000000 ≤ sval 32 base ∧ sval 32 base ≤ 400000000 ∧ s.ledger.baseStale = false) ∧
    (∃ (o : Origin) (s : State) (b : BayId) (chg : Nat) (dis : Nat) (v : Nat), Serves o s ∧ o.court.val ≠ 1 ∧ o.court.val ≠ 2 ∧ s.owner b = o.court.val ∧ s.bays[b].kind = 4 ∧ chg ≤ s.bays[b].ent 32 4 ∧ dis ≤ s.bays[b].ent 36 4 ∧ 1 ≤ v ∧ v ≤ s.bays[b].ent 24 4 ∧ s.ledger.store[b] = none) ∧
    (∃ (o : Origin) (s : State) (b : BayId) (v : Nat) (phi : Nat), Serves o s ∧ o.court.val ≠ 1 ∧ o.court.val ≠ 2 ∧ s.owner b = o.court.val ∧ s.bays[b].kind = 5 ∧ 1 ≤ v ∧ v ≤ s.bays[b].ent 24 4 ∧ -90000 ≤ sval 32 phi ∧ sval 32 phi ≤ 90000 ∧ s.ledger.grid[b] = none) ∧
    (∃ (o : Origin) (s : State), Serves o s) ∧
    (∃ (o : Origin) (s : State) (b : BayId), Serves o s ∧ ((FromCourt o [0] ∨ 3 ≤ o.court.val ∧ s.owner b = o.court.val))) :=
  ⟨⟨bays (fun y => { y with entry := some (entry [(1, 1), (3, 1)]), taken := { y.taken with miss := 9 } }) wS, 3, by decide +kernel⟩,
   ⟨wS, 3, by decide +kernel⟩,
   ⟨(fun s : State => { s with ledger := { s.ledger with store := Vector.replicate 96 (some ⟨1, 2, 3, 4, 0, false⟩) } }) (at_ 10000000 wS), 3, ⟨1, 2, 3, 4, 0, false⟩, by decide +kernel⟩,
   ⟨(fun s : State => { s with ledger := { s.ledger with grid := Vector.replicate 96 (some ⟨1, 2, 3, 0, false⟩) } }) (at_ 10000000 wS), 3, ⟨1, 2, 3, 0, false⟩, by decide +kernel⟩,
   ⟨(fun s : State => { s with ledger := { s.ledger with cfg := some ⟨100, 0, 0, 50, 0, 0, 1, 5⟩, overSince := some 0 } }) (at_ 5000 wS), ⟨100, 0, 0, 50, 0, 0, 1, 5⟩, 0, by decide +kernel⟩,
   ⟨wS, by decide +kernel⟩,
   ⟨(wO 0), wS, 400000000, 400000000, 5, 400000000, 0, 400000000, 3600, 60000, by decide +kernel⟩,
   ⟨(wO 0), wS, 0, by decide +kernel⟩,
   ⟨(wO 0), (fun s : State => { s with ledger := { s.ledger with baseStale := false } }) wS, 400000000, by decide +kernel⟩,
   ⟨wO 5, bays (fun y => { y with entry := some (entry [(1, 4), (2, 5), (24, 232), (25, 3), (26, 0), (27, 0), (32, 100), (33, 0), (34, 0), (35, 0), (36, 100), (37, 0), (38, 0), (39, 0), (3, 1)]) }) wS, 3, 100, 100, 1000, by decide +kernel⟩,
   ⟨wO 5, bays (fun y => { y with entry := some (entry [(1, 5), (2, 5), (24, 232), (25, 3), (26, 0), (27, 0), (32, 100), (33, 0), (34, 0), (35, 0), (36, 100), (37, 0), (38, 0), (39, 0), (3, 1)]) }) wS, 3, 1000, 90000, by decide +kernel⟩,
   ⟨wO 9, wS, by decide +kernel⟩,
   ⟨wO 5, bays (fun y => { y with entry := some (entry [(1, 1), (3, 1), (2, 5)]) }) wS, 3, by decide +kernel⟩⟩

/-- The hypotheses of SafetyUnit can be met, clause by clause. -/
theorem witness_SafetyUnit :
    (∃ (s : State), s.safety.st = 0) ∧
    (∃ (s : State) (mon : Nat), s.safety.st ≠ 3 ∧ 1 ≤ mon ∧ mon ≤ 8) ∧
    (∃ (s : State), s.safety.st = 2) ∧
    (∃ (s : State), s.safety.st = 3) ∧
    (∃ (s : State) (p : Fin 8), s.safety.st = 2 ∧ (s.safety.pairs[p]).sol = true ∧ (s.safety.pairs[p]).soh = false ∧ (s.safety.pairs[p]).kind = 0 ∧ (s.safety.pairs[p]).solAt + s.safety.pairRec p.val 2 2 ≤ s.safety.us) ∧
    (∃ (s : State) (p : Fin 8) (first : Nat), s.safety.st = 2 ∧ bitOf (s.safety.pairRec p.val 0 1) 0 = true ∧ (s.safety.pairs[p]).testAt + 1000 * s.safety.pairRec p.val 6 2 ≤ s.safety.us ∧ (s.safety.pairs[p]).sol = true ∧ (s.safety.pairs[p]).soh = true ∧ bitOf first 0 = true) ∧
    (∃ (s : State) (p : Fin 8), s.safety.st = 2 ∧ bitOf (s.safety.pairRec p.val 0 1) 0 = true ∧ (s.safety.pairs[p]).testAt + 1000 * s.safety.pairRec p.val 6 2 ≤ s.safety.us ∧ (s.safety.pairs[p]).sol = true ∧ (s.safety.pairs[p]).soh = true) :=
  ⟨⟨wS, by decide +kernel⟩,
   ⟨wS, 8, by decide +kernel⟩,
   ⟨(fun s : State => { s with safety := { s.safety with st := 2 } }) wS, by decide +kernel⟩,
   ⟨(fun s : State => { s with safety := { s.safety with st := 3 } }) wS, by decide +kernel⟩,
   ⟨(fun s : State => { s with safety := { s.safety with st := 2, us := 100000, pairs := Vector.replicate 8 { SafePair.reset with sol := true, solAt := 0 }, cfg := some (table 1500 [(1144, 1), (1145, 5), (1146, 10), (1147, 0), (1150, 100), (1151, 0)]) } }) wS, 7, by decide +kernel⟩,
   ⟨(fun s : State => { s with safety := { s.safety with st := 2, us := 100000, pairs := Vector.replicate 8 { SafePair.reset with sol := true, soh := true }, cfg := some (table 1500 [(1144, 1), (1145, 5), (1146, 10), (1147, 0), (1150, 100), (1151, 0)]) } }) wS, 7, 1, by decide +kernel⟩,
   ⟨(fun s : State => { s with safety := { s.safety with st := 2, us := 100000, pairs := Vector.replicate 8 { SafePair.reset with sol := true, soh := true }, cfg := some (table 1500 [(1144, 1), (1145, 5), (1146, 10), (1147, 0), (1150, 100), (1151, 0)]) } }) wS, 7, by decide +kernel⟩⟩

/-- The hypotheses of SafetyFunctions can be met, clause by clause. -/
theorem witness_SafetyFunctions :
    (∃ (s : State) (f : Fin 16) (at_ : Nat), s.safety.st = 2 ∧ (s.safety.fns[f]).d1.differ = some at_ ∧ at_ + 1000 * s.safety.fnRec f.val 8 2 < s.safety.us ∧ (s.safety.fns[f]).d1.fault = false) ∧
    (∃ (s : State) (f : Fin 16), s.safety.st = 2 ∧ (s.safety.fns[f]).st = 2 ∧ (s.safety.fns[f]).since + 1000 * s.safety.fnRec f.val 10 2 ≤ s.safety.us ∧ s.safety.ownDemand f = none ∧ s.safety.connDemand f.val = false ∧ s.safety.fnFlag f.val 1 = false) ∧
    (∃ (s : State) (f : Fin 16) (c : Nat), s.safety.st = 2 ∧ (s.safety.fns[f]).st = 2 ∧ (s.safety.fns[f]).since + 1000 * s.safety.fnRec f.val 10 2 ≤ s.safety.us ∧ s.safety.ownDemand f = some c) ∧
    (∃ (s : State) (f : Fin 16) (at_ : Nat), s.safety.st = 2 ∧ (s.safety.fns[f]).st = 6 ∧ (s.safety.fns[f]).hand = some at_ ∧ at_ + 500000 ≤ s.safety.us ∧ s.safety.fnFlag f.val 0 = false) ∧
    (∃ (s : State) (f : Fin 16), s.safety.st = 2 ∧ (s.safety.fns[f]).st = 7 ∧ (s.safety.fns[f]).since + 1000000 * s.safety.fnRec f.val 24 4 ≤ s.safety.us ∧ s.safety.healthy f.val = true) ∧
    (∃ (s : State) (f : Fin 16), s.safety.st = 2 ∧ (s.safety.fns[f]).st = 7 ∧ (s.safety.fns[f]).since + 1000000 * s.safety.fnRec f.val 24 4 ≤ s.safety.us ∧ s.safety.healthy f.val = false ∧ s.safety.fnFlag f.val 0 = false) ∧
    (∃ (s : State) (i : Fin 24) (p : Fin 8), s.safety.st = 2 ∧ (s.safety.ins[i]).edge = true ∧ bitOf (s.safety.pairRec p.val 0 1) 0 = true ∧ s.safety.pairRec p.val 1 1 = i.val ∧ (s.safety.pairs[p]).kind ≠ 0 ∧ (s.safety.pairs[p]).passed = true) ∧
    (∃ (s : State) (i : Fin 24), (s.safety.ins[i]).edge = false) ∧
    (∃ (s : State) (i : Fin 24) (f : Fin 16) (at_ : Nat), s.safety.st = 2 ∧ s.safety.kind f.val ≠ 0 ∧ s.safety.fnRec f.val 6 1 = i.val ∧ (s.safety.ins[i]).roseAt = some at_ ∧ (s.safety.ins[i]).filt = true ∧ (s.safety.ins[i]).stuck = false ∧ at_ + 3000000 ≤ s.safety.us) ∧
    (∃ (s : State) (n : Fin 4), (s.safety.encs[n]).bad ≠ 0) ∧
    (∃ (s : State) (n : Fin 4) (i : Fin 24), s.safety.st = 2 ∧ s.safety.encRec n.val 1 1 = i.val ∧ (s.safety.ins[i]).rise = true ∧ bitOf (s.safety.encRec n.val 0 1) 0 = true ∧ (s.safety.encs[n]).valid = true) ∧
    (∃ (o : Origin) (s : State), Serves o s ∧ FromCourt o [0, 2]) ∧
    (∃ (o : Origin) (s : State), Serves o s ∧ FromCourt o [0, 2]) :=
  ⟨⟨(fun s : State => { s with safety := { s.safety with st := 2, us := 10000000, fns := Vector.replicate 16 { SafeFn.reset with d1 := { SafeDual.reset with differ := some 0 } }, cfg := some (table 1500 [(1008, 1), (1016, 15), (1017, 39)]) } }) wS, 15, 0, by decide +kernel⟩,
   ⟨(fun s : State => { s with safety := { s.safety with st := 2, us := 10000000, fns := Vector.replicate 16 { SafeFn.reset with st := 2 }, cfg := some (table 1500 [(1008, 5), (1018, 16), (1019, 39)]) } }) wS, 15, by decide +kernel⟩,
   ⟨(fun s : State => { s with safety := { s.safety with st := 2, us := 10000000, fns := Vector.replicate 16 { SafeFn.reset with st := 2 }, cfg := some (table 1500 [(1008, 1), (1018, 16), (1019, 39)]) } }) wS, 15, 1, by decide +kernel⟩,
   ⟨(fun s : State => { s with safety := { s.safety with st := 2, us := 10000000, fns := Vector.replicate 16 { SafeFn.reset with st := 6, hand := some 0 }, cfg := some (table 1500 [(1008, 3)]) } }) wS, 15, 0, by decide +kernel⟩,
   ⟨(fun s : State => { s with safety := { s.safety with st := 2, us := 10000000, fns := Vector.replicate 16 { SafeFn.reset with st := 7 }, ins := Vector.replicate 24 { SafeIn.reset with filt := true }, cfg := some (table 1500 [(1008, 4), (1032, 10), (1033, 0), (1034, 0), (1035, 0)]) } }) wS, 15, by decide +kernel⟩,
   ⟨(fun s : State => { s with safety := { s.safety with st := 2, us := 10000000, fns := Vector.replicate 16 { SafeFn.reset with st := 7 }, cfg := some (table 1500 [(1008, 4), (1032, 10), (1033, 0), (1034, 0), (1035, 0)]) } }) wS, 15, by decide +kernel⟩,
   ⟨(fun s : State => { s with safety := { s.safety with st := 2, us := 100000, pairs := Vector.replicate 8 { SafePair.reset with kind := 2, passed := true }, ins := Vector.replicate 24 { SafeIn.reset with edge := true }, cfg := some (table 1500 [(1144, 1), (1145, 5), (1146, 10), (1147, 0), (1150, 100), (1151, 0)]) } }) wS, 5, 7, by decide +kernel⟩,
   ⟨wS, 23, by decide +kernel⟩,
   ⟨(fun s : State => { s with safety := { s.safety with st := 2, us := 3000000, ins := Vector.replicate 24 { SafeIn.reset with roseAt := some 0, filt := true }, cfg := some (table 1500 [(1008, 1), (1014, 23)]) } }) wS, 23, 15, 0, by decide +kernel⟩,
   ⟨(fun s : State => { s with safety := { s.safety with encs := Vector.replicate 4 { SafeEnc.reset with bad := 1 } } }) wS, 3, by decide +kernel⟩,
   ⟨(fun s : State => { s with safety := { s.safety with st := 2, ins := Vector.replicate 24 { SafeIn.reset with rise := true }, cfg := some (table 1500 [(1080, 1), (1081, 23)]) } }) wS, 3, 23, by decide +kernel⟩,
   ⟨wO 2, wS, by decide +kernel⟩,
   ⟨wO 2, wS, by decide +kernel⟩⟩

/-- The hypotheses of SafeConnections can be met, clause by clause. -/
theorem witness_SafeConnections :
    (∃ (s : State) (c : Fin 8), (s.safety.conns[c]).st ≠ 0 ∧ (s.safety.conns[c]).sentAt + s.safety.connPeriod (.conn c) ≤ s.now) ∧
    (∃ (s : State) (p : SafePort), (s.safety.conn p).st = 0) ∧
    (∃ (s : State) (c : Fin 8) (f : List Byte) (q : Nat), (s.safety.conns[c]).st = 2 ∧ f.length = 32 ∧ crcSafe (f.take 28) = leGet f 28 4 ∧ leGet f 20 2 + leGet f 22 2 = 0xFFFF ∧ leGet f 24 1 + leGet f 25 1 = 0xFF ∧ leGet f 0 4 = s.connPeer (.conn c) ∧ leGet f 4 4 = s.ownSafeId ∧ (s.safety.conns[c]).lastSeq = some q ∧ q < 65535 ∧ leGet f 8 2 = q + 1 ∧ (s.safety.conns[c]).lastEcho = none ∧ tickAge s.now (leGet f 16 4) ≤ s.safety.connWd (.conn c) ∧ s.now ≤ (s.safety.conns[c]).lastAt + s.safety.connWd (.conn c)) ∧
    (∃ (s : State) (c : Fin 8) (f : List Byte), (s.safety.conns[c]).st = 2 ∧ f.length = 32 ∧ crcSafe (f.take 28) ≠ leGet f 28 4 ∧ (s.safety.conns[c]).bad = 0) ∧
    (∃ (s : State) (c : Fin 8) (f : List Byte), (s.safety.conns[c]).st = 2 ∧ f.length = 32 ∧ crcSafe (f.take 28) ≠ leGet f 28 4 ∧ 1 ≤ (s.safety.conns[c]).bad) ∧
    (∃ (s : State) (c : Fin 8) (f : List Byte), (s.safety.conns[c]).st = 2 ∧ f.length = 32 ∧ crcSafe (f.take 28) = leGet f 28 4 ∧ leGet f 20 2 + leGet f 22 2 = 0xFFFF ∧ leGet f 24 1 + leGet f 25 1 = 0xFF ∧ leGet f 0 4 ≠ s.connPeer (.conn c)) ∧
    (∃ (s : State) (p : SafePort), (s.safety.conn p).st = 2 ∧ (s.safety.conn p).lastSeq.isSome = true ∧ (s.safety.conn p).lastAt + s.safety.connWd p < s.now) ∧
    (∃ (s : State) (p : SafePort), (s.safety.conn p).st = 2 ∧ s.now ≤ (s.safety.conn p).lastAt + s.safety.connWd p) ∧
    (∃ (s : State) (p : SafePort), (s.safety.conn p).st = 3 ∧ (s.safety.conn p).since + 1000 ≤ s.now) ∧
    (∃ (o : Origin) (s : State), Serves o s ∧ FromCourt o [0, 2]) :=
  ⟨⟨(fun s : State => { s with safety := { s.safety with conns := Vector.replicate 8 { SafeConn.reset with st := 2 }, cfg := some (table 1500 [(1264, 2), (1266, 232), (1267, 3), (1268, 77), (1269, 0), (1270, 0), (1271, 0), (1276, 5), (1277, 0), (20, 55), (21, 0), (22, 0), (23, 0)]) } }) (at_ 1000 wS), 7, by decide +kernel⟩,
   ⟨wS, .conn 7, by decide +kernel⟩,
   ⟨(fun s : State => { s with safety := { s.safety with conns := Vector.replicate 8 { SafeConn.reset with st := 2, lastSeq := some 65534, lastAt := 5 }, cfg := some (table 1500 [(1264, 2), (1266, 232), (1267, 3), (1268, 77), (1269, 0), (1270, 0), (1271, 0), (1276, 5), (1277, 0), (20, 55), (21, 0), (22, 0), (23, 0)]) } }) (at_ 5005 wS), 7, (let h := leBytes 77 4 ++ leBytes 55 4 ++ leBytes 65535 2 ++ leBytes 0 6 ++ leBytes 1000 4 ++ leBytes 0 2 ++ leBytes 65535 2 ++ [0, 255, 0, 0]; h ++ leBytes (crcSafe h) 4), 65534, by decide +kernel⟩,
   ⟨(fun s : State => { s with safety := { s.safety with conns := Vector.replicate 8 { SafeConn.reset with st := 2 } } }) wS, 7, (let h := leBytes 77 4 ++ leBytes 55 4 ++ leBytes 1 2 ++ leBytes 0 6 ++ leBytes 1000 4 ++ leBytes 0 2 ++ leBytes 65535 2 ++ [0, 255, 0, 0]; h ++ leBytes (crcSafe h + 1) 4), by decide +kernel⟩,
   ⟨(fun s : State => { s with safety := { s.safety with conns := Vector.replicate 8 { SafeConn.reset with st := 2, bad := 1 } } }) wS, 7, (let h := leBytes 77 4 ++ leBytes 55 4 ++ leBytes 1 2 ++ leBytes 0 6 ++ leBytes 1000 4 ++ leBytes 0 2 ++ leBytes 65535 2 ++ [0, 255, 0, 0]; h ++ leBytes (crcSafe h + 1) 4), by decide +kernel⟩,
   ⟨(fun s : State => { s with safety := { s.safety with conns := Vector.replicate 8 { SafeConn.reset with st := 2 }, cfg := some (table 1500 [(1264, 2), (1266, 232), (1267, 3), (1268, 77), (1269, 0), (1270, 0), (1271, 0), (1276, 5), (1277, 0), (20, 55), (21, 0), (22, 0), (23, 0)]) } }) wS, 7, (let h := leBytes 78 4 ++ leBytes 55 4 ++ leBytes 1 2 ++ leBytes 0 6 ++ leBytes 1000 4 ++ leBytes 0 2 ++ leBytes 65535 2 ++ [0, 255, 0, 0]; h ++ leBytes (crcSafe h) 4), by decide +kernel⟩,
   ⟨(fun s : State => { s with safety := { s.safety with conns := Vector.replicate 8 { SafeConn.reset with st := 2, lastSeq := some 1 }, cfg := some (table 1500 [(1264, 2), (1266, 232), (1267, 3), (1268, 77), (1269, 0), (1270, 0), (1271, 0), (1276, 5), (1277, 0), (20, 55), (21, 0), (22, 0), (23, 0)]) } }) (at_ 5001 wS), .conn 7, by decide +kernel⟩,
   ⟨(fun s : State => { s with safety := { s.safety with conns := Vector.replicate 8 { SafeConn.reset with st := 2, lastSeq := some 1 }, cfg := some (table 1500 [(1264, 2), (1266, 232), (1267, 3), (1268, 77), (1269, 0), (1270, 0), (1271, 0), (1276, 5), (1277, 0), (20, 55), (21, 0), (22, 0), (23, 0)]) } }) (at_ 5000 wS), .conn 7, by decide +kernel⟩,
   ⟨(fun s : State => { s with safety := { s.safety with conns := Vector.replicate 8 { SafeConn.reset with st := 3 } } }) (at_ 1000 wS), .conn 7, by decide +kernel⟩,
   ⟨wO 2, wS, by decide +kernel⟩⟩

/-- The hypotheses of SafetyConfiguration can be met, clause by clause. -/
theorem witness_SafetyConfiguration :
    (∃ (s : State) (at_ : Nat), s.safety.lockUntil = some at_ ∧ at_ ≤ s.now) ∧
    (∃ (s : State) (at_ : Nat), s.safety.lockUntil = some at_ ∧ s.now < at_) ∧
    (∃ (o : Origin) (s : State) (x : Nat) (d : InXfer) (n : Nat) (pass : List Byte), Serves o s ∧ FromCourt o [2] ∧ s.xfer? o.court x = some d ∧ passFieldOk n pass true = true ∧ s.safety.load = none) ∧
    (∃ (o : Origin) (s : State) (x : Nat) (d : InXfer) (n : Nat) (pass : List Byte), Serves o s ∧ FromCourt o [2] ∧ s.xfer? o.court x = some d ∧ passFieldOk n pass true = true ∧ s.safety.load = none) ∧
    (∃ (s : State) (l : SafeLoad), s.safety.load = some l ∧ l.waits = false ∧ l.tick ≤ s.now ∧ (s.safety.st = 1 ∨ s.safety.st = 2)) ∧
    (∃ (s : State), s.safety.load = none) ∧
    (∃ (o : Origin) (s : State) (seq : Nat), Serves o s ∧ FromCourt o [0, 2] ∧ s.bulkFree o.court = true ∧ (s.safety.log.any fun e => leGet e 0 4 == seq) = true) ∧
    (∃ (o : Origin) (s : State) (n : Nat) (pass : List Byte), Serves o s ∧ FromCourt o [2] ∧ 8 ≤ n ∧ n ≤ 64 ∧ pass.length ≤ 64 ∧ (pass.drop n).all (· == (0 : Byte)) = true ∧ s.safety.st = 2 ∧ s.keys.fuses.commissioned = false ∧ s.keys.burns = [] ∧ s.lockedOut = false) ∧
    (∃ (o : Origin) (s : State) (n : Nat) (pass : List Byte), Serves o s ∧ FromCourt o [2] ∧ 8 ≤ n ∧ n ≤ 64 ∧ pass.length ≤ 64 ∧ (pass.drop n).all (· == (0 : Byte)) = true ∧ s.keys.fuses.commissioned = true ∧ s.lockedOut = false) :=
  ⟨⟨(fun s : State => { s with safety := { s.safety with lockUntil := some 5 } }) (at_ 5 wS), 5, by decide +kernel⟩,
   ⟨(fun s : State => { s with safety := { s.safety with lockUntil := some 5 } }) (at_ 4 wS), 5, by decide +kernel⟩,
   ⟨wO 2, (fun s : State => { s with courts := Vector.replicate 16 { Court.absent with state := .active, mbx := Vector.replicate 4 mbxUp, inXfers := [⟨9, [1, 2, 3], true, 0, false, false⟩] } }) wS, 9, ⟨9, [1, 2, 3], true, 0, false, false⟩, 64, List.replicate 64 1, by decide +kernel⟩,
   ⟨wO 2, (fun s : State => { s with courts := Vector.replicate 16 { Court.absent with state := .active, mbx := Vector.replicate 4 mbxUp, inXfers := [⟨9, [1, 2, 3], true, 0, false, false⟩] } }) wS, 9, ⟨9, [1, 2, 3], true, 0, false, false⟩, 0, [], by decide +kernel⟩,
   ⟨(fun s : State => { s with safety := { s.safety with load := some ⟨none, [], 1, 0, 5, false⟩, st := 1 } }) (at_ 5 wS), ⟨none, [], 1, 0, 5, false⟩, by decide +kernel⟩,
   ⟨wS, by decide +kernel⟩,
   ⟨wO 2, (fun s : State => { s with safety := { s.safety with log := [leBytes 7 4] } }) wS, 7, by decide +kernel⟩,
   ⟨wO 2, (fun s : State => { s with safety := { s.safety with st := 2 } }) wS, 64, List.replicate 64 1, by decide +kernel⟩,
   ⟨wO 2, (fun s : State => { s with keys := { s.keys with fuses := { s.keys.fuses with lifecycle := 2 } } }) wS, 8, List.replicate 8 1, by decide +kernel⟩⟩

/-- The hypotheses of RandomAndFuses can be met, clause by clause. -/
theorem witness_RandomAndFuses :
    (∃ (s : State), s.keys.trng = .warming) ∧
    (∃ (s : State), s.keys.trng = .warming ∧ s.keys.retries < 3) ∧
    (∃ (s : State), s.keys.trng = .retrying ∧ 3 ≤ s.keys.retries) ∧
    (∃ (s : State), s.keys.trng = .ready ∧ s.keys.retries < 3) ∧
    (∃ (s : State), s.keys.trng = .ready ∧ s.keys.lastFail + 3600000000 ≤ s.now) ∧
    (∃ (s : State), s.keys.trng = .ready ∧ 1048576 ≤ s.keys.drbgBytes) ∧
    (∃ (s : State) (h : Nat) (o : Origin) (rest : List Burn), s.keys.burns = ⟨.calKey h, some o⟩ :: rest ∧ (s.mbox o.court o.mbx).running.isSome = true) :=
  ⟨⟨wS, by decide +kernel⟩,
   ⟨(fun s : State => { s with keys := { s.keys with retries := 2 } }) wS, by decide +kernel⟩,
   ⟨(fun s : State => { s with keys := { s.keys with trng := .retrying, retries := 3 } }) wS, by decide +kernel⟩,
   ⟨(fun s : State => { s with keys := { s.keys with trng := .ready, retries := 2 } }) wS, by decide +kernel⟩,
   ⟨(fun s : State => { s with keys := { s.keys with trng := .ready } }) (at_ 3600000000 wS), by decide +kernel⟩,
   ⟨(fun s : State => { s with keys := { s.keys with trng := .ready, drbgBytes := 1048576 } }) wS, by decide +kernel⟩,
   ⟨(fun s : State => { s with keys := { s.keys with burns := [⟨.calKey 9, some (wO 0)⟩] } }) wR, 9, (wO 0), [], by decide +kernel⟩⟩

/-- The hypotheses of FuseDebugRootCards can be met, clause by clause. -/
theorem witness_FuseDebugRootCards :
    (∃ (o : Origin) (s : State), Serves o s ∧ FromCourt o [0, 1, 2]) ∧
    (∃ (o : Origin) (s : State) (value : Nat), Serves o s ∧ FromCourt o [0, 1] ∧ value ≠ 0 ∧ s.keys.fuses.calKeyHash = 0 ∧ s.keys.burns = []) ∧
    (∃ (o : Origin) (s : State) (value : Nat), Serves o s ∧ FromCourt o [0, 1] ∧ value ≠ 0 ∧ s.keys.fuses.calKeyHash ≠ 0) ∧
    (∃ (o : Origin) (s : State), Serves o s ∧ FromCourt o [0] ∧ s.keys.fuses.debugDisable = false ∧ s.keys.trng = .ready) ∧
    (∃ (o : Origin) (s : State) (token : List Byte) (c : Nat) (at_ : Nat), Serves o s ∧ FromCourt o [0] ∧ 1 ≤ token.length ∧ token.length ≤ 1024 ∧ s.keys.fuses.debugDisable = false ∧ s.keys.challenges = [(c, at_)] ∧ s.now < at_ + 600000000) ∧
    (∃ (o : Origin) (s : State), Serves o s ∧ FromCourt o [0] ∧ s.keys.siteRoot = none ∧ s.keys.trng = .ready) ∧
    (∃ (o : Origin) (s : State), Serves o s ∧ FromCourt o [0] ∧ s.keys.siteRoot = none) ∧
    (∃ (o : Origin) (s : State) (r : Nat), Serves o s ∧ FromCourt o [0] ∧ s.keys.siteRoot = some r ∧ s.twin.en = false ∧ s.keys.trng = .ready) :=
  ⟨⟨wO 2, wS, by decide +kernel⟩,
   ⟨wO 1, wS, 9, by decide +kernel⟩,
   ⟨wO 1, (fun s : State => { s with keys := { s.keys with fuses := { s.keys.fuses with calKeyHash := 7 } } }) wS, 9, by decide +kernel⟩,
   ⟨(wO 0), (fun s : State => { s with keys := { s.keys with trng := .ready } }) wS, by decide +kernel⟩,
   ⟨(wO 0), (fun s : State => { s with keys := { s.keys with challenges := [(9, 0)] } }) (at_ 599999999 wS), [1], 9, 0, by decide +kernel⟩,
   ⟨(wO 0), (fun s : State => { s with keys := { s.keys with trng := .ready } }) wS, by decide +kernel⟩,
   ⟨(wO 0), wS, by decide +kernel⟩,
   ⟨(wO 0), (fun s : State => { s with keys := { s.keys with siteRoot := some 9, trng := .ready } }) wS, 9, by decide +kernel⟩⟩

/-- The hypotheses of KeyCards can be met, clause by clause. -/
theorem witness_KeyCards :
    (∃ (o : Origin) (s : State) (purpose : Nat) (gen : Nat), Serves o s ∧ 2 ≤ purpose ∧ purpose ≤ 255 ∧ (s.keys.courtNode s.now o.court).isSome = true ∧ s.keys.purposeLast o.court purpose < gen ∧ s.keys.nodesUsed < nodeLimit) ∧
    (∃ (o : Origin) (s : State) (keyId : Nat) (alg : Nat), Serves o s ∧ 2 ≤ keyId / 2 ^ 24 ∧ 1 ≤ alg ∧ alg ≤ 10 ∧ (s.keys.courtNode s.now o.court).isSome = true ∧ s.keys.node? o.court keyId = none ∧ s.keys.nodesUsed + 2 ≤ nodeLimit) ∧
    (∃ (o : Origin) (s : State) (keyId : Nat) (data : List Byte), Serves o s ∧ keyId / 2 ^ 24 ≠ 1 ∧ 1 ≤ data.length ∧ data.length ≤ 4000 ∧ s.nodeUsable o.court keyId = true ∧ s.nodeAlg o.court keyId = 4) ∧
    (∃ (o : Origin) (s : State) (keyId : Nat) (peer : List Byte) (m : Nat), Serves o s ∧ s.nodeUsable o.court keyId = true ∧ s.nodeAlg o.court keyId = 6 ∧ pointCode 6 peer = 0 ∧ s.keys.secret s.now o.court keyId 6 = some m) ∧
    (∃ (o : Origin) (s : State) (keyId : Nat) (peer : List Byte), Serves o s ∧ s.nodeUsable o.court keyId = true ∧ s.nodeAlg o.court keyId = 6 ∧ pointCode 6 peer = 3) ∧
    (∃ (o : Origin) (s : State) (keyId : Nat) (aad : List Byte) (data : List Byte) (m : Nat), Serves o s ∧ aad.length ≤ 256 ∧ 1 ≤ data.length ∧ data.length ≤ 400 ∧ s.nodeUsable o.court keyId = true ∧ s.nodeAlg o.court keyId = 9 ∧ s.keys.trng = .ready ∧ s.keys.secret s.now o.court keyId 9 = some m) ∧
    (∃ (o : Origin) (s : State) (keyId : Nat) (aad : List Byte) (data : List Byte) (m : Nat), Serves o s ∧ aad.length ≤ 256 ∧ 17 ≤ data.length ∧ data.length ≤ 416 ∧ s.nodeUsable o.court keyId = true ∧ s.nodeAlg o.court keyId = 9 ∧ s.keys.secret s.now o.court keyId 9 = some m) ∧
    (∃ (o : Origin) (s : State) (flags : Nat), Serves o s ∧ flags < 2) ∧
    (∃ (o : Origin) (s : State) (count : Nat), Serves o s ∧ 1 ≤ count ∧ count ≤ 256 ∧ s.keys.trng = .ready) ∧
    (∃ (o : Origin) (s : State), Serves o s ∧ s.keys.trng = .warming) ∧
    (∃ (o : Origin) (s : State) (nonceLen : Nat) (nonce : List Byte), Serves o s ∧ nonceLen ≤ 32 ∧ nonce.length = nonceLen ∧ s.keys.trng = .ready ∧ s.bulkFree o.court = true) :=
  ⟨⟨wO 1, wS, 255, 1, by decide +kernel⟩,
   ⟨wO 1, wS, 33554433, 10, by decide +kernel⟩,
   ⟨wO 1, (fun s : State => { s with keys := { s.keys with nodes := [⟨1, 33554433, 4, false⟩], trng := .ready } }) wS, 33554433, [1], by decide +kernel⟩,
   ⟨wO 1, (fun s : State => { s with keys := { s.keys with nodes := [⟨1, 33554433, 6, false⟩], trng := .ready } }) wS, 33554433, ([4] ++ (leBytes 0x6b17d1f2e12c4247f8bce6e563a440f277037d812deb33a0f4a13945d898c296 32).reverse ++ (leBytes 0x4fe342e2fe1a7f9b8ee7eb4a7c0f9e162bce33576b315ececbb6406837bf51f5 32).reverse), _, by decide +kernel, by decide +kernel, by decide +kernel, by decide +kernel, rfl⟩,
   ⟨wO 1, (fun s : State => { s with keys := { s.keys with nodes := [⟨1, 33554433, 6, false⟩], trng := .ready } }) wS, 33554433, ([4] ++ (leBytes 0x6b17d1f2e12c4247f8bce6e563a440f277037d812deb33a0f4a13945d898c296 32).reverse ++ (leBytes 7 32).reverse), by decide +kernel⟩,
   ⟨wO 1, (fun s : State => { s with keys := { s.keys with nodes := [⟨1, 33554433, 9, false⟩], trng := .ready } }) wS, 33554433, List.replicate 256 1, List.replicate 400 1, _, by decide +kernel, by decide +kernel, by decide +kernel, by decide +kernel, by decide +kernel, by decide +kernel, by decide +kernel, rfl⟩,
   ⟨wO 1, (fun s : State => { s with keys := { s.keys with nodes := [⟨1, 33554433, 9, false⟩], trng := .ready } }) wS, 33554433, List.replicate 256 1, List.replicate 416 1, _, by decide +kernel, by decide +kernel, by decide +kernel, by decide +kernel, by decide +kernel, by decide +kernel, rfl⟩,
   ⟨(wO 0), wS, 1, by decide +kernel⟩,
   ⟨(wO 0), (fun s : State => { s with keys := { s.keys with trng := .ready } }) wS, 256, by decide +kernel⟩,
   ⟨(wO 0), wS, by decide +kernel⟩,
   ⟨(wO 0), (fun s : State => { s with keys := { s.keys with trng := .ready } }) wS, 32, List.replicate 32 1, by decide +kernel⟩⟩

/-- The hypotheses of Failures can be met, clause by clause. -/
theorem witness_Failures :
    (∃ (s : State) (b : BayId) (off : Fin 10), (s.cellRec (.bay b off)).st = 0 ∧ (s.blockRec (CellId.bay b off).block).spare = 0) ∧
    (∃ (s : State) (b : BayId) (off : Fin 10), (s.cellRec (.bay b off)).st = 0 ∧ (s.blockRec (CellId.bay b off).block).spare = 2 ∧ s.faults.takeovers = []) ∧
    (∃ (s : State) (c : CellId) (tk : Takeover), s.faults.takeovers.find? (fun t => t.cell == c && t.failTick + 2 ≤ s.now) = some tk ∧ tk.badCkpt = false) ∧
    (∃ (s : State) (g : Nat) (tick : Nat), g < 96 ∧ s.faults.degraded.find? (·.1 == g) = some (g, tick) ∧ tick + 1000000 ≤ s.now) ∧
    (∃ (s : State) (b : BayId) (i : Fin 9), (List.finRange 9).find? (fun j => 4 ≤ s.bays[b].guard.stale[j]) = some i ∧ s.bays[b].guard.staleStop = false) ∧
    (∃ (s : State) (r : RegionId) (block : Fin 8) (cond : Nat), (s.blockRec (8 * r.val + block.val)).lost = false ∧ 1 ≤ cond ∧ cond ≤ 3) ∧
    (∃ (s : State) (r : RegionId) (block : Fin 8) (a : Fin 4), s.assistFailed (8 * r.val + block.val) a.val = false ∧ ((s.blockRec (8 * r.val + block.val)).jobs.filter fun x => x.1 == a.val && decide (s.now < x.2 + 1000000)).length = 15) ∧
    (∃ (s : State) (r : RegionId) (cause : Nat), (cause = 1 ∨ cause = 2) ∧ s.regions[r].regionFail = false ∧ s.faults.book.frozen = false) ∧
    (∃ (s : State) (frozenAt : Nat) (first : Nat) (rs : List SbRec), s.faults.copy.busy = some (frozenAt, first, rs) ∧ s.island.running = true ∧ rs ≠ []) ∧
    (∃ (s : State), s.faults.clockLost = true) ∧
    (∃ (s : State) (tj : Int), 12500 ≤ tj ∧ s.faults.warnAt = none) ∧
    (∃ (s : State) (tj : Int) (w : Nat), 12500 ≤ tj ∧ s.faults.warnAt = some w ∧ s.now < w + 10000000) ∧
    (∃ (tj : Int), 14000 ≤ tj) :=
  ⟨⟨wS, 3, 9, by decide +kernel⟩,
   ⟨(fun s : State => { s with faults := { s.faults with blocks := [((CellId.bay 3 9).block, { BlockRec.reset with spare := 2 })] } }) wS, 3, 9, by decide +kernel⟩,
   ⟨(fun s : State => { s with faults := { s.faults with takeovers := [⟨.bay 3 9, 5, 1, false⟩] } }) (at_ 7 wS), .bay 3 9, ⟨.bay 3 9, 5, 1, false⟩, by decide +kernel⟩,
   ⟨(fun s : State => { s with faults := { s.faults with degraded := [(95, 0)] } }) (at_ 1000000 wS), 95, 0, by decide +kernel⟩,
   ⟨bays (fun y => { y with guard := { y.guard with stale := vmod (Vector.replicate 9 0) (8 : Fin 9) fun _ => 4 } }) wS, 3, 8, by decide +kernel⟩,
   ⟨wS, 15, 7, 3, by decide +kernel⟩,
   ⟨(fun s : State => { s with faults := { s.faults with blocks := [(7, { BlockRec.reset with jobs := List.replicate 15 (3, 0) })] } }) wS, 0, 7, 3, by decide +kernel⟩,
   ⟨wS, 2, 2, by decide +kernel⟩,
   ⟨(fun s : State => { s with faults := { s.faults with copy := { IslandCopy.none with busy := some (5, 0, [⟨0, 0, 0, 0, 0, 0, 0, 0, 0, 0, 0, 0⟩]) } } }) wS, 5, 0, [⟨0, 0, 0, 0, 0, 0, 0, 0, 0, 0, 0, 0⟩], by decide +kernel⟩,
   ⟨(fun s : State => { s with faults := { s.faults with clockLost := true } }) wS, by decide +kernel⟩,
   ⟨wS, 12500, by decide +kernel⟩,
   ⟨(fun s : State => { s with faults := { s.faults with warnAt := some 0 } }) (at_ 9999999 wS), 14000, 0, by decide +kernel⟩,
   ⟨14000, by decide +kernel⟩⟩

/-- The hypotheses of FaultCards can be met, clause by clause. -/
theorem witness_FaultCards :
    (∃ (o : Origin) (s : State), Serves o s ∧ FromCourt o [0, 2]) ∧
    (∃ (o : Origin) (s : State) (region : Nat) (block : Nat) (slot : Nat) (c : CellId), Serves o s ∧ FromCourt o [0, 2] ∧ region < 16 ∧ block < 8 ∧ slot < 8 ∧ cellNamed region block slot = some c) ∧
    (∃ (o : Origin) (s : State) (region : Nat) (block : Nat), Serves o s ∧ FromCourt o [0, 2] ∧ region < 16 ∧ block < 8) ∧
    (∃ (o : Origin) (s : State), Serves o s ∧ FromCourt o [0, 2] ∧ s.bulkFree o.court = true ∧ s.faults.book.failed = false ∧ s.faults.book.recs ≠ [] ∧ s.faults.book.next = s.faults.book.recs.length) ∧
    (∃ (o : Origin) (s : State), Serves o s ∧ FromCourt o [0]) ∧
    (∃ (o : Origin) (s : State) (region : Nat) (block : Nat) (slot : Nat) (kind : Nat) (b : BayId) (off : Fin 10), Serves o s ∧ FromCourt o [0] ∧ region < 16 ∧ block < 8 ∧ slot < 8 ∧ kind ≤ 1 ∧ cellNamed region block slot = some (.bay b off) ∧ s.cellTag (.bay b off) ≠ 1 ∧ s.cellTag (.bay b off) ≠ 2 ∧ (s.blockRec (8 * region + block)).spare = 0 ∧ s.faults.fatal = false ∧ s.bays[b].session.st = .idle) :=
  ⟨⟨wO 2, wS, by decide +kernel⟩,
   ⟨wO 2, wS, 15, 7, 7, .site 15 3, by decide +kernel⟩,
   ⟨wO 2, wS, 15, 7, by decide +kernel⟩,
   ⟨(wO 0), (fun s : State => { s with faults := { s.faults with book := { Scorebook.reset with recs := [⟨0, 0, 0, 0, 0, 0, 0, 0, 0, 0, 0, 0⟩], next := 1 } } }) wS, by decide +kernel⟩,
   ⟨(wO 0), wS, by decide +kernel⟩,
   ⟨(wO 0), wS, 0, 3, 6, 1, 3, 0, by decide +kernel⟩⟩

/-- The hypotheses of SiteRing can be met, clause by clause. -/
theorem witness_SiteRing :
    (∃ (s : State) (w : Nat), s.ring.en = true ∧ s.ring.st = .kickoff ∧ s.ring.waitUntil = some w ∧ w ≤ s.now ∧ s.ring.best = s.nodeId) ∧
    (∃ (s : State) (id : Nat), s.ring.en = true ∧ s.ring.best < id) ∧
    (∃ (s : State) (id : Nat), s.ring.en = true ∧ id ≤ s.ring.best) ∧
    (∃ (s : State) (c : Nat), s.ring.en = true ∧ s.ring.st = .kickoff ∧ s.ring.claimedAt = some c ∧ c + 5000 ≤ s.now ∧ s.ring.best = s.nodeId) ∧
    (∃ (s : State) (id : Nat), s.ring.en = true ∧ s.ring.best ≤ id ∧ id ≠ s.ring.masterId ∧ s.ring.st ≠ .openRing) ∧
    (∃ (s : State), s.ring.en = true ∧ s.ring.master = true ∧ s.ring.lastSent + 1000 ≤ s.now) ∧
    (∃ (s : State) (hops : Nat), s.ring.en = true ∧ s.ring.master = false ∧ hops + 1 < 256) ∧
    (∃ (s : State) (hops : Nat), s.ring.en = true ∧ s.ring.master = true ∧ hops ≤ 32) ∧
    (∃ (s : State), s.ring.en = true ∧ s.ring.master = true ∧ 3 ≤ s.ring.outstanding) ∧
    (∃ (s : State) (src : Nat) (dst : Nat), s.ring.en = true ∧ src ≠ s.ownSafeId ∧ dst ≠ s.ownSafeId) ∧
    (∃ (s : State), s.ring.en = true) ∧
    (∃ (o : Origin) (s : State) (en : Nat), Serves o s ∧ FromCourt o [0] ∧ en ≤ 1) ∧
    (∃ (o : Origin) (s : State), Serves o s ∧ FromCourt o [0, 2]) ∧
    (∃ (s : State) (offset : Nat) (j : Nat) (acked : Nat) (sent : Nat), s.ring.en = true ∧ s.ring.bundleTx = some (j, acked, sent) ∧ acked ≤ offset) ∧
    (∃ (s : State) (tx : Nat × Nat × Nat), s.ring.en = true ∧ s.ring.bundleTx = some tx) :=
  ⟨⟨(fun s : State => { s with ring := { s.ring with en := true, st := .kickoff, waitUntil := some 5, best := 4294967296 }, keys := { s.keys with fuses := { s.keys.fuses with serial := 1 } } }) (at_ 5 wS), 5, by decide +kernel⟩,
   ⟨(fun s : State => { s with ring := { s.ring with en := true } }) wS, 1, by decide +kernel⟩,
   ⟨(fun s : State => { s with ring := { s.ring with en := true, best := 9 } }) wS, 9, by decide +kernel⟩,
   ⟨(fun s : State => { s with ring := { s.ring with en := true, st := .kickoff, claimedAt := some 0, best := 4294967296 }, keys := { s.keys with fuses := { s.keys.fuses with serial := 1 } } }) (at_ 5000 wS), 0, by decide +kernel⟩,
   ⟨(fun s : State => { s with ring := { s.ring with en := true, best := 9 } }) wS, 9, by decide +kernel⟩,
   ⟨(fun s : State => { s with ring := { s.ring with en := true, master := true } }) (at_ 1000 wS), by decide +kernel⟩,
   ⟨(fun s : State => { s with ring := { s.ring with en := true } }) wS, 254, by decide +kernel⟩,
   ⟨(fun s : State => { s with ring := { s.ring with en := true, master := true } }) wS, 32, by decide +kernel⟩,
   ⟨(fun s : State => { s with ring := { s.ring with en := true, master := true, outstanding := 3 } }) wS, by decide +kernel⟩,
   ⟨(fun s : State => { s with ring := { s.ring with en := true } }) wS, 1, 2, by decide +kernel⟩,
   ⟨(fun s : State => { s with ring := { s.ring with en := true } }) wS, by decide +kernel⟩,
   ⟨(wO 0), wS, 1, by decide +kernel⟩,
   ⟨wO 2, wS, by decide +kernel⟩,
   ⟨(fun s : State => { s with ring := { s.ring with en := true, bundleTx := some (1, 2, 4) } }) wS, 2, 1, 2, 4, by decide +kernel⟩,
   ⟨(fun s : State => { s with ring := { s.ring with en := true, bundleTx := some (1, 2, 4) } }) wS, (1, 2, 4), by decide +kernel⟩⟩

/-- The hypotheses of TwinLinkAndServe can be met, clause by clause. -/
theorem witness_TwinLinkAndServe :
    (∃ (s : State) (roundTrip : Nat) (turnPs : Nat), s.twin.en = true ∧ s.twin.linkUp = false ∧ s.twin.training = 15 ∧ s.twin.delaySum + (roundTrip - turnPs) ≤ 32 * 60000) ∧
    (∃ (s : State) (roundTrip : Nat) (turnPs : Nat), s.twin.en = true ∧ s.twin.linkUp = false ∧ s.twin.training = 15 ∧ 32 * 60001 ≤ s.twin.delaySum + (roundTrip - turnPs)) ∧
    (∃ (s : State) (p : PeerInfo), s.twin.en = true ∧ s.twin.linkUp = false ∧ s.twin.linkBarred = false ∧ s.host.ready = true ∧ p.ready = true ∧ s.twin.server = true ∧ p.server = false) ∧
    (∃ (s : State) (p : PeerInfo), s.twin.en = true ∧ s.twin.linkUp = false ∧ s.twin.linkBarred = false ∧ s.host.ready = true ∧ p.ready = true ∧ s.twin.server = true ∧ p.server = true ∧ s.twin.epoch < p.epoch) ∧
    (∃ (s : State) (cls : Nat) (seq : Nat) (x : TwinXfer), s.twin.xfers.find? (fun y => y.cls == cls && y.seq == seq) = some x ∧ x.sentAt + 8 ≤ s.now ∧ x.tries < 3) ∧
    (∃ (s : State) (t0 : Tcb), s.twin.en = true ∧ s.twin.linkUp = true ∧ s.twin.server = false ∧ s.twin.st = .paired ∧ t0.crcOk = true ∧ t0.cycle ≤ 90 ∧ t0.server = true ∧ t0.state = 2) ∧
    (∃ (s : State), s.isReturner = true ∧ s.inStep = true ∧ s.twin.linkUp = true ∧ s.twin.mirrorSeq + 1 < 2 ^ 32) ∧
    (∃ (s : State), s.twin.en = true ∧ s.twin.server = false ∧ s.twin.st = .inStep ∧ s.blockNow = none ∧ s.twin.missBlocks < 2) ∧
    (∃ (s : State), s.twin.en = true ∧ s.twin.server = false ∧ s.twin.st = .inStep ∧ s.twin.barred = false ∧ 3 ≤ s.twin.missBlocks ∧ 3 ≤ s.twin.missTwhb) ∧
    (∃ (s : State) (apply : Nat) (o : Option Origin), s.twin.handover = some (apply, o) ∧ apply ≤ s.now ∧ s.twin.st = .inStep ∧ s.twin.server = true) ∧
    (∃ (s : State) (apply : Nat) (o : Option Origin), s.twin.handover = some (apply, o) ∧ apply ≤ s.now ∧ s.twin.st = .inStep ∧ s.twin.server = false) ∧
    (∃ (s : State) (k : Tcb), s.twin.block = some k ∧ s.twin.en = true ∧ s.twin.server = false ∧ s.twin.st = .inStep ∧ k.yields = true ∧ s.twin.barred = false ∧ s.twin.blockTick ≤ s.now) ∧
    (∃ (s : State) (m : Mirror), s.twin.en = true ∧ s.twin.server = true ∧ s.twin.st = .inStep ∧ m ∈ s.twin.mirrors ∧ m.acked = false ∧ m.sentAt + 1000 ≤ s.now ∧ s.twin.joinOrigin = none ∧ s.twin.linkUp = true) :=
  ⟨⟨(fun s : State => { s with twin := { s.twin with en := true, training := 15, delaySum := 1800000 } }) wS, 120000, 0, by decide +kernel⟩,
   ⟨(fun s : State => { s with twin := { s.twin with en := true, training := 15, delaySum := 1800000 } }) wS, 120032, 0, by decide +kernel⟩,
   ⟨(fun s : State => { s with twin := { s.twin with en := true, server := true } }) wS, ⟨2, false, 5, 0, 3, true, 0, [], [], false, 1, true⟩, by decide +kernel⟩,
   ⟨(fun s : State => { s with twin := { s.twin with en := true, server := true } }) wS, ⟨2, true, 5, 0, 3, true, 0, [], [], false, 1, true⟩, by decide +kernel⟩,
   ⟨(fun s : State => { s with twin := { s.twin with xfers := [⟨1, 2, 0, 2⟩] } }) (at_ 8 wS), 1, 2, ⟨1, 2, 0, 2⟩, by decide +kernel⟩,
   ⟨(fun s : State => { s with twin := { s.twin with en := true, server := false, linkUp := true, st := .paired } }) wS, ⟨0, 3, 2, true, 0, true, false, 0, 0, 0, 0, 0, 65535#16, [], true, 90⟩, by decide +kernel⟩,
   ⟨(fun s : State => { s with twin := { s.twin with en := true, server := false, linkUp := true, st := .inStep } }) wS, by decide +kernel⟩,
   ⟨(fun s : State => { s with twin := { s.twin with en := true, server := false, st := .inStep, missBlocks := 1 } }) wS, by decide +kernel⟩,
   ⟨(fun s : State => { s with twin := { s.twin with en := true, server := false, st := .inStep, missBlocks := 3, missTwhb := 3 } }) wS, by decide +kernel⟩,
   ⟨(fun s : State => { s with twin := { s.twin with handover := some (5, none), st := .inStep, server := true } }) (at_ 5 wS), 5, none, by decide +kernel⟩,
   ⟨(fun s : State => { s with twin := { s.twin with handover := some (5, none), st := .inStep, server := false } }) (at_ 5 wS), 5, none, by decide +kernel⟩,
   ⟨(fun s : State => { s with twin := { s.twin with en := true, server := false, st := .inStep, block := some ⟨0, 3, 2, true, 0, true, true, 0, 0, 0, 0, 0, 65535#16, [], true, 90⟩ } }) wS, ⟨0, 3, 2, true, 0, true, true, 0, 0, 0, 0, 0, 65535#16, [], true, 90⟩, by decide +kernel⟩,
   ⟨(fun s : State => { s with twin := { s.twin with en := true, server := true, st := .inStep, linkUp := true, mirrors := [⟨1, 5, .draws 7, false, 0⟩] } }) (at_ 1000 wS), ⟨1, 5, .draws 7, false, 0⟩, by decide +kernel⟩⟩

/-- The hypotheses of TwinJoin can be met, clause by clause. -/
theorem witness_TwinJoin :
    (∃ (s : State), s.twin.st = .joining ∧ s.twin.joinPhase = 1 ∧ s.isReturner = false) ∧
    (∃ (s : State), s.twin.st = .joining ∧ s.twin.joinPhase = 2 ∧ s.isReturner = true) ∧
    (∃ (s : State) (u : CutUnit), s.twin.st = .joining ∧ s.twin.joinPhase = 4 ∧ s.twin.cutDone.length = unitKey u ∧ ((∀ c ∈ s.twin.cuts, c.2 + 8 ≤ s.now))) ∧
    (∃ (s : State), s.twin.st = .joining ∧ s.twin.en = true ∧ s.twin.joinStart + 500000 ≤ s.now ∧ s.twin.server = true ∧ s.twin.joinOrigin = none ∧ s.twin.linkUp = true) ∧
    (∃ (s : State) (at_ : Nat), s.twin.leftAt = some at_ ∧ s.twin.server = true ∧ at_ + 1000000 ≤ s.now ∧ s.twin.lastReason ≠ 5 ∧ s.twin.lastReason ≠ 6 ∧ s.joinFails = none) ∧
    (∃ (s : State), s.isReturner = true ∧ s.twin.linkUp = true ∧ s.twin.pos ≤ 1 ∧ s.inLoader = false ∧ s.courts[(0 : Fin 16)].state = .active ∧ (s.mbox 0 2).running = none) ∧
    (∃ (s : State) (opcode : Nat) (f : Forward) (r : Running), s.twin.server = true ∧ s.twin.linkUp = true ∧ opcode ≠ 0x0E10 ∧ s.twin.forwards.find? (fun x => x.opcode == opcode) = some f ∧ (s.mbox f.origin.court f.origin.mbx).running = some r ∧ r.via = 0) ∧
    (∃ (s : State) (f : Forward) (r : Running), s.twin.forwards.find? (fun x => x.sentAt + x.limit + 100000 ≤ s.now) = some f ∧ (s.mbox f.origin.court f.origin.mbx).running = some r ∧ r.via = 0) :=
  ⟨⟨(fun s : State => { s with twin := { s.twin with st := .joining, joinPhase := 1 } }) wS, by decide +kernel⟩,
   ⟨(fun s : State => { s with twin := { s.twin with en := true, server := false, st := .joining, joinPhase := 2 } }) wS, by decide +kernel⟩,
   ⟨(fun s : State => { s with twin := { s.twin with st := .joining, joinPhase := 4, cutDone := List.replicate 207 (.site 0), cuts := [(.site 14, 0)] } }) (at_ 8 wS), .site 15, by decide +kernel⟩,
   ⟨(fun s : State => { s with twin := { s.twin with st := .joining, en := true, server := true, linkUp := true } }) (at_ 500000 wS), by decide +kernel⟩,
   ⟨(fun s : State => { s with twin := { s.twin with leftAt := some 0, server := true } }) ((fun s : State => { s with keys := { s.keys with fuses := { s.keys.fuses with serial := 0 } }, boot := { s.boot with measures := [] }, safety := { s.safety with st := 2 }, twin := { s.twin with st := .paired, peer := some ⟨0, false, 5, 0, 3, true, 0, [], [], false, 1, true⟩ } }) (at_ 1000000 wS)), 0, by decide +kernel⟩,
   ⟨(fun s : State => { s with twin := { s.twin with en := true, server := false, linkUp := true } }) wS, by decide +kernel⟩,
   ⟨(fun s : State => { s with twin := { s.twin with server := true, linkUp := true, forwards := [⟨wO 0, 0x1202, [], 0, 1000⟩] } }) ((withMbx { mbxUp with running := some ⟨0x1202, 1, 0, [], 0⟩ } State.reset)), 0x1202, ⟨wO 0, 0x1202, [], 0, 1000⟩, ⟨0x1202, 1, 0, [], 0⟩, by decide +kernel⟩,
   ⟨(fun s : State => { s with twin := { s.twin with forwards := [⟨wO 0, 0x1202, [], 0, 1000⟩] } }) (at_ 101000 (withMbx { mbxUp with running := some ⟨0x1202, 1, 0, [], 0⟩ } State.reset)), ⟨wO 0, 0x1202, [], 0, 1000⟩, ⟨0x1202, 1, 0, [], 0⟩, by decide +kernel⟩⟩

/-- The hypotheses of TwinCards can be met, clause by clause. -/
theorem witness_TwinCards :
    (∃ (o : Origin) (s : State), Serves o s ∧ FromCourt o [0, 2]) ∧
    (∃ (o : Origin) (s : State), Serves o s ∧ FromCourt o [0] ∧ s.joinFails = none) ∧
    (∃ (o : Origin) (s : State) (k : Nat), Serves o s ∧ FromCourt o [0] ∧ s.joinFails = some k) ∧
    (∃ (o : Origin) (s : State) (apply : Nat), Serves o s ∧ FromCourt o [0] ∧ s.inStep = true ∧ s.twin.server = true ∧ s.now + 1000 ≤ apply) ∧
    (∃ (o : Origin) (s : State), s.canTake o.court o.mbx = true ∧ s.twin.armAt = none ∧ reserved o = none ∧ s.inLoader = false ∧ FromCourt o [0] ∧ s.twin.en = true ∧ s.twin.server = false ∧ s.blockNow = none ∧ 1 ≤ s.twin.missTwhb ∧ s.twin.barred = false) ∧
    (∃ (o : Origin) (s : State), Serves o s ∧ FromCourt o [0] ∧ s.twin.en = false) ∧
    (∃ (o : Origin) (s : State), Serves o s ∧ FromCourt o [0] ∧ s.twin.st = .inStep) :=
  ⟨⟨wO 2, wS, by decide +kernel⟩,
   ⟨(wO 0), (fun s : State => { s with keys := { s.keys with fuses := { s.keys.fuses with serial := 0 } }, boot := { s.boot with measures := [] }, safety := { s.safety with st := 2 }, twin := { s.twin with st := .paired, peer := some ⟨0, false, 5, 0, 3, true, 0, [], [], false, 1, true⟩ } }) wS, by decide +kernel⟩,
   ⟨(wO 0), wS, 1, by decide +kernel⟩,
   ⟨(wO 0), (fun s : State => { s with twin := { s.twin with en := true, server := true, st := .inStep } }) wS, 1000, by decide +kernel⟩,
   ⟨(wO 0), (fun s : State => { s with twin := { s.twin with en := true, server := false, missTwhb := 1, blockTick := 5 } }) wS, by decide +kernel⟩,
   ⟨(wO 0), wS, by decide +kernel⟩,
   ⟨(wO 0), (fun s : State => { s with twin := { s.twin with en := true, server := true, st := .inStep } }) wS, by decide +kernel⟩⟩

/-- The hypotheses of StartsAndBoot can be met, clause by clause. -/
theorem witness_StartsAndBoot :
    (∃ (i : StartIn), i.failing = []) ∧
    (∃ (s : State) (w : SoftWait) (due : Nat), s.boot.softWait = some w ∧ w.due = some due ∧ due ≤ s.now) ∧
    (∃ (s : State) (due : Nat), s.faults.clockLost = false ∧ s.faults.resetAt = some due ∧ due ≤ s.now) ∧
    (∃ (s : State), s.faults.clockLost = true ∧ s.boot.resetHeld = true) ∧
    (∃ (s : State) (j : Fin 3), s.host.ready = true ∧ s.inLoader = false ∧ s.boot.selfCheck = 0 ∧ s.selfCheckOk = true ∧ s.boot.runSlot = some j) ∧
    (∃ (s : State) (j : Fin 3) (fin : Nat), s.boot.trialEnd = some fin ∧ s.boot.runSlot = some j ∧ fin ≤ s.now ∧ s.boot.record.slots[j].st = .trial) ∧
    (∃ (s : State) (w : SlotWrite) (o : Origin), s.boot.write = some w ∧ w.origin = some o ∧ w.golden = false ∧ w.forward = false) ∧
    (∃ (s : State) (w : SlotWrite) (o : Origin) (code : Nat), s.boot.write = some w ∧ w.origin = some o ∧ code ≠ 0) ∧
    (∃ (s : State) (fin : Nat) (o : Origin), s.twin.server = true ∧ s.twin.swapAt = some (fin, o) ∧ fin + 2000000 ≤ s.now) ∧
    (∃ (s : State), s.twin.server = false ∧ s.twin.en = true ∧ s.twin.st = .paired) :=
  ⟨⟨⟨0, false, false, 0, [], [], false⟩, by decide +kernel⟩,
   ⟨(fun s : State => { s with boot := { s.boot with softWait := some ⟨0, false, none, some 5⟩ } }) (at_ 5 wS), ⟨0, false, none, some 5⟩, 5, by decide +kernel⟩,
   ⟨(fun s : State => { s with faults := { s.faults with resetAt := some 5 } }) (at_ 5 wS), 5, by decide +kernel⟩,
   ⟨(fun s : State => { s with faults := { s.faults with clockLost := true }, boot := { s.boot with resetHeld := true } }) wS, by decide +kernel⟩,
   ⟨(fun s : State => { s with safety := { s.safety with st := 2 }, keys := { s.keys with trng := .ready } }) wS, 0, by decide +kernel⟩,
   ⟨(fun s : State => { s with boot := { s.boot with copies := #v[some ⟨1, 1, #v[SlotRec.empty, { SlotRec.empty with st := .trial, hash := 77 }, SlotRec.empty]⟩, none], running := 1, trialEnd := some 5 } }) (at_ 5 wS), 1, 5, by decide +kernel⟩,
   ⟨(fun s : State => { s with boot := { s.boot with write := some ⟨some (wO 0), 2, [1], false, false⟩ } }) wR, ⟨some (wO 0), 2, [1], false, false⟩, wO 0, by decide +kernel⟩,
   ⟨(fun s : State => { s with boot := { s.boot with write := some ⟨some (wO 0), 2, [1], false, false⟩ } }) wR, ⟨some (wO 0), 2, [1], false, false⟩, wO 0, 3, by decide +kernel⟩,
   ⟨(fun s : State => { s with twin := { s.twin with swapAt := some (0, wO 0) } }) (at_ 2000000 wR), 0, wO 0, by decide +kernel⟩,
   ⟨(fun s : State => { s with twin := { s.twin with en := true, server := false, st := .paired } }) wS, by decide +kernel⟩⟩

/-- The hypotheses of BootCards can be met, clause by clause. -/
theorem witness_BootCards :
    (∃ (o : Origin) (s : State), Serves o s ∧ FromCourt o [0] ∧ s.twin.en = false) ∧
    (∃ (o : Origin) (s : State), Serves o s ∧ FromCourt o [0, 2] ∧ s.twin.en = false) ∧
    (∃ (o : Origin) (s : State) (transfer : Nat), s.canTake o.court o.mbx = true ∧ s.twin.armAt = none ∧ reserved o = none ∧ s.isReturner = false ∧ s.inLoader = true ∧ FromCourt o [0] ∧ (s.xfer? o.court transfer).isSome = true) ∧
    (∃ (o : Origin) (s : State) (flags : Nat) (transfer : Nat), Serves o s ∧ FromCourt o [0] ∧ s.twin.en = false ∧ flags < 2 ∧ s.writeBarred = false ∧ (s.xfer? o.court transfer).isSome = true) ∧
    (∃ (o : Origin) (s : State) (flags : Nat) (j : Fin 3), Serves o s ∧ FromCourt o [0] ∧ s.twin.en = false ∧ flags < 2 ∧ s.writeBarred = false ∧ s.boot.runSlot = some j ∧ j = s.boot.record.activeSlot ∧ s.boot.record.slots[j].st = .confirmed) ∧
    (∃ (o : Origin) (s : State) (trialS : Nat), Serves o s ∧ FromCourt o [0] ∧ s.twin.en = false ∧ 60 ≤ trialS ∧ trialS ≤ 86400 ∧ s.boot.record.slots[(2 : Fin 3)].st = .staged) ∧
    (∃ (o : Origin) (s : State) (hash : Nat) (j : Fin 3), Serves o s ∧ FromCourt o [0] ∧ s.twin.en = false ∧ s.boot.runSlot = some j ∧ s.boot.record.slots[j].hash = hash ∧ s.boot.record.slots[j].st = .trial ∧ s.boot.selfCheck = 1) ∧
    (∃ (o : Origin) (s : State) (apply : Nat), Serves o s ∧ FromCourt o [0] ∧ s.now + 1000 ≤ apply ∧ s.swapFails = none ∧ s.twin.swapAt = none) :=
  ⟨⟨(wO 0), wS, by decide +kernel⟩,
   ⟨wO 2, wS, by decide +kernel⟩,
   ⟨(wO 0), (fun s : State => { s with host := { s.host with myMajor := 0 } }) ((fun s : State => { s with courts := Vector.replicate 16 { Court.absent with state := .active, mbx := Vector.replicate 4 mbxUp, inXfers := [⟨9, [1, 2, 3], true, 0, false, false⟩] } }) wS), 9, by decide +kernel⟩,
   ⟨(wO 0), (fun s : State => { s with courts := Vector.replicate 16 { Court.absent with state := .active, mbx := Vector.replicate 4 mbxUp, inXfers := [⟨9, [1, 2, 3], true, 0, false, false⟩] } }) wS, 1, 9, by decide +kernel⟩,
   ⟨(wO 0), (fun s : State => { s with boot := { s.boot with copies := #v[some ⟨1, 1, #v[SlotRec.empty, { SlotRec.empty with st := .confirmed }, SlotRec.empty]⟩, none], running := 1 } }) wS, 1, 1, by decide +kernel⟩,
   ⟨(wO 0), (fun s : State => { s with boot := { s.boot with copies := #v[some ⟨1, 1, #v[SlotRec.empty, SlotRec.empty, { SlotRec.empty with st := .staged }]⟩, none] } }) wS, 86400, by decide +kernel⟩,
   ⟨(wO 0), (fun s : State => { s with boot := { s.boot with copies := #v[some ⟨1, 1, #v[SlotRec.empty, { SlotRec.empty with st := .trial, hash := 77 }, SlotRec.empty]⟩, none], running := 1, selfCheck := 1 } }) wS, 77, 1, by decide +kernel⟩,
   ⟨(wO 0), (fun s : State => { s with twin := { s.twin with en := true, server := true, st := .paired, peer := some ⟨0, false, 5, 77, 3, true, 0, [], [], false, 1, true⟩ } }) ((fun s : State => { s with keys := { s.keys with fuses := { s.keys.fuses with serial := 0 } }, boot := { s.boot with measures := [] }, safety := { s.safety with st := 2 }, twin := { s.twin with st := .paired, peer := some ⟨0, false, 5, 0, 3, true, 0, [], [], false, 1, true⟩ } }) wS), 1000, by decide +kernel⟩⟩

/-- The hypotheses of IslandEvents can be met, clause by clause. -/
theorem witness_IslandEvents :
    (∃ (s : State), s.island.running = true) ∧
    (∃ (s : State), s.island.running = true) ∧
    (∃ (s : State), s.island.running = true ∧ s.island.onRc = false) ∧
    (∃ (s : State), s.island.running = true) ∧
    (∃ (s : State), s.island.running = false) ∧
    (∃ (s : State) (mv : Nat), s.island.running = true ∧ s.island.onVbat = false ∧ s.island.vbatLow = false ∧ mv < 2300) ∧
    (∃ (s : State), s.island.running = true ∧ s.legal.valid = true ∧ s.legal.utc (s.now - 1) < s.legal.utc s.now ∧ (s.legal.utc s.now - 1) % 3600 = 0) ∧
    (∃ (s : State) (i : Fin 4), s.island.running = true ∧ s.clock.cellRuns = false ∧ s.isReturner = false ∧ s.island.tampLevel.getLsbD i.val = false ∧ s.island.queue.length < 16) ∧
    (∃ (s : State) (i : Fin 4), s.island.running = true ∧ s.island.tampLevel.getLsbD i.val = true) ∧
    (∃ (s : State) (sums : Vector Nat 4), s.island.running = true ∧ s.island.theftEn = true ∧ s.clock.cellRuns = false ∧ s.island.watchOpen = false ∧ s.island.queue.length < 16 ∧ s.island.theftMinMa ≤ theftMa sums[(0 : Fin 4)] s.island.ctLsbUa[(0 : Fin 4)]) ∧
    (∃ (s : State), s.island.running = true ∧ s.island.lowPower ≠ 0 ∧ s.island.wakeCause = 0) ∧
    (∃ (s : State) (sec : Nat), s.island.running = true ∧ s.island.lowPower ≠ 0 ∧ s.island.wakeCause = 0 ∧ s.island.wakeAt ≠ 0 ∧ s.island.wakeAt ≤ sec ∧ sec < 2 ^ 40) ∧
    (∃ (s : State) (src : Nat), s.island.running = true ∧ s.island.lowPower ≠ 0 ∧ s.island.wakeCause = 0 ∧ s.wakeNamed src = true) ∧
    (∃ (s : State) (value : Nat), s.host.port = .pcie ∧ bitOf value 0 = true ∧ s.island.lowPower = 1 ∧ s.island.wakeCause = 0) ∧
    (∃ (s : State), s.island.lowPower ≠ 0 ∧ s.island.wakeCause ≠ 0) :=
  ⟨⟨wS, by decide +kernel⟩,
   ⟨wS, by decide +kernel⟩,
   ⟨wS, by decide +kernel⟩,
   ⟨wS, by decide +kernel⟩,
   ⟨(fun s : State => { s with island := { s.island with running := false } }) wS, by decide +kernel⟩,
   ⟨wS, 2299, by decide +kernel⟩,
   ⟨(fun s : State => { s with legal := { s.legal with valid := true, bases := [(1, 3601000000000 - 1000), (0, 3600000000000)] } }) (at_ 1 wS), by decide +kernel⟩,
   ⟨(fun s : State => { s with clock := { s.clock with cellRuns := false } }) wS, 3, by decide +kernel⟩,
   ⟨(fun s : State => { s with island := { s.island with tampLevel := 8 } }) wS, 3, by decide +kernel⟩,
   ⟨(fun s : State => { s with island := { s.island with theftEn := true }, clock := { s.clock with cellRuns := false } }) wS, Vector.replicate 4 9, by decide +kernel⟩,
   ⟨(fun s : State => { s with island := { s.island with lowPower := 2 } }) wS, by decide +kernel⟩,
   ⟨(fun s : State => { s with island := { s.island with lowPower := 2, wakeAt := 9 } }) wS, 9, by decide +kernel⟩,
   ⟨(fun s : State => { s with island := { s.island with lowPower := 2, wake := Vector.replicate 32 ⟨466, true⟩ } }) wS, 466, by decide +kernel⟩,
   ⟨(fun s : State => { s with island := { s.island with lowPower := 1 } }) wS, 1, by decide +kernel⟩,
   ⟨(fun s : State => { s with island := { s.island with lowPower := 2, wakeCause := 1 } }) wS, by decide +kernel⟩⟩

/-- The hypotheses of IslandCards can be met, clause by clause. -/
theorem witness_IslandCards :
    (∃ (o : Origin) (s : State) (flags : Nat) (wakeAt : Nat), Serves o s ∧ FromCourt o [0] ∧ flags < 2 ∧ ((wakeAt = 0 ∨ s.island.rtcValid = true)) ∧ s.host.port = .pcie ∧ s.boot.entering = none) ∧
    (∃ (o : Origin) (s : State) (flags : Nat) (wakeAt : Nat), Serves o s ∧ FromCourt o [0] ∧ flags < 2 ∧ ((wakeAt = 0 ∨ s.island.rtcValid = true)) ∧ s.boot.entering = none) ∧
    (∃ (o : Origin) (s : State) (en : Nat) (minMa : Nat) (a : Nat) (b : Nat) (c : Nat) (d : Nat), Serves o s ∧ FromCourt o [0, 1] ∧ en ≤ 1 ∧ 100 ≤ minMa ∧ minMa ≤ 65535 ∧ ((∀ x ∈ [a, b, c, d], 1 ≤ x ∧ x ≤ 10000000))) ∧
    (∃ (o : Origin) (s : State), Serves o s ∧ FromCourt o [0, 1, 2]) :=
  ⟨⟨(wO 0), wS, 1, 0, by decide +kernel⟩,
   ⟨(wO 0), (fun s : State => { s with island := { s.island with rtcValid := true } }) wS, 1, 9, by decide +kernel⟩,
   ⟨wO 1, wS, 1, 65535, 1, 2, 3, 10000000, by decide +kernel⟩,
   ⟨wO 2, wS, by decide +kernel⟩⟩

end Sys2Proof.Tests
end
end

namespace Sys2Proof.Machine

/-- Of all commands ten may write or clear memory or start the chip, and each of these keeps the canonical form by its own lemma; every other
command leaves each byte as it is, by its frame lemma in the simp set (`execMbxRequest_kept` and the like). There `exec` is unfolded by `delta`:
the equations that `simp [exec]` would make of so wide a match are large. -/
theorem exec_keeps (c : Instr) (s : State) : ∃ t, exec c s = .next t ∧ Keeps s t := by
  cases c with
  | powerOnReset i => exact execPowerOnReset_keeps i s
  | pinReset i => exact execPinReset_keeps i s
  | softReset i => exact execSoftReset_keeps i s
  | wdogReset i => exact execWdogReset_keeps i s
  | islandRailsReady i => exact execIslandRailsReady_keeps i s
  | tickCommit => exact execTickCommit_keeps s
  | settingsEffective => exact execSettingsEffective_keeps s
  | fabricTransfer x => exact execFabricTransfer_keeps x s
  | courtRestartDone c => exact execCourtRestartDone_keeps c s
  | courtTeardownDone c => exact execCourtTeardownDone_keeps c s
  | _ =>
    refine keeps_of_outKept ?_
    delta exec
    simp

theorem step_of_pending_nil {s : State} (h : s.pending = []) : step s = .next s := by
  simp only [step, h]

theorem step_of_pending_cons {s : State} {c : Instr} {rest : List Instr} (h : s.pending = c :: rest) :
    step s = exec c { s with pending := rest } := by
  simp only [step, h]

/-- Every step answers a next state, which is in canonical form if the state before was. -/
theorem step_keeps_inv (s : State) : ∃ t, step s = .next t ∧ (s.Inv → t.Inv) := by
  cases hp : s.pending with
  | nil => exact ⟨s, step_of_pending_nil hp, id⟩
  | cons c rest =>
    obtain ⟨t, hexec, hkeeps⟩ := exec_keeps c { s with pending := rest }
    exact ⟨t, (step_of_pending_cons hp).trans hexec, hkeeps.wf⟩

/-- Settles O4: a step idles or runs one command, and every command keeps the canonical form. -/
theorem stepKeepsInvariant : Obligations.StepKeepsInvariant := by
  unfold Obligations.StepKeepsInvariant
  intro s t hinv hstep
  obtain ⟨u, hu, hkeeps⟩ := step_keeps_inv s
  obtain rfl : u = t := Host.Outcome.next.inj (hu.symm.trans hstep)
  exact hkeeps hinv

end Sys2Proof.Machine

namespace Sys2Proof.Machine

/-! Steps and reset. -/

/-- Settles O1: one lemma for each form of the queue. -/
theorem stepTakesFront : Obligations.StepTakesFront := by
  unfold Obligations.StepTakesFront
  exact ⟨fun _ _ _ h => step_of_pending_cons h, fun _ h => step_of_pending_nil h⟩

theorem startCourts_state (c : CourtId) : startCourts[c].state = if c.val < 3 then .active else .absent := by
  simp only [startCourts, Fin.getElem_fin, Vector.getElem_ofFn]
  split <;> rfl

theorem startCourts_mbx (c : CourtId) (m : MbxId) : startCourts[c].mbx[m] = Mailbox.reset := by
  simp only [startCourts, Fin.getElem_fin, Vector.getElem_ofFn]
  split <;> simp [Court.fixed, Court.absent]

/-- A court after reset is a court at a start with its event mask. -/
theorem reset_courts (c : CourtId) : State.reset.courts[c] = { startCourts[c] with mask := startMask c } := by
  simp [State.reset]

@[simp] theorem reset_mbox (c : CourtId) (m : MbxId) : State.reset.mbox c m = Mailbox.reset := by
  simp only [State.mbox, reset_courts, startCourts_mbx]

theorem reset_bays (b : BayId) : State.reset.bays[b] = Bay.reset := by
  simp [State.reset]

theorem reset_gens_bay (b : BayId) : State.reset.gens.bay[b] = 0 := by
  simp [State.reset, Gens.reset]

theorem reset_ledger_grants (b : BayId) : State.reset.ledger.grants[b] = Grant.zero := by
  simp [State.reset, Ledger.reset]

theorem reset_safety_pairs (p : Fin 8) : State.reset.safety.pairs[p] = SafePair.reset := by
  simp [State.reset, Safety.reset]

theorem reset_safety_conns (c : Fin 8) : State.reset.safety.conns[c] = SafeConn.reset := by
  simp [State.reset, Safety.reset]

/-- Settles O6: each vector of the state after reset holds one value throughout, and the rest is read off the reset records. -/
theorem resetLeaves : Obligations.ResetLeaves := by
  unfold Obligations.ResetLeaves
  refine ⟨rfl, rfl, reset_gens_bay, fun c => ?_, fun c m => ?_, rfl, rfl, rfl, reset_ledger_grants, rfl, rfl, fun p => ?_, fun c => ?_, fun b => ?_⟩
  · rw [reset_courts]
    exact startCourts_state c
  · rw [reset_mbox]
    exact ⟨rfl, rfl⟩
  · rw [reset_safety_pairs]
    exact ⟨rfl, rfl⟩
  · rw [reset_safety_conns]
    rfl
  · rw [reset_bays]
    exact ⟨rfl, rfl⟩

end Sys2Proof.Machine

namespace Sys2Proof.Machine

/-! Cards and their answers. -/

/-- A range that is not kept is what a card with a court check and a range check refuses, where its court is admitted (R82, R85). -/
theorem firstRefusal_permit_rng {o : Origin} {cs : List Nat} (h : FromCourt o cs) (pos : Nat) {ok : Bool} (hok : ok = false) :
    firstRefusal [permit o cs, rng pos ok] = some (stRANGE, pos) := by
  simp [(permit_none o cs).2 h, hok, rng, need, firstRefusal]

/-- A card that reads and changes nothing answers with what it read. -/
theorem card_report {o : Origin} {s : State} (h : Serves o s) {op : Nat} {lay : List Nat} {chk : State → List Chk} {body : State → State × List Nat}
    {vals : List Nat} (hc : firstRefusal (chk (s.take o.court o.mbx op lay)) = none)
    (hb : body (s.take o.court o.mbx op lay) = (s.take o.court o.mbx op lay, vals)) :
    card o op lay chk body s = s.repliedOk o op lay vals := by
  have ⟨htake, harm, _⟩ := h
  exact card_read h op lay chk body s vals hc hb htake harm

/-- A card that arms a setting leaves the request in execution, to be answered at the later tick at which the setting takes effect (R50, R87). -/
theorem cardLater_arms {o : Origin} {s : State} (h : Serves o s) (op : Nat) (lay : List Nat) (chk : State → List Chk) (cmd : Setting) (bays : BayMask)
    (site : Bool) (same : State → Bool) (clash : Setting → Bool) (hc : firstRefusal (chk (s.take o.court o.mbx op lay)) = none) :
    ∃ n same', cardLater o op lay chk (fun t => t.arm o cmd bays site (same t) clash) s = { s.take o.court o.mbx op lay with
      armed := insertArmed ⟨n, o, cmd, bays, site, same'⟩ s.armed } ∧ s.now < n := by
  obtain ⟨n, harm, hn⟩ := arm_eq (s.take o.court o.mbx op lay) o cmd bays site (same (s.take o.court o.mbx op lay)) clash
  exact ⟨n, _, (cardLater_run h op lay chk _ hc).trans harm, hn⟩

/-- An answer ends the request in its mailbox, or goes to the other twin (R656); nothing else differs. -/
theorem answer_eq (s : State) (c : CourtId) (m : MbxId) (st dt : Nat) (bulk : Bool) (fs : List Field) : ∃ cs r,
    s.answer c m st dt bulk fs = { s with courts := cs, twin := { s.twin with results := r } } := by
  unfold State.answer
  split
  · exact ⟨s.courts, s.twin.results, rfl⟩
  · dsimp only
    split
    · exact ⟨_, _, rfl⟩
    · exact ⟨_, s.twin.results, rfl⟩

@[simp] theorem answer_clock (s : State) (c : CourtId) (m : MbxId) (st dt : Nat) (bulk : Bool) (fs : List Field) :
    (s.answer c m st dt bulk fs).clock = s.clock := by
  obtain ⟨_, _, h⟩ := answer_eq s c m st dt bulk fs
  rw [h]

@[simp] theorem answer_bays (s : State) (c : CourtId) (m : MbxId) (st dt : Nat) (bulk : Bool) (fs : List Field) :
    (s.answer c m st dt bulk fs).bays = s.bays := by
  obtain ⟨_, _, h⟩ := answer_eq s c m st dt bulk fs
  rw [h]

/-- An answer leaves no request in execution in its mailbox. -/
theorem answer_running (s : State) (c : CourtId) (m : MbxId) (st dt : Nat) (bulk : Bool) (fs : List Field) :
    ((s.answer c m st dt bulk fs).mbox c m).running = none := by
  unfold State.answer
  split
  next h => exact h
  next r h =>
    dsimp only
    split
    · exact congrArg Mailbox.running (mbox_onMbx s c m _)
    · exact congrArg Mailbox.running (mbox_onMbx s c m _)

end Sys2Proof.Machine

namespace Sys2Proof.Machine

/-! The register window (spec files 02 and 04). -/

theorem regWrite_unlisted {a : Nat} (v : Nat) (s : State)
    (h : 0x20000 ≤ a ∧ a < 0x30000 ∨ 0x5000 ≤ a ∧ a < 0x10000 ∨ 0x3000 ≤ a ∧ a < 0x4000) : s.regWrite a v = s := by
  have hmsix : s.writeMsix a v = s := by
    unfold State.writeMsix
    iterate 4 rw [if_neg (by omega)]
  unfold State.regWrite
  rw [if_neg (by omega), if_neg (by omega), if_neg (by omega), if_neg (by omega), dif_neg (by omega), hmsix]

theorem regWrite_hostErr (v : Nat) (s : State) : s.regWrite 0x00C v = { s with host := { s.host with
    rdTimeout := s.host.rdTimeout && !bitOf v 0, rdRefused := s.host.rdRefused && !bitOf v 1, rdPoison := s.host.rdPoison && !bitOf v 2 } } := rfl

theorem regRead_regionStat (r : RegionId) (s : State) : s.regRead (0x1100 + 4 * r.val) =
    (s.onRegion r fun g => { g with fwCount := 0 },
      packFields [(8, s.regions[r].spareUsed.toNat), (8, s.regions[r].blockFail.toNat), (1, b2n s.regions[r].regionFail),
        (1, b2n s.regions[r].fwViol), (6, 0), (8, s.regions[r].fwCount)] % 2 ^ 32) := by
  have hoff : 0x1100 + 4 * r.val - 0x1000 = 0x100 + 4 * r.val := by omega
  have hreg : (⟨(0x100 + 4 * r.val - 0x100) / 4, by omega⟩ : RegionId) = r := Fin.ext (by simp)
  unfold State.regRead
  rw [if_neg (by omega), if_pos (by omega), hoff]
  unfold State.readArch
  rw [if_neg (by omega), dif_pos (by omega)]
  simp only [hreg]

theorem barReach_dev {s : State} {a : Nat} (hp : s.host.port = .pcie) (h4 : a % 4 = 0) (ha : a < 0x1000) : s.barReach a = true := by
  simp [State.barReach, hp, h4, ha]

theorem windowsLive_of {s : State} (hr : s.host.ready = true) (hc : s.clock.cellRuns = true) : s.windowsLive = true := by
  simp [State.windowsLive, hr, hc]

theorem barReach_live {s : State} {a : Nat} (hp : s.host.port = .pcie) (h4 : a % 4 = 0) (hw : s.windowsLive = true) : s.barReach a = true := by
  simp [State.barReach, hp, h4, hw]

theorem resetPcieFn_pcie {s : State} (hp : s.host.port = .pcie) : s.resetPcieFn = { s with host := { s.host with
    busMaster := false, msixMask := true, msixPending := false, msixAddr := 0, msixData := 0 } } := by
  simp [State.resetPcieFn, hp]

theorem execRegisterWrite_hostErr {s : State} (hp : s.host.port = .pcie) (v : Nat) :
    execRegisterWrite 0x00C v s = .next { s with host := { s.host with
      rdTimeout := s.host.rdTimeout && !bitOf v 0, rdRefused := s.host.rdRefused && !bitOf v 1, rdPoison := s.host.rdPoison && !bitOf v 2 } } := by
  unfold execRegisterWrite
  rw [if_pos (barReach_dev hp rfl (by decide)), regWrite_hostErr]

theorem execRegisterWrite_unlisted {a : Nat} (v : Nat) (s : State)
    (h : 0x20000 ≤ a ∧ a < 0x30000 ∨ 0x5000 ≤ a ∧ a < 0x10000 ∨ 0x3000 ≤ a ∧ a < 0x4000) : execRegisterWrite a v s = .next s := by
  simp only [execRegisterWrite, regWrite_unlisted v s h, ite_self]

theorem execReadClear_reach {s : State} {a : Nat} (h : s.barReach a = true) :
    execReadClear a s = .next { (s.regRead a).1 with host := { (s.regRead a).1.host with lastRead := (s.regRead a).2 } } := by
  simp only [execReadClear, h, if_true]

theorem execTickLoRead_live {s : State} (h : s.windowsLive = true) : execTickLoRead s = .next { s with
    clock := { s.clock with tickHi := s.clock.tick / 2 ^ 32 % 2 ^ 32 }, host := { s.host with lastRead := s.clock.tick % 2 ^ 32 } } := by
  simp only [execTickLoRead, h, if_true]

theorem execHostReadFail_timeout {served : Fin 4} (h : served ≠ 0) (c : CourtId) (s : State) :
    execHostReadFail 0 served c s = .next (({ s with host := { s.host with
      rdTimeout := true, dmaErrCount := bump 8 s.host.dmaErrCount } }).raiseNow 470 0x0101 (2 ^ 0 + 2 ^ 4 * served.val + 2 ^ 8 * c.val)) := by
  simp [execHostReadFail, h]

theorem execBusMasterEnable_pcie {s : State} (hp : s.host.port = .pcie) (on : Bool) :
    execBusMasterEnable on s = .next { s with host := { s.host with busMaster := on } } := by
  simp [execBusMasterEnable, hp]

theorem offsetOk_eq_false {a : Nat} (h : a % 4 ≠ 0 ∨ 0x10000 ≤ a) : offsetOk a = false := by
  rcases h with h | h <;> simp [offsetOk, h]

theorem cardRegRead_archId {o : Origin} {s : State} (h : Serves o s) (hc : FromCourt o [0]) :
    cardRegRead o 0x1000 s = s.repliedOk o 0x0101 [32] [0xB1180810] :=
  card_report h (by simp [hc, offsetOk]) rfl

theorem cardRegWrite_stepped {o : Origin} {s : State} (h : Serves o s) (hc : FromCourt o [0]) (v : Nat) :
    cardRegWrite o 0x2008 v s =
      ({ s with clock := { s.clock with stepped := s.clock.stepped && !bitOf v 6 } }).repliedOk o 0x0102 [] [] := by
  have ⟨htake, harm, _⟩ := h
  exact card_read h _ _ _ _ { s with clock := { s.clock with stepped := s.clock.stepped && !bitOf v 6 } } _ (by simp [hc, offsetOk]) rfl htake harm

theorem cardRegRead_range {o : Origin} {s : State} {a : Nat} (h : Serves o s) (hc : FromCourt o [0]) (ha : a % 4 ≠ 0 ∨ 0x10000 ≤ a) :
    cardRegRead o a s = s.repliedNo o 0x0101 stRANGE 1 [32] :=
  card_refuse h _ _ _ _ (firstRefusal_permit_rng hc 1 (offsetOk_eq_false ha))

theorem cardRegWrite_range {o : Origin} {s : State} {a : Nat} (v : Nat) (h : Serves o s) (hc : FromCourt o [0]) (ha : a % 4 ≠ 0 ∨ 0x10000 ≤ a) :
    cardRegWrite o a v s = s.repliedNo o 0x0102 stRANGE 1 [] :=
  card_refuse h _ _ _ _ (firstRefusal_permit_rng hc 1 (offsetOk_eq_false ha))

/-- Settles O17, one lemma for each access to the window and each reset of the function. -/
theorem hostRegisters : Obligations.HostRegisters := by
  unfold Obligations.HostRegisters
  refine ⟨fun s v hp => execRegisterWrite_hostErr hp v, fun s a v ha => execRegisterWrite_unlisted v s ha, fun s r hp hr hc => ?_, fun s hp => ?_,
    fun s hr hc => execTickLoRead_live (windowsLive_of hr hc), fun s served c hs => ⟨_, execHostReadFail_timeout hs c s, rfl, rfl, _, rfl⟩,
    fun s hp => congrArg _ (resetPcieFn_pcie hp), fun s hp => congrArg _ (resetPcieFn_pcie hp), fun s on hp => execBusMasterEnable_pcie hp on,
    fun o s h hc => congrArg _ (cardRegRead_archId h hc), fun o s v h hc => congrArg _ (cardRegWrite_stepped h hc v),
    fun o s a h hc ha => congrArg _ (cardRegRead_range h hc ha), fun o s a v h hc ha => congrArg _ (cardRegWrite_range v h hc ha)⟩
  · have hread := execReadClear_reach (a := 0x1100 + 4 * r.val) (barReach_live hp (by omega) (windowsLive_of hr hc))
    rw [regRead_regionStat] at hread
    exact ⟨_, hread, rfl, vmod_same _ _ _, fun q hq => vmod_other _ _ _ _ hq, rfl⟩
  · exact ⟨_, execReadClear_reach (barReach_dev hp rfl (by decide)), rfl, rfl, rfl, rfl, rfl⟩

end Sys2Proof.Machine

namespace Sys2Proof.Machine

/-! The site ring (spec file 22). -/

/-- Changing the ring twice is changing it once. -/
theorem onRing_onRing (s : State) (f g : Ring → Ring) : (s.onRing f).onRing g = s.onRing fun k => g (f k) := rfl

/-- A ring that hears a frame from a port: the port is up, and nothing is sent yet. -/
def Ring.heard (k : Ring) (p : RingPort) : Ring :=
  { k with eastUp := k.eastUp || decide (p = .east), westUp := k.westUp || decide (p = .west), sent := [] }

theorem ringHeard_eq (s : State) (p : RingPort) : s.ringHeard p = s.onRing (·.heard p) := by
  cases p <;> simp [State.ringHeard, Ring.heard]

theorem ringForward_eq (s : State) (p : RingPort) (f : RingFrame) : s.ringForward p f = s.onRing fun k => { k with
    sent := [(otherPort p, f)], forwarded := bump 32 k.forwarded } := rfl

/-- A change of state raises RING_STATE (R636). -/
theorem ringGo_change {s : State} {st : RingState} (h : s.ring.st ≠ st) (nodes : Nat) : s.ringGo st false nodes =
    (s.onRing fun k => { k with st := st, nodes := nodes }).raiseNow 459 0x1105 (st.code + 4 * b2n s.ring.master + 8 * b2n false + 2 ^ 8 * satN 8 nodes) := by
  simp only [State.ringGo, h, false_and, if_false]

/-- Whether or not it was in that state before, the ring is in it afterwards, and only ring and events differ. -/
theorem ringGo_eq (s : State) (st : RingState) (nodes : Nat) : ∃ n e, s.ringGo st false nodes =
    { s with ring := { s.ring with st := st, nodes := n }, evt := e } := by
  by_cases h : s.ring.st = st
  · subst h
    exact ⟨s.ring.nodes, s.evt, by simp [State.ringGo]⟩
  · exact ⟨nodes, _, ringGo_change h nodes⟩

theorem execKickoffWaitEnd_best {s : State} {w : Nat} (hen : s.ring.en = true) (hst : s.ring.st = .kickoff) (hw : s.ring.waitUntil = some w)
    (hnow : w ≤ s.now) (hbest : s.ring.best = s.nodeId) :
    execKickoffWaitEnd s = .next (s.onRing fun k => { k with
      waitUntil := none, claimedAt := some s.now, sent := [(.east, .claim s.nodeId), (.west, .claim s.nodeId)] }) := by
  simp only [execKickoffWaitEnd, hw, hen, hst, hnow, hbest, beq_self_eq_true, decide_true, Bool.and_self, if_true]
  rfl

theorem execRingClaim_better {s : State} {id : Nat} (hen : s.ring.en = true) (p : RingPort) (hid : s.ring.best < id) :
    execRingClaim p id s = .next (s.onRing fun k => { k.heard p with
      best := id, sent := [(otherPort p, .claim id)], forwarded := bump 32 k.forwarded }) := by
  simp only [execRingClaim, State.ringClaim, hen, hid, if_true, ringHeard_eq, ringForward_eq, onRing_onRing]
  rfl

theorem execRingClaim_lower {s : State} {id : Nat} (hen : s.ring.en = true) (p : RingPort) (hid : id ≤ s.ring.best) :
    execRingClaim p id s = .next (s.onRing (·.heard p)) := by
  simp only [execRingClaim, State.ringClaim, hen, Nat.not_lt.mpr hid, if_true, if_false, ringHeard_eq]

/-- What a node sets that becomes the master (R630). -/
def Ring.asMaster (k : Ring) (id now : Nat) : Ring :=
  { k with master := true, masterId := id, claimedAt := none, position := 0, outstanding := 0, lastCheck := now, lastSent := now }

theorem execRingMaster_best {s : State} {c : Nat} (hen : s.ring.en = true) (hst : s.ring.st = .kickoff) (hc : s.ring.claimedAt = some c)
    (hnow : c + 5000 ≤ s.now) (hbest : s.ring.best = s.nodeId) :
    ∃ d, execRingMaster s = .next { s with
      ring := { s.ring.asMaster s.nodeId s.now with
        st := .openRing, nodes := 0, sent := [(.east, .announce s.nodeId), (.west, .announce s.nodeId)] }
      evt := { s.evt with fresh := s.evt.fresh ++
        [⟨459, 0x1105, d, s.now⟩, ⟨460, 0x1106, (1 + 2 ^ 8 * (s.nodeId % 2 ^ 24)) % 2 ^ 32, s.now⟩] } } := by
  have hrun : execRingMaster s = .next ((((s.onRing fun k => k.asMaster s.nodeId s.now).ringGo .openRing false 0).kickoffEvent true s.nodeId).ringBoth
      (.announce s.nodeId)) := by
    simp only [execRingMaster, hc, hen, hst, hnow, hbest, beq_self_eq_true, decide_true, Bool.and_self, if_true]
    rfl
  rw [ringGo_change (by simp [Ring.asMaster, hst])] at hrun
  simp only [State.kickoffEvent, State.raiseNow, State.raise, List.append_assoc, List.cons_append, List.nil_append] at hrun
  exact ⟨_, hrun⟩

/-- What a node sets that hears of a better master (R630). -/
def Ring.underMaster (k : Ring) (id now : Nat) : Ring :=
  { k with best := id, masterId := id, master := false, waitUntil := none, claimedAt := none, lastCheck := now }

theorem execRingAnnounce_new {s : State} {id : Nat} (hen : s.ring.en = true) (p : RingPort) (hbest : s.ring.best ≤ id) (hid : id ≠ s.ring.masterId) :
    ∃ n e, execRingAnnounce p id s = .next { s with
      ring := { (s.ring.heard p).underMaster id s.now with
        st := .openRing, nodes := n, sent := [(otherPort p, .announce id)], forwarded := bump 32 s.ring.forwarded }
      evt := e } := by
  have hrun : execRingAnnounce p id s = .next ((((s.onRing fun k => (k.heard p).underMaster id s.now).ringGo .openRing false 0).kickoffEvent false
      id).ringForward p (.announce id)) := by
    simp only [execRingAnnounce, State.ringAnnounce, hen, Nat.not_lt.mpr hbest, hid, if_true, if_false, ringHeard_eq]
    rfl
  obtain ⟨n, e, hgo⟩ := ringGo_eq (s.onRing fun k => (k.heard p).underMaster id s.now) .openRing 0
  rw [hgo] at hrun
  exact ⟨n, _, hrun⟩

theorem execRingCheckSend_due {s : State} (hen : s.ring.en = true) (hm : s.ring.master = true) (hnow : s.ring.lastSent + 1000 ≤ s.now) :
    execRingCheckSend s = .next (s.onRing fun k => { k with
      lastSent := s.now, outstanding := k.outstanding + 1, checksLost := if 1 ≤ k.outstanding then bump 32 k.checksLost else k.checksLost,
      sent := [(.east, .check 0)] }) := by
  simp only [execRingCheckSend, hen, hm, hnow, decide_true, Bool.and_self, if_true]
  rfl

theorem execRingCheck_member {s : State} (hen : s.ring.en = true) (hm : s.ring.master = false) (p : RingPort) (hops : Nat) :
    execRingCheck p hops s = .next (s.onRing fun k => { k.heard p with
      position := (hops + 1) % 2 ^ 8, lastCheck := s.now, forwarded := bump 32 k.forwarded, sent := [(.east, .check (hops + 1))] }) := by
  simp only [execRingCheck, State.ringCheck, hen, hm, if_true, Bool.false_eq_true, if_false, ringHeard_eq]
  rfl

theorem execRingCheck_back {s : State} (hen : s.ring.en = true) (hm : s.ring.master = true) {hops : Nat} (h : hops ≤ 32) :
    ∃ n e, execRingCheck .west hops s = .next { s with
      ring := { s.ring.heard .west with outstanding := 0, lastCheck := s.now, st := .closed, nodes := n }, evt := e } := by
  have hrun : execRingCheck .west hops s = .next ((s.onRing fun k => { k.heard .west with outstanding := 0, lastCheck := s.now }).ringGo .closed false
      (hops + 1)) := by
    simp only [execRingCheck, State.ringCheck, hen, hm, Nat.not_lt.mpr h, if_true, if_false, ringHeard_eq, onRing_onRing]
  obtain ⟨n, e, hgo⟩ := ringGo_eq (s.onRing fun k => { k.heard .west with outstanding := 0, lastCheck := s.now }) .closed (hops + 1)
  exact ⟨n, e, hrun.trans (congrArg Host.Outcome.next hgo)⟩

theorem execRingCheckLost_master {s : State} (hen : s.ring.en = true) (hm : s.ring.master = true) (h : 3 ≤ s.ring.outstanding) :
    ∃ n e, execRingCheckLost s = .next { s with ring := { s.ring with st := .openRing, nodes := n }, evt := e } := by
  obtain ⟨n, e, hgo⟩ := ringGo_eq s .openRing 0
  refine ⟨n, e, ?_⟩
  simp only [execRingCheckLost, hen, hm, h, decide_true, Bool.and_self, if_true, hgo]

theorem execRingFrameForward_safe {s : State} {src dst : Nat} (hen : s.ring.en = true) (p : RingPort) (hsrc : src ≠ s.ownSafeId) (hdst : dst ≠ s.ownSafeId)
    (bytes : List Byte) :
    execRingFrameForward p (.safe src dst bytes) s = .next (s.onRing fun k => { k.heard p with
      sent := [(otherPort p, .safe src dst bytes)], forwarded := bump 32 k.forwarded }) := by
  simp only [execRingFrameForward, hen, hsrc, hdst, or_self, Bool.not_true, Bool.false_eq_true, if_false, ringHeard_eq, ringForward_eq, onRing_onRing]
  rfl

theorem execRingFrameForward_other {s : State} (hen : s.ring.en = true) (p : RingPort) (x : Nat) :
    execRingFrameForward p (.other x) s = .next (s.onRing fun k => { k.heard p with dropped := bump 32 k.dropped }) := by
  simp only [execRingFrameForward, hen, Bool.not_true, Bool.false_eq_true, if_false, ringHeard_eq, onRing_onRing]
  rfl

/-- An ACK moves only the ring on, and of the window the acknowledged offset never goes back (R652). -/
theorem bundleAck_window {s : State} {j acked sent : Nat} (htx : s.ring.bundleTx = some (j, acked, sent)) (offset : Nat) :
    ∃ n fs, s.bundleAck offset = s.onRing fun k => { k with
      bundleTx := some (j, max acked (min offset s.boot.images[j % 3].length), n), sent := fs } := by
  simp only [State.bundleAck, htx]
  exact ⟨_, _, rfl⟩

theorem execRingBundleFrame_ack {s : State} {j acked sent : Nat} (hen : s.ring.en = true) (htx : s.ring.bundleTx = some (j, acked, sent))
    (hash offset : Nat) (data : List Byte) :
    ∃ n fs, execRingBundleFrame .east hash 2 offset data s = .next (s.onRing fun k => { k.heard .east with
      bundleTx := some (j, max acked (min offset s.boot.images[j % 3].length), n), sent := fs }) := by
  have hrun : execRingBundleFrame .east hash 2 offset data s = .next ((s.onRing (·.heard .east)).bundleAck offset) := by
    simp [execRingBundleFrame, hen, htx, ringHeard_eq]
  obtain ⟨n, fs, hack⟩ := bundleAck_window (s := s.onRing (·.heard .east)) htx offset
  exact ⟨n, fs, hrun.trans (congrArg Host.Outcome.next hack)⟩

theorem execRingBundleFrame_done {s : State} {tx : Nat × Nat × Nat} (hen : s.ring.en = true) (htx : s.ring.bundleTx = some tx)
    (hash offset : Nat) (data : List Byte) :
    execRingBundleFrame .east hash 3 offset data s =
      .next ((s.onRing fun k => { k.heard .east with bundleTx := none }).raiseNow 462 0x1202 (4 + 2 ^ 16 * (hash % 2 ^ 16))) := by
  simp [execRingBundleFrame, hen, htx, State.bundleRxEvent, ringHeard_eq, onRing_onRing]

theorem cardRingConfig_arms {o : Origin} {s : State} {en : Nat} (h : Serves o s) (hc : FromCourt o [0]) (hen : en ≤ 1) (prio : Nat) :
    ∃ n same, cardRingConfig o en prio s = { s.take o.court o.mbx 0x1110 [32, 64] with
      armed := insertArmed ⟨n, o, .ringConfig (en == 1) prio, 0, true, same⟩ s.armed } ∧ s.now < n :=
  cardLater_arms h _ _ _ _ _ _ _ _ (by simp [hc, hen])

theorem execRingStatus_reports {o : Origin} {s : State} (h : Serves o s) (hc : FromCourt o [0, 2]) :
    execRingStatus o s = .next (s.repliedOk o 0x1111 [8, 8, 8, 8, 128, 128, 32, 32, 32, 32]
      [s.ring.st.code, b2n s.ring.master, s.ring.position, b2n s.ring.eastUp + 2 * b2n s.ring.westUp, s.nodeId, s.ring.masterId, s.ring.kickoffs,
       s.ring.checksLost, s.ring.forwarded, s.ring.dropped]) :=
  congrArg Host.Outcome.next (card_report h (by simp [hc]) rfl)

/-- Settles O53: each ring command has a lemma that gives its next state as a change of the ring alone, with the events where it moves to
another ring state; a clause reads its fields off that state. -/
theorem siteRing : Obligations.SiteRing := by
  unfold Obligations.SiteRing
  refine ⟨fun s w hen hst hw hnow hbest => ⟨_, execKickoffWaitEnd_best hen hst hw hnow hbest, rfl, rfl, rfl, rfl⟩,
    fun s p id hen hid => ⟨_, execRingClaim_better hen p hid, rfl, rfl, rfl, rfl⟩,
    fun s p id hen hid => ⟨_, execRingClaim_lower hen p hid, rfl, rfl, rfl⟩,
    fun s c hen hst hc hnow hbest => ?master,
    fun s p id hen hbest hid _ => ?announce,
    fun s hen hm hnow => ⟨_, execRingCheckSend_due hen hm hnow, rfl, rfl, rfl, rfl⟩,
    fun s p hops hen hm h256 => ⟨_, execRingCheck_member hen hm p hops, rfl, Nat.mod_eq_of_lt h256, rfl, rfl⟩,
    fun s hops hen hm h32 => ?back,
    fun s hen hm hout => ?lost,
    fun s p src dst bytes hen hsrc hdst => ⟨_, execRingFrameForward_safe hen p hsrc hdst bytes, rfl, rfl⟩,
    fun s p x hen => ⟨_, execRingFrameForward_other hen p x, rfl, rfl, rfl⟩,
    fun o s en prio h hc hen => ?config,
    fun o s h hc => execRingStatus_reports h hc,
    fun s hash offset data j acked sent hen htx _ => ?ack,
    fun s hash offset data tx hen htx => ⟨_, execRingBundleFrame_done hen htx hash offset data, rfl, rfl, rfl⟩⟩
  case master =>
    obtain ⟨d, hrun⟩ := execRingMaster_best hen hst hc hnow hbest
    exact ⟨_, hrun, rfl, rfl, rfl, rfl, rfl, d, rfl⟩
  case announce =>
    obtain ⟨n, e, hrun⟩ := execRingAnnounce_new hen p hbest hid
    exact ⟨_, hrun, rfl, rfl, rfl, rfl, rfl⟩
  case back =>
    obtain ⟨n, e, hrun⟩ := execRingCheck_back hen hm h32
    exact ⟨_, hrun, rfl, rfl, rfl⟩
  case lost =>
    obtain ⟨n, e, hrun⟩ := execRingCheckLost_master hen hm hout
    exact ⟨_, hrun, rfl, rfl⟩
  case config =>
    obtain ⟨n, same, hrun, hn⟩ := cardRingConfig_arms h hc hen prio
    exact ⟨_, _, congrArg Host.Outcome.next hrun, rfl, rfl, rfl, rfl, hn⟩
  case ack =>
    obtain ⟨n, fs, hrun⟩ := execRingBundleFrame_ack hen htx hash offset data
    exact ⟨_, hrun, rfl, n, rfl⟩

end Sys2Proof.Machine

namespace Sys2Proof.Machine

/-! Site time (spec file 02), and what the legal court does of its changes (R408, R409). -/

/-- Only the legal court differs, and events may have been raised. -/
def LegalTouch (s t : State) : Prop := ∃ l es, t = { s with legal := l, evt := { s.evt with fresh := s.evt.fresh ++ es } }

namespace LegalTouch

theorem refl (s : State) : LegalTouch s s := ⟨s.legal, [], by simp⟩

theorem trans {s t u : State} (h : LegalTouch s t) (k : LegalTouch t u) : LegalTouch s u := by
  obtain ⟨l, es, rfl⟩ := h
  obtain ⟨l', es', rfl⟩ := k
  exact ⟨l', es ++ es', by simp⟩

theorem setLegal {s t : State} (h : LegalTouch s t) (l : Legal) : LegalTouch s { t with legal := l } :=
  h.trans ⟨l, [], by simp⟩

theorem onLegal {s t : State} (h : LegalTouch s t) (f : Legal → Legal) : LegalTouch s (t.onLegal f) := h.setLegal _

theorem raise {s t : State} (h : LegalTouch s t) (e : Ev) : LegalTouch s (t.raise e) := h.trans ⟨t.legal, [e], rfl⟩

theorem ite {s t u : State} {c : Prop} [Decidable c] (h : LegalTouch s t) (k : LegalTouch s u) : LegalTouch s (if c then t else u) := by
  split
  · exact h
  · exact k

theorem wrapCheck {s t : State} (h : LegalTouch s t) : LegalTouch s t.wrapCheck := .ite ((h.onLegal _).raise _) h

theorem log {s t : State} (h : LegalTouch s t) (tick kind bay data : Nat) (given : Option (Nat × Nat × Bool × Bool)) :
    LegalTouch s (t.log tick kind bay data given) := .ite (h.setLegal _).wrapCheck (.ite (h.setLegal _) (h.setLegal _).wrapCheck)

theorem tamper {s t : State} (h : LegalTouch s t) (kind : Fin 16) (bay detail : Nat) (rtc : Option Nat) :
    LegalTouch s (t.tamper kind bay detail rtc) := by
  unfold State.tamper
  extract_lets l x utc x' wait recent quiet s1 s2 s3
  have h2 : LegalTouch s s2 := .ite (h.onLegal _) (((h.onLegal _).log ..).onLegal _)
  cases quiet
  · exact (h2.onLegal _).raise _
  · exact h2

/-- A change of legal time is slewed or a large step (R408, R409); either stays within the legal court. -/
theorem legalShift (s : State) (d : Int) (n : Nat) : LegalTouch s (s.legalShift d n) := by
  unfold State.legalShift
  extract_lets l c ms s1 s2 s3 s4 s5 s5' s1'
  have large : LegalTouch s s4 := ((((refl s).onLegal _).onLegal _).log ..).tamper ..
  exact .ite (.refl s) (.ite (((large.onLegal _).onLegal _).raise _) ((((refl s).onLegal _).onLegal _).raise _))

theorem clock_eq {s t : State} (h : LegalTouch s t) : t.clock = s.clock := by
  obtain ⟨l, es, rfl⟩ := h
  rfl

end LegalTouch

@[simp] theorem offsetMoved_clock (s : State) (old : Int) : (s.offsetMoved old).clock = s.clock := (LegalTouch.legalShift s _ _).clock_eq

@[simp] theorem timeGo_clock (s : State) (st : TimeState) (source : Nat) : (s.timeGo st source).clock = { s.clock with state := st, source := source } := by
  unfold State.timeGo
  dsimp only
  split <;> rfl

@[simp] theorem timeGo_bays (s : State) (st : TimeState) (source : Nat) : (s.timeGo st source).bays = s.bays := by
  unfold State.timeGo
  dsimp only
  split <;> rfl

/-- A move to another time state raises TIME_STATE (R59). -/
theorem timeGo_change {s : State} {st : TimeState} (h : st ≠ s.clock.state) (source : Nat) : s.timeGo st source =
    { s with clock := { s.clock with state := st, source := source }, evt := { s.evt with fresh := s.evt.fresh ++
      [⟨468, 0x0120, (st.code + 2 ^ 3 * s.clock.state.code + 2 ^ 6 * source) % 2 ^ 32, s.now⟩] } } := by
  simp only [State.timeGo, h, if_false]
  rfl

/-- A step sets SITE_EPOCH and STEPPED, counts afresh, raises TIME_STEP first (R58), and beyond that only the legal court sees it. -/
theorem stepTime_eq (s : State) (epoch : Nat) (bySet : Bool) : ∃ l d es, s.stepTime epoch bySet = { s with
    clock := { s.clock with siteEpoch := epoch, stepped := true, within := 0, beyond := 0 }, legal := l,
    evt := { s.evt with fresh := s.evt.fresh ++ ⟨469, 0x0121, d, s.now⟩ :: es } } := by
  have hshift : LegalTouch ((s.onClock fun c => { c with siteEpoch := epoch, stepped := true, within := 0, beyond := 0 }).raiseNow 469 0x0121
      (b2n bySet + 2 * ubits 31 (satI 31 (((epoch : Int) - s.clock.siteEpoch).tdiv 1000)))) (s.stepTime epoch bySet) := LegalTouch.legalShift _ _ _
  obtain ⟨l, es, hstep⟩ := hshift
  simp only [State.raiseNow, State.raise, List.append_assoc, List.singleton_append] at hstep
  exact ⟨l, _, es, hstep⟩

/-! Synchronisation. -/

theorem execPtpSync_alone {s : State} {m : SyncMsg} (hv : m.valid = true) (hp : s.ptpRuns = true) (hm : s.mirroring = false) :
    execPtpSync m s = .next (s.ptpSync m) := by
  simp [execPtpSync, hv, hp, hm]

theorem execPtpSync_invalid {m : SyncMsg} (hv : m.valid = false) (s : State) : execPtpSync m s = .next s := by
  simp [execPtpSync, hv]

/-- The offset that a Sync measures (R57). -/
def State.syncOffset (s : State) (m : SyncMsg) : Int := (m.arrivalNs : Int) - m.masterNs - s.clock.pathDelayNs

/-- The first Sync sets the site epoch, whatever the time state moves to. -/
theorem ptpSync_first {s : State} (m : SyncMsg) (h : s.clock.epochSet = false) : ∃ st src fq,
    (s.ptpSync m).clock = { s.clock with
      lastSync := s.now, ptpUtcOffset := some m.utcOffset, freqNext := fq, epochSet := true,
      siteEpoch := ubits 64 ((s.clock.siteEpoch : Int) - s.syncOffset m), within := 0, beyond := 0, state := st, source := src } ∧
    (s.ptpSync m).bays = s.bays := by
  unfold State.ptpSync
  simp only [h, Bool.false_eq_true, if_false]
  split
  · exact ⟨_, _, _, timeGo_clock .., timeGo_bays ..⟩
  · exact ⟨_, _, _, rfl, rfl⟩

/-- While the clock is locked a Sync is measured; it neither steps the epoch nor moves the state. -/
theorem ptpSync_locked {s : State} (m : SyncMsg) (h : s.clock.epochSet = true) (hst : s.clock.state = .locked) : ∃ fq w b,
    (s.ptpSync m).clock = { s.clock with
      lastSync := s.now, ptpUtcOffset := some m.utcOffset, freqNext := fq, offsetNs := satI 32 (s.syncOffset m), within := w, beyond := b } := by
  have hres : ((s.clock.state == .holdover || s.clock.state == .free) = true) = False := by simp [hst]
  unfold State.ptpSync
  simp only [if_pos h, hres, if_false]
  exact ⟨_, _, _, offsetMoved_clock ..⟩

theorem execPtpDelayResp_runs {s : State} (hp : s.ptpRuns = true) (origin arrival departure receipt : Nat) :
    execPtpDelayResp origin arrival departure receipt s = .next { s with clock := { s.clock with
      pathDelayNs := (((arrival : Int) - origin) + ((receipt : Int) - departure)) / 2 } } := by
  simp only [execPtpDelayResp, hp, if_true]
  rfl

/-! Steps, lock and holdover. -/

theorem execSiteTimeStep_alone {s : State} (hp : s.ptpRuns = true) (he : s.clock.epochSet = true) (hb : 16 ≤ s.clock.beyond) (hm : s.mirroring = false) :
    execSiteTimeStep s = .next (s.stepTime (ubits 64 ((s.clock.siteEpoch : Int) - s.clock.offsetNs)) false) := by
  simp [execSiteTimeStep, hp, he, hb, hm]

theorem execSiteTimeStep_few {s : State} (hb : s.clock.beyond < 16) : execSiteTimeStep s = .next s := by
  simp [execSiteTimeStep, Nat.not_le.mpr hb]

theorem execTimeLocked_within {s : State} (hp : s.ptpRuns = true) (hst : s.clock.state = .locking) (hw : 16 ≤ s.clock.within) :
    execTimeLocked s = .next (s.timeGo .locked s.clock.source) := by
  simp [execTimeLocked, hp, hst, hw]

theorem execSyncTimeout_locked {s : State} (hp : s.ptpRuns = true) (hst : s.clock.state = .locked) (hl : s.clock.lastSync + 3000000 ≤ s.now) :
    execSyncTimeout s = .next ((s.onClock fun c => { c with within := 0, beyond := 0 }).timeGo .holdover s.clock.source) := by
  simp [execSyncTimeout, hp, hst, hl]

/-! Setting the time. -/

theorem execTimeSetApply_first {s : State} {w : TimeSetWait} (hw : s.clock.timeSet = [w]) (hnow : w.applyTick ≤ s.now) (he : s.clock.epochSet = false) :
    execTimeSetApply s = .next ((s.onClock fun c => { c with
      timeSet := [], siteEpoch := ubits 64 ((w.siteNs : Int) - 1000 * w.applyTick), epochSet := true, within := 0, beyond := 0 }).ok w.origin [64, 64]
        [0, ubits 64 ((w.siteNs : Int) - 1000 * w.applyTick)]) := by
  simp [execTimeSetApply, hw, hnow, he, State.onClock]

theorem execTimeSetApply_early {s : State} {w : TimeSetWait} (hw : s.clock.timeSet = [w]) (hnow : s.now < w.applyTick) :
    execTimeSetApply s = .next s := by
  simp [execTimeSetApply, hw, Nat.not_le.mpr hnow]

theorem cardTimeConfig_arms {o : Origin} {s : State} {source domain transport step : Nat} (h : Serves o s) (hc : FromCourt o [0])
    (hsource : source ≤ 3) (hdomain : domain ≤ 127) (htransport : transport ≤ 1) (hlo : 100 ≤ step) (hhi : step ≤ 1000000) :
    ∃ n same, cardTimeConfig o source domain transport step s = { s.take o.court o.mbx 0x0120 [32, 64] with
      armed := insertArmed ⟨n, o, .timeConfig ⟨source, domain, transport, step⟩, 0, true, same⟩ s.armed } ∧ s.now < n :=
  cardLater_arms h _ _ _ _ _ _ _ _ (by simp [hc, hsource, hdomain, htransport, hlo, hhi])

theorem execTimeSet_waits {o : Origin} {s : State} {apply : Nat} (h : Serves o s) (hc : FromCourt o [0]) (ha : s.now + 1000 ≤ apply) (siteNs : Nat) :
    execTimeSet o siteNs apply s = .next { s.take o.court o.mbx 0x0121 [64, 64] with
      clock := { s.clock with timeSet := s.clock.timeSet ++ [⟨siteNs, apply, o⟩] } } := by
  have hnow : (s.take o.court o.mbx 0x0121 [64, 64]).now + 1000 ≤ apply := ha
  exact congrArg Host.Outcome.next (cardLater_run h _ _ _ _ (by simp [hc, hnow]))

theorem execTimeSet_range {o : Origin} {s : State} {apply : Nat} (h : Serves o s) (hc : FromCourt o [0]) (ha : apply < s.now + 1000) (siteNs : Nat) :
    execTimeSet o siteNs apply s = .next (s.repliedNo o 0x0121 stRANGE 2 [64, 64]) := by
  have hnow : apply < (s.take o.court o.mbx 0x0121 [64, 64]).now + 1000 := ha
  exact congrArg Host.Outcome.next (cardLater_refuse h _ _ _ _ (firstRefusal_permit_rng hc 2 (decide_eq_false (Nat.not_le.mpr hnow))))

/-- Settles O12: a Sync, a step and a move of the time state touch the clock, and beyond it the events and the legal court only; what waits for
its tick is a command of its own. -/
theorem siteTime : Obligations.SiteTime := by
  unfold Obligations.SiteTime
  refine ⟨fun s m hv hp hm he => ?first, fun s m hv hp hm he hst => ?later, fun s m hv => execPtpSync_invalid hv s,
    fun s origin arrival departure receipt hp => execPtpDelayResp_runs hp origin arrival departure receipt,
    fun s hp he hb hm => ?step, fun s hb => execSiteTimeStep_few hb, fun s hp hst hw => ?locked, fun s hp hst hl => ?holdover,
    fun s w hw hnow he _ => ?set, fun s w hw hnow => execTimeSetApply_early hw hnow, fun o s source domain transport step h hc h1 h2 h3 h4 h5 => ?config,
    fun o s siteNs apply h hc ha => execTimeSet_waits h hc ha siteNs, fun o s siteNs apply h hc ha => execTimeSet_range h hc ha siteNs⟩
  case first =>
    obtain ⟨st, src, fq, hclock, hbays⟩ := ptpSync_first m he
    refine ⟨_, execPtpSync_alone hv hp hm, ?_⟩
    rw [hclock]
    exact ⟨rfl, rfl, rfl, rfl, rfl, hbays⟩
  case later =>
    obtain ⟨fq, w, b, hclock⟩ := ptpSync_locked m he hst
    refine ⟨_, execPtpSync_alone hv hp hm, ?_⟩
    rw [hclock]
    exact ⟨rfl, rfl, hst, rfl⟩
  case step =>
    obtain ⟨l, d, es, hstep⟩ := stepTime_eq s (ubits 64 ((s.clock.siteEpoch : Int) - s.clock.offsetNs)) false
    exact ⟨_, (execSiteTimeStep_alone hp he hb hm).trans (congrArg Host.Outcome.next hstep), rfl, rfl, d, es, rfl⟩
  case locked =>
    have hgo := timeGo_change (s := s) (st := .locked) (by simp [hst]) s.clock.source
    exact ⟨_, (execTimeLocked_within hp hst hw).trans (congrArg Host.Outcome.next hgo), rfl, _, rfl⟩
  case holdover =>
    have hgo := timeGo_change (s := s.onClock fun c => { c with within := 0, beyond := 0 }) (st := .holdover) (by simp [hst]) s.clock.source
    exact ⟨_, (execSyncTimeout_locked hp hst hl).trans (congrArg Host.Outcome.next hgo), rfl, _, rfl⟩
  case set =>
    exact ⟨_, execTimeSetApply_first hw hnow he, answer_clock .., answer_running .., answer_bays ..⟩
  case config =>
    obtain ⟨n, same, hrun, hn⟩ := cardTimeConfig_arms h hc h1 h2 h3 h4 h5
    exact ⟨_, congrArg Host.Outcome.next hrun, _, rfl, rfl, rfl, hn⟩

end Sys2Proof.Machine

namespace Sys2Proof.Machine

/-! Courts and mailboxes (spec file 03). -/

/-- Settles O2: `exec_keeps` goes through the commands and gives each a next state; what that state keeps is not asked here. A command whose
condition does not hold leaves the state as it is (log 157), and a request that is refused is answered. -/
theorem everyCommandCompletes : Obligations.EveryCommandCompletes := by
  unfold Obligations.EveryCommandCompletes
  intro c s
  obtain ⟨t, hexec, _⟩ := exec_keeps c s
  exact ⟨t, hexec⟩

end Sys2Proof.Machine

namespace Sys2Proof.Machine

/-! Bay links (spec file 06). -/

namespace LegalTouch

/-- What has been raised stays raised. -/
theorem mem_fresh {s t : State} (h : LegalTouch s t) {e : Ev} (he : e ∈ s.evt.fresh) : e ∈ t.evt.fresh := by
  obtain ⟨l, es, rfl⟩ := h
  exact List.mem_append_left es he

end LegalTouch

/-- Of the bays only one differs, its lane is as given, and beyond the bays only the legal court and the events raised may differ. -/
def LaneTouch (b : BayId) (k : Link) (s t : State) : Prop := ∃ y : Bay, y.link = k ∧ LegalTouch { s with bays := s.bays.set b y } t

namespace LaneTouch

theorem trans_legal {b : BayId} {k : Link} {s t u : State} (h : LaneTouch b k s t) (ht : LegalTouch t u) : LaneTouch b k s u := by
  obtain ⟨y, hy, hs⟩ := h
  exact ⟨y, hy, hs.trans ht⟩

theorem frame {b : BayId} {k : Link} {s t : State} (h : LaneTouch b k s t) :
    t = { s with bays := s.bays.set b t.bays[b], evt := t.evt, legal := t.legal } ∧ t.bays[b].link = k := by
  obtain ⟨y, hy, l, es, rfl⟩ := h
  simp [hy]

theorem refl (s : State) (b : BayId) : LaneTouch b s.bays[b].link s s := ⟨s.bays[b], rfl, by simpa using LegalTouch.refl s⟩

theorem onBay {s : State} {b : BayId} {f : Bay → Bay} {k : Link} (h : (f s.bays[b]).link = k) : LaneTouch b k s (s.onBay b f) := ⟨_, h, .refl _⟩

/-- Changing the lane first is changing it. -/
theorem of_onLink {b : BayId} {k : Link} {s t : State} {f : Link → Link} (h : LaneTouch b k (s.onLink b f) t) : LaneTouch b k s t := by
  obtain ⟨y, hy, ht⟩ := h
  refine ⟨y, hy, ?_⟩
  simpa [State.onLink, State.onBay, vmod] using ht

end LaneTouch

theorem onLink_link_same (s : State) (b : BayId) (f : Link → Link) : (s.onLink b f).bays[b].link = f s.bays[b].link := by
  simp

theorem onLink_onLink (s : State) (b : BayId) (f g : Link → Link) : (s.onLink b f).onLink b g = s.onLink b fun k => g (f k) := by
  simp only [State.onLink, State.onBay, vmod_vmod]

/-- Only what the change makes of the lane matters. -/
theorem onLink_congr {s : State} {b : BayId} {f g : Link → Link} (h : f s.bays[b].link = g s.bays[b].link) : s.onLink b f = s.onLink b g := by
  unfold State.onLink State.onBay
  rw [vmod_congr]
  simp only [h]

/-- A change of one lane, as the state differs by it. -/
theorem onLink_frame (s : State) (b : BayId) (f : Link → Link) :
    BayOnly b s (s.onLink b f) ∧ (s.onLink b f).bays[b] = { s.bays[b] with link := f s.bays[b].link } := by
  simp [State.onLink, State.onBay, vmod]

/-! A lane goes DOWN. -/

/-- A meter brought up to date leaves the lane as it is; it may raise METER_STATE and record a tamper (R378, R411). -/
theorem meterRefresh_laneTouch (s : State) (b : BayId) : LaneTouch b s.bays[b].link s (s.meterRefresh b) := by
  unfold State.meterRefresh
  extract_lets m w s1 s2
  split
  · exact .refl s b
  · have h1 : LaneTouch b s.bays[b].link s s1 := .onBay rfl
    have h2 : LegalTouch s1 s2 := .ite (.refl s1) ((LegalTouch.refl s1).raise _)
    exact h1.trans_legal (.ite (h2.tamper ..) h2)

theorem laneDown_laneTouch {s : State} {b : BayId} (hfw : s.bays[b].link.fw = none) :
    LaneTouch b (s.bays[b].link.toDown s.now) s (s.laneDown b) := by
  have hrun : s.laneDown b = (s.onLink b (·.toDown s.now)).meterRefresh b := by
    simp only [State.laneDown, hfw, cond_false]
  have hmeter := meterRefresh_laneTouch (s.onLink b (·.toDown s.now)) b
  rw [onLink_link_same] at hmeter
  rw [hrun]
  exact hmeter.of_onLink

/-- A lost lane is DOWN with LINK_LOST, and beyond that may record a tamper (R174, R411). -/
theorem laneLost_legalTouch (s : State) (b : BayId) (lock : Bool) :
    LegalTouch ((s.laneDown b).linkEvent b 0x0601 (s.bays[b].link.st.code + 2 ^ 8 * b2n lock) s.now) (s.laneLost b lock) :=
  .ite ((LegalTouch.refl _).tamper ..) (.refl _)

theorem laneLost_laneTouch {s : State} {b : BayId} (hfw : s.bays[b].link.fw = none) (lock : Bool) :
    LaneTouch b (s.bays[b].link.toDown s.now) s (s.laneLost b lock) :=
  (laneDown_laneTouch hfw).trans_legal (((LegalTouch.refl _).raise _).trans (laneLost_legalTouch s b lock))

theorem laneLost_raises (s : State) (b : BayId) (lock : Bool) :
    ⟨96 + b.val, 0x0601, s.bays[b].link.st.code + 2 ^ 8 * b2n lock, s.now⟩ ∈ (s.laneLost b lock).evt.fresh :=
  (laneLost_legalTouch s b lock).mem_fresh (by simp [State.linkEvent, State.raise])

theorem execLinkLost_missed {s : State} {b : BayId} (hst : s.bays[b].link.st = .service) (hmiss : 16 ≤ s.bays[b].link.missRun) :
    execLinkLost b s = .next (s.laneLost b false) := by
  simp only [execLinkLost, hst, hmiss, or_true, true_and, if_true]

/-! Management requests (R175). -/

theorem Link.pump_idle {k : Link} (h : k.queue = []) (now : Nat) : k.pump now = k := by
  cases hreq : k.req <;> simp only [Link.pump, h, hreq]

theorem fwProgress_none {s : State} {b : BayId} (h : s.bays[b].link.fw = none) (next : Nat) : s.fwProgress b next = s := by
  simp only [State.fwProgress, h]

theorem execConfigResponse_foreign {s : State} {b : BayId} {q : MgmtOut} {r : MgmtRsp} (hq : s.bays[b].link.req = some q)
    (h : r.tag ≠ q.req.tag ∨ r.addr ≠ q.req.addr) : execConfigResponse b r s = .next s := by
  simp only [execConfigResponse, hq, h, if_true]

/-- A write in SERVICE of a word other than DT_PS is done with its answer, and the next waiting request goes out. -/
theorem execConfigResponse_written {s : State} {b : BayId} {q : MgmtOut} {r : MgmtRsp} (hq : s.bays[b].link.req = some q) (hop : q.req.op = 2)
    (haddr : q.req.addr ≠ 0x10) (htag : r.tag = q.req.tag) (hra : r.addr = q.req.addr) (hok : r.status = 0) (hst : s.bays[b].link.st = .service)
    (hfw : s.bays[b].link.fw = none) :
    execConfigResponse b r s = .next (s.onLink b fun k => { k with req := none }.pump s.now) := by
  have hidle := fwProgress_none (s := s.onLink b fun k => { k with req := none }) (b := b) (by rw [onLink_link_same]; exact hfw) r.fwNext
  simp only [execConfigResponse, hq, hop, haddr, htag, hra, hok, hst, ne_eq, not_true, or_self, and_false, false_and, if_false, beq_self_eq_true,
    cond_true, hidle, onLink_onLink]
  rfl

theorem execConfigRetryTimeout_again {s : State} {b : BayId} {q : MgmtOut} (hq : s.bays[b].link.req = some q) (hdue : q.sentAt + 8 ≤ s.now)
    (hrep : q.repeats < 16) :
    execConfigRetryTimeout b s = .next (s.onLink b fun k => { k with req := some { q with sentAt := s.now, repeats := q.repeats + 1 } }) := by
  simp only [execConfigRetryTimeout, hq, hdue, hrep, if_true]

theorem execConfigRetryTimeout_last {s : State} {b : BayId} {q : MgmtOut} (hq : s.bays[b].link.req = some q) (hdue : q.sentAt + 8 ≤ s.now)
    (hrep : 16 ≤ q.repeats) : execConfigRetryTimeout b s = .next (s.laneDown b) := by
  simp only [execConfigRetryTimeout, hq, hdue, Nat.not_lt.mpr hrep, if_true, if_false]

/-! The intake of frames (R170, R182). -/

theorem execUplinkFrame_held {s : State} {b : BayId} {f : UpFrame} (hst : s.bays[b].link.st = .service) (hdrop : f.dropped = false)
    (hcrc : f.crcOk = true) (htype : f.ftype = 1) (hnew : f.tick ∉ s.bays[b].link.accepted) (htick : (f.tick + 1) % 2 ^ 48 = s.now % 2 ^ 48)
    (hlate : (f.tick + 2) % 2 ^ 48 ≠ s.now % 2 ^ 48) (halive : s.bays[b].link.lastAlive ≠ some f.alive) :
    execUplinkFrame b f s = .next (s.onLink b fun k => { k with
      held := some f, lastAlive := some f.alive, accepted := f.tick :: k.accepted }) := by
  simp only [execUplinkFrame, hst, hdrop, hcrc, htype, List.contains_eq_mem, hnew, hlate, htick, halive, reduceCtorEq, or_self, ne_eq, not_true,
    decide_false, Bool.not_true, Bool.false_eq_true, if_false]

theorem execUplinkFrame_crcFail {s : State} {b : BayId} {f : UpFrame} (hst : s.bays[b].link.st = .service) (hdrop : f.dropped = false)
    (hcrc : f.crcOk = false) :
    execUplinkFrame b f s = .next (s.onLink b (·.onCounts fun c => { c with crcFail := bump 32 c.crcFail })) := by
  simp only [execUplinkFrame, hst, hdrop, hcrc, reduceCtorEq, or_self, Bool.false_eq_true, Bool.not_false, if_false, if_true]

theorem execHeadReject_due {s : State} {b : BayId} {last : Nat} (hlast : s.bays[b].link.rejAt = some last) (hdue : last + 1000 ≤ s.now)
    (hleg : 0 < s.bays[b].link.rejLeg) :
    execHeadReject b s = .next ((s.onLink b fun k => { k with rejLeg := 0, rejDt := 0, rejAt := some s.now }).linkEvent b 0x0606
      (s.bays[b].link.rejLeg + 2 ^ 8 * s.bays[b].link.rejDt) (s.now - 2)) := by
  have hgathered : (s.bays[b].link.rejLeg != 0) = true := bne_iff_ne.mpr (Nat.pos_iff_ne_zero.mp hleg)
  simp only [execHeadReject, State.headReject, hlast, hdue, hgathered, decide_true, Bool.true_or, Bool.and_self, if_true]

/-! Firmware delivery (R178, R181). -/

theorem bayBit_getLsbD (b : BayId) : (bayBit b).getLsbD b.val = true := by
  simp only [bayBit, BitVec.getLsbD_ofNat, b.isLt, Nat.testBit_two_pow_self, decide_true, Bool.and_self]

@[simp] theorem answer_fwLoad (s : State) (c : CourtId) (m : MbxId) (st dt : Nat) (bulk : Bool) (fs : List Field) :
    (s.answer c m st dt bulk fs).fwLoad = s.fwLoad := by
  obtain ⟨_, _, h⟩ := answer_eq s c m st dt bulk fs
  rw [h]

@[simp] theorem answer_evt (s : State) (c : CourtId) (m : MbxId) (st dt : Nat) (bulk : Bool) (fs : List Field) :
    (s.answer c m st dt bulk fs).evt = s.evt := by
  obtain ⟨_, _, h⟩ := answer_eq s c m st dt bulk fs
  rw [h]

/-- The last lane of a delivery ends it: the transfer is consumed and the request answered. -/
theorem fwEnd_last {s : State} {b : BayId} {l : FwLoad} (hl : s.fwLoad = some l) (hb : l.bays = bayBit b) (fail : Option Nat) : ∃ st bay,
    s.fwEnd b fail = ({ s.onLink b (fun k => { k with fw := none }) with fwLoad := none }.consumeXfer l.origin.court l.transfer).answer
      l.origin.court l.origin.mbx st 0 false [(8, bay), (24, 0)] := by
  have hleft : bayBit b &&& ~~~(bayBit b) = 0 := by simp
  simp only [State.fwEnd, hl, hb, bayBit_getLsbD, hleft, if_true]
  exact ⟨_, _, rfl⟩

/-- What the end of a delivery leaves: no delivery, no part of the lane in one, no request in execution; the other bays and the events stay. -/
theorem fwEnd_last_leaves {s : State} {b : BayId} {l : FwLoad} (hl : s.fwLoad = some l) (hb : l.bays = bayBit b) (fail : Option Nat) :
    (s.fwEnd b fail).fwLoad = none ∧ (s.fwEnd b fail).bays[b].link.fw = none ∧
    ((s.fwEnd b fail).mbox l.origin.court l.origin.mbx).running = none ∧
    (∀ d : BayId, d ≠ b → (s.fwEnd b fail).bays[d] = s.bays[d]) ∧ (s.fwEnd b fail).evt = s.evt := by
  obtain ⟨st, bay, hend⟩ := fwEnd_last hl hb fail
  rw [hend]
  refine ⟨by simp, by simp, answer_running .., fun d hd => ?_, by simp⟩
  rw [answer_bays]
  exact vmod_other _ _ _ _ hd

theorem execHeadFwLoaded_ready {s : State} {b : BayId} {l : FwLoad} {f : FwSend} {at_ : Nat} (hl : s.fwLoad = some l)
    (hf : s.bays[b].link.fw = some f) (hat : f.restartAt = some at_) (hst : s.bays[b].link.st = .ready)
    (hhash : s.bays[b].link.fwHash = l.hash % 2 ^ 32) :
    execHeadFwLoaded b s = .next ((s.linkEvent b 0x0607 s.bays[b].link.fwHash s.now).fwEnd b none) := by
  simp only [execHeadFwLoaded, hl, hf, hat, hst, hhash, Option.isSome_some, true_or, and_self, if_true]

theorem execHeadFwTimeout_due {s : State} {b : BayId} {f : FwSend} {at_ : Nat} (hf : s.bays[b].link.fw = some f) (hat : f.restartAt = some at_)
    (hdue : at_ + 2000000 ≤ s.now) : execHeadFwTimeout b s = .next (s.fwEnd b (some stTIMEOUT)) := by
  simp only [execHeadFwTimeout, hf, hat, hdue, if_true]

/-- Settles O23: a management or intake command changes its lane alone, a lane that goes DOWN also touches the legal court and the events, and
the end of a delivery is the same whether its last bay head returned or failed. -/
theorem linkTraffic : Obligations.LinkTraffic := by
  unfold Obligations.LinkTraffic
  refine ⟨fun s b q r hq hop haddr htag hra hok hst hqueue hfw => ?answered, fun s b q r hq h => execConfigResponse_foreign hq h,
    fun s b q hq hdue hrep => ⟨_, execConfigRetryTimeout_again hq hdue hrep, onLink_frame ..⟩,
    fun s b q hq hdue hrep hfw => ⟨_, execConfigRetryTimeout_last hq hdue hrep, (laneDown_laneTouch hfw).frame⟩,
    fun s b hst hmiss hfw => ?lost,
    fun s b f hst hdrop hcrc htype hnew htick hlate halive =>
      ⟨_, execUplinkFrame_held hst hdrop hcrc htype hnew htick hlate halive, onLink_frame ..⟩,
    fun s b f hst hdrop hcrc => ⟨_, execUplinkFrame_crcFail hst hdrop hcrc, onLink_frame ..⟩,
    fun s b last hlast hdue hleg => ?reject, fun s b l f at_ hl hf hat hst hhash hb _ => ?loaded, fun s b l f at_ hl hf hat hdue hb _ => ?timeout⟩
  case answered =>
    have hpump : (s.onLink b fun k => { k with req := none }.pump s.now) = s.onLink b fun k => { k with req := none } :=
      onLink_congr (Link.pump_idle (k := { s.bays[b].link with req := none }) hqueue s.now)
    have hrun := execConfigResponse_written hq hop (by simp [haddr]) htag hra hok hst hfw
    exact ⟨_, hrun.trans (congrArg Host.Outcome.next hpump), onLink_frame ..⟩
  case lost =>
    have ⟨hframe, hlink⟩ := (laneLost_laneTouch hfw false).frame
    have hraised := laneLost_raises s b false
    rw [hst] at hraised
    exact ⟨_, execLinkLost_missed hst hmiss, hframe, hlink, hraised⟩
  case reject =>
    obtain ⟨honly, hbay⟩ := onLink_frame s b fun k => { k with rejLeg := 0, rejDt := 0, rejAt := some s.now }
    exact ⟨_, execHeadReject_due hlast hdue hleg, congrArg (State.linkEvent · b 0x0606 _ _) honly, hbay, rfl⟩
  case loaded =>
    obtain ⟨hload, hfw, hmbx, hbays, hevt⟩ := fwEnd_last_leaves (s := s.linkEvent b 0x0607 s.bays[b].link.fwHash s.now) hl hb none
    exact ⟨_, execHeadFwLoaded_ready hl hf hat hst hhash, hload, hfw, hmbx, hbays, congrArg _ hevt⟩
  case timeout =>
    exact ⟨_, execHeadFwTimeout_due hf hat hdue, fwEnd_last_leaves hl hb _⟩

end Sys2Proof.Machine

namespace Sys2Proof.Machine

/-! The line states of a pilot high level (R190). -/

/-- The V_HI band of a line state, by the state's code: A to E around 12, 9, 6, 3 and 0 V, and F around -12 V in steady -12 V mode (R190, R211). -/
def PilotBand (mode : Nat) (w v : Int) : Nat → Prop
  | 0 => 12000 - w ≤ v ∧ v < 12000 + w
  | 1 => 9000 - w < v ∧ v < 9000 + w
  | 2 => 6000 - w < v ∧ v < 6000 + w
  | 3 => 3000 - w < v ∧ v < 3000 + w
  | 4 => -w < v ∧ v < w
  | 5 => mode = 0 ∧ -12000 - w < v ∧ v < -12000 + w
  | _ => False

/-- The middle of the band of a line state, in mV. -/
def pilotBandCentre (i : Nat) : Int := if i = 5 then -12000 else 12000 - 3000 * i

namespace PilotBand

variable {mode i j : Nat} {w v : Int}

theorem near_centre (h : PilotBand mode w v i) : i ≤ 5 ∧ pilotBandCentre i - w ≤ v ∧ v < pilotBandCentre i + w := by
  unfold pilotBandCentre
  match i, h with
  | 0, h | 1, h | 2, h | 3, h | 4, h | 5, h => simp only [PilotBand] at h; omega

/-- Different centres are at least 3 V apart, so bands of a half width of at most 1.5 V do not meet. -/
theorem unique (hw : w ≤ 1500) (hi : PilotBand mode w v i) (hj : PilotBand mode w v j) : i = j := by
  obtain ⟨hi5, hilo, hihi⟩ := hi.near_centre
  obtain ⟨hj5, hjlo, hjhi⟩ := hj.near_centre
  unfold pilotBandCentre at hilo hihi hjlo hjhi
  omega

end PilotBand

section

variable {mode i : Nat} {w v : Int}

theorem pilotBand_of_lineState (h : lineState mode w v = some i) : PilotBand mode w v i := by
  unfold lineState at h
  split_ifs at h <;> cases h <;> simp only [PilotBand] <;> omega

theorem not_pilotBand_of_lineState_none (h : lineState mode w v = none) : ¬ PilotBand mode w v i := by
  unfold lineState at h
  split_ifs at h
  match i with
  | 0 | 1 | 2 | 3 | 4 | 5 => simp only [PilotBand]; omega
  | _ + 6 => exact id

theorem lineState_eq_some_iff (hw : w ≤ 1500) : lineState mode w v = some i ↔ PilotBand mode w v i := by
  refine ⟨pilotBand_of_lineState, fun hi => ?_⟩
  cases hstate : lineState mode w v with
  | none => exact absurd hi (not_pilotBand_of_lineState_none hstate)
  | some j => rw [(pilotBand_of_lineState hstate).unique hw hi]

theorem lineState_eq_none_iff (hw : w ≤ 1500) : lineState mode w v = none ↔ ∀ i, ¬ PilotBand mode w v i := by
  simp only [Option.eq_none_iff_forall_ne_some, ne_eq, lineState_eq_some_iff hw]

/-- B, C, D and E are the bands around 3, 2, 1 and 0 times 3 V. -/
theorem no_pilotBand_iff : (∀ i, ¬ PilotBand mode w v i) ↔
    ¬ PilotBand mode w v 0 ∧ (∀ k : Int, 0 ≤ k → k ≤ 3 → ¬(3000 * k - w < v ∧ v < 3000 * k + w)) ∧ ¬ PilotBand mode w v 5 := by
  constructor
  · refine fun h => ⟨h 0, fun k hlo hhi => ?_, h 5⟩
    obtain rfl | rfl | rfl | rfl : k = 0 ∨ k = 1 ∨ k = 2 ∨ k = 3 := by omega
    · simpa [PilotBand] using h 4
    · exact h 3
    · exact h 2
    · exact h 1
  · rintro ⟨hA, hmid, hF⟩ i
    match i with
    | 0 => exact hA
    | 1 => exact hmid 3 (by decide) (by decide)
    | 2 => exact hmid 2 (by decide) (by decide)
    | 3 => exact hmid 1 (by decide) (by decide)
    | 4 => simpa [PilotBand] using hmid 0 (by decide) (by decide)
    | 5 => exact hF
    | _ + 6 => exact id

end

/-- Settles O7: a level has the line state of a band exactly where it lies in the band, because no two bands meet. -/
theorem pilotBands : Obligations.PilotBands := by
  unfold Obligations.PilotBands
  intro mode w v _ hw
  exact ⟨lineState_eq_some_iff hw, lineState_eq_some_iff hw, lineState_eq_some_iff hw, lineState_eq_some_iff hw, lineState_eq_some_iff hw,
    lineState_eq_some_iff hw, (lineState_eq_none_iff hw).trans no_pilotBand_iff⟩

end Sys2Proof.Machine

namespace Sys2Proof.Machine

/-! Charging sessions (spec file 08). -/

/-! The rules of the operations on a session: what each leaves of the state, and what of the session. -/

/-- Nothing but a bay, the resolutions of the site and the legal court differs. -/
def SessTouch (b : BayId) (s t : State) : Prop := ∃ y sl l, t = { s with bays := s.bays.set b y, slac := sl, legal := l }

namespace SessTouch

theorem refl (b : BayId) (s : State) : SessTouch b s s := ⟨s.bays[b], s.slac, s.legal, by simp⟩

theorem trans {b : BayId} {s t u : State} (h : SessTouch b s t) (k : SessTouch b t u) : SessTouch b s u := by
  obtain ⟨y, sl, l, rfl⟩ := h
  obtain ⟨y', sl', l', rfl⟩ := k
  exact ⟨y', sl', l', by simp⟩

theorem onBay (s : State) (b : BayId) (f : Bay → Bay) : SessTouch b s (s.onBay b f) := ⟨f s.bays[b], s.slac, s.legal, rfl⟩

theorem setSlac (s : State) (b : BayId) (sl : Slac) : SessTouch b s { s with slac := sl } := ⟨s.bays[b], sl, s.legal, by simp⟩

theorem onLegal (s : State) (b : BayId) (f : Legal → Legal) : SessTouch b s (s.onLegal f) :=
  ⟨s.bays[b], s.slac, f s.legal, by simp [State.onLegal]⟩

theorem of_bayOnly {b : BayId} {s t : State} (h : BayOnly b s t) : SessTouch b s t := ⟨t.bays[b], s.slac, s.legal, h⟩

theorem frame {b : BayId} {s t : State} (h : SessTouch b s t) :
    t = { s with bays := s.bays.set b t.bays[b], slac := t.slac, legal := t.legal } := by
  obtain ⟨y, sl, l, rfl⟩ := h
  simp

end SessTouch

theorem onBay_bayOnly (s : State) (b : BayId) (f : Bay → Bay) : BayOnly b s (s.onBay b f) := by
  simp [State.onBay, vmod]

theorem BayOnly.trans {b : BayId} {s t u : State} (h : BayOnly b s t) (k : BayOnly b t u) : BayOnly b s u := by
  obtain ⟨y, rfl⟩ : ∃ y, t = { s with bays := s.bays.set b y } := ⟨_, h⟩
  simpa [BayOnly] using k

theorem onBay_bay (s : State) (b : BayId) (f : Bay → Bay) : (s.onBay b f).bays[b] = f s.bays[b] := by
  simp

theorem onSess_session (s : State) (b : BayId) (f : Session → Session) : (s.onSess b f).bays[b].session = f s.bays[b].session :=
  congrArg Bay.session (onBay_bay s b _)

theorem onSess_staged (s : State) (b : BayId) (f : Session → Session) : (s.onSess b f).bays[b].staged = s.bays[b].staged :=
  (congrArg Bay.staged (onBay_bay s b _)).trans rfl

theorem onSess_plc (s : State) (b : BayId) (f : Session → Session) : (s.onSess b f).bays[b].plc = s.bays[b].plc :=
  (congrArg Bay.plc (onBay_bay s b _)).trans rfl

theorem onSess_bayOnly (s : State) (b : BayId) (f : Session → Session) : BayOnly b s (s.onSess b f) := onBay_bayOnly ..

theorem onSess_onSess (s : State) (b : BayId) (f g : Session → Session) : (s.onSess b f).onSess b g = s.onSess b fun x => g (f x) := by
  simp only [State.onSess, State.onGrp, State.onBay, vmod_vmod]

theorem stage_session (s : State) (b : BayId) (off : Nat) (e : Ev) : (s.stage b off e).bays[b].session = s.bays[b].session :=
  (congrArg Bay.session (onBay_bay s b _)).trans rfl

theorem stage_staged (s : State) (b : BayId) (off : Nat) (e : Ev) : (s.stage b off e).bays[b].staged = s.bays[b].staged ++ [(off, e)] :=
  congrArg Bay.staged (onBay_bay s b _)

theorem mem_stage_staged (s : State) (b : BayId) (off : Nat) (e : Ev) : (off, e) ∈ (s.stage b off e).bays[b].staged :=
  stage_staged s b off e ▸ List.mem_append_right _ (List.mem_singleton_self _)

theorem stage_plc (s : State) (b : BayId) (off : Nat) (e : Ev) : (s.stage b off e).bays[b].plc = s.bays[b].plc :=
  (congrArg Bay.plc (onBay_bay s b _)).trans rfl

theorem stage_bayOnly (s : State) (b : BayId) (off : Nat) (e : Ev) : BayOnly b s (s.stage b off e) := onBay_bayOnly ..

/-- What an operation leaves that neither moves a session nor ends it: its state and its reasons, and the events that the cells hold. A bay
without a match stays without one. -/
structure SessKept (b : BayId) (s t : State) : Prop where
  touch : SessTouch b s t
  st : t.bays[b].session.st = s.bays[b].session.st
  reason : t.bays[b].session.reason = s.bays[b].session.reason
  further : t.bays[b].session.further = s.bays[b].session.further
  reasons : t.bays[b].session.reasons = s.bays[b].session.reasons
  staged : s.bays[b].staged ⊆ t.bays[b].staged
  unmatched : s.bays[b].plc.matched = false → t.bays[b].plc.matched = false

namespace SessKept

theorem refl (b : BayId) (s : State) : SessKept b s s := ⟨.refl b s, rfl, rfl, rfl, rfl, List.Subset.refl _, id⟩

theorem trans {b : BayId} {s t u : State} (h : SessKept b s t) (k : SessKept b t u) : SessKept b s u :=
  ⟨h.touch.trans k.touch, k.st.trans h.st, k.reason.trans h.reason, k.further.trans h.further, k.reasons.trans h.reasons,
    List.Subset.trans h.staged k.staged, k.unmatched ∘ h.unmatched⟩

/-- An operation that leaves the session as it is. -/
theorem of_session {b : BayId} {s t : State} (touch : SessTouch b s t) (session : t.bays[b].session = s.bays[b].session)
    (staged : s.bays[b].staged ⊆ t.bays[b].staged) (unmatched : s.bays[b].plc.matched = false → t.bays[b].plc.matched = false) :
    SessKept b s t :=
  ⟨touch, congrArg _ session, congrArg _ session, congrArg _ session, congrArg _ session, staged, unmatched⟩

theorem stage (s : State) (b : BayId) (off : Nat) (e : Ev) : SessKept b s (s.stage b off e) :=
  .of_session (.onBay ..) (stage_session ..) (stage_staged s b off e ▸ List.subset_append_left ..) (stage_plc s b off e ▸ id)

theorem onSess {s : State} {b : BayId} {f : Session → Session} (hst : (f s.bays[b].session).st = s.bays[b].session.st)
    (hreason : (f s.bays[b].session).reason = s.bays[b].session.reason) (hfurther : (f s.bays[b].session).further = s.bays[b].session.further)
    (hreasons : (f s.bays[b].session).reasons = s.bays[b].session.reasons) : SessKept b s (s.onSess b f) := by
  have hsess := onSess_session s b f
  exact ⟨.onBay .., hsess ▸ hst, hsess ▸ hreason, hsess ▸ hfurther, hsess ▸ hreasons, onSess_staged s b f ▸ List.Subset.refl _,
    onSess_plc s b f ▸ id⟩

theorem onLegal (s : State) (b : BayId) (f : Legal → Legal) : SessKept b s (s.onLegal f) :=
  .of_session (.onLegal s b f) rfl (List.Subset.refl _) id

end SessKept

theorem freeSlotOf_eq (s : State) (i : Nat) (b : BayId) : ∃ sl, s.freeSlotOf i b = { s with slac := sl } := by
  unfold State.freeSlotOf State.freeSlot
  repeat' split
  all_goals exact ⟨_, rfl⟩

/-- The end of a match leaves the session as it is and the bay without a match (R208). -/
theorem slacEnd_kept (s : State) (b : BayId) (reason : Nat) :
    SessKept b s (s.slacEnd b reason) ∧ (s.slacEnd b reason).bays[b].plc.matched = false := by
  unfold State.slacEnd
  extract_lets p s1 s2
  split
  · obtain ⟨sl, hfree⟩ : ∃ sl, s2 = { s1 with slac := sl } := by
      unfold s2
      split
      · exact freeSlotOf_eq ..
      · exact ⟨s1.slac, rfl⟩
    have hbay : s2.bays[b] = { s.bays[b] with grp := { s.bays[b].grp with plc := { p with
        slot := none, mac := 0, attenAt := none, matched := false, nmk := none, nid := none } } } := by
      rw [hfree]
      exact onBay_bay s b _
    have h2 : SessKept b s s2 := by
      refine .of_session ?_ (by rw [hbay]) (hbay ▸ List.Subset.refl _) fun _ => by rw [hbay]
      rw [hfree]
      exact (SessTouch.onBay s b _).trans (.setSlac s1 b sl)
    refine ⟨h2.trans (.stage ..), ?_⟩
    rw [stage_plc, hbay]
  next hnone =>
    refine ⟨.refl b s, ?_⟩
    simp only [Bool.or_eq_true, not_or, Bool.not_eq_true] at hnone
    exact hnone.2

/-- ENDED and FAULT end the match, and ask for the stop reading or report the end (R208, R232, R235, R245). -/
theorem sessOver_kept (s : State) (b : BayId) : SessKept b s (s.sessOver b) ∧ (s.sessOver b).bays[b].plc.matched = false := by
  unfold State.sessOver
  extract_lets x s1 s2
  have ⟨hend, hunmatched⟩ : SessKept b s1 s2 ∧ s2.bays[b].plc.matched = false := slacEnd_kept s1 b 3
  have h2 : SessKept b s s2 := (SessKept.onSess rfl rfl rfl rfl).trans hend
  suffices ∀ t, SessKept b s2 t → SessKept b s t ∧ t.bays[b].plc.matched = false by
    split
    · exact this _ ((SessKept.onSess rfl rfl rfl rfl).trans (.onLegal ..))
    · split
      · exact this _ (.refl b s2)
      · exact this _ (.stage ..)
  exact fun t h => ⟨h2.trans h, h.unmatched hunmatched⟩

/-! A session goes to another state (R224). -/

/-- The session as it enters a state; `opened` counts the openings under load. -/
def Session.entering (x : Session) (st : SessSt) (now opened : Nat) : Session := { x with
  st := st, entered := now, faultHigh := false, closing := if st = .parameters then x.closing else none, pauseOpened := false,
  started := x.started || (!x.started && st == .energised), startTick := if !x.started && st == .energised then now else x.startTick,
  setupAt := if st = .setup then now else x.setupAt, openLoad := opened }

/-- A session has entered a state, before what that state's entry does: SESSION_STATE and an opening under load are all that the cells hold
more (R222, R232). -/
structure SessEnters (b : BayId) (st : SessSt) (s t : State) : Prop where
  only : BayOnly b s t
  session : ∃ n, t.bays[b].session = s.bays[b].session.entering st s.now n
  staged : s.bays[b].staged ⊆ t.bays[b].staged

theorem SessEnters.stage {b : BayId} {st : SessSt} {s t : State} (h : SessEnters b st s t) (off : Nat) (e : Ev) :
    SessEnters b st s (t.stage b off e) :=
  ⟨BayOnly.trans h.only (stage_bayOnly ..), stage_session t b off e ▸ h.session,
    List.Subset.trans h.staged (stage_staged t b off e ▸ List.subset_append_left ..)⟩

/-- Every state is entered in the same way. ENDED and FAULT then do more, CONNECTED and WELD_CHECK do not. -/
theorem sessTo_enters {s : State} {b : BayId} {st : SessSt} (h : s.bays[b].session.st ≠ st) : ∃ u, SessEnters b st s u ∧
    (st = .ended ∨ st = .fault → s.sessTo b st = u.sessOver b) ∧ (st = .connected ∨ st = .weldCheck → s.sessTo b st = u) := by
  unfold State.sessTo
  extract_lets y x begins keep start s1 opened s2 s3
  refine ⟨s3, ?_, ?_, ?_⟩
  · have h1 : SessEnters b st s s1 := ⟨onSess_bayOnly .., ⟨_, onSess_session ..⟩, onSess_staged s b _ ▸ List.Subset.refl _⟩
    have hload : SessEnters b st s (s1.onSess b fun x => { x with openLoad := bump 32 x.openLoad }) :=
      ⟨BayOnly.trans h1.only (onSess_bayOnly ..), ⟨_, by rw [onSess_session, onSess_session]; rfl⟩,
        List.Subset.trans h1.staged (onSess_staged s1 b _ ▸ List.Subset.refl _)⟩
    have h2 : SessEnters b st s s2 := by
      unfold s2
      cases opened
      · exact h1
      · exact hload.stage ..
    exact h2.stage ..
  · rintro (rfl | rfl) <;> exact if_neg h
  · rintro (rfl | rfl) <;> exact if_neg h

theorem sessTo_connected {s : State} {b : BayId} (h : s.bays[b].session.st ≠ .connected) : SessEnters b .connected s (s.sessTo b .connected) := by
  obtain ⟨u, hu, -, hrun⟩ := sessTo_enters h
  exact hrun (.inl rfl) ▸ hu

theorem sessTo_weldCheck {s : State} {b : BayId} (h : s.bays[b].session.st ≠ .weldCheck) : SessEnters b .weldCheck s (s.sessTo b .weldCheck) := by
  obtain ⟨u, hu, -, hrun⟩ := sessTo_enters h
  exact hrun (.inr rfl) ▸ hu

/-! A session ends (R231, R232). -/

/-- A session has ended in a state with a reason; a reason that stood before is counted. -/
structure SessEnds (b : BayId) (st : SessSt) (reason : Nat) (s t : State) : Prop where
  touch : SessTouch b s t
  st : t.bays[b].session.st = st
  reason : t.bays[b].session.reason = reason
  further : t.bays[b].session.further = s.bays[b].session.further + if s.bays[b].session.reason = 0 then 0 else 1
  staged : s.bays[b].staged ⊆ t.bays[b].staged
  unmatched : t.bays[b].plc.matched = false

theorem SessKept.ends {b : BayId} {st : SessSt} {reason : Nat} {s t u : State} (h : SessKept b s t) (k : SessEnds b st reason t u) :
    SessEnds b st reason s u :=
  ⟨h.touch.trans k.touch, k.st, k.reason, by rw [k.further, h.further, h.reason], List.Subset.trans h.staged k.staged, k.unmatched⟩

/-- A session has recorded a reason and has not moved yet. -/
structure SessRecords (b : BayId) (reason : Nat) (s t : State) : Prop where
  only : BayOnly b s t
  st : t.bays[b].session.st = s.bays[b].session.st
  reason : t.bays[b].session.reason = reason
  further : t.bays[b].session.further = s.bays[b].session.further + if s.bays[b].session.reason = 0 then 0 else 1
  staged : t.bays[b].staged = s.bays[b].staged

/-- What goes to ENDED or FAULT with a reason recorded has ended with it. -/
theorem SessRecords.ends {b : BayId} {st : SessSt} {reason : Nat} {s t : State} (h : SessRecords b reason s t) (hover : st = .ended ∨ st = .fault)
    (hne : s.bays[b].session.st ≠ st) : SessEnds b st reason s (t.sessTo b st) := by
  obtain ⟨u, ⟨honly, ⟨n, hu⟩, hstaged⟩, hrun, -⟩ := sessTo_enters (s := t) (b := b) (st := st) (h.st ▸ hne)
  obtain ⟨hkept, hunmatched⟩ := sessOver_kept u b
  rw [hrun hover]
  exact ⟨(SessTouch.of_bayOnly (BayOnly.trans h.only honly)).trans hkept.touch, by rw [hkept.st, hu]; rfl,
    by rw [hkept.reason, hu]; exact h.reason, by rw [hkept.further, hu]; exact h.further,
    h.staged ▸ List.Subset.trans hstaged hkept.staged, hunmatched⟩

theorem SessSt.ne_of_isIdle {st st' : SessSt} (h : st.isIdle = false) (h' : st'.isIdle = true) : st ≠ st' := by
  rintro rfl
  exact absurd (h.symm.trans h') (by decide)

/-- A new reason of a session that is not idle is recorded where none stood before, and where it is of kind F. The session then goes to FAULT,
or with its first reason to the state that the contactors ask for. -/
theorem sessEnd_records {s : State} {b : BayId} {reason : Nat} (hidle : s.bays[b].session.st.isIdle = false)
    (hnew : bitOf s.bays[b].session.reasons reason = false) (hrec : s.bays[b].session.reason = 0 ∨ faultReason reason = true) :
    ∃ u, SessRecords b reason s u ∧
      s.sessEnd b reason = u.sessTo b (if faultReason reason = true then .fault else s.bays[b].endState reason) := by
  have hni := SessSt.ne_of_isIdle hidle (st' := .idle) rfl
  have hnu := SessSt.ne_of_isIdle hidle (st' := .unavailable) rfl
  have hnf := SessSt.ne_of_isIdle hidle (st' := .fault) rfl
  have hne := SessSt.ne_of_isIdle hidle (st' := .ended) rfl
  unfold State.sessEnd
  extract_lets y x known s0 first replace s1
  have hfirst : first = true ↔ s.bays[b].session.reason = 0 := beq_iff_eq
  have h0 : s0.bays[b].session = _ := onSess_session s b _
  have h1 : s1.bays[b].session = _ := onSess_session s0 b _
  have hreplace : replace = true := by
    simp only [replace, Bool.or_eq_true]
    exact hrec.imp (fun h => .inl (hfirst.mpr h)) id
  refine ⟨s1, ⟨BayOnly.trans (onSess_bayOnly ..) (onSess_bayOnly ..), by rw [h1, h0], by rw [h1]; exact if_pos hreplace, ?_,
    (onSess_staged ..).trans (onSess_staged ..)⟩, ?_⟩
  · rw [h1, h0]
    simp only [hfirst]
    split <;> rfl
  · rw [if_neg (by rintro (h | h | h); exacts [hni h, hnu h, absurd (hnew.symm.trans h) (by decide)]), if_neg hnf]
    split
    · rfl
    next hkind => exact if_pos ⟨hfirst.mpr (hrec.resolve_right hkind), hne⟩

/-- A reason of kind F ends a session in FAULT. -/
theorem sessEnd_fault {s : State} {b : BayId} {reason : Nat} (hkind : faultReason reason = true) (hidle : s.bays[b].session.st.isIdle = false)
    (hnew : bitOf s.bays[b].session.reasons reason = false) : SessEnds b .fault reason s (s.sessEnd b reason) := by
  obtain ⟨u, hu, hrun⟩ := sessEnd_records hidle hnew (.inr hkind)
  rw [hrun, if_pos hkind]
  exact hu.ends (.inr rfl) (SessSt.ne_of_isIdle hidle rfl)

/-- The first other reason ends a session whose contactors are open in ENDED. -/
theorem sessEnd_ended {s : State} {b : BayId} {reason : Nat} (hkind : faultReason reason = false) (hidle : s.bays[b].session.st.isIdle = false)
    (hopen : s.bays[b].session.contactors = false) (hfirst : s.bays[b].session.reason = 0)
    (hnew : bitOf s.bays[b].session.reasons reason = false) : SessEnds b .ended reason s (s.sessEnd b reason) := by
  obtain ⟨u, hu, hrun⟩ := sessEnd_records hidle hnew (.inl hfirst)
  have hend : s.bays[b].endState reason = .ended := if_pos (by rw [hopen]; rfl)
  rw [hrun, if_neg (by rw [hkind]; decide), hend]
  exact hu.ends (.inl rfl) (SessSt.ne_of_isIdle hidle rfl)

/-! A session begins (R224, R234). -/

theorem openSession_eq (s : State) (b : BayId) : ∃ l n, s.openSession b = { s with legal := l, free := n } := by
  unfold State.openSession
  extract_lets l fresh id s1 s2
  obtain ⟨n, hdrawn⟩ : ∃ n, s1 = { s with free := n } := by
    unfold s1
    split
    · exact ⟨_, rfl⟩
    · exact ⟨s.free, rfl⟩
  unfold s2
  rw [hdrawn]
  exact ⟨_, _, rfl⟩

/-- A session has opened, with nothing recorded and the SESSION_ID that the legal court gave it. -/
structure SessOpens (b : BayId) (s t : State) : Prop where
  touch : ∃ l n y, t = { s with bays := s.bays.set b y, legal := l, free := n }
  st : t.bays[b].session.st = .connected
  pilot : t.bays[b].session.pilot = s.bays[b].session.pilot
  reason : t.bays[b].session.reason = 0
  id : t.bays[b].session.id = (t.legal.regs.meters[meterOf b]).sessionId
  token : t.bays[b].session.token = none

theorem sessConnect_opens {s : State} {b : BayId} (hheld : s.bays[b].session.heldToken = none) : SessOpens b s (s.sessConnect b) := by
  unfold State.sessConnect
  extract_lets y s1 id cfg held v2g empty s2 s3
  have hnone : held = none := by
    unfold held
    rw [hheld]
  rw [hnone]
  obtain ⟨l, n, h1⟩ : ∃ l n, s1 = { s with legal := l, free := n } := openSession_eq s b
  have hsess : s2.bays[b].session = _ := onSess_session s1.drawn b _
  have hidle : s2.bays[b].session.st = .idle := by rw [hsess]; rfl
  have h3 : SessEnters b .connected s2 s3 := sessTo_connected (by rw [hidle]; decide)
  have hpilot : s1.drawn.bays[b].session.pilot = s.bays[b].session.pilot := by rw [h1]; rfl
  obtain ⟨honly, ⟨m, hs3⟩, -⟩ := h3
  have hfrom : BayOnly b s1.drawn s3 := BayOnly.trans (onSess_bayOnly ..) honly
  have hlegal : s3.legal = s1.legal := by rw [hfrom]; rfl
  rw [hsess] at hs3
  constructor
  case touch =>
    rw [h1] at hfrom
    exact ⟨l, n + 1, s3.bays[b], hfrom⟩
  case st => rw [hs3]; rfl
  case pilot => rw [hs3]; exact hpilot
  case reason => rw [hs3]; rfl
  case id => rw [hs3, hlegal]; rfl
  case token => rw [hs3]; rfl

/-! The timers and messages of a session (R217 to R220, R224 to R232). -/

theorem Session.contactors_of_st {x : Session} {st : SessSt} (h : x.st = st) (hst : st = .setup ∨ st = .authorising ∨ st = .fault) :
    x.contactors = false := by
  rcases hst with rfl | rfl | rfl <;> simp only [Session.contactors, h]

theorem ranOut_some {from_ : Option Nat} {t limit now : Nat} (h : from_ = some t) (hdue : t + limit ≤ now) : ranOut from_ limit now = true := by
  simp [ranOut, h, hdue]

section

variable {s : State} {b : BayId}

theorem execContactorConfirmTimeout_due {at_ : Nat} {next : SessSt} (hclosing : s.bays[b].session.closing = some (at_, next))
    (hdue : at_ + 100000 ≤ s.now) (hopen : s.bays[b].grpCk.chans.closed = false) :
    execContactorConfirmTimeout b s = .next (s.sessEnd b 4) := by
  unfold execContactorConfirmTimeout
  rw [hclosing]
  exact congrArg _ (if_pos ⟨hdue, by rw [hopen]; rfl⟩)

theorem execWeldVerdictTimeout_due (hst : s.bays[b].session.st = .weldCheck) (hdue : s.bays[b].session.entered + 2000000 ≤ s.now) :
    execWeldVerdictTimeout b s = .next (s.sessEnd b 4) := congrArg _ (if_pos ⟨hst, hdue⟩)

/-- A matching that may be tried again pauses (R225). -/
theorem execMatchingTimeout_again (hst : s.bays[b].session.st = .matching) (hpause : s.bays[b].session.pauseUntil = none)
    (hdue : s.bays[b].session.matchFrom + 20000000 ≤ s.now) (htries : s.bays[b].session.tries + 1 < s.bays[b].ses 144 1) :
    execMatchingTimeout b s = .next (s.onSess b fun x => { x with
      tries := s.bays[b].session.tries + 1, pauseUntil := some (s.now + 4000000) }) := by
  have hfail : s.matchFail b = s.onSess b fun x => { x with
      tries := s.bays[b].session.tries + 1, pauseUntil := some (s.now + 4000000) } :=
    (if_pos htries).trans (onSess_onSess ..)
  rw [← hfail]
  exact congrArg _ (if_pos ⟨hst, by rw [hpause]; rfl, hdue⟩)

theorem execMatchPauseEnd_due {at_ : Nat} (hpause : s.bays[b].session.pauseUntil = some at_) (hdue : at_ ≤ s.now) :
    execMatchPauseEnd b s = .next (s.onSess b fun x => { x with pauseUntil := none, matchFrom := s.now }) := by
  unfold execMatchPauseEnd
  rw [hpause]
  exact congrArg _ (if_pos hdue)

theorem execSessionTimeout_setup {from_ : Nat} (hst : s.bays[b].session.st = .setup) (hfrom : s.bays[b].session.setupFrom = some from_)
    (hdue : from_ + 20000000 ≤ s.now) :
    execSessionTimeout b 1 s = .next ((s.stage b 2 ⟨96 + b.val, 0x0520, 1, s.now⟩).sessEnd b 0x12) := by
  have hout : s.timerOut b 1 = true := by
    show (s.bays[b].session.st == .setup && ranOut s.bays[b].session.setupFrom 20000000 s.now) = true
    rw [hst, ranOut_some hfrom hdue]
    rfl
  exact congrArg _ (if_pos hout)

theorem execSessionTimeout_stopping (hst : s.bays[b].session.st = .stopping) (hdue : s.bays[b].session.entered + 1000000 ≤ s.now) :
    execSessionTimeout b 6 s = .next ((s.stage b 2 ⟨96 + b.val, 0x0520, 6, s.now⟩).sessTo b .weldCheck) := by
  have hout : s.timerOut b 6 = true := by
    show (s.bays[b].session.st == .stopping && decide (s.bays[b].session.entered + 1000000 ≤ s.now)) = true
    rw [hst, decide_eq_true hdue]
    rfl
  exact congrArg _ (if_pos hout)

theorem execAuthTimeout_due (hst : s.bays[b].session.st = .authorising) (hauth : s.bays[b].session.auth < 2)
    (htoken : s.bays[b].session.token = none) (hdue : s.bays[b].session.entered + 1000000 * s.bays[b].ses 132 2 ≤ s.now) :
    execAuthTimeout b s = .next (s.sessEnd b 0x11) := by
  unfold execAuthTimeout
  extract_lets y x from_
  have hfrom : from_ = s.bays[b].session.entered := if_neg (by rw [htoken]; decide)
  exact congrArg _ (if_pos ⟨hst, hauth, hfrom ▸ hdue⟩)

theorem execTokenHoldExpire_due {tok : Token} (htoken : s.bays[b].session.heldToken = some tok) (hdue : tok.tick + 60000000 ≤ s.now) :
    execTokenHoldExpire b s = .next (s.onSess b fun x => { x with heldToken := none }) := by
  unfold execTokenHoldExpire
  rw [htoken]
  exact congrArg _ (if_pos hdue)

theorem execAcOvercurrent_due {from_ : Nat} (hover : s.bays[b].session.overSince = some from_) (hdue : from_ + 10000000 ≤ s.now) :
    execAcOvercurrent b s = .next (s.sessEnd b 0x0C) := congrArg _ (if_pos (ranOut_some hover hdue))

theorem execBasicPauseTimeout_due {from_ : Nat} (hst : s.bays[b].session.st = .energised) (hproto : s.bays[b].session.proto = 4)
    (hpause : s.bays[b].session.basicPause = true) (hclosed : s.bays[b].session.pauseOpened = false) (hpilot : s.bays[b].session.pilot = 2)
    (hfrom : s.bays[b].session.basicFrom = some from_) (hdue : from_ + 3000000 ≤ s.now) :
    execBasicPauseTimeout b s = .next ((s.onSess b fun x => { x with pauseOpened := true, openLoad := bump 32 x.openLoad }).stage b 2
      ⟨96 + b.val, 0x0523, satN 32 s.bays[b].iMeas.natAbs, s.now⟩) :=
  congrArg _ (if_pos ⟨hst, hproto, hpause, by rw [hclosed]; rfl, hpilot, ranOut_some hfrom hdue⟩)

theorem execBasicPwmRestore_due {from_ : Nat} (hst : s.bays[b].session.st = .energised) (hpause : s.bays[b].session.basicPause = true)
    (hok : s.bays[b].session.okSince = some from_) (hdue : from_ + 10000000 ≤ s.now) (hpilot : s.bays[b].session.pilot ≠ 1) :
    execBasicPwmRestore b s = .next (s.onSess b fun x => { x with basicPause := false, pauseOpened := false, basicFrom := none }) :=
  congrArg _ ((if_pos ⟨hst, hpause, ranOut_some hok hdue⟩).trans (if_neg hpilot))

theorem execFaultPilotTimer_due (hst : s.bays[b].session.st = .fault) (hdue : s.bays[b].session.entered + 3000000 ≤ s.now) :
    execFaultPilotTimer b s = .next (s.onSess b fun x => { x with faultHigh := true }) := congrArg _ (if_pos ⟨hst, hdue⟩)

theorem execTlsCloseTimer_due {at_ : Nat} (hclose : s.bays[b].session.closeAt = some at_) (hdue : at_ ≤ s.now) :
    execTlsCloseTimer b s = .next (s.onSess b fun x => { x with tcp := false, tls := 0, closeAt := none }) := by
  unfold execTlsCloseTimer
  rw [hclose]
  exact congrArg _ (if_pos hdue)

theorem execSessionPilotChange_moved (h : s.bays[b].session.pilot ≠ s.bays[b].pilot.st) :
    execSessionPilotChange b s = .next (s.sessPilot b) := congrArg _ (if_neg h)

theorem execSessionPilotChange_same (h : s.bays[b].session.pilot = s.bays[b].pilot.st) : execSessionPilotChange b s = .next s :=
  congrArg _ (if_pos h)

/-- State B on an idle bay that may charge opens a session. -/
theorem sessPilot_plugged (hst : s.bays[b].session.st = .idle) (hpilot : s.bays[b].pilot.st = 1) (hev : s.bays[b].isEv = true)
    (havail : s.bays[b].unavail = false) : s.sessPilot b = (s.onSess b fun x => { x with pilot := 1 }).sessConnect b := by
  simp only [State.sessPilot, hst, hpilot]
  exact if_pos ⟨rfl, hev, by rw [havail]; rfl⟩

/-- State F ends the match and the session (R208, R231). -/
theorem sessPilot_fault (hst : s.bays[b].session.st = .setup) (hpilot : s.bays[b].pilot.st = 5) :
    s.sessPilot b = ((s.onSess b fun x => { x with pilot := 5 }).slacEnd b 1).sessEnd b 6 := by
  simp only [State.sessPilot, hst, hpilot]
  rfl

theorem execSdpRequest_answered (secure : Bool) (hst : s.bays[b].session.st = .setup) (hmatched : s.bays[b].plc.matched = true)
    (hoffer : s.offered b ≠ []) : ∃ tls, execSdpRequest b secure s = .next (s.onSess b fun x => { x with
      sdp := x.sdp + 1, answer := some ⟨0, 0, [50000 + (b.val : Int), tls]⟩ }) :=
  ⟨_, congrArg _ (if_pos ⟨hst, hmatched, by simpa using hoffer⟩)⟩

theorem execTlsHandshake_stands {h : TlsHello} (hst : s.bays[b].session.st = .setup) (hsdp : s.bays[b].session.sdp ≠ 0)
    (htcp : s.bays[b].session.tcp = false) (hown : s.tlsAlert b h = none) (htheirs : h.alert = none) :
    execTlsHandshake b h s = .next (s.drawn.onSess b fun x => { x with tcp := true, tls := h.version }) := by
  unfold execTlsHandshake
  rw [hown, htheirs]
  exact congrArg _ (if_pos ⟨hst, hsdp, by rw [htcp]; rfl⟩)

theorem execTlsHandshake_alert {h : TlsHello} {a : Nat} (hst : s.bays[b].session.st = .setup) (hsdp : s.bays[b].session.sdp ≠ 0)
    (htcp : s.bays[b].session.tcp = false) (hown : s.tlsAlert b h = some a) :
    execTlsHandshake b h s = .next (((s.onSess b fun x => { x with tlsAlert := some (a, false) }).stage b 2
      ⟨96 + b.val, 0x0522, a, s.now⟩).sessEnd b 0x13) := by
  unfold execTlsHandshake
  rw [hown]
  exact congrArg _ (if_pos ⟨hst, hsdp, by rw [htcp]; rfl⟩)

theorem execV2gRequest_connected (r : V2gReq) (htcp : s.bays[b].session.tcp = true) : execV2gRequest b r s = .next (s.v2g b r) :=
  congrArg _ (if_pos htcp)

/-- SessionSetup is answered with the session's ISO 15118 SessionID (R220, R234). -/
theorem v2g_sessionSetup {evccid : Nat} (hst : s.bays[b].session.st = .setup) (hproto : s.bays[b].session.proto ≠ 0)
    (hfrom : s.bays[b].session.setupFrom ≠ none) : s.v2g b (.sessionSetup evccid) = s.onSess b fun x => { x with
      evccid := evccid, setupFrom := none, readyFrom := some s.now, seqFrom := if x.st.isIdle then none else some s.now,
      answer := some ⟨4, 0, [(s.bays[b].session.v2gId : Int)]⟩ } :=
  (if_pos ⟨hst, hproto, Option.isSome_iff_ne_none.mpr hfrom⟩).trans (onSess_onSess ..)

/-- PowerDelivery in SETUP is out of sequence on a DC bay. -/
theorem v2g_powerStart_setup (hst : s.bays[b].session.st = .setup) (hkind : s.bays[b].kind = 1) :
    s.v2g b .powerStart = s.v2gEnd b 12 2 := by
  simp only [State.v2g, hst, hkind]
  rfl

theorem v2gFail_kept (s : State) (b : BayId) (msg code : Nat) : SessKept b s (s.v2gFail b msg code) :=
  (SessKept.onSess rfl rfl rfl rfl).trans (.stage ..)

/-- A first reason that is not of kind F ends a session in ENDED that is in SETUP; events that were staged for it before stay. -/
theorem SessKept.ended_of_setup {t : State} {reason : Nat} (h : SessKept b s t) (hst : s.bays[b].session.st = .setup)
    (hkind : faultReason reason = false) (hfirst : s.bays[b].session.reason = 0) (hnew : bitOf s.bays[b].session.reasons reason = false) :
    SessEnds b .ended reason s (t.sessEnd b reason) ∧ t.bays[b].staged ⊆ (t.sessEnd b reason).bays[b].staged := by
  have hst' := h.st.trans hst
  have hend : SessEnds b .ended reason t (t.sessEnd b reason) :=
    sessEnd_ended hkind (by rw [hst']; rfl) (Session.contactors_of_st hst' (.inl rfl)) (h.reason.trans hfirst) (h.reasons ▸ hnew)
  exact ⟨h.ends hend, hend.staged⟩

end

/-- Settles O29: each command of a session has a lemma that gives its next state; where that state is the end of the session, what the end
leaves is said once, by `SessEnds`. -/
theorem sessions : Obligations.Sessions := by
  unfold Obligations.Sessions
  refine ⟨fun s b at_ next hclosing hdue hopen hst _ hnew => ?confirm, fun s b hst hdue hreason hnew => ?weld,
    fun s b hst hpause hdue htries => ⟨_, execMatchingTimeout_again hst hpause hdue htries, onSess_bayOnly .., onSess_session ..⟩,
    fun s b at_ hpause hdue => ⟨_, execMatchPauseEnd_due hpause hdue, onSess_bayOnly .., onSess_session ..⟩,
    fun s b from_ hst hfrom hdue hfirst hnew => ?setup, fun s b hst hdue => ?stopping,
    fun s b hst hauth htoken hdue hfirst hnew => ?auth,
    fun s b tok htoken hdue => ⟨_, execTokenHoldExpire_due htoken hdue, onSess_bayOnly .., onSess_session ..⟩,
    fun s b from_ hover hdue hst _ hnew => ?overcurrent,
    fun s b from_ hst hproto hpause hclosed hpilot hfrom hdue => ?pause,
    fun s b from_ hst hpause hok hdue hpilot => ⟨_, execBasicPwmRestore_due hst hpause hok hdue hpilot, onSess_bayOnly .., onSess_session ..⟩,
    fun s b hst hdue => ⟨_, execFaultPilotTimer_due hst hdue, onSess_bayOnly .., onSess_session ..⟩,
    fun s b at_ hclose hdue => ⟨_, execTlsCloseTimer_due hclose hdue, onSess_bayOnly .., onSess_session ..⟩,
    fun s b hst hmoved hpilot hev havail hheld => ?plugged, fun s b hst hmoved hpilot hfirst hnew => ?pilotFault,
    fun s b h => execSessionPilotChange_same h,
    fun s b secure hst hmatched hoffer => ?sdp,
    fun s b h hst hsdp htcp hown htheirs => ?tls, fun s b h a hst hsdp htcp hown hfirst hnew => ?alert,
    fun s b evccid htcp hst hproto hfrom => ?sessionSetup, fun s b htcp hst hfirst hkind hnew => ?sequence⟩
  case confirm =>
    have hend := sessEnd_fault (reason := 4) rfl (by rw [hst]; rfl) hnew
    exact ⟨_, execContactorConfirmTimeout_due hclosing hdue hopen, hend.touch.frame, hend.st, hend.reason,
      Session.contactors_of_st hend.st (.inr (.inr rfl))⟩
  case weld =>
    have hend := sessEnd_fault (reason := 4) rfl (by rw [hst]; rfl) hnew
    exact ⟨_, execWeldVerdictTimeout_due hst hdue, hend.touch.frame, hend.st, hend.reason, by rw [hend.further, if_neg hreason]⟩
  case setup =>
    have hkept : SessKept b s (s.stage b 2 ⟨96 + b.val, 0x0520, 1, s.now⟩) := .stage ..
    obtain ⟨hend, hstaged⟩ := hkept.ended_of_setup (reason := 0x12) hst rfl hfirst hnew
    exact ⟨_, execSessionTimeout_setup hst hfrom hdue, hend.touch.frame, hend.st, hend.reason, hstaged (mem_stage_staged ..)⟩
  case stopping =>
    have hsess := stage_session s b 2 ⟨96 + b.val, 0x0520, 6, s.now⟩
    obtain ⟨honly, ⟨n, hx⟩, -⟩ := sessTo_weldCheck (s := s.stage b 2 ⟨96 + b.val, 0x0520, 6, s.now⟩) (b := b) (by rw [hsess, hst]; decide)
    exact ⟨_, execSessionTimeout_stopping hst hdue, BayOnly.trans (stage_bayOnly ..) honly, by rw [hx]; rfl, by rw [hx]; rfl⟩
  case auth =>
    have hend := sessEnd_ended (reason := 0x11) rfl (by rw [hst]; rfl) (Session.contactors_of_st hst (.inr (.inl rfl))) hfirst hnew
    exact ⟨_, execAuthTimeout_due hst hauth htoken hdue, hend.touch.frame, hend.st, hend.reason⟩
  case overcurrent =>
    have hend := sessEnd_fault (reason := 0x0C) rfl (by rw [hst]; rfl) hnew
    exact ⟨_, execAcOvercurrent_due hover hdue, hend.touch.frame, hend.st, hend.reason⟩
  case pause =>
    exact ⟨_, execBasicPauseTimeout_due hst hproto hpause hclosed hpilot hfrom hdue, BayOnly.trans (onSess_bayOnly ..) (stage_bayOnly ..),
      by rw [stage_session, onSess_session], by rw [Staged, stage_staged, onSess_staged]⟩
  case plugged =>
    obtain ⟨y', hu⟩ : ∃ y, (s.onSess b fun x => { x with pilot := 1 }) = { s with bays := s.bays.set b y } := ⟨_, onSess_bayOnly ..⟩
    have hsess := onSess_session s b fun x => { x with pilot := 1 }
    have hopens := sessConnect_opens (s := s.onSess b fun x => { x with pilot := 1 }) (b := b) (by rw [hsess]; exact hheld)
    refine ⟨_, (execSessionPilotChange_moved hmoved).trans (congrArg _ (sessPilot_plugged hst hpilot hev havail)), ?_, hopens.st,
      by rw [hopens.pilot, hsess], hopens.reason, hopens.id, hopens.token⟩
    obtain ⟨l, n, y, ht⟩ := hopens.touch
    rw [ht, hu]
    simp
  case pilotFault =>
    have hkept : SessKept b s ((s.onSess b fun x => { x with pilot := 5 }).slacEnd b 1) :=
      (SessKept.onSess rfl rfl rfl rfl).trans (slacEnd_kept ..).1
    have hend := hkept.ends (sessEnd_fault (reason := 6) rfl (by rw [hkept.st, hst]; rfl) (hkept.reasons ▸ hnew))
    exact ⟨_, (execSessionPilotChange_moved (hpilot ▸ hmoved)).trans (congrArg _ (sessPilot_fault hst hpilot)), hend.touch.frame, hend.st,
      hend.reason, hend.unmatched⟩
  case sdp =>
    obtain ⟨tls, hrun⟩ := execSdpRequest_answered secure hst hmatched hoffer
    exact ⟨_, hrun, onSess_bayOnly .., _, onSess_session .., rfl⟩
  case tls =>
    exact ⟨_, execTlsHandshake_stands hst hsdp htcp hown htheirs, onSess_bayOnly s.drawn b _, onSess_session s.drawn b _⟩
  case alert =>
    have hkept : SessKept b s ((s.onSess b fun x => { x with tlsAlert := some (a, false) }).stage b 2 ⟨96 + b.val, 0x0522, a, s.now⟩) :=
      (SessKept.onSess rfl rfl rfl rfl).trans (.stage ..)
    obtain ⟨hend, hstaged⟩ := hkept.ended_of_setup (reason := 0x13) hst rfl hfirst hnew
    exact ⟨_, execTlsHandshake_alert hst hsdp htcp hown, hend.touch.frame, hend.st, hend.reason, hstaged (mem_stage_staged ..)⟩
  case sessionSetup =>
    refine ⟨_, (execV2gRequest_connected _ htcp).trans (congrArg _ (v2g_sessionSetup hst hproto hfrom)), onSess_bayOnly .., ?_⟩
    have hidle : s.bays[b].session.st.isIdle = false := by rw [hst]; rfl
    rw [onSess_session, hidle]
    rfl
  case sequence =>
    have hend := ((v2gFail_kept s b 12 2).ended_of_setup (reason := 0x14) hst rfl hfirst hnew).1
    exact ⟨_, (execV2gRequest_connected _ htcp).trans (congrArg _ (v2g_powerStart_setup hst hkind)), hend.touch.frame, hend.st, hend.reason⟩

end Sys2Proof.Machine

namespace Sys2Proof.Machine

/-! Cards whose result goes out as a transfer (R82, R89). -/

/-- What the change of one element keeps of that element, it keeps of every element. -/
theorem vmod_keeps {α β : Type} {n : Nat} {g : α → β} {f : α → α} (h : ∀ x, g (f x) = g x) (v : Vector α n) (i j : Fin n) :
    g (vmod v i f)[j] = g v[j] := by
  by_cases e : j = i
  · subst e
    exact (congrArg g (vmod_same v j f)).trans (h _)
  · rw [vmod_other v i j f e]

theorem onMbx_outXfers (s : State) (c : CourtId) (m : MbxId) (f : Mailbox → Mailbox) (c' : CourtId) :
    (s.onMbx c m f).courts[c'].outXfers = s.courts[c'].outXfers := vmod_keeps (g := Court.outXfers) (fun _ => by rfl) ..

/-- Only one court differs. -/
def CourtOnly (c : CourtId) (s t : State) : Prop := ∃ f, t = s.onCourt c f

namespace CourtOnly

theorem trans {c : CourtId} {s t u : State} (h : CourtOnly c s t) (k : CourtOnly c t u) : CourtOnly c s u := by
  obtain ⟨f, rfl⟩ := h
  obtain ⟨g, rfl⟩ := k
  exact ⟨fun x => g (f x), by simp only [State.onCourt, vmod_vmod]⟩

theorem frame {c : CourtId} {s t : State} (h : CourtOnly c s t) : t = { s with courts := t.courts } ∧ ∀ c', c' ≠ c → t.courts[c'] = s.courts[c'] := by
  obtain ⟨f, rfl⟩ := h
  exact ⟨rfl, fun c' hc => vmod_other _ _ _ _ hc⟩

end CourtOnly

/-- The request that a mailbox has just taken is its own: it came in through a port of this QN960 (R656). -/
theorem take_running {o : Origin} {s : State} (h : Serves o s) (op : Nat) (lay : List Nat) :
    ∃ r, ((s.take o.court o.mbx op lay).mbox o.court o.mbx).running = some r ∧ r.via = 0 := by
  obtain ⟨htake, harm, -⟩ := h
  exact ⟨_, by rw [State.take, mbox_onMbx], by simp [canTake_mbx htake harm, harm]⟩

/-- Opening a transfer leaves the requests in execution. -/
theorem sendBulk_running (s : State) (c : CourtId) (data : List Byte) (m : MbxId) :
    ((s.sendBulk c data).mbox c m).running = (s.mbox c m).running := by
  simp only [State.mbox, State.sendBulk, State.onCourt, Fin.getElem_fin, vmod_same]
  exact vmod_keeps (g := Mailbox.running) (fun _ => by rfl) ..

/-- A transfer is opened with its data, unless this QN960 is a returner (R87, R89). -/
theorem sendBulk_outXfers {s : State} (h : s.isReturner = false) (c : CourtId) (data : List Byte) :
    (s.sendBulk c data).courts[c].outXfers.length = s.courts[c].outXfers.length + 1 := by
  simp [State.sendBulk, State.onCourt, h]

/-- The answer to a request that came in through a port of this QN960 changes its mailbox alone. -/
theorem answer_own {s : State} {c : CourtId} {m : MbxId} {r : Running} (hr : (s.mbox c m).running = some r) (hvia : r.via = 0)
    (st dt : Nat) (bulk : Bool) (fs : List Field) : ∃ f, s.answer c m st dt bulk fs = s.onMbx c m f := by
  simp only [State.answer, hr, hvia]
  exact ⟨_, rfl⟩

/-- A card whose checks pass and whose result has bytes opens a transfer with them and answers. -/
theorem cardBulk_run {o : Origin} {s : State} (h : Serves o s) (hfree : s.bulkFree o.court = true) (op : Nat) (lay : List Nat)
    (chk : State → List Chk) {body : State → State × List Nat × List Nat × List Byte} {pre post : List Nat} {data : List Byte}
    (hc : firstRefusal (chk (s.take o.court o.mbx op lay)) = none)
    (hb : body (s.take o.court o.mbx op lay) = (s.take o.court o.mbx op lay, pre, post, data)) (hdata : data ≠ []) :
    ∃ fs, cardBulk o op lay chk body s =
      ((s.take o.court o.mbx op lay).sendBulk o.court data).answer o.court o.mbx stOK 0 true fs := by
  have hroom : (s.take o.court o.mbx op lay).bulkFree o.court = true := by
    rw [State.bulkFree, State.take, onMbx_outXfers]
    exact hfree
  have hpass := modeChecks_pass h op lay _ hc
  rw [firstRefusal_cons] at hpass
  have hall : firstRefusal (reserved o :: need ((s.take o.court o.mbx op lay).bulkFree o.court) stNO_RESOURCE 0 ::
      (modeChecks (s.take o.court o.mbx op lay) op ++ chk (s.take o.court o.mbx op lay))) = none := by
    simp only [firstRefusal_cons, need_none, hroom, hpass, and_self]
  simp only [cardBulk, h.1, if_true, hall, hb, List.isEmpty_iff, hdata, if_false]
  exact ⟨_, rfl⟩

/-- What such a card leaves: one transfer more and no request in execution; beside its court nothing differs. -/
theorem cardBulk_sends {o : Origin} {s : State} (h : Serves o s) (hfree : s.bulkFree o.court = true) (op : Nat) (lay : List Nat)
    (chk : State → List Chk) {body : State → State × List Nat × List Nat × List Byte} {pre post : List Nat} {data : List Byte}
    (hc : firstRefusal (chk (s.take o.court o.mbx op lay)) = none)
    (hb : body (s.take o.court o.mbx op lay) = (s.take o.court o.mbx op lay, pre, post, data)) (hdata : data ≠ []) :
    CourtOnly o.court s (cardBulk o op lay chk body s) ∧
      (cardBulk o op lay chk body s).courts[o.court].outXfers.length = s.courts[o.court].outXfers.length + 1 ∧
      ((cardBulk o op lay chk body s).mbox o.court o.mbx).running = none := by
  obtain ⟨fs, hrun⟩ := cardBulk_run h hfree op lay chk hc hb hdata
  obtain ⟨r, hr, hvia⟩ := take_running h op lay
  obtain ⟨f, hans⟩ := answer_own ((sendBulk_running _ _ data _).trans hr) hvia stOK 0 true fs
  rw [hrun]
  refine ⟨?_, ?_, answer_running ..⟩
  · have htake : CourtOnly o.court s (s.take o.court o.mbx op lay) := ⟨_, rfl⟩
    have hsend : CourtOnly o.court (s.take o.court o.mbx op lay) ((s.take o.court o.mbx op lay).sendBulk o.court data) := ⟨_, rfl⟩
    rw [hans]
    exact (htake.trans hsend).trans ⟨_, rfl⟩
  · obtain ⟨-, -, -, hret, -⟩ := h
    rw [hans, onMbx_outXfers, sendBulk_outXfers (s := s.take o.court o.mbx op lay) hret, State.take, onMbx_outXfers]

end Sys2Proof.Machine

namespace Sys2Proof.Machine

/-! The commands of identification (spec file 09). -/

/-- The owner of a bay passes the court check and the range check of its card: what refuses its request, if anything does, is a later check. -/
theorem firstRefusal_owner {o : Origin} {s : State} {b : BayId} (h1 : o.court.val ≠ 1) (h2 : o.court.val ≠ 2) (hown : s.owner b = o.court.val)
    (op : Nat) (lay : List Nat) (pos : Nat) (l : List Chk) :
    firstRefusal (ownPermit o pos b.val (s.take o.court o.mbx op lay) :: rng pos (b.val < 96) :: l) = firstRefusal l := by
  have hpermit : ownPermit o pos b.val (s.take o.court o.mbx op lay) = none := ownPermit_pass h1 h2 hown pos
  have hrng : rng pos (b.val < 96) = none := (rng_none ..).2 (decide_eq_true b.isLt)
  rw [hpermit, hrng]
  rfl

theorem leBytes_length (x n : Nat) : (leBytes x n).length = n := by
  induction n generalizing x with
  | zero => rfl
  | succ n ih => rw [leBytes, List.length_cons, ih]

/-- The data of TAG_LIST begin with the number of entries, so that there are data for an empty list too (R272). -/
theorem tagListBytes_ne_nil (l : List TagEntry) : fieldBytes ([(8, l.length), (24, 0)] ++ l.flatMap TagEntry.fields) ≠ [] := by
  rw [← List.length_pos_iff, fieldBytes, leBytes_length]
  simp only [fieldBits, List.cons_append, List.map_cons, List.sum_cons]
  omega

/-- IDENT_STATUS reports the counts as they stood at the last tick boundary (R269). -/
theorem execIdentStatus_reports {o : Origin} {s : State} {b : BayId} (h : Serves o s)
    (hc : FromCourt o [0] ∨ 3 ≤ o.court.val ∧ s.owner b = o.court.val) :
    execIdentStatus o b.val s = .next (s.repliedOk o 0x0601 ([8, 8, 8, 8] ++ List.replicate 12 32)
      ([s.bays[b].grpCk.ident.cardCode, s.bays[b].grpCk.ident.tags.length, s.bays[b].grpCk.ident.qForce, 0] ++
        s.bays[b].grpCk.ident.counts.toList ++ [s.gens.bay[b]])) := by
  refine congrArg _ (card_report h ?_ (congrArg _ (atBay_val ..)))
  have hpermit := bayPermit_pass (s := s.take o.court o.mbx 0x0601 ([8, 8, 8, 8] ++ List.replicate 12 32)) hc 1
  exact (firstRefusal_cons ..).2 ⟨hpermit, (firstRefusal_cons ..).2 ⟨(rng_none ..).2 (decide_eq_true b.isLt), rfl⟩⟩

section
variable {o : Origin} {s : State} {b : BayId} (h : Serves o s) (h1 : o.court.val ≠ 1) (h2 : o.court.val ≠ 2) (hown : s.owner b = o.court.val)
include h h1 h2 hown

/-! The owner's commands for a card (R270, R271). -/

theorem execCardApdu_waits {len : Nat} (hmin : 4 ≤ len) (hmax : len ≤ 1024) (hheld : s.bays[b].ident.holds true = true) (apdu : List Byte) :
    execCardApdu o b.val len apdu s = .next ((s.take o.court o.mbx 0x0602 [16, 16]).onIdentBoth b fun x => { x with
      waitApdu := x.waitApdu ++ [(o, apdu, s.now + 1)] }) := by
  refine congrArg _ ((cardLater_run h _ _ _ _ ?_).trans (atBay_val ..))
  rw [firstRefusal_owner h1 h2 hown, atBay_val, State.take_bays, hheld, decide_eq_true hmin, decide_eq_true hmax]
  rfl

theorem execCardApdu_noCard {len : Nat} (hmin : 4 ≤ len) (hmax : len ≤ 1024) (hcard : s.bays[b].ident.card = none) (apdu : List Byte) :
    execCardApdu o b.val len apdu s = .next (s.repliedNo o 0x0602 stBAD_STATE 0 [16, 16]) := by
  have hheld : s.bays[b].ident.holds true = false := by rw [Ident.holds, hcard]
  refine congrArg _ (cardLater_refuse h _ _ _ _ ?_)
  rw [firstRefusal_owner h1 h2 hown, atBay_val, State.take_bays, hheld, decide_eq_true hmin, decide_eq_true hmax]
  rfl

theorem execCardRelease_waits (hheld : s.bays[b].ident.holds false = true) :
    execCardRelease o b.val s = .next ((s.take o.court o.mbx 0x0603 []).onIdentBoth b fun x => { x with
      waitRelease := x.waitRelease ++ [(o, s.now + 1)] }) := by
  refine congrArg _ ((cardLater_run h _ _ _ _ ?_).trans (atBay_val ..))
  rw [firstRefusal_owner h1 h2 hown, atBay_val, State.take_bays, hheld]
  rfl

/-! The owner's commands for tags (R272 to R274). -/

/-- The tag list goes out as a transfer. -/
theorem cardTagList_sends (hkyt : s.bays[b].identFlag 2 = true) (hfree : s.bulkFree o.court = true) :
    CourtOnly o.court s (cardTagList o b.val s) ∧
      (cardTagList o b.val s).courts[o.court].outXfers.length = s.courts[o.court].outXfers.length + 1 ∧
      ((cardTagList o b.val s).mbox o.court o.mbx).running = none := by
  refine cardBulk_sends h hfree _ _ _ ?_ (atBay_val ..) (tagListBytes_ne_nil _)
  rw [firstRefusal_owner h1 h2 hown, atBay_val, State.take_bays, hkyt]
  rfl

section
variable {count addr : Nat} {write : Bool} (hmin : 1 ≤ count) (hmax : count ≤ if write then 4 else 16) (haddr : addr ≤ 1023)
  (hkyt : s.bays[b].identFlag 2 = true)
include hmin hmax haddr hkyt

omit h in
/-- A tag command of the owner for blocks that there can be is refused for a full queue only. -/
theorem firstRefusal_tagQueue (op : Nat) (lay : List Nat) :
    firstRefusal [ownPermit o 1 b.val (s.take o.court o.mbx op lay), rng 1 (b.val < 96), rng 2 (1 ≤ count && count ≤ (if write then 4 else 16)),
      rng 3 (addr ≤ 1023), need (atBay b.val true fun b => (s.take o.court o.mbx op lay).bays[b].identFlag 2) stBAD_STATE 0,
      need (atBay b.val true fun b => (s.take o.court o.mbx op lay).bays[b].ident.cmds.length < 4) stNO_RESOURCE 0] =
    need (s.bays[b].ident.cmds.length < 4) stNO_RESOURCE 0 := by
  rw [firstRefusal_owner h1 h2 hown, atBay_val, atBay_val, State.take_bays, hkyt, decide_eq_true hmin, decide_eq_true hmax, decide_eq_true haddr]
  cases decide (s.bays[b].ident.cmds.length < 4) <;> rfl

/-- A tag command waits behind those of its bay. -/
theorem tagQueue_waits (hroom : s.bays[b].ident.cmds.length < 4) (op tag : Nat) (data : List Byte) :
    tagQueue o op b.val count addr tag write data s =
      (s.take o.court o.mbx op (if write then [8, 8, 16, 16, 16] else [8, 24, 16, 16])).onIdentBoth b fun x => { x with
        cmds := x.cmds ++ [⟨o, write, count, addr, tag, data, s.now + 1, 0⟩] } := by
  refine (cardLater_run h _ _ _ _ ?_).trans (atBay_val ..)
  rw [firstRefusal_tagQueue h1 h2 hown hmin hmax haddr hkyt, need_none]
  exact decide_eq_true hroom

/-- A fifth tag command finds no resource. -/
theorem tagQueue_full (hfull : 4 ≤ s.bays[b].ident.cmds.length) (op tag : Nat) (data : List Byte) :
    tagQueue o op b.val count addr tag write data s =
      s.repliedNo o op stNO_RESOURCE 0 (if write then [8, 8, 16, 16, 16] else [8, 24, 16, 16]) := by
  refine cardLater_refuse h _ _ _ _ ?_
  rw [firstRefusal_tagQueue h1 h2 hown hmin hmax haddr hkyt, decide_eq_false (Nat.not_lt.mpr hfull)]
  rfl

end

end

/-- Settles O32: each command has a lemma that gives its next state. The checks for the owner and for the bay are gone through once
(`firstRefusal_owner`), a read and a write of a tag share one queue (`tagQueue_waits`, `tagQueue_full`), and what a card with a transfer leaves is
said once, by `cardBulk_sends`. -/
theorem identCards : Obligations.IdentCards := by
  unfold Obligations.IdentCards
  refine ⟨fun o s b h hc => execIdentStatus_reports h hc,
    fun o s b len apdu h h1 h2 hown hmin hmax hheld => execCardApdu_waits h h1 h2 hown hmin hmax hheld apdu,
    fun o s b len apdu h h1 h2 hown hmin hmax hcard => execCardApdu_noCard h h1 h2 hown hmin hmax hcard apdu,
    fun o s b h h1 h2 hown hheld => execCardRelease_waits h h1 h2 hown hheld,
    fun o s b h h1 h2 hown hkyt hfree => ?tagList,
    fun o s b count addr tag h h1 h2 hown hmin hmax haddr hkyt hroom => ?tagRead,
    fun o s b count addr tag data h h1 h2 hown hmin hmax haddr hkyt hroom => ?tagWrite,
    fun o s b count addr tag h h1 h2 hown hmin hmax haddr hkyt hfull => ?fifth⟩
  case tagList =>
    obtain ⟨honly, hopen, hrunning⟩ := cardTagList_sends h h1 h2 hown hkyt hfree
    exact ⟨_, rfl, honly.frame.1, hopen, hrunning, honly.frame.2⟩
  case tagRead => exact congrArg _ (tagQueue_waits (write := false) h h1 h2 hown hmin hmax haddr hkyt hroom _ tag [])
  case tagWrite => exact congrArg _ (tagQueue_waits (write := true) h h1 h2 hown hmin hmax haddr hkyt hroom _ tag data)
  case fifth => exact congrArg _ (tagQueue_full (write := false) h h1 h2 hown hmin hmax haddr hkyt hfull _ tag [])

end Sys2Proof.Machine

namespace Sys2Proof.Machine

/-! Protected switch channels (spec file 12). -/

/-! The rules of the operations on the channels of a bay: what each leaves of the state, and what of the bay. -/

section

variable (s : State) (b : BayId)

theorem onChans_bayOnly (f : Chans → Chans) : BayOnly b s (s.onChans b f) := onBay_bayOnly ..

theorem onChans_chans (f : Chans → Chans) : (s.onChans b f).bays[b].grp.chans = f s.bays[b].grp.chans :=
  congrArg (·.grp.chans) (onBay_bay s b _)

theorem onChans_session (f : Chans → Chans) : (s.onChans b f).bays[b].session = s.bays[b].session :=
  (congrArg Bay.session (onBay_bay s b _)).trans rfl

theorem onChans_staged (f : Chans → Chans) : (s.onChans b f).bays[b].staged = s.bays[b].staged :=
  (congrArg Bay.staged (onBay_bay s b _)).trans rfl

theorem stage_chans (off : Nat) (e : Ev) : (s.stage b off e).bays[b].grp.chans = s.bays[b].grp.chans :=
  (congrArg (·.grp.chans) (onBay_bay s b _)).trans rfl

/-! A change of the channels with an event of the auxiliary cell. -/

theorem onChans_stage_bayOnly (f : Chans → Chans) (e : Ev) : BayOnly b s ((s.onChans b f).stage b 8 e) :=
  (onChans_bayOnly s b f).trans (stage_bayOnly ..)

theorem onChans_stage_chans (f : Chans → Chans) (e : Ev) :
    ((s.onChans b f).stage b 8 e).bays[b].grp.chans = f s.bays[b].grp.chans :=
  (stage_chans ..).trans (onChans_chans ..)

theorem onChans_stage_staged (f : Chans → Chans) (e : Ev) : Staged b [(8, e)] s ((s.onChans b f).stage b 8 e) := by
  rw [Staged, stage_staged, onChans_staged]

variable (k : Fin 12)

theorem onChan_bayOnly (f : Chan → Chan) : BayOnly b s (s.onChan b k f) := onChans_bayOnly ..

theorem onChan_ch (f : Chan → Chan) :
    (s.onChan b k f).bays[b].grp.chans.ch = s.bays[b].grp.chans.ch.set k (f s.bays[b].grp.chans.ch[k]) :=
  congrArg Chans.ch (onChans_chans s b _)

theorem onChan_staged (f : Chan → Chan) : Staged b [] s (s.onChan b k f) := by
  rw [Staged, List.append_nil]
  exact onChans_staged ..

theorem onChan_event_ch (f : Chan → Chan) (kind data tick : Nat) :
    ((s.onChan b k f).chanEvent b kind data tick).bays[b].grp.chans.ch =
      s.bays[b].grp.chans.ch.set k (f s.bays[b].grp.chans.ch[k]) :=
  congrArg Chans.ch (onChans_stage_chans s b _ _)

theorem onChan_onChan (f g : Chan → Chan) : (s.onChan b k f).onChan b k g = s.onChan b k fun c => g (f c) := by
  simp only [State.onChan, State.onChans, State.onGrp, State.onBay, vmod_vmod]

end

/-! The rows of the auxiliary cell that judge channels, where their condition holds. -/

section

variable {s : State} {b : BayId} {k : Fin 12}

theorem execShortRetry_due {at_ : Nat} (hwait : (s.bays[b].grp.chans.ch[k]).fault = .shortWait at_)
    (hdue : at_ + 1000 * s.bays[b].ent 350 2 ≤ s.now) :
    execShortRetry b k s = .next (s.onChan b k fun c => { c with fault := .none, retries := c.retries + 1, resetLatch := true }) := by
  simp only [execShortRetry, hwait]
  exact congrArg _ (if_pos hdue)

theorem execRetryCountReset_clean (hclean : 10000000 ≤ (s.bays[b].grp.chans.ch[k]).onClean) :
    execRetryCountReset b k s = .next (s.onChan b k fun c => { c with retries := 0, onClean := 0 }) := congrArg _ (if_pos hclean)

theorem execOpenLoadDetect_low (hma : s.bays[b].ent 352 2 ≠ 0) (hflag : (s.bays[b].grp.chans.ch[k]).openFlag = false)
    (hon : (s.bays[b].grp.chans.ch[k]).st = 2) (hms : 0 < s.bays[b].ent 354 2)
    (hrun : 1000 * s.bays[b].ent 354 2 ≤ (s.bays[b].grp.chans.ch[k]).openRun) :
    execOpenLoadDetect b k s = .next ((s.onChan b k fun c => { c with openFlag := true, openClear := 0 }).chanEvent b 0x0803
      (k.val + 2 ^ 4) s.sampleTick) := congrArg _ (if_pos ⟨hma, by rw [hflag]; rfl, hon, hms, hrun⟩)

/-- The channels once their supply has been back long enough (R328): one in AUTO_RESTART goes on, another is not wanted any more. -/
def Chans.resupplied (c : Chans) (auto : Nat → Bool) : Chans := { c with
  uvOff := false, uvRun := 0,
  ch := Vector.ofFn fun k => if auto k.val then c.ch[k] else { c.ch[k] with want := false, blocked := true } }

theorem Chans.resupplied_ch (c : Chans) (auto : Nat → Bool) (k : Fin 12) :
    (c.resupplied auto).ch[k] = if auto k.val then c.ch[k] else { c.ch[k] with want := false, blocked := true } :=
  Vector.getElem_ofFn ..

theorem execUvRestart_due {at_ : Nat} (hok : s.bays[b].grp.chans.uvOkSince = some at_) (hoff : s.bays[b].grp.chans.uvOff = true)
    (hdue : at_ + 1000 * s.bays[b].ent 366 2 ≤ s.now) :
    ∃ data, execUvRestart b s = .next ((s.onChans b fun c => c.resupplied s.bays[b].autoRestart).chanEvent b 0x0806 data s.sampleTick) := by
  simp only [execUvRestart, hok]
  exact ⟨_, congrArg _ (if_pos ⟨hoff, hdue⟩)⟩

section

/-! A turn-off whose window is over and that is to be judged (R330): `x` and `e` are the currents at t+64 and at t+20,064. -/

variable {w : FreeWheel} {x e : Nat} (hfw : (s.bays[b].grp.chans.ch[k]).fw = some w) (hover : w.t + 20066 ≤ s.now)
  (hi0 : 4 * s.bays[b].ent 356 2 ≤ w.i0) (hmissing : w.missing ≤ 16) (hx : w.at64 = some x) (he : w.atEnd = some e)
include hfw hover hi0 hmissing hx he

theorem execFreewheelVerdict_ok (hfall : x < s.bays[b].ent 356 2) :
    execFreewheelVerdict b k s = .next (s.onChan b k fun c => { c with fw := none, noFw := false }) := by
  simp only [execFreewheelVerdict, hfw, hx, he]
  rw [if_neg (Nat.not_lt.mpr hover), if_neg (by omega), if_pos hfall, onChan_onChan]

theorem execFreewheelVerdict_stuck (hclamped : s.bays[b].ent 356 2 ≤ x) (hstuck : s.bays[b].ent 356 2 ≤ e) :
    execFreewheelVerdict b k s = .next ((s.onChan b k fun c => { c with fw := none, fault := .latched }).chanEvent b 0x0805
      (k.val + 2 ^ 16 * satN 16 e) (w.t + 20064)) := by
  simp only [execFreewheelVerdict, hfw, hx, he]
  rw [if_neg (Nat.not_lt.mpr hover), if_neg (by omega), if_neg (Nat.not_lt.mpr hclamped), if_neg (Nat.not_lt.mpr hstuck), onChan_onChan]

end

theorem execContactorLost_one (hclosed : s.bays[b].grp.chans.closed = true) (hcon : s.bays[b].conChans = [k])
    (hfail : 16 ≤ (s.bays[b].grp.chans.ch[k]).failRun) :
    execContactorLost b s = .next ((s.onChans b fun c => { c with closed := false, lost := 2 ^ k.val }).stage b 8
      ⟨96 + b.val, 0x080A, 2 ^ k.val, s.sampleTick⟩) := by
  have hbad : (s.bays[b].conChans.filter fun k => 16 ≤ (s.bays[b].grp.chans.ch[k]).failRun) = [k] := by
    rw [hcon, List.filter_singleton, decide_eq_true hfail]
    rfl
  unfold execContactorLost
  simp only [hbad, List.map_singleton, List.sum_singleton]
  exact congrArg _ (if_pos ⟨hclosed, rfl⟩)

/-- A session that is not in WELD_CHECK takes no verdict. -/
theorem sessWeld_other {t : State} (hst : t.bays[b].session.st ≠ .weldCheck) (v : Nat) : t.sessWeld b v = t := if_neg hst

/-- Without a weld check the verdict is UNTESTED (R332). -/
theorem execWeldBlock_untested {w : WeldCheck} (hweld : s.bays[b].grp.chans.weld = some w) (hmode : bitsOf (s.bays[b].ent 346 1) 1 2 = 0)
    (hdue : w.t + 50002 ≤ s.now) (hst : s.bays[b].session.st ≠ .weldCheck) :
    execWeldBlock b s = .next ((s.onChans b fun c => { c with weld := none, weldLast := 3, untested := bump 32 c.untested }).stage b 8
      ⟨b.val, 0x0808, 3, w.t + 50000⟩) := by
  simp only [execWeldBlock, hweld]
  refine congrArg _ ((if_pos hmode).trans ((if_pos hdue).trans (sessWeld_other ?_ 3)))
  rw [stage_session, onChans_session]
  exact hst

end

/-- Settles O34: each row has a lemma that gives its next state as a change of the channels, with the event it stages; what such a change
leaves of the state and of the bay is said once. -/
theorem switchChannels : Obligations.SwitchChannels := by
  unfold Obligations.SwitchChannels
  refine ⟨fun s b k at_ hwait hdue => ⟨_, execShortRetry_due hwait hdue, onChan_bayOnly .., onChan_ch ..⟩,
    fun s b k hclean => ⟨_, execRetryCountReset_clean hclean, onChan_bayOnly .., onChan_ch ..⟩,
    fun s b k hma hflag hon hms hrun => ⟨_, execOpenLoadDetect_low hma hflag hon hms hrun, onChans_stage_bayOnly .., onChan_event_ch ..,
      onChans_stage_staged ..⟩,
    fun s b at_ hok hoff hdue => ?supply,
    fun s b k w x e hfw hover hi0 hmissing hx he hfall => ⟨_, execFreewheelVerdict_ok hfw hover hi0 hmissing hx he hfall,
      onChan_bayOnly .., onChan_ch .., onChan_staged ..⟩,
    fun s b k w x e hfw hover hi0 hmissing hx he hclamped hstuck => ⟨_, execFreewheelVerdict_stuck hfw hover hi0 hmissing hx he hclamped hstuck,
      onChans_stage_bayOnly .., onChan_event_ch .., onChans_stage_staged ..⟩,
    fun s b k hclosed hcon hfail => ?lost, fun s b w hweld hmode hdue hst => ?weld⟩
  case supply =>
    obtain ⟨data, hrun⟩ := execUvRestart_due hok hoff hdue
    refine ⟨_, hrun, onChans_stage_bayOnly .., ?_⟩
    rw [State.chanEvent, onChans_stage_chans]
    refine ⟨rfl, rfl, fun k hauto => ?_, fun k hauto => ?_⟩
    · rw [Chans.resupplied_ch, if_pos hauto]
    · rw [Chans.resupplied_ch, if_neg (by rw [hauto]; decide)]
      exact ⟨rfl, rfl⟩
  case lost =>
    refine ⟨_, execContactorLost_one hclosed hcon hfail, onChans_stage_bayOnly .., ?_⟩
    rw [onChans_stage_chans]
    exact ⟨rfl, rfl, rfl, onChans_stage_staged ..⟩
  case weld =>
    refine ⟨_, execWeldBlock_untested hweld hmode hdue hst, onChans_stage_bayOnly .., ?_⟩
    rw [onChans_stage_chans]
    exact ⟨rfl, rfl, rfl, (stage_session ..).trans (onChans_session ..), onChans_stage_staged ..⟩

end Sys2Proof.Machine

namespace Sys2Proof.Machine

/-! The earth cell of a bay (spec file 13). -/

/-! Widths of event data. -/

theorem satN_lt (w x : Nat) : satN w x < 2 ^ w :=
  (Nat.min_le_right ..).trans_lt (Nat.sub_one_lt (Nat.two_pow_pos w).ne')

theorem ubits_lt (w : Nat) (x : Int) : ubits w x < 2 ^ w :=
  (Int.toNat_lt (Int.emod_nonneg _ (by exact_mod_cast (Nat.two_pow_pos w).ne'))).mpr
    (Int.emod_lt_of_pos _ (by exact_mod_cast Nat.two_pow_pos w))

/-! The rules of the operations on the earth cell of a bay: what each leaves of the state, and what of the bay. -/

section

variable (s : State) (b : BayId)

theorem onEarth_bayOnly (f : Earth → Earth) : BayOnly b s (s.onEarth b f) := onBay_bayOnly ..

theorem onEarth_earth (f : Earth → Earth) : (s.onEarth b f).bays[b].earth = f s.bays[b].earth :=
  congrArg Bay.earth (onBay_bay s b _)

theorem onEarth_staged (f : Earth → Earth) : Staged b [] s (s.onEarth b f) :=
  (congrArg Bay.staged (onBay_bay s b _)).trans (List.append_nil _).symm

theorem stage_earth (off : Nat) (e : Ev) : (s.stage b off e).bays[b].earth = s.bays[b].earth :=
  (congrArg Bay.earth (onBay_bay s b _)).trans rfl

theorem stage_earthLatch (off : Nat) (e : Ev) : (s.stage b off e).bays[b].earthLatch = s.bays[b].earthLatch :=
  (congrArg Bay.earthLatch (onBay_bay s b _)).trans rfl

/-! A change of the bay, or of its earth cell, with an event of the cell. -/

theorem onBay_stage_bayOnly (f : Bay → Bay) (e : Ev) : BayOnly b s ((s.onBay b f).stage b 7 e) :=
  (onBay_bayOnly ..).trans (stage_bayOnly ..)

theorem onBay_stage_staged {f : Bay → Bay} (hf : (f s.bays[b]).staged = s.bays[b].staged) (e : Ev) :
    Staged b [(7, e)] s ((s.onBay b f).stage b 7 e) := by
  rw [Staged, stage_staged, onBay_bay, hf]

theorem onEarth_stage_bayOnly (f : Earth → Earth) (e : Ev) : BayOnly b s ((s.onEarth b f).stage b 7 e) := onBay_stage_bayOnly ..

theorem onEarth_stage_earth (f : Earth → Earth) (e : Ev) : ((s.onEarth b f).stage b 7 e).bays[b].earth = f s.bays[b].earth :=
  (stage_earth ..).trans (onEarth_earth ..)

theorem onEarth_stage_staged (f : Earth → Earth) (e : Ev) : Staged b [(7, e)] s ((s.onEarth b f).stage b 7 e) :=
  onBay_stage_staged s b rfl e

/-- An event whose data fit its field is held as given. -/
theorem earthEvent_fits {data : Nat} (h : data < 2 ^ 32) (kind tick : Nat) :
    s.earthEvent b kind data tick = s.stage b 7 ⟨96 + b.val, kind, data, tick⟩ := by
  rw [State.earthEvent, Nat.mod_eq_of_lt h]

end

/-- Without an EARTH_TEST that waits there is none to answer (R362). -/
theorem earthTestDone_noWait {s : State} {b : BayId} (h : s.bays[b].earth.wait = none) : s.earthTestDone b = s := by
  simp only [State.earthTestDone, h]

theorem onEarth_stage_earthTestDone {s : State} {b : BayId} {f : Earth → Earth} (h : (f s.bays[b].earth).wait = none) (e : Ev) :
    ((s.onEarth b f).stage b 7 e).earthTestDone b = (s.onEarth b f).stage b 7 e :=
  earthTestDone_noWait ((congrArg Earth.wait (onEarth_stage_earth ..)).trans h)

/-! Causes (R355, R356). -/

/-- A release marks its cause and does nothing else. -/
theorem Earth.clear_eq (e : Earth) (c : Nat) :
    e.clear c = { e with cleared := if e.holds c then putBit e.cleared c true else e.cleared } := by
  unfold Earth.clear
  split <;> rfl

theorem Earth.cause_wait (e : Earth) (c : Nat) : (e.cause c).wait = e.wait := by
  unfold Earth.cause
  split <;> rfl

/-- Where no cause is recorded or counted, none holds. -/
theorem Earth.holds_untripped {e : Earth} (htrip : e.trip = 0) (hcounted : e.counted = 0) {c : Nat} (hc : c ≠ 0) : e.holds c = false := by
  have hrec : (0 == c) = false := beq_false_of_ne hc.symm
  simp [Earth.holds, htrip, hcounted, hrec, bitOf]

/-- The first cause is recorded, and the trip line is raised for it (R355, R356). -/
theorem Earth.cause_first {e : Earth} (htrip : e.trip = 0) (hcounted : e.counted = 0) {c : Nat} (hc : c ≠ 0) :
    e.cause c = { e with
      trip := c, cleared := putBit e.cleared c false, line := e.line ++ [c],
      insOk := e.insOk && c != 6, imdOk := e.imdOk && c != 7,
      rcTrips := if 1 ≤ c ∧ c ≤ 3 then bump 32 e.rcTrips else e.rcTrips,
      arcTrips := if c = 8 then bump 32 e.arcTrips else e.arcTrips } := by
  simp [Earth.cause, Earth.holds_untripped htrip hcounted hc, htrip]

/-! The verdict of a residual-current test (R346). -/

/-- Whether a test passes: its conditions held, and I_DC rose by 70 % to 130 % of what the winding is to give. -/
def RcTest.passes (x : RcTest) (exp : Nat) : Bool :=
  x.good && decide (((7 * exp : Nat) : Int) ≤ 10 * (x.after - x.before)) && decide (10 * (x.after - x.before) ≤ ((13 * exp : Nat) : Int))

/-- The test is over: its winding is off and its result stands, before the result is a cause or releases one. -/
def Earth.tested (e : Earth) (x : RcTest) (ch now result : Nat) : Earth := { e with
  test := none, rise := x.after - x.before, lastVerdict := now, lastTest := now, rcResult := result,
  wants := putBit e.wants ch false, wait := e.wait.map fun w => { w with rc := some result } }

/-- A test that passes releases cause 5, one that fails is cause 5. -/
def Earth.judged (e : Earth) (x : RcTest) (ch now : Nat) (pass : Bool) : Earth :=
  let ended := e.tested x ch now (if pass then 1 else 2)
  if pass then ended.clear 5 else ended.cause 5

theorem Earth.judged_wait {e : Earth} (h : e.wait = none) (x : RcTest) (ch now : Nat) (pass : Bool) : (e.judged x ch now pass).wait = none := by
  cases pass with
  | true => exact (congrArg Earth.wait (Earth.clear_eq ..)).trans (congrArg (Option.map _) h)
  | false => exact (Earth.cause_wait ..).trans (congrArg (Option.map _) h)

theorem Earth.judged_pass (e : Earth) (x : RcTest) (ch now : Nat) : ∃ cleared, e.judged x ch now true = { e.tested x ch now 1 with cleared } :=
  ⟨_, Earth.clear_eq ..⟩

theorem Earth.judged_fail {e : Earth} (htrip : e.trip = 0) (hcounted : e.counted = 0) (x : RcTest) (ch now : Nat) :
    ∃ cleared insOk imdOk, e.judged x ch now false = { e.tested x ch now 2 with trip := 5, line := e.line ++ [5], cleared, insOk, imdOk } :=
  ⟨_, _, _, Earth.cause_first (e := e.tested x ch now 2) (c := 5) htrip hcounted (by decide)⟩

/-- A self-test of the arc evaluation is over (R354), before its result is a cause or releases one. -/
def Earth.arcTested (e : Earth) (now result : Nat) : Earth := { e with
  arcTestDue := false, arcTestAt := now, lastTest := now, arcTests := bump 32 e.arcTests,
  wait := e.wait.map fun w => { w with arc := some result } }

/-! The rows of the cell, where their condition holds. -/

section

variable {s : State} {b : BayId}

theorem execRcTestStart_due (hen : s.bays[b].earthFlag 0 = true) (hnone : s.bays[b].earth.test = none) (hdue : s.bays[b].earth.testDue = true)
    (hoff : s.bays[b].conOnCk = false) (hnever : s.bays[b].earth.contactorOn = none) :
    execRcTestStart b s = .next (s.onEarth b fun e => { e with
      test := some ⟨s.now, e.iDc, e.iDc, true⟩, testDue := false, rcResult := 3, wants := putBit e.wants s.bays[b].rcTestCh true }) := by
  simp only [execRcTestStart, hnever]
  exact congrArg _ (if_pos ⟨hen, by rw [hnone]; rfl, by rw [hdue]; rfl, by rw [hoff]; rfl⟩)

theorem execRcTestEnd_over {x : RcTest} {pass : Bool} (htest : s.bays[b].earth.test = some x) (hwait : s.bays[b].earth.wait = none)
    (hover : x.start + 100003 ≤ s.now) (hpass : x.passes (s.bays[b].ent 410 2 * 100000) = pass) :
    execRcTestEnd b s = .next ((s.onEarth b fun e => e.judged x s.bays[b].rcTestCh s.now pass).stage b 7
      ⟨96 + b.val, 0x0905, (if pass then 1 else 2) + 2 ^ 16 * ubits 16 ((x.after - x.before) / 100000), s.now⟩) := by
  have hrise := ubits_lt 16 ((x.after - x.before) / 100000)
  have hdata : (if pass then 1 else 2) + 2 ^ 16 * ubits 16 ((x.after - x.before) / 100000) < 2 ^ 32 := by split <;> omega
  rw [← earthEvent_fits _ _ hdata]
  simp only [execRcTestEnd, htest]
  rw [if_neg (Nat.not_lt.mpr hover), ← RcTest.passes, hpass]
  exact congrArg _ (onEarth_stage_earthTestDone (Earth.judged_wait hwait x _ _ _) _)

theorem execRcTestOverdue_due (hen : s.bays[b].earthFlag 0 = true)
    (hdue : max s.bays[b].earth.lastVerdict s.bays[b].earth.overdueAt + 604800000000 ≤ s.now) :
    execRcTestOverdue b s = .next ((s.onEarth b fun e => { e with overdueAt := s.now }).stage b 7
      ⟨96 + b.val, 0x0906, satN 16 ((s.now - s.bays[b].earth.lastVerdict) / 86400000000), s.now⟩) := by
  rw [← earthEvent_fits _ _ ((satN_lt ..).trans (by decide))]
  exact congrArg _ (if_pos ⟨hen, hdue⟩)

theorem execImdHalfSwitch_start (ht : (s.now + 2) % 1000000 = 0) (hadmits : s.bays[b].imdAdmits = true) :
    execImdHalfSwitch b s = .next (s.onEarth b fun e => { e with
      wants := putBit (putBit e.wants s.bays[b].imdP true) s.bays[b].imdN false,
      imdLast := if e.cycle.isSome then e.cycle else e.imdLast,
      cycle := some ⟨s.now + 2, true, true, ImdHalf.zero, ImdHalf.zero⟩ }) := by
  simp only [execImdHalfSwitch, if_pos ht, hadmits, if_true]

theorem execImdHalfSwitch_middle (ht : (s.now + 2) % 1000000 = 500000) :
    execImdHalfSwitch b s = .next (s.onEarth b fun e =>
      if e.cycle.isSome then { e with wants := putBit (putBit e.wants s.bays[b].imdP false) s.bays[b].imdN true } else e) := by
  have hstart : (s.now + 2) % 1000000 ≠ 0 := by omega
  have hhalf : (s.now + 2) % 500000 = 0 := by omega
  exact congrArg _ ((if_neg hstart).trans (if_pos hhalf))

/-- A lost admission comes first among the reasons (R349). -/
theorem imdReason_unadmitted {c : ImdCycle} (h : c.admitted = false) (y : Bay) (ua ub p n p' n' den : Int) :
    y.imdReason c ua ub p n p' n' den = 1 := if_pos (by rw [h]; rfl)

theorem execImdCycleEnd_unadmitted {c : ImdCycle} (hlast : s.bays[b].earth.imdLast = some c) (hover : c.t + 1000001 ≤ s.now)
    (hlost : c.admitted = false) (hvalid : s.bays[b].earth.wasValid = true) :
    execImdCycleEnd b s = .next ((s.onEarth b fun e => { e with
      imdLast := none, lastInvalid := 1, insInvalid := bump 32 e.insInvalid, wasValid := false, badResults := 0, lastResult := s.now }).stage b 7
      ⟨96 + b.val, 0x0904, 1, s.sampleTick⟩) := by
  simp only [execImdCycleEnd, hlast]
  rw [if_neg (Nat.not_lt.mpr hover), imdReason_unadmitted hlost, if_pos Nat.one_ne_zero]
  exact congrArg _ (if_pos hvalid)

theorem execArcSpectrum_first (hen : s.bays[b].earthFlag 2 = true) (ht : s.now % 100 = 1 ∨ s.now % 100 = 2) (hbase : s.bays[b].earth.base = [])
    (power : List Nat) (mag : Nat) :
    execArcSpectrum b power mag s = .next (s.onEarth b fun e => { e with
      base := (List.range s.bays[b].arcBins.length).map (fun i => power.getD i 0), hot := 0 }) :=
  congrArg _ ((if_neg (not_or.mpr ⟨by rw [hen]; decide, not_not_intro ht⟩)).trans (if_pos (by rw [hbase]; rfl)))

theorem execArcSelftest_failed (hen : s.bays[b].earthFlag 2 = true) (hdue : s.bays[b].earth.arcTestDue = true) (hwait : s.bays[b].earth.wait = none) :
    execArcSelftest b false s = .next ((s.onEarth b fun e => (e.arcTested s.now 2).cause 10).stage b 7 ⟨96 + b.val, 0x0907, 2, s.now⟩) := by
  have hfree : ((s.bays[b].earth.arcTested s.now 2).cause 10).wait = none := (Earth.cause_wait ..).trans (congrArg (Option.map _) hwait)
  exact congrArg _ ((if_pos ⟨hen, .inl hdue⟩).trans (onEarth_stage_earthTestDone hfree _))

theorem execEarthTrip_decided (hline : s.bays[b].earth.line ≠ []) :
    execEarthTrip b s = .next ((s.onBay b fun y => { y with earthLatch := true, earth := { y.earth with line := [] } }).stage b 7
      ⟨96 + b.val, 0x0901, (s.bays[b].earth.trip + 2 ^ 8 * s.bays[b].earth.counted) % 2 ^ 32, s.now⟩) :=
  congrArg _ (if_neg (by simpa using hline))

end

/-- Settles O36: each row has a lemma that gives its next state as a change of the earth cell, with the event it stages; what such a change
leaves of the state and of the bay is said once. -/
theorem earthCell : Obligations.EarthCell := by
  unfold Obligations.EarthCell
  refine ⟨fun s b hen hnone hdue hoff hnever => ⟨_, execRcTestStart_due hen hnone hdue hoff hnever, onEarth_bayOnly .., onEarth_staged ..,
      onEarth_earth ..⟩,
    fun s b x htest hwait hover hgood hlow hhigh => ?passed,
    fun s b x htest hwait hover hbad htrip hcounted => ?failed,
    fun s b hen hdue => ⟨_, execRcTestOverdue_due hen hdue, onEarth_stage_bayOnly .., onEarth_stage_earth .., onEarth_stage_staged ..⟩,
    fun s b ht hadmits hnone => ⟨_, execImdHalfSwitch_start ht hadmits, onEarth_bayOnly .., onEarth_staged .., ?start⟩,
    fun s b c ht hcycle => ⟨_, execImdHalfSwitch_middle ht, onEarth_bayOnly .., onEarth_staged .., ?middle⟩,
    fun s b c hlast hover hlost hvalid => ⟨_, execImdCycleEnd_unadmitted hlast hover hlost hvalid, onEarth_stage_bayOnly ..,
      onEarth_stage_earth .., onEarth_stage_staged ..⟩,
    fun s b power mag hen ht hbase => ⟨_, execArcSpectrum_first hen ht hbase power mag, onEarth_bayOnly .., onEarth_staged .., onEarth_earth ..⟩,
    fun s b hen hdue hwait htrip hcounted => ⟨_, execArcSelftest_failed hen hdue hwait, onEarth_stage_bayOnly .., ?selftest⟩,
    fun s b hline => ⟨_, execEarthTrip_decided hline, onBay_stage_bayOnly .., ?trip⟩⟩
  case passed =>
    have hpass : x.passes (s.bays[b].ent 410 2 * 100000) = true := by
      rw [RcTest.passes, hgood, decide_eq_true hlow, decide_eq_true hhigh]
      rfl
    obtain ⟨cleared, hearth⟩ := s.bays[b].earth.judged_pass x s.bays[b].rcTestCh s.now
    refine ⟨_, execRcTestEnd_over htest hwait hover hpass, onEarth_stage_bayOnly .., ?_⟩
    rw [onEarth_stage_earth, hearth]
    exact ⟨rfl, rfl, rfl, rfl, rfl, onEarth_stage_staged ..⟩
  case failed =>
    have hfail : x.passes (s.bays[b].ent 410 2 * 100000) = false := by
      rw [RcTest.passes, hbad]
      rfl
    obtain ⟨cleared, insOk, imdOk, hearth⟩ := Earth.judged_fail htrip hcounted x s.bays[b].rcTestCh s.now
    refine ⟨_, execRcTestEnd_over htest hwait hover hfail, onEarth_stage_bayOnly .., ?_⟩
    rw [onEarth_stage_earth, hearth]
    exact ⟨rfl, rfl, rfl, rfl⟩
  case start => rw [onEarth_earth, hnone]; rfl
  case middle => exact (onEarth_earth ..).trans (if_pos (by rw [hcycle]; rfl))
  case selftest =>
    rw [onEarth_stage_earth, Earth.cause_first (e := s.bays[b].earth.arcTested s.now 2) htrip hcounted (by decide)]
    exact ⟨rfl, rfl, rfl, onEarth_stage_staged ..⟩
  case trip =>
    rw [stage_earthLatch, stage_earth, onBay_bay]
    exact ⟨rfl, rfl, onBay_stage_staged s b rfl _⟩

end Sys2Proof.Machine

namespace Sys2Proof.Machine

/-! Counting of energy (spec files 14 and 15). -/

namespace LegalTouch

theorem bays_eq {s t : State} (h : LegalTouch s t) : t.bays = s.bays := by
  obtain ⟨l, es, rfl⟩ := h
  rfl

theorem onRegs {s t : State} (h : LegalTouch s t) (f : LegalRegs → LegalRegs) : LegalTouch s (t.onRegs f) := h.onLegal _

end LegalTouch

/-! The registers of the meters (R399), and the operations of the legal court that leave their energies. -/

/-- The registers of a meter that energy records move: its energies and its import by tariff. -/
def State.energies (s : State) (m : Fin 97) : Vector Nat 8 × Vector Nat 8 := (s.legal.regs.meters[m].energy, s.legal.regs.meters[m].impT)

/-- The legal court differs at most, and the events raised, but the energies stay. -/
structure EnergyKept (s t : State) : Prop where
  touch : LegalTouch s t
  energies : ∀ m, t.energies m = s.energies m

namespace EnergyKept

variable {s t u : State}

theorem refl (s : State) : EnergyKept s s := ⟨.refl s, fun _ => rfl⟩

theorem trans (h : EnergyKept s t) (k : EnergyKept t u) : EnergyKept s u :=
  ⟨h.touch.trans k.touch, fun m => (k.energies m).trans (h.energies m)⟩

theorem ite {c : Prop} [Decidable c] (h : EnergyKept s t) (k : EnergyKept s u) : EnergyKept s (if c then t else u) := by
  split
  · exact h
  · exact k

theorem setLegal (h : EnergyKept s t) {l : Legal} (hl : l.regs.meters = t.legal.regs.meters) : EnergyKept s { t with legal := l } :=
  ⟨h.touch.setLegal l, fun m => .trans (by simp only [State.energies, hl]) (h.energies m)⟩

theorem onLegal (h : EnergyKept s t) {f : Legal → Legal} (hf : ∀ l, (f l).regs.meters = l.regs.meters := by intros; rfl) :
    EnergyKept s (t.onLegal f) := h.setLegal (hf _)

/-- A change of one meter block that leaves its energies. -/
theorem onRegs (h : EnergyKept s t) (m : Fin 97) {f : LegalMeter → LegalMeter} (hf : ∀ x, ((f x).energy, (f x).impT) = (x.energy, x.impT)) :
    EnergyKept s (t.onRegs fun r => r.onMeter m f) :=
  ⟨h.touch.onRegs _, fun i => .trans (vmod_keeps (g := fun x : LegalMeter => (x.energy, x.impT)) hf ..) (h.energies i)⟩

theorem raise (h : EnergyKept s t) (e : Ev) : EnergyKept s (t.raise e) := ⟨h.touch.raise e, h.energies⟩

theorem wrapCheck (h : EnergyKept s t) : EnergyKept s t.wrapCheck := .ite (h.onLegal.raise _) h

theorem log (h : EnergyKept s t) (tick kind bay data : Nat) (given : Option (Nat × Nat × Bool × Bool)) :
    EnergyKept s (t.log tick kind bay data given) := by
  refine .ite (.wrapCheck (h.setLegal ?_)) (.ite (h.setLegal rfl) (.wrapCheck (h.setLegal rfl)))
  split <;> rfl

theorem tamper (h : EnergyKept s t) (kind : Fin 16) (bay detail : Nat) (rtc : Option Nat) : EnergyKept s (t.tamper kind bay detail rtc) := by
  unfold State.tamper
  extract_lets l x utc x' wait recent quiet s1 s2 s3
  have h1 : EnergyKept s s1 := h.onLegal
  have h2 : EnergyKept s s2 := .ite h1 (h1.log ..).onLegal
  cases quiet
  · exact h2.onLegal.raise _
  · exact h2

/-- A demand is formed from the energies and leaves them (R405). -/
theorem formDemand (h : EnergyKept s t) (m : Fin 97) : EnergyKept s (t.formDemand m) := by
  unfold State.formDemand
  extract_lets l s1 old event
  have h1 : EnergyKept s s1 := h.onLegal
  refine .ite h ?_
  split
  · exact h1
  · split
    refine .ite h1 ?_
    extract_lets utc s2 s3
    have h2 : EnergyKept s s2 := h1.onRegs m fun _ => rfl
    have hevent : ∀ {v}, EnergyKept s v → ∀ dir w, EnergyKept s (event v dir w) := fun hv _ _ => .ite (hv.raise _) hv
    have h3 : EnergyKept s s3 := .ite (hevent h2 ..) h2
    exact .ite (hevent h3 ..) h3

end EnergyKept

/-! What metering in a bay rests on, and the operations of the meter cell that leave it as it is. -/

/-- What decides the next index of a meter cell and what it has committed: the samples and the table, the last present sample, the place in
the schedule, the records not yet taken, and the energies that no record holds yet. -/
structure Tally where
  metro : List MetroSample
  cal : Option CalTable
  last : Option MetroSample
  next : Nat
  records : List EnergyRec
  lost : Bool
  accImp : Int
  accExp : Int

/-- The tally of a bay with a given meter cell. -/
def Bay.tallyOf (y : Bay) (m : MeterCell) : Tally := ⟨y.metro, y.cal, m.last, m.next, m.records, m.lost, m.accImp, m.accExp⟩

/-- The tally of a bay. -/
def State.tally (s : State) (b : BayId) : Tally := s.bays[b].tallyOf s.bays[b].meter

/-- The tally of a bay stays. -/
def TallyKept (b : BayId) (s t : State) : Prop := t.tally b = s.tally b

theorem onMeter_bay (s : State) (b : BayId) (f : MeterCell → MeterCell) :
    (s.onMeter b f).bays[b] = { s.bays[b] with meter := f s.bays[b].meter } := onBay_bay ..

theorem onMeter_tally (s : State) (b : BayId) (f : MeterCell → MeterCell) :
    (s.onMeter b f).tally b = s.bays[b].tallyOf (f s.bays[b].meter) := by
  rw [State.tally, onMeter_bay]
  rfl

theorem meterGap_legalTouch (s : State) (b : BayId) (first n : Nat) : LegalTouch s (s.meterGap b first n) := by
  unfold State.meterGap
  extract_lets s1
  have h1 : LegalTouch s s1 := (LegalTouch.refl s).onRegs _
  exact (h1.log ..).tamper ..

namespace TallyKept

variable {b : BayId} {s t u : State}

theorem refl (b : BayId) (s : State) : TallyKept b s s := rfl

theorem trans (h : TallyKept b s t) (k : TallyKept b t u) : TallyKept b s u := Eq.trans k h

theorem ite {c : Prop} [Decidable c] (h : TallyKept b s t) (k : TallyKept b s u) : TallyKept b s (if c then t else u) := by
  split
  · exact h
  · exact k

theorem foldl {α : Type} {f : State → α → State} (hf : ∀ t x, TallyKept b t (f t x)) (h : TallyKept b s t) (l : List α) :
    TallyKept b s (l.foldl f t) := by
  induction l generalizing t with
  | nil => exact h
  | cons x l ih => exact ih (h.trans (hf t x))

theorem of_legalTouch (h : LegalTouch s t) : TallyKept b s t := by
  rw [TallyKept, State.tally, h.bays_eq]
  rfl

theorem onMeter (h : TallyKept b s t) {f : MeterCell → MeterCell}
    (hf : ∀ y m, Bay.tallyOf y (f m) = y.tallyOf m := by intros; simp only [Bay.tallyOf]) : TallyKept b s (t.onMeter b f) :=
  h.trans ((onMeter_tally ..).trans (hf ..))

theorem stage (h : TallyKept b s t) (off : Nat) (e : Ev) : TallyKept b s (t.stage b off e) :=
  h.trans ((congrArg (fun y : Bay => y.tallyOf y.meter) (onBay_bay t b _)).trans rfl)

theorem onBall (h : TallyKept b s t) (i : Fin 8) (f : PulseOut → PulseOut) : TallyKept b s (t.onBall i f) := h

theorem drawnN (h : TallyKept b s t) (n : Nat) : TallyKept b s (t.drawnN n) := h

/-- The end of a run of lost indices is told to the legal court. -/
theorem lostRunEnd (s : State) (b : BayId) : TallyKept b s (s.lostRunEnd b) :=
  .ite (((refl b s).stage ..).trans (of_legalTouch (meterGap_legalTouch ..))) (refl b s)

theorem substEvent (s : State) (b : BayId) (stamp : Nat) : TallyKept b s (s.substEvent b stamp) :=
  .ite ((refl b s).onMeter.stage ..) (refl b s)

theorem closeWindow (s : State) (b : BayId) (last gen : Nat) : TallyKept b s (s.closeWindow b last gen) := by
  unfold State.closeWindow
  extract_lets y m w
  split
  · exact (refl b s).onMeter
  · refine .ite (refl b s).onMeter ?_
    extract_lets
    split
    extract_lets s1 s2
    have h1 : TallyKept b s s1 := (refl b s).onMeter
    have h2 : TallyKept b s s2 := .ite (h1.drawnN _) h1
    exact .ite (h2.stage ..) h2

/-- Energy goes to the balls of the bay, one after the other, and then to its test LED (R382, R385). -/
theorem feedPulses (s : State) (b : BayId) (imp exp : Int) (t : Nat) : TallyKept b s (s.feedPulses b imp exp t) := by
  unfold State.feedPulses
  extract_lets pick s1 y p p' r
  have h1 : TallyKept b s s1 := by
    refine foldl (fun u i => ?_) (refl b s) _
    extract_lets p r
    refine .ite (foldl (fun v e => ?_) ((refl b u).onBall ..) _) (refl b u)
    exact (refl b v).stage ..
  refine .ite (foldl (fun v e => ?_) h1.onMeter _) h1
  exact (refl b v).stage ..

end TallyKept

/-- A bay whose meter has a state and a reason, with what its meter reports. -/
def Bay.metered (y : Bay) (w : MeterSt × Nat) (ck : MeterCell) : Bay := { y with
  meter := { y.meter with st := w.1, reason := w.2 }, meterCk := ck }

/-- A meter brought up to date has the state and the reason that the bay's conditions give (R378). Beside the bay only the legal court,
without the energies, and the events raised may differ. -/
theorem meterRefresh_eq (s : State) (b : BayId) : ∃ ck, ck.records = s.bays[b].meterCk.records ∧
    EnergyKept { s with bays := s.bays.set b (s.bays[b].metered (s.meterWant b) ck) } (s.meterRefresh b) := by
  unfold State.meterRefresh
  extract_lets m w s1 s2
  split
  next h =>
    obtain ⟨hst, hreason⟩ := h
    have hself : s.bays[b].metered w s.bays[b].meterCk = s.bays[b] := by
      rw [Bay.metered, ← hst, ← hreason]
    refine ⟨s.bays[b].meterCk, rfl, ?_⟩
    rw [hself]
    simpa using EnergyKept.refl s
  next =>
    have h1 : EnergyKept { s with bays := s.bays.set b (s.bays[b].metered w { s.bays[b].meterCk with st := w.1, reason := w.2 }) } s1 := .refl s1
    have h2 : EnergyKept s1 s2 := .ite (.refl s1) ((EnergyKept.refl s1).raise _)
    exact ⟨{ s.bays[b].meterCk with st := w.1, reason := w.2 }, rfl, h1.trans (.ite (h2.tamper ..) h2)⟩

theorem meterRefresh_meter (s : State) (b : BayId) : (s.meterRefresh b).bays[b].meter =
    { s.bays[b].meter with st := (s.meterWant b).1, reason := (s.meterWant b).2 } := by
  obtain ⟨ck, -, h⟩ := meterRefresh_eq s b
  simp [h.touch.bays_eq, Bay.metered]

theorem meterRefresh_records (s : State) (b : BayId) : (s.meterRefresh b).bays[b].meterCk.records = s.bays[b].meterCk.records := by
  obtain ⟨ck, hck, h⟩ := meterRefresh_eq s b
  simpa [h.touch.bays_eq, Bay.metered] using hck

theorem meterRefresh_energies (s : State) (b : BayId) (m : Fin 97) : (s.meterRefresh b).energies m = s.energies m := by
  obtain ⟨ck, -, h⟩ := meterRefresh_eq s b
  exact h.energies m

theorem TallyKept.meterRefresh {b : BayId} {s t : State} (h : TallyKept b s t) : TallyKept b s (t.meterRefresh b) := by
  obtain ⟨ck, -, hm⟩ := meterRefresh_eq t b
  refine h.trans (.trans ?_ (of_legalTouch hm.touch))
  simp [TallyKept, State.tally, Bay.tallyOf, Bay.metered]

/-! The record of an index (R376). -/

/-- The meter cell has taken index `k`: its record is committed, and the next index is due after it. -/
def Takes (b : BayId) (k : Nat) (s t : State) : Prop :=
  (t.tally b).next = k + 1 ∧ ∃ r, (t.tally b).records = (s.tally b).records ++ [r] ∧ r.stamp = 16 * k

/-- Only the records taken before count. -/
theorem Takes.of_records {b : BayId} {k : Nat} {s t u : State} (h : Takes b k t u) (hrecords : (t.tally b).records = (s.tally b).records) :
    Takes b k s u := by
  rw [Takes, ← hrecords]
  exact h

theorem Takes.trans_kept {b : BayId} {k : Nat} {s t u : State} (h : Takes b k s t) (hu : TallyKept b t u) : Takes b k s u := by
  rw [Takes, hu]
  exact h

theorem emitRecord_commits (s : State) (b : BayId) (k flags gen : Nat) (closed lost : Bool) : ∃ r ai ae,
    (s.emitRecord b k flags gen closed lost).tally b =
      { s.tally b with records := (s.tally b).records ++ [r], accImp := ai, accExp := ae } ∧
    r.stamp = 16 * k ∧ (lost = true → r.whImp = 0 ∧ r.whExp = 0 ∧ ai = (s.tally b).accImp ∧ ae = (s.tally b).accExp) := by
  refine ⟨_, _, _, onMeter_tally .., rfl, ?_⟩
  rintro rfl
  exact ⟨rfl, rfl, rfl, rfl⟩

theorem addEnergy_records (m : MeterCell) (imp : Bool) (e : Int) : (m.addEnergy imp e).1.records = m.records := by
  unfold MeterCell.addEnergy
  cases imp <;> cases m.import_ <;> rfl

/-- What leaves the records and goes past an index takes it by committing its record. -/
theorem emitRecord_takes {b : BayId} {k : Nat} {s u : State} (hnext : (u.tally b).next = k + 1) (hrecords : (u.tally b).records = (s.tally b).records)
    (flags gen : Nat) (closed lost : Bool) : Takes b k s (u.emitRecord b k flags gen closed lost) := by
  obtain ⟨r, ai, ae, h, hstamp, -⟩ := emitRecord_commits u b k flags gen closed lost
  rw [Takes, h, ← hrecords]
  exact ⟨hnext, r, rfl, hstamp⟩

theorem process_takes (s : State) (b : BayId) (k gen flags : Nat) (temp : Option Int) (replay : Bool) :
    Takes b k s (s.process b k gen flags temp replay) := by
  unfold State.process
  extract_lets y mode x noFreq
  split
  next prod p _ =>
  extract_lets e imp
  split
  next m1 ri re hadd =>
  have hm1 : m1.records = y.meter.records := (congrArg (·.1.records) hadd).symm.trans (addEnergy_records ..)
  split
  next ends cross _ =>
  extract_lets win s1 s2 s3
  have h1 : TallyKept b (s.onMeter b _) s1 := (TallyKept.refl ..).drawnN _
  have h3 : TallyKept b s1 s3 := by
    have h2 : TallyKept b s1 s2 := .meterRefresh (.feedPulses ..)
    exact .ite (h2.trans (.closeWindow ..)) h2
  refine emitRecord_takes ?_ ?_ ..
  · rw [h3, h1, onMeter_tally]
    rfl
  · rw [h3, h1, onMeter_tally]
    exact hm1

theorem present?_of_tally {b : BayId} {s t : State} (h : TallyKept b s t) (k : Nat) : t.bays[b].present? k = s.bays[b].present? k := by
  have hmetro : t.bays[b].metro = s.bays[b].metro := congrArg Tally.metro h
  have hcal : t.bays[b].cal = s.bays[b].cal := congrArg Tally.cal h
  simp only [Bay.present?, Bay.calGet, hmetro, hcal]

/-- The tally once index `k` is lost, before its record (R366). -/
def Tally.skip (x : Tally) (k : Nat) : Tally := { x with next := k + 1, lost := true }

/-- An index is lost, or it is processed with its own sample or with the last one (R366). -/
theorem meterIndex_cases (s : State) (b : BayId) (k : Nat) :
    (∃ (u : State) (flags gen : Nat), u.tally b = (s.tally b).skip k ∧ s.meterIndex b k = u.emitRecord b k flags gen false true) ∨
    ((s.bays[b].present? k ≠ none ∨ s.bays[b].meter.last ≠ none) ∧ Takes b k s (s.meterIndex b k)) := by
  unfold State.meterIndex
  extract_lets y0 stamp gen newGen s' s0 y replay rf miss lost subst present
  have h' : TallyKept b s s' := .ite (.closeWindow ..) (.refl b s)
  have h0 : TallyKept b s s0 := h'.onMeter
  split
  next hsample =>
    split
    next hlost =>
      have hmeter : TallyKept b (s0.onMeter b _) lost := .meterRefresh (.refl ..)
      refine .inl ⟨lost, _, _, Eq.trans hmeter ?_, rfl⟩
      rw [onMeter_tally, ← h0]
      rfl
    next hlast =>
      refine .inr ⟨.inr fun hnone => hlast ?_, ?_⟩
      · have hnone0 : y.meter.last = none := (congrArg Tally.last h0).trans hnone
        rw [hnone0, Option.isNone_none, Bool.or_true]
      · have hu : TallyKept b s subst := h0.onMeter
        exact ((process_takes ..).of_records (congrArg Tally.records hu)).trans_kept (.substEvent ..)
  next smp hsample =>
    extract_lets counted
    have hpresent : TallyKept b s present := h0.trans (.lostRunEnd ..)
    refine .inr ⟨.inl fun hnone => ?_, (process_takes ..).of_records ?_⟩
    · rw [present?_of_tally h0, hnone] at hsample
      cases hsample
    · rw [onMeter_tally, ← hpresent]
      rfl

theorem meterIndex_takes (s : State) (b : BayId) (k : Nat) : Takes b k s (s.meterIndex b k) := by
  rcases meterIndex_cases s b k with ⟨u, flags, gen, hu, hrun⟩ | ⟨-, h⟩
  · rw [hrun]
    exact emitRecord_takes (by rw [hu]; rfl) (by rw [hu]; rfl) ..
  · exact h

/-- An index of which nothing is present and before which nothing was is lost: its record has no energy (R366, R376). -/
theorem meterIndex_lost {s : State} {b : BayId} {k : Nat} (hpresent : s.bays[b].present? k = none) (hlast : s.bays[b].meter.last = none) :
    ∃ r, (s.meterIndex b k).tally b = { (s.tally b).skip k with records := (s.tally b).records ++ [r] } ∧ r.whImp = 0 ∧ r.whExp = 0 := by
  rcases meterIndex_cases s b k with ⟨u, flags, gen, hu, hrun⟩ | ⟨h | h, -⟩
  · obtain ⟨r, ai, ae, htally, -, hlost⟩ := emitRecord_commits u b k flags gen false true
    obtain ⟨himp, hexp, rfl, rfl⟩ := hlost rfl
    refine ⟨r, ?_, himp, hexp⟩
    rw [hrun, htally, hu]
    rfl
  · exact absurd hpresent h
  · exact absurd hlast h

theorem execMeterIndex_due {s : State} {b : BayId} (hoff : s.bays[b].meterOff = false) (hdue : 16 * s.bays[b].meter.next + 258 ≤ s.now) :
    execMeterIndex b s = .next (s.meterIndex b s.bays[b].meter.next) :=
  congrArg _ ((if_neg (by rw [hoff]; decide)).trans (if_pos hdue))

/-! A meter cell that is late (R378). -/

/-- Only NOT_VERIFIED with HEAD_MISMATCH is a tamper (R411). -/
theorem meterRefresh_legal {s : State} {b : BayId} (h : s.meterWant b ≠ (.notVerified, 4)) : (s.meterRefresh b).legal = s.legal := by
  unfold State.meterRefresh
  extract_lets m w s1 s2
  have h2 : s2.legal = s.legal := (apply_ite State.legal ..).trans (ite_self _)
  rw [if_neg (show w ≠ _ from h)]
  split
  · rfl
  · exact h2

/-- Where nothing of higher precedence stands against counting, a late cell suspends its meter (R378). -/
theorem meterWant_cell {s : State} {b : BayId} (hoff : s.bays[b].meterOff = false) (hverified : s.unverified s.bays[b] = 0)
    (hserving : s.bays[b].serving = true) (hlost : s.bays[b].meter.lost = false) (hlate : s.legal.cellLate.getLsbD b.val = true) :
    s.meterWant b = (.suspended, 18) := by
  simp only [State.meterWant, hoff, hverified, hserving, hlost, hlate, Bool.false_eq_true, if_false, ne_eq, not_true_eq_false, Bool.not_true, if_true]

theorem getLsbD_or_twoPow (x : BitVec 96) (b : BayId) : (x ||| BitVec.ofNat 96 (2 ^ b.val)).getLsbD b.val = true := by
  simp only [BitVec.getLsbD_or, BitVec.getLsbD_ofNat, b.isLt, decide_true, Nat.testBit_two_pow_self, Bool.and_true, Bool.or_true]

theorem execMeterCellTimeout_late {s : State} {b : BayId} (hlate : s.legal.lastRecord[b] + 32 ≤ s.now) (hoff : s.bays[b].meterOff = false) :
    execMeterCellTimeout b s =
      .next ((s.onLegal fun l => { l with cellLate := l.cellLate ||| BitVec.ofNat 96 (2 ^ b.val) }).meterRefresh b) :=
  congrArg _ (if_pos (by rw [hoff, decide_eq_true hlate]; rfl))

/-! Pulses (R383, R384, R386). -/

theorem PulseOut.start_due {p : PulseOut} {at_ now : Nat} {q : List Nat} (hq : p.queue = at_ :: q) (hat : at_ ≤ now) (hlevel : p.level = false)
    (hgap : p.gapUntil ≤ now) : p.start now = { p with
      queue := q, level := true, until_ := now + p.width, gapUntil := now + 2 * p.width, late := (p.start now).late } := by
  simp [PulseOut.start, hq, hat, hlevel, hgap]

theorem PulseOut.start_early {p : PulseOut} {at_ now : Nat} {q : List Nat} (hq : p.queue = at_ :: q) (hat : now < at_) : p.start now = p := by
  simp [PulseOut.start, hq, Nat.not_le.mpr hat]

theorem PulseOut.stop_over {p : PulseOut} {now : Nat} (hlevel : p.level = true) (hover : p.until_ ≤ now) :
    p.stop now = { p with level := false } := if_pos (by rw [hlevel, decide_eq_true hover]; rfl)

theorem onBall_ball (s : State) (i : Fin 8) (f : PulseOut → PulseOut) : (s.onBall i f).pulses.balls[i] = f s.pulses.balls[i] := vmod_same ..

/-- Nothing but one pulse ball differs. -/
theorem onBall_frame (s : State) (i : Fin 8) (f : PulseOut → PulseOut) : s.onBall i f =
    { s with pulses := { s.pulses with balls := s.pulses.balls.set i (s.onBall i f).pulses.balls[i] } } := by
  rw [onBall_ball]
  rfl

/-- A change that leaves the bay as it is changes nothing. -/
theorem onBay_self {s : State} {b : BayId} {f : Bay → Bay} (h : f s.bays[b] = s.bays[b]) : s.onBay b f = s := by
  simp only [State.onBay, vmod, h]
  simp

theorem onMeter_self {s : State} {b : BayId} {f : MeterCell → MeterCell} (h : f s.bays[b].meter = s.bays[b].meter) : s.onMeter b f = s :=
  onBay_self (by rw [h])

theorem execS0Pulse_long {s : State} {i : Fin 8} {idle on : Nat} (hset : s.pulses.s0[i].set = true) (hon : 1000 * s.pulses.s0[i].minMs ≤ on)
    (hidle : 1000 * s.pulses.s0[i].minMs ≤ idle) :
    execS0Pulse i idle on s = .next { s with pulses := { s.pulses with s0 := s.pulses.s0.set i { s.pulses.s0[i] with
      count := (s.pulses.s0[i].count + 1) % 2 ^ 64, lastTick := s.now } } } := by
  simp only [execS0Pulse, hset, if_neg (Nat.not_lt.mpr hon), if_pos hidle]
  rfl

theorem execS0Pulse_short {s : State} {i : Fin 8} {on : Nat} (hset : s.pulses.s0[i].set = true) (hon : on < 1000 * s.pulses.s0[i].minMs)
    (idle : Nat) : execS0Pulse i idle on s = .next { s with pulses := { s.pulses with s0 := s.pulses.s0.set i { s.pulses.s0[i] with
      short := bump 32 s.pulses.s0[i].short } } } := by
  simp only [execS0Pulse, hset, if_pos hon]
  rfl

/-! Energy records in the legal court (R400). -/

/-- The energies of a meter after a record. -/
def addRecord (e : Vector Nat 8) (r : EnergyRec) : Vector Nat 8 :=
  #v[add72 e[0] r.whImp, add72 e[1] r.whExp, add72 e[2] (r.varh.getD 0 0), add72 e[3] (r.varh.getD 1 0), add72 e[4] (r.varh.getD 2 0),
    add72 e[5] (r.varh.getD 3 0), add72 e[6] r.vahImp, add72 e[7] r.vahExp]

theorem count_energy (x : LegalMeter) (r : EnergyRec) (t : Option Nat) : (x.count r t).energy = addRecord x.energy r := by
  cases t <;> rfl

theorem meterOf_ne_siteMeter (b : BayId) : meterOf b ≠ siteMeter := fun h => b.isLt.ne (congrArg Fin.val h)

/-- A change made of two elements is made of each. -/
theorem vmod_two {α : Type} {n : Nat} (v : Vector α n) {i j : Fin n} (h : i ≠ j) (f : α → α) {k : Fin n} (hk : k = i ∨ k = j) :
    (vmod (vmod v i f) j f)[k] = f v[k] := by
  rcases hk with rfl | rfl
  · exact (vmod_other _ _ _ _ h).trans (vmod_same ..)
  · exact (vmod_same ..).trans (congrArg f (vmod_other _ _ _ _ h.symm))

/-- A record that counts adds to its meter and to the site meter (R400). -/
theorem countRecord_adds (s : State) (b : BayId) (r : EnergyRec) : LegalTouch s (s.countRecord b r) ∧
    ∀ m, m = meterOf b ∨ m = siteMeter → ((s.countRecord b r).energies m).1 = addRecord (s.energies m).1 r := by
  unfold State.countRecord
  extract_lets l t s0 s1 s2
  have h0 : EnergyKept s s0 := by
    dsimp only [s0]
    split
    · exact .ite (((EnergyKept.refl s).formDemand _).formDemand _) (.refl s)
    · exact .refl s
  have h1 : LegalTouch s s1 := h0.touch.onRegs _
  have h2 : EnergyKept s1 (if t.isSome && l.gap != 0 then s2.log r.stamp 0x08 0xFF l.gap none else s2) :=
    .ite (.log (.onLegal (.refl s1)) ..) (.onLegal (.refl s1))
  refine ⟨h1.trans h2.touch, fun m hm => ?_⟩
  rw [h2.energies, ← h0.energies]
  exact (congrArg LegalMeter.energy (vmod_two _ (meterOf_ne_siteMeter b) _ hm)).trans (count_energy ..)

/-! A record taken, where no session reading waits for it. -/

theorem takeDue_none {s : State} (hdue : s.legal.due = []) (b : BayId) (ready : DueReading → Bool) : s.takeDue b ready = s := by
  rw [State.takeDue, hdue]
  rfl

section

variable {s : State} {b : BayId} {r : EnergyRec} (hdue : s.legal.due = [])
include hdue

/-- Beside the flags of a session a record moves the registers only if it counts (R400, R407). -/
theorem takeRecord_eq : ∃ u v, EnergyKept s u ∧ EnergyKept (if r.state = 2 then u.countRecord b r else u) v ∧
    s.takeRecord b r = v.meterRefresh b := by
  unfold State.takeRecord
  rw [takeDue_none hdue]
  extract_lets s1 s2 s3 s4
  have h2 : EnergyKept s s2 := (EnergyKept.refl s).onLegal
  have h3 : EnergyKept s s3 := h2.onRegs _ fun x => by split <;> rfl
  refine ⟨s3, s4, h3, ?_, rfl⟩
  dsimp only [s4]
  split
  · exact (EnergyKept.refl _).onLegal
  · exact .refl s3

theorem takeRecord_counting (hstate : r.state = 2) : (s.takeRecord b r).bays[b].meterCk.records = s.bays[b].meterCk.records ∧
    ∀ m, m = meterOf b ∨ m = siteMeter → ((s.takeRecord b r).energies m).1 = addRecord (s.energies m).1 r := by
  obtain ⟨u, v, hu, hv, hrun⟩ := takeRecord_eq (b := b) (r := r) hdue
  rw [if_pos hstate] at hv
  obtain ⟨htouch, hadds⟩ := countRecord_adds u b r
  rw [hrun, meterRefresh_records, ((hu.touch.trans htouch).trans hv.touch).bays_eq]
  refine ⟨rfl, fun m hm => ?_⟩
  rw [meterRefresh_energies, hv.energies, hadds m hm, hu.energies]

theorem takeRecord_other (hstate : r.state ≠ 2) : (s.takeRecord b r).bays[b].meterCk.records = s.bays[b].meterCk.records ∧
    ∀ m, (s.takeRecord b r).energies m = s.energies m := by
  obtain ⟨u, v, hu, hv, hrun⟩ := takeRecord_eq (b := b) (r := r) hdue
  rw [if_neg hstate] at hv
  rw [hrun, meterRefresh_records, (hu.touch.trans hv.touch).bays_eq]
  refine ⟨rfl, fun m => ?_⟩
  rw [meterRefresh_energies, hv.energies, hu.energies]

end

/-- The record at the front of those committed is taken from a bay. -/
def State.popRecord (s : State) (b : BayId) (l : List EnergyRec) : State := s.onBay b fun y => { y with
  meterCk := { y.meterCk with records := l }, meter := { y.meter with records := y.meter.records.drop 1 } }

theorem popRecord_records (s : State) (b : BayId) (l : List EnergyRec) : (s.popRecord b l).bays[b].meterCk.records = l :=
  congrArg (·.meterCk.records) (onBay_bay s b _)

theorem execEnergyRecord_next {s : State} {b : BayId} {r : EnergyRec} {l : List EnergyRec} (hrecords : s.bays[b].meterCk.records = r :: l)
    (hruns : s.legal.stopped = false) : execEnergyRecord b s = .next ((s.popRecord b l).takeRecord b r) := by
  simp only [execEnergyRecord, hrecords, hruns]
  rfl

/-- Counting that is stopped takes no record (R420). -/
theorem execEnergyRecord_stopped {s : State} (hstopped : s.legal.stopped = true) (b : BayId) : execEnergyRecord b s = .next s := by
  unfold execEnergyRecord
  split
  · rw [if_pos hstopped]
  · rfl

/-- Settles O38: what an index leaves of the meter cell is read off its tally, which each operation but the last one keeps; what a record leaves of
the registers is read off their energies; a pulse and an S0 level change one output or input. -/
theorem counting : Obligations.Counting := by
  unfold Obligations.Counting
  refine ⟨fun s b hoff hdue => ⟨_, execMeterIndex_due hoff hdue, meterIndex_takes ..⟩,
    fun s b hoff hdue hpresent hlast => ?lost,
    fun s b hlate hoff hverified hserving hlost => ?late,
    fun s i at_ q hq hat hlevel hgap => ?ball,
    fun s b at_ q hq hat => congrArg _ (onMeter_self (by rw [PulseOut.start_early hq hat])),
    fun s b hlevel hover => ?led,
    fun s i idle on hset hon hidle => execS0Pulse_long hset hon hidle,
    fun s i idle on hset hon => execS0Pulse_short hset hon idle,
    fun s b r l hrecords hruns hdue hstate => ?counted,
    fun s b r l hrecords hruns hdue hstate => ?uncounted,
    fun s b hstopped => execEnergyRecord_stopped hstopped b⟩
  case lost =>
    obtain ⟨r, htally, himp, hexp⟩ := meterIndex_lost hpresent hlast
    exact ⟨_, execMeterIndex_due hoff hdue, congrArg Tally.lost htally, congrArg Tally.accImp htally, congrArg Tally.accExp htally, r,
      congrArg Tally.records htally, himp, hexp⟩
  case late =>
    have hwant := meterWant_cell (s := s.onLegal fun l => { l with cellLate := l.cellLate ||| BitVec.ofNat 96 (2 ^ b.val) })
      hoff hverified hserving hlost (getLsbD_or_twoPow ..)
    refine ⟨_, execMeterCellTimeout_late hlate hoff, ?_⟩
    rw [meterRefresh_legal (by rw [hwant]; decide), meterRefresh_meter, hwant]
    exact ⟨rfl, rfl, rfl⟩
  case ball =>
    refine ⟨_, rfl, onBall_frame .., ?_⟩
    rw [onBall_ball]
    exact PulseOut.start_due hq hat hlevel hgap
  case led =>
    refine ⟨_, rfl, onBay_bayOnly .., ?_⟩
    rw [onMeter_bay, PulseOut.stop_over hlevel hover]
  case counted =>
    obtain ⟨hleft, hadds⟩ := takeRecord_counting (s := s.popRecord b l) (b := b) hdue hstate
    refine ⟨_, execEnergyRecord_next hrecords hruns, hleft.trans (popRecord_records ..), ?_⟩
    have hmeter := hadds _ (.inl rfl)
    have hsite := hadds _ (.inr rfl)
    exact ⟨congrArg (fun e : Vector Nat 8 => e[0]) hmeter, congrArg (fun e : Vector Nat 8 => e[0]) hsite,
      congrArg (fun e : Vector Nat 8 => e[1]) hmeter⟩
  case uncounted =>
    obtain ⟨hleft, hkept⟩ := takeRecord_other (s := s.popRecord b l) (b := b) hdue hstate
    exact ⟨_, execEnergyRecord_next hrecords hruns, hleft.trans (popRecord_records ..),
      fun m => ⟨congrArg Prod.fst (hkept m), congrArg Prod.snd (hkept m)⟩⟩

end Sys2Proof.Machine

namespace Sys2Proof.Machine

/-! The commands of meters (spec file 14). -/

/-! Refusals (R85). -/

theorem firstRefusal_mem {l : List Chk} {a : Nat × Nat} (h : firstRefusal l = some a) : some a ∈ l := by
  induction l generalizing a with
  | nil => cases h
  | cons x l ih =>
    cases x with
    | none => exact List.mem_cons_of_mem _ (ih h)
    | some y =>
      simp only [firstRefusal] at h
      split at h
      · exact h ▸ List.mem_cons_self
      next z hz =>
        split at h
        · exact List.mem_cons_of_mem _ (ih (h ▸ hz))
        · exact h ▸ List.mem_cons_self

theorem need_eq_some {ok : Bool} {st dt : Nat} {a : Nat × Nat} (h : need ok st dt = some a) : a = (st, dt) := by
  cases ok
  · exact (Option.some.inj h).symm
  · cases h

/-- A refusal stands where no later check fails with one that comes before it. -/
theorem firstRefusal_head {l : List Chk} {a : Nat × Nat} (h : ∀ z, some z ∈ l → refusesFirst z a = false) :
    firstRefusal (some a :: l) = some a := by
  simp only [firstRefusal]
  split
  · rfl
  next z hz => rw [if_neg (by rw [h z (firstRefusal_mem hz)]; decide)]

/-- A court or the owner of a bay passes the court check and the range check of its card: what refuses its request, if anything does, is a later
check. -/
theorem firstRefusal_bay {o : Origin} {cs : List Nat} {s : State} {b : BayId} (hc : FromCourt o cs ∨ 3 ≤ o.court.val ∧ s.owner b = o.court.val)
    (op : Nat) (lay : List Nat) (pos : Nat) (l : List Chk) :
    firstRefusal (bayPermit o cs pos b.val (s.take o.court o.mbx op lay) :: rng pos (b.val < 96) :: l) = firstRefusal l := by
  have hpermit := bayPermit_pass (s := s.take o.court o.mbx op lay) hc pos
  have hrng : rng pos (b.val < 96) = none := (rng_none ..).2 (decide_eq_true b.isLt)
  rw [hpermit, hrng]
  rfl

/-! Transfers that a request names. -/

theorem take_inXfers (s : State) (c : CourtId) (m : MbxId) (op : Nat) (lay : List Nat) (c' : CourtId) :
    (s.take c m op lay).courts[c'].inXfers = s.courts[c'].inXfers := vmod_keeps (g := Court.inXfers) (fun _ => by rfl) ..

theorem take_xfer? (s : State) (c : CourtId) (m : MbxId) (op : Nat) (lay : List Nat) (c' : CourtId) (x : Nat) :
    (s.take c m op lay).xfer? c' x = s.xfer? c' x := by
  rw [State.xfer?, take_inXfers, State.xfer?]

theorem xferData_of_xfer? {s : State} {c : CourtId} {x : Nat} {d : InXfer} (h : s.xfer? c x = some d) : s.xferData c x = d.data := by
  rw [State.xferData, h]

/-- An answer does not depend on the legal court, nor on the events raised. -/
theorem answer_touched {t u : State} (hu : LegalTouch t u) (c : CourtId) (m : MbxId) (st dt : Nat) (bulk : Bool) (fs : List Field) :
    ∃ l e, u.answer c m st dt bulk fs = { t.answer c m st dt bulk fs with legal := l, evt := e } := by
  obtain ⟨l, es, rfl⟩ := hu
  have hmbox : State.mbox { t with legal := l, evt := { t.evt with fresh := t.evt.fresh ++ es } } c m = t.mbox c m := rfl
  refine ⟨l, { t.evt with fresh := t.evt.fresh ++ es }, ?_⟩
  unfold State.answer
  rw [hmbox]
  cases (t.mbox c m).running with
  | none => rfl
  | some r =>
    dsimp only
    split <;> rfl

/-! Cards that arm a setting, and cards with a say over the state of a refusal. -/

theorem take_arm_arms (o : Origin) (op : Nat) (lay : List Nat) (s : State) (cmd : Setting) (bays : BayMask) (site same : Bool) (clash : Setting → Bool) :
    Arms o op lay cmd s ((s.take o.court o.mbx op lay).arm o cmd bays site same clash) := by
  obtain ⟨n, harm, hn⟩ := arm_eq (s.take o.court o.mbx op lay) o cmd bays site same clash
  exact ⟨_, harm, rfl, rfl, hn⟩

section

variable {o : Origin} {s : State} (h : Serves o s) {op : Nat} {lay : List Nat} {chk : State → List Chk} {onRefuse : Nat → State → State}
  {body : State → State}
include h

theorem cardFull_run (hc : firstRefusal (chk (s.take o.court o.mbx op lay)) = none) :
    cardFull o op lay chk onRefuse body s = body (s.take o.court o.mbx op lay) := by
  simp only [cardFull, h.1, if_true, modeChecks_pass h op lay _ hc]

theorem cardFull_refuse {st dt : Nat} (hc : firstRefusal (chk (s.take o.court o.mbx op lay)) = some (st, dt)) :
    cardFull o op lay chk onRefuse body s = (onRefuse st (s.take o.court o.mbx op lay)).refuse o st dt lay := by
  obtain ⟨h1, h2, h3, h4, h5⟩ := h
  have e1 : (s.take o.court o.mbx op lay).inLoader = false := h5
  have e2 : (s.take o.court o.mbx op lay).isReturner = false := h4
  simp only [cardFull, h1, if_true, modeChecks, e1, e2, h3, need, Bool.not_false, Bool.true_or, List.cons_append, List.nil_append, firstRefusal, hc]

/-- A refusal after a touch of the legal court is answered like another, and leaves the armed settings. -/
theorem refuse_touched {u : State} (hu : LegalTouch (s.take o.court o.mbx op lay) u) (st dt : Nat) :
    Answered o op st dt false s (u.refuse o st dt lay) ∧ (u.refuse o st dt lay).armed = s.armed := by
  obtain ⟨htake, harm, -⟩ := h
  obtain ⟨v, e, hans⟩ := answer_touched hu o.court o.mbx st dt false (zeroFields lay)
  rw [State.refuse, hans, take_answer htake harm o rfl rfl]
  exact ⟨⟨zeroFields lay, congrArg Mailbox.out (mbox_onMbx ..)⟩, rfl⟩

end

/-! Reports (R389 to R391, R395). -/

section

variable {o : Origin} {s : State} {b : BayId} (h : Serves o s)
include h

section

variable (hc : FromCourt o [0, 1] ∨ 3 ≤ o.court.val ∧ s.owner b = o.court.val)
include hc

theorem execMeterStatus_reports : ∃ vals, execMeterStatus o b.val s = .next (s.repliedOk o 0x0A01
      ([8, 8, 8, 8, 384, 64, 16, 16, 32] ++ (List.replicate 8 [16, 32]).flatten ++ [32, 32, 32, 32, 64, 32]) vals) ∧
    vals.take 2 = [s.bays[b].meterCk.st.code, s.bays[b].meterCk.reason] ∧ vals.getLast? = some s.gens.bay[b] := by
  unfold execMeterStatus cardMeterStatus
  extract_lets lay
  refine ⟨_, congrArg Host.Outcome.next (card_report h ?_ (congrArg _ (atBay_val ..))), ?_, ?_⟩
  · rw [firstRefusal_bay hc]
    rfl
  · rfl
  · exact List.getLast?_append_cons ..

theorem execMeterRead_reports {r : MeterReading} (hoff : s.bays[b].meterOff = false) (hreading : s.bays[b].meterCk.reading = some r) :
    ∃ vals, execMeterRead o b.val s = .next (s.repliedOk o 0x0A02
      ([8, 8, 16, 64, 64, 32, 32] ++ (List.replicate 8 [32, 16, 16]).flatten ++ List.replicate 13 32 ++ [16, 16]) vals) ∧
      vals.take 7 = [s.bays[b].meterCk.st.code, r.flags, 0, r.first, r.last, r.gen, r.freq] := by
  unfold execMeterRead cardMeterRead
  extract_lets lay
  refine ⟨_, congrArg Host.Outcome.next (card_report h ?_ rfl), ?_⟩
  · rw [firstRefusal_bay hc, atBay_val, State.take_bays, hoff, hreading]
    rfl
  · simp only [atBay_val, State.take_bays, hreading]
    rfl

theorem execMeterRead_off (hoff : s.bays[b].meterOff = true) : execMeterRead o b.val s = .next (s.repliedNo o 0x0A02 stBAD_STATE 0
    ([8, 8, 16, 64, 64, 32, 32] ++ (List.replicate 8 [32, 16, 16]).flatten ++ List.replicate 13 32 ++ [16, 16])) := by
  unfold execMeterRead cardMeterRead
  extract_lets lay
  refine congrArg Host.Outcome.next (card_refuse h _ _ _ _ ?_)
  rw [firstRefusal_bay hc, atBay_val, State.take_bays, hoff]
  rfl

theorem execMeterHarmonics_reports {ch : Nat} {x : Harmonics} (hch : ch < 8) (hmask : bitOf (s.bays[b].calGet 2 1) ch = true)
    (hfind : s.bays[b].meterCk.harmonics.find? (·.ch == ch) = some x) : execMeterHarmonics o b.val ch s =
      .next (s.repliedOk o 0x0A03 ([64, 32, 32] ++ List.replicate 39 16) ([x.last, x.gen, x.h1] ++ x.hs)) := by
  refine congrArg Host.Outcome.next (card_report h ?_ (congrArg _ ((atBay_val ..).trans ?_)))
  · have hany : s.bays[b].meterCk.harmonics.any (·.ch == ch) = true := by
      rw [← List.isSome_find?, hfind, Option.isSome_some]
    rw [firstRefusal_bay hc, atBay_val, atBay_val, State.take_bays, hmask, hany, decide_eq_true hch]
    rfl
  · rw [State.take_bays, hfind]

end

theorem execS0Read_reports (hc : FromCourt o [0, 1]) : execS0Read o s = .next (s.repliedOk o 0x0A22 ((List.replicate 8 [64, 32, 64, 64]).flatten)
    (s.pulses.s0.toList.flatMap fun p => [p.count, p.short, p.count * 1000000 / p.const, p.lastTick])) :=
  congrArg _ (card_report h ((firstRefusal_cons ..).2 ⟨(permit_none ..).2 hc, rfl⟩) rfl)

/-! Settings that take effect at a later tick (R392 to R394). -/

section

variable {x : Nat} {d : InXfer} {p : List Byte} (hc : FromCourt o [0, 1]) (hx : s.xfer? o.court x = some d)
  (hp : Config.cosePayload d.data = some p) (htable : calTableOk p = true)
include hc hx hp htable

/-- A table that passes is armed for its bay (R392). -/
theorem cardCalLoad_arms (hfree : s.bays[b].calLocked = false) (hkey : s.calKeyCheck d.data ((p.drop 64).take 65) (leGet p 3 1) = none)
    (hroom : (s.courts[o.court].inXfers.filter (!·.closed)).length < 4) :
    Arms o 0x0A10 [384, 32, 64] (.calLoad o.court b.val x) s (cardCalLoad o b.val x s) := by
  unfold cardCalLoad
  extract_lets lay inv
  rw [cardFull_run h, atBay_val]
  · exact take_arm_arms ..
  · have hdata := xferData_of_xfer? ((take_xfer? s o.court o.mbx 0x0A10 lay o.court x).trans hx)
    have hkey' : (s.take o.court o.mbx 0x0A10 lay).calKeyCheck d.data ((p.drop 64).take 65) (leGet p 3 1) = none := hkey
    simp only [hdata, take_xfer?, take_inXfers, hx, hp, atBay_val, State.take_bays, hfree, hkey', hroom, (permit_none ..).2 hc, htable,
      decide_eq_true b.isLt, Option.map_some, Option.getD_some]
    rfl

/-- While a session is under way a table is turned away, and what is armed stays (R388, R392). -/
theorem cardCalLoad_locked (hlocked : s.bays[b].calLocked = true) :
    Answered o 0x0A10 stLEGAL_LOCK 0 false s (cardCalLoad o b.val x s) ∧ (cardCalLoad o b.val x s).armed = s.armed := by
  unfold cardCalLoad
  extract_lets lay inv
  rw [cardFull_refuse h (st := stLEGAL_LOCK) (dt := 0)]
  · refine refuse_touched h ?_ _ _
    have hinv : inv (s.take o.court o.mbx 0x0A10 lay) = (s.take o.court o.mbx 0x0A10 lay).tamper 2 b.val 0 none := atBay_val ..
    exact .ite (hinv ▸ (LegalTouch.refl _).tamper ..) (.refl _)
  · have hdata := xferData_of_xfer? ((take_xfer? s o.court o.mbx 0x0A10 lay o.court x).trans hx)
    simp only [hdata, take_xfer?, take_inXfers, hx, hp, atBay_val, State.take_bays, hlocked, (permit_none ..).2 hc, htable,
      decide_eq_true b.isLt, Option.map_some, Option.getD_some]
    refine firstRefusal_head fun z hz => ?_
    rcases List.mem_pair.1 hz with hcrypto | hroom
    · obtain ⟨code, -, rfl⟩ := Option.map_eq_some_iff.1 hcrypto.symm
      rfl
    · rw [need_eq_some hroom.symm]
      rfl

end

theorem cardPulseMap_arms {ball source pol const width : Nat} (hc : FromCourt o [0, 1]) (hball : ball < 8) (hsource : source ≤ 1) (hpol : pol ≤ 1)
    (hconst : 1 ≤ const) (hconst' : const ≤ 100000) (hwidth : 10 ≤ width) (hwidth' : width ≤ 65535) (hoff : s.bays[b].meterOff = false) :
    Arms o 0x0A20 [32, 64] (.pulseMap ball b.val source pol const width) s (cardPulseMap o ball b.val source pol const width s) := by
  rw [cardPulseMap, cardLater_run h _ _ _ _ (by simp [hc, hball, hsource, hpol, hconst, hconst', hwidth, hwidth', hoff, -Fin.getElem_fin])]
  exact take_arm_arms ..

theorem cardS0Config_arms {inp pol ms const : Nat} (hc : FromCourt o [0]) (hinp : inp < 8) (hpol : pol ≤ 1) (hms : 2 ≤ ms) (hms' : ms ≤ 200)
    (hconst : 1 ≤ const) (hconst' : const ≤ 100000) :
    Arms o 0x0A21 [32, 64] (.s0Config inp pol ms const) s (cardS0Config o inp pol ms const s) := by
  rw [cardS0Config, cardLater_run h _ _ _ _ (by simp [hc, hinp, hpol, hms, hms', hconst, hconst'])]
  exact take_arm_arms ..

end

/-- Settles O39: each command has a lemma that gives its next state. A report goes through the checks for the bay once (`firstRefusal_bay`), a
setting is armed by `take_arm_arms`, and LEGAL_LOCK stands before whatever else CAL_LOAD might be refused for (`firstRefusal_head`). -/
theorem meterCards : Obligations.MeterCards := by
  unfold Obligations.MeterCards
  exact ⟨fun o s b h hc => execMeterStatus_reports h hc,
    fun o s b r h hc hoff hreading => execMeterRead_reports h hc hoff hreading,
    fun o s b h hc hoff => execMeterRead_off h hc hoff,
    fun o s b ch x h hc hch hmask hfind => execMeterHarmonics_reports h hc hch hmask hfind,
    fun o s b x d h hc hx hfree hroom => ⟨_, rfl, fun p hp htable hkey => cardCalLoad_arms h hc hx hp htable hfree hkey hroom⟩,
    fun o s b x d h hc hx hlocked => ⟨_, rfl, fun p hp htable => cardCalLoad_locked h hc hx hp htable hlocked⟩,
    fun o s ball b source pol const width h hc hball hsource hpol hlo hhi hmin hmax hoff =>
      ⟨_, rfl, cardPulseMap_arms h hc hball hsource hpol hlo hhi hmin hmax hoff⟩,
    fun o s inp pol ms const h hc hinp hpol hmin hmax hlo hhi => ⟨_, rfl, cardS0Config_arms h hc hinp hpol hmin hmax hlo hhi⟩,
    fun o s h hc => execS0Read_reports h hc⟩

end Sys2Proof.Machine

namespace Sys2Proof.Machine

/-! Cards with a transfer whose request comes over the bulk mailbox itself (R89). -/

/-- Data take at least one message. -/
theorem bulkMessages_ne_nil {data : List Byte} (h : data ≠ []) (num now total n : Nat) :
    bulkMessages num now total 0 (chunks n data.length data) ≠ [] := by
  obtain ⟨x, l, rfl⟩ := List.exists_cons_of_ne_nil h
  exact List.cons_ne_nil _ _

/-- The messages of a transfer wait behind what the bulk mailbox holds, unless this QN960 is a returner. -/
theorem sendBulk_out {s : State} (hserver : s.isReturner = false) (c : CourtId) {m : MbxId} (hm : m = 3) {data : List Byte} (hdata : data ≠ []) :
    ∃ msgs, msgs ≠ [] ∧ ((s.sendBulk c data).mbox c m).out = (s.mbox c m).out ++ msgs := by
  subst hm
  refine ⟨_, bulkMessages_ne_nil hdata s.courts[c].nextOut s.now data.length (bulkChunk s.courts[c].mbx[(3 : Fin 4)]), ?_⟩
  simp [State.mbox, State.sendBulk, State.onCourt, vmod, hserver]

/-- The answer to a request that came in through a port of this QN960 waits behind what its mailbox holds. -/
theorem answer_own_out {s : State} {c : CourtId} {m : MbxId} {r : Running} (hr : (s.mbox c m).running = some r) (hvia : r.via = 0)
    (st dt : Nat) (bulk : Bool) (fs : List Field) : ∃ msg, ((s.answer c m st dt bulk fs).mbox c m).out = (s.mbox c m).out ++ [msg] := by
  simp only [State.answer, hr, hvia]
  exact ⟨_, congrArg Mailbox.out (mbox_onMbx ..)⟩

theorem take_out (s : State) (c : CourtId) (m : MbxId) (op : Nat) (lay : List Nat) : ((s.take c m op lay).mbox c m).out = (s.mbox c m).out := by
  rw [State.take, mbox_onMbx]

/-- Over the bulk mailbox the messages of the transfer come before the response. -/
theorem cardBulk_bulkMbx {o : Origin} {s : State} (h : Serves o s) (hm : o.mbx = 3) (hfree : s.bulkFree o.court = true) (op : Nat) (lay : List Nat)
    (chk : State → List Chk) {body : State → State × List Nat × List Nat × List Byte} {pre post : List Nat} {data : List Byte}
    (hc : firstRefusal (chk (s.take o.court o.mbx op lay)) = none)
    (hb : body (s.take o.court o.mbx op lay) = (s.take o.court o.mbx op lay, pre, post, data)) (hdata : data ≠ []) :
    ∃ msgs msg, msgs ≠ [] ∧ ((cardBulk o op lay chk body s).mbox o.court o.mbx).out = (s.mbox o.court o.mbx).out ++ msgs ++ [msg] := by
  obtain ⟨fs, hrun⟩ := cardBulk_run h hfree op lay chk hc hb hdata
  obtain ⟨r, hr, hvia⟩ := take_running h op lay
  obtain ⟨msg, hans⟩ := answer_own_out ((sendBulk_running _ _ data _).trans hr) hvia stOK 0 true fs
  obtain ⟨-, -, -, hserver, -⟩ := h
  obtain ⟨msgs, hmsgs, hsend⟩ := sendBulk_out (s := s.take o.court o.mbx op lay) hserver o.court hm hdata
  refine ⟨msgs, msg, hmsgs, ?_⟩
  rw [hrun, hans, hsend, take_out]

/-- A request that leaves messages before its response does not leave the response alone. -/
theorem not_answered_of_out {o : Origin} {s t : State} {msgs : List OutMsg} {msg : OutMsg} (hmsgs : msgs ≠ [])
    (hout : (t.mbox o.court o.mbx).out = (s.mbox o.court o.mbx).out ++ msgs ++ [msg]) (op st dt : Nat) (bulk : Bool) :
    ¬ Answered o op st dt bulk s t := by
  rintro ⟨fs, hone⟩
  have hlen := congrArg List.length (hone.symm.trans hout)
  have hpos := List.length_pos_iff.2 hmsgs
  simp only [List.length_append, List.length_singleton] at hlen
  omega

end Sys2Proof.Machine

namespace Sys2Proof.Machine

/-! Bay displays (spec file 16). -/

/-- Where there are counters there are bytes of them (R454). -/
theorem flatMap_leBytes_ne_nil {l : List Nat} (h : l ≠ []) : (l.flatMap fun x => leBytes x 4) ≠ [] := by
  obtain ⟨x, l, rfl⟩ := List.exists_cons_of_ne_nil h
  exact List.cons_ne_nil _ _

/-- DISP_STRESS_READ over the bulk mailbox leaves the counters there before its response. -/
theorem cardDispStressRead_bulkMbx {o : Origin} {s : State} {b : BayId} (h : Serves o s) (hm : o.mbx = 3)
    (hc : FromCourt o [0] ∨ 3 ≤ o.court.val ∧ s.owner b = o.court.val) (hage : s.bays[b].ageEn = true) (hfree : s.bulkFree o.court = true)
    (hstress : s.bays[b].grpCk.disp.stress ≠ []) :
    ∃ msgs msg, msgs ≠ [] ∧ ((cardDispStressRead o b.val s).mbox o.court o.mbx).out = (s.mbox o.court o.mbx).out ++ msgs ++ [msg] := by
  unfold cardDispStressRead
  refine cardBulk_bulkMbx h hm hfree _ _ _ ?_ rfl ?_
  · rw [firstRefusal_bay hc, atBay_val, State.take_bays, hage]
    rfl
  · rw [atBay_val, State.take_bays]
    exact flatMap_leBytes_ne_nil hstress

/-- A bay table entry of court 0 with KIND EV_DC and ENABLE 1, whose display has DISP_EN, AGE_EN and 480 x 320 pixels (R111, R451). -/
def ageingEntry : List Byte := [0, 1, 0, 1] ++ List.replicate 460 0 ++ [3, 0, 224, 1, 64, 1] ++ List.replicate 42 0

/-- After a reset court 0 opens its bulk mailbox, and bay 29 has such an entry. -/
def ageingDisplay : State :=
  (State.reset.onMbx 0 3 fun m => { m with en := true }).onBay 29 fun y => { y with entry := some ageingEntry }

/-- A request of court 0 on its bulk mailbox, with nothing amiss. -/
def bulkOrigin : Origin := ⟨0, 3, 0, false, false, 0⟩

/-- Refutes O42: `Serves` admits a request on the bulk mailbox, which R85 has answered with BAD_OPCODE, and there DISP_STRESS_READ leaves more than
its response. Court 0 of `ageingDisplay` reads the counters of bay 29 over mailbox 3: the messages of the transfer go out on the same mailbox and stand
before the response (`cardDispStressRead_bulkMbx`), where the clause about DISP_STRESS_READ has the response alone. -/
theorem not_display : ¬ Obligations.Display := by
  unfold Obligations.Display
  rintro ⟨-, -, -, -, -, -, -, -, -, hread, -⟩
  have hserves : Serves bulkOrigin ageingDisplay := by decide +kernel
  have hcourt : FromCourt bulkOrigin [0] := List.mem_singleton_self _
  have hage : ageingDisplay.bays[(29 : BayId)].ageEn = true := by decide +kernel
  have hfree : ageingDisplay.bulkFree bulkOrigin.court = true := by decide +kernel
  have hstress : ageingDisplay.bays[(29 : BayId)].grpCk.disp.stress ≠ [] := by decide +kernel
  obtain ⟨t, hrun, hanswered, -⟩ := hread bulkOrigin ageingDisplay 29 hserves (.inl hcourt) hage hfree hstress
  obtain ⟨msgs, msg, hmsgs, hout⟩ := cardDispStressRead_bulkMbx hserves rfl (.inl hcourt) hage hfree hstress
  have ht : cardDispStressRead bulkOrigin (29 : BayId).val ageingDisplay = t := Host.Outcome.next.inj hrun
  exact not_answered_of_out hmsgs (ht ▸ hout) _ _ _ _ hanswered

end Sys2Proof.Machine

namespace Sys2Proof.Machine

/-! The queue of commands and the state after reset. -/

/-- Settles O3: `exec_keeps` says of every command that it leaves the queue. -/
theorem commandsLeaveQueue : Obligations.CommandsLeaveQueue := by
  unfold Obligations.CommandsLeaveQueue
  intro c s t hrun
  obtain ⟨u, hu, hkeeps⟩ := exec_keeps c s
  obtain rfl : u = t := Host.Outcome.next.inj (hu.symm.trans hrun)
  exact hkeeps.pending

/-- Settles O5: after reset no byte of memory is listed and no command waits. -/
theorem resetKeepsInvariant : Obligations.ResetKeepsInvariant := by
  unfold Obligations.ResetKeepsInvariant
  exact ⟨rfl, rfl⟩

/-! The last-word registers (R596). -/

/-- Settles O8: below 8 the register written is the one at LW_NEXT itself. -/
theorem lastWordRing : Obligations.LastWordRing := by
  unfold Obligations.LastWordRing
  intro k r i hk
  refine ⟨?_, rfl, rfl⟩
  simp only [Scorebook.lastWord, Nat.mod_eq_of_lt hk, Fin.getElem_fin, Vector.getElem_set, eq_comm]

end Sys2Proof.Machine

namespace Sys2Proof.Machine

/-! The battery island (spec file 24). -/

theorem wakeBy_first {s : State} (hpower : s.island.lowPower ≠ 0) (hcause : s.island.wakeCause = 0) (cause source : Nat) :
    s.wakeBy cause source = s.onIsland fun k => { k with wakeCause := cause, wakeSource := source, pwrReq := true } := by
  simp only [State.wakeBy, hpower, hcause, ne_eq, not_false_eq_true, true_or, true_and, if_true]

theorem Island.queued_room {k : Island} (hroom : k.queue.length < 16) (kind data : Nat) :
    k.queued kind data = { k with queue := k.queue ++ [⟨kind, k.rtcSec, k.rtcValid, data⟩] } := by
  simp only [Island.queued, Nat.not_le.mpr hroom, if_false]


/-- While the CELL domain is stopped an island event carries TICK 0 (R685). -/
theorem islandEvent_cellStopped {s : State} (hcell : s.clock.cellRuns = false) (src kind data : Nat) : ∃ c w p, s.islandEvent src kind data =
    { s.raise ⟨src, kind, data % 2 ^ 32, 0⟩ with island := { s.island with wakeCause := c, wakeSource := w, pwrReq := p } } := by
  have hevent := islandEvent_eq s src kind data
  rwa [hcell, if_neg Bool.false_ne_true] at hevent

/-- A wake after the first is not recorded (R678). -/
theorem wakeBy_later {s : State} (hcause : s.island.wakeCause ≠ 0) (cause source : Nat) : s.wakeBy cause source = s := by
  simp only [State.wakeBy, hcause, and_false, if_false]

/-- An event of the island after a recorded wake is raised and wakes nothing. -/
theorem islandEvent_later {s : State} (hcause : s.island.wakeCause ≠ 0) (src kind data : Nat) :
    s.islandEvent src kind data = s.raise ⟨src, kind, data % 2 ^ 32, if s.clock.cellRuns then s.now else 0⟩ := by
  unfold State.islandEvent
  extract_lets s1
  rw [wakeBy_later (s := s1) hcause, ite_self]

section

variable {s : State} (hrun : s.island.running = true)
include hrun

theorem execIslandSupplySwitch_vbat : execIslandSupplySwitch true s = .next { s with
    island := { s.island with onVbat := true, lowPower := if s.island.lowPower = 1 then 0 else s.island.lowPower },
    clock := { s.clock with cellRuns := false }, host := { s.host with ready := false, lpState := 0 } } := by
  simp only [execIslandSupplySwitch, hrun, Bool.not_true, Bool.false_eq_true, if_false, if_true]

theorem execIslandSupplySwitch_vio : execIslandSupplySwitch false s = .next (s.onIsland fun k => { k with onVbat := false }) := by
  simp only [execIslandSupplySwitch, hrun, Bool.not_true, Bool.false_eq_true, if_false]

theorem execCrystalStop_runs (hrc : s.island.onRc = false) :
    execCrystalStop s = .next (s.onIsland fun k => { k with onRc := true, rtcValid := false, xtalFail := true }).islandHealth := by
  simp only [execCrystalStop, hrun, hrc, Bool.not_false, Bool.and_self, if_true]

theorem execCrystalResume_runs : execCrystalResume s = .next (s.onIsland fun k => { k with onRc := false }) := by
  simp only [execCrystalResume, hrun, if_true]

theorem execVbatMeasure_low {mv : Nat} (hvio : s.island.onVbat = false) (hlow : s.island.vbatLow = false) (hmv : mv < 2300) :
    execVbatMeasure mv s = .next (s.onIsland fun k => { k with vbatMv := mv, vbatLow := true }).islandHealth := by
  have hfits : mv % 2 ^ 12 = mv := Nat.mod_eq_of_lt (by omega)
  simp only [execVbatMeasure, hrun, hvio, hlow, hmv, hfits, Bool.not_false, Bool.and_self, Bool.false_eq_true, decide_true, reduceCtorEq, if_true,
    if_false]

theorem execRtcSet_hour (hvalid : s.legal.valid = true) (hsecond : s.legal.utc (s.now - 1) < s.legal.utc s.now)
    (hhour : (s.legal.utc s.now - 1) % 3600 = 0) : execRtcSet s = .next (s.onIsland fun k => { k with
      rtcSec := s.legal.utc s.now % 2 ^ 40, rtcFrac := 0, rtcValid := true, xtalFail := false }) := by
  simp only [execRtcSet, hrun, hvalid, hsecond, hhour, true_or, and_self, if_true]

theorem execTamperInput_cellStopped {i : Fin 4} (sec : Nat) (hcell : s.clock.cellRuns = false) (hret : s.isReturner = false)
    (hlevel : s.island.tampLevel.getLsbD i.val = false) (hroom : s.island.queue.length < 16) : execTamperInput i sec s = .next
      ((s.onIsland fun k => { k with
        tampLevel := k.tampLevel ||| BitVec.ofNat 4 (2 ^ i.val), rtcSec := sec % 2 ^ 40,
        queue := k.queue ++ [⟨(inputKind i).val, sec % 2 ^ 40, k.rtcValid, 0⟩] }).tamperEvent i true) := by
  simp only [execTamperInput, State.onIsland, Island.queued_room, hroom, hrun, hlevel, hret, hcell, Bool.not_false, Bool.and_self, Bool.false_and, Bool.false_eq_true,
    if_true, if_false]

theorem execTamperInputInactive_active {i : Fin 4} (hlevel : s.island.tampLevel.getLsbD i.val = true) : execTamperInputInactive i s = .next
      ((s.onIsland fun k => { k with tampLevel := k.tampLevel &&& ~~~ BitVec.ofNat 4 (2 ^ i.val) }).tamperEvent i false) := by
  simp only [execTamperInputInactive, hrun, hlevel, Bool.and_self, if_true]

end

theorem execTheftSecond_first {s : State} (sec : Nat) {sums : Vector Nat 4} (hrun : s.island.running = true) (hen : s.island.theftEn = true)
    (hcell : s.clock.cellRuns = false) (hwatch : s.island.watchOpen = false) (hroom : s.island.queue.length < 16)
    (hma : s.island.theftMinMa ≤ theftMa sums[(0 : Fin 4)] s.island.ctLsbUa[(0 : Fin 4)]) : ∃ acc, execTheftSecond sec sums s = .next
      ((s.onIsland fun k => { k with
        rtcSec := sec % 2 ^ 40, theftAcc := acc, watchOpen := true, queue := k.queue ++ [⟨7, sec % 2 ^ 40, k.rtcValid, 0⟩] }).islandEvent 465 0x0142
          (2 ^ 8 * (sec % 2 ^ 24))) := by
  have hhit : ∃ l, ((List.finRange 4).filter fun n : Fin 4 => decide (s.island.theftMinMa ≤ theftMa sums[n] s.island.ctLsbUa[n])) = 0 :: l := by
    rw [List.finRange_succ, List.filter_cons, if_pos (decide_eq_true hma)]
    exact ⟨_, rfl⟩
  obtain ⟨l, hl⟩ := hhit
  simp only [execTheftSecond, State.onIsland, Island.queued_room, hroom, hrun, hen, hcell, hwatch, hl, Bool.not_false, Bool.and_self, if_true,
    Bool.false_eq_true, if_false, Fin.val_zero, Nat.zero_add]
  exact ⟨_, rfl⟩

theorem execWakeNLow_first {s : State} (hrun : s.island.running = true) (hpower : s.island.lowPower ≠ 0) (hcause : s.island.wakeCause = 0) :
    execWakeNLow s = .next (s.onIsland fun k => { k with wakeCause := 1, wakeSource := 0, pwrReq := true }) := by
  simp only [execWakeNLow, hrun, wakeBy_first hpower hcause, if_true]

/-- The alarm is the wake that is recorded; its event, raised after it, is none. -/
theorem execRtcAlarm_first {s : State} {sec : Nat} (hrun : s.island.running = true) (hpower : s.island.lowPower ≠ 0) (hcause : s.island.wakeCause = 0)
    (hset : s.island.wakeAt ≠ 0) (hreached : s.island.wakeAt ≤ sec) (hsec : sec < 2 ^ 40) : execRtcAlarm sec s = .next
      ((s.onIsland fun k => { k with rtcSec := sec, wakeCause := 3, wakeSource := 0, pwrReq := true }).raise
        ⟨464, 0x0141, sec % 2 ^ 32, if s.clock.cellRuns then s.now else 0⟩) := by
  have hwake := wakeBy_first (s := s.onIsland fun k => { k with rtcSec := sec }) hpower hcause 3 0
  have hevent := islandEvent_later (s := (s.onIsland fun k => { k with rtcSec := sec }).onIsland fun k => { k with
    wakeCause := 3, wakeSource := 0, pwrReq := true }) (by simp [State.onIsland]) 464 0x0141 (sec % 2 ^ 32)
  simp only [execRtcAlarm, hrun, hset, hreached, hpower, Nat.mod_eq_of_lt hsec, ne_eq, not_false_eq_true, true_or, and_self, if_true, hwake, hevent,
    Nat.mod_mod]
  rfl

theorem execWakeSourceOccurrence_first {s : State} {src : Nat} (hrun : s.island.running = true) (hpower : s.island.lowPower ≠ 0)
    (hcause : s.island.wakeCause = 0) (hnamed : s.wakeNamed src = true) : execWakeSourceOccurrence src s = .next
      (s.onIsland fun k => { k with wakeCause := 4, wakeSource := src, pwrReq := true }) := by
  simp only [execWakeSourceOccurrence, hrun, hnamed, Bool.and_self, wakeBy_first hpower hcause, if_true]

theorem execDevWakeWrite_quiet {s : State} {value : Nat} (hport : s.host.port = .pcie) (hwake : bitOf value 0 = true) (hquiet : s.island.lowPower = 1)
    (hcause : s.island.wakeCause = 0) : execDevWakeWrite value s = .next
      (s.onIsland fun k => { k with wakeCause := 2, wakeSource := 0, pwrReq := true }) := by
  have hfirst := wakeBy_first (s := s) (by omega) hcause 2 0
  simp only [execDevWakeWrite, hport, hwake, hquiet, beq_self_eq_true, Bool.and_self, hfirst, if_true]

theorem execIslandRailsReady_woken {s : State} (hpower : s.island.lowPower ≠ 0) (hcause : s.island.wakeCause ≠ 0) (i : StartIn) :
    execIslandRailsReady i s = .next (s.startChip (4 + s.island.lowPower) i) := by
  simp only [execIslandRailsReady, hpower, hcause, ne_eq, not_false_eq_true, and_self, if_true]

theorem execIslandFreshStart_stopped {s : State} (hstopped : s.island.running = false) : execIslandFreshStart s = .next
    (({ s with island := { Island.reset with onVbat := s.island.onVbat, lowPower := s.island.lowPower } }.onLegal fun l => { l with
      mirror := { l.mirror with mark := false } }).onFaults fun x => { x with copy := { x.copy with mark := false, busy := none } }) := by
  simp only [execIslandFreshStart, hstopped, Bool.false_eq_true, if_false]

/-- Settles O59: each row has a lemma that gives its next state as a change of the island with at most one event; the event may wake the QN960, which
`islandEvent_eq` bounds to the record of the wake. -/
theorem islandEvents : Obligations.IslandEvents := by
  unfold Obligations.IslandEvents
  refine ⟨fun s hrun => ⟨_, execIslandSupplySwitch_vbat hrun, rfl, rfl, rfl, rfl⟩, fun s hrun => execIslandSupplySwitch_vio hrun,
    fun s hrun hrc => ?crystal, fun s hrun => execCrystalResume_runs hrun, fun s => rfl,
    fun s hstopped => ⟨_, execIslandFreshStart_stopped hstopped, rfl, rfl, rfl, rfl, rfl, rfl, rfl⟩,
    fun s mv hrun hvio hlow hmv => ?vbat, fun s hrun hvalid hsecond hhour => execRtcSet_hour hrun hvalid hsecond hhour,
    fun s i sec hrun hcell hret hlevel hroom => ?tamper, fun s i hrun hlevel => ?inactive,
    fun s sec sums hrun hen hcell hwatch hroom hma => ?theft, fun s hrun hpower hcause => execWakeNLow_first hrun hpower hcause,
    fun s sec hrun hpower hcause hset hreached hsec =>
      ⟨_, execRtcAlarm_first hrun hpower hcause hset hreached hsec, rfl, rfl, rfl, rfl, _, rfl⟩,
    fun s src hrun hpower hcause hnamed => execWakeSourceOccurrence_first hrun hpower hcause hnamed,
    fun s value hport hwake hquiet hcause => execDevWakeWrite_quiet hport hwake hquiet hcause,
    fun s i hpower hcause => execIslandRailsReady_woken hpower hcause i⟩
  case crystal =>
    obtain ⟨c, w, p, hevent⟩ := islandEvent_eq (s.onIsland fun k => { k with onRc := true, rtcValid := false, xtalFail := true }) 466 0x0143 _
    exact ⟨_, (execCrystalStop_runs hrun hrc).trans (congrArg Host.Outcome.next hevent), rfl, rfl, rfl, rfl, rfl, rfl, _, _, rfl⟩
  case vbat =>
    obtain ⟨c, w, p, hevent⟩ := islandEvent_eq (s.onIsland fun k => { k with vbatMv := mv, vbatLow := true }) 466 0x0143 _
    exact ⟨_, (execVbatMeasure_low hrun hvio hlow hmv).trans (congrArg Host.Outcome.next hevent), rfl, rfl, rfl, _, _, rfl⟩
  case tamper =>
    obtain ⟨c, w, p, hevent⟩ := islandEvent_cellStopped (s := s.onIsland fun k => { k with
      tampLevel := k.tampLevel ||| BitVec.ofNat 4 (2 ^ i.val), rtcSec := sec % 2 ^ 40,
      queue := k.queue ++ [⟨(inputKind i).val, sec % 2 ^ 40, k.rtcValid, 0⟩] }) hcell 463 0x0140 (i.val + 4 * b2n true)
    exact ⟨_, (execTamperInput_cellStopped hrun sec hcell hret hlevel hroom).trans (congrArg Host.Outcome.next hevent), rfl, rfl, rfl, rfl⟩
  case inactive =>
    obtain ⟨c, w, p, hevent⟩ := islandEvent_eq (s.onIsland fun k => { k with tampLevel := k.tampLevel &&& ~~~ BitVec.ofNat 4 (2 ^ i.val) }) 463 0x0140
      (i.val + 4 * b2n false)
    exact ⟨_, (execTamperInputInactive_active hrun hlevel).trans (congrArg Host.Outcome.next hevent), rfl, rfl, rfl, rfl⟩
  case theft =>
    obtain ⟨acc, hrow⟩ := execTheftSecond_first sec hrun hen hcell hwatch hroom hma
    obtain ⟨c, w, p, hevent⟩ := islandEvent_cellStopped (s := s.onIsland fun k => { k with
      rtcSec := sec % 2 ^ 40, theftAcc := acc, watchOpen := true, queue := k.queue ++ [⟨7, sec % 2 ^ 40, k.rtcValid, 0⟩] }) hcell
      465 0x0142 (2 ^ 8 * (sec % 2 ^ 24))
    exact ⟨_, hrow.trans (congrArg Host.Outcome.next hevent), rfl, rfl, rfl, _, rfl⟩

end Sys2Proof.Machine

namespace Sys2Proof.Machine

/-! Safe connections (spec file 19). -/

theorem onConn_conn_same (s : State) (p : SafePort) (f : SafeConn → SafeConn) : (s.onConn p f).safety.conn p = f (s.safety.conn p) := by
  cases p <;> exact vmod_same ..

/-- A change of a connection between QN960s changes nothing else. -/
theorem onConn_conn_frame (s : State) (c : Fin 8) (f : SafeConn → SafeConn) : s.onConn (.conn c) f =
    { s with safety := { s.safety with conns := s.safety.conns.set c (s.onConn (.conn c) f).safety.conns[c] } } := by
  have hsame : (s.onConn (.conn c) f).safety.conns[c] = f s.safety.conns[c] := onConn_conn_same s (.conn c) f
  rw [hsame]
  rfl

theorem connGo_conn_same (s : State) (p : SafePort) (st order : Nat) : (s.connGo p st order).safety.conn p = (s.safety.conn p).go st order s.now :=
  onConn_conn_same ..

theorem connGo_frame (s : State) (p : SafePort) (st order : Nat) :
    s.connGo p st order = { s with safety := (s.connGo p st order).safety, evt := (s.connGo p st order).evt } := by
  cases p <;> rfl

/-- The data of SAFE_CONN fit their width (R540). -/
theorem connData_raises {st order : Nat} (s : State) (p : SafePort) (hst : st < 16) (horder : order < 16) :
    Raised [⟨510, 0x0E10, connData p + 2 ^ 8 * st + 2 ^ 12 * order, s.now⟩] s
      (s.raiseNow 510 0x0E10 (connData p + 2 ^ 8 * st + 2 ^ 12 * order)) := by
  have hdata : connData p + 2 ^ 8 * st + 2 ^ 12 * order < 2 ^ 32 := by
    cases p <;> simp only [connData] <;> omega
  rw [State.raiseNow, Nat.mod_eq_of_lt hdata]
  rfl

theorem onConn_evt (s : State) (p : SafePort) (f : SafeConn → SafeConn) : (s.onConn p f).evt = s.evt := by
  cases p <;> rfl

theorem connGo_raises {st order : Nat} (s : State) (p : SafePort) (hst : st < 16) (horder : order < 16) :
    Raised [⟨510, 0x0E10, connData p + 2 ^ 8 * st + 2 ^ 12 * order, s.now⟩] s (s.connGo p st order) := by
  have hraised := connData_raises (s.onConn p fun x => x.go st order s.now) p hst horder
  rwa [Raised, onConn_evt] at hraised

theorem connFail_frame (s : State) (p : SafePort) (o : Fin 8) :
    s.connFail p o = { s with safety := (s.connFail p o).safety, evt := (s.connFail p o).evt } := by
  cases p <;> rfl

theorem connFail_conn_same (s : State) (p : SafePort) (o : Fin 8) :
    (s.connFail p o).safety.conn p = ((s.safety.conn p).count o 1).go 3 o.val s.now := by
  rw [State.connFail, connGo_conn_same, onConn_conn_same]
  cases p <;> rfl

theorem connFail_raises (s : State) (p : SafePort) (o : Fin 8) :
    Raised [⟨510, 0x0E10, connData p + 2 ^ 8 * 3 + 2 ^ 12 * o.val, s.now⟩] s (s.connFail p o) := by
  have hnow : (s.onConn p fun x => x.count o 1).now = s.now := by cases p <;> rfl
  have hraised := connGo_raises (s.onConn p fun x => x.count o 1) p (st := 3) (order := o.val) (by decide) (by omega)
  rwa [Raised, onConn_evt, hnow] at hraised

/-! Frames that are sent. -/

theorem execSafeFrameSend_due {s : State} {c : Fin 8} (hst : (s.safety.conn (.conn c)).st ≠ 0)
    (hdue : (s.safety.conn (.conn c)).sentAt + s.safety.connPeriod (.conn c) ≤ s.now) :
    execSafeFrameSend (.conn c) s = .next (s.connForm (.conn c)) := by
  simp only [execSafeFrameSend, hst, decide_eq_false (Nat.not_lt.mpr hdue), Bool.and_false, Bool.false_eq_true, or_self, if_false]

theorem execSafeFrameSend_down {s : State} {p : SafePort} (hst : (s.safety.conn p).st = 0) : execSafeFrameSend p s = .next s := by
  simp only [execSafeFrameSend, hst, true_or, if_true]

/-! Frames that arrive (R520). -/

namespace SafeConn

variable {x : SafeConn} {f : List Byte} {own peer wd now : Nat}

theorem judge_crcWrong (hst : x.st = 2) (hcrc : crcSafe (f.take 28) ≠ leGet f 28 4) : x.judge f own peer wd now = .discarded 1 := by
  simp [judge, hst, hcrc]

theorem judge_foreign (hst : x.st = 2) (hlen : f.length = 32) (hcrc : crcSafe (f.take 28) = leGet f 28 4)
    (hdemand : leGet f 20 2 + leGet f 22 2 = 0xFFFF) (hstate : leGet f 24 1 + leGet f 25 1 = 0xFF) (hpeer : leGet f 0 4 ≠ peer) :
    x.judge f own peer wd now = .faulted 3 := by
  simp [judge, hst, hlen, hcrc, hdemand, hstate, hpeer]

/-- The frame next in sequence, with a young echo and in time, passes every check. -/
theorem judge_follows {q : Nat} (hst : x.st = 2) (hlen : f.length = 32) (hcrc : crcSafe (f.take 28) = leGet f 28 4)
    (hdemand : leGet f 20 2 + leGet f 22 2 = 0xFFFF) (hstate : leGet f 24 1 + leGet f 25 1 = 0xFF) (hpeer : leGet f 0 4 = peer)
    (hown : leGet f 4 4 = own) (hlast : x.lastSeq = some q) (hseq : leGet f 8 2 = q + 1) (hecho : x.lastEcho = none)
    (hage : tickAge now (leGet f 16 4) ≤ wd) (hintime : now ≤ x.lastAt + wd) : x.judge f own peer wd now = .accepted 0 true := by
  have hdist : (q + 1 + 65536 - q) % 65536 = 1 := by omega
  simp [judge, hst, hlen, hcrc, hdemand, hstate, hpeer, hown, hlast, hseq, hecho, hdist, Nat.not_lt.mpr hage, Nat.not_lt.mpr hintime]

end SafeConn

section

variable {s : State} {c : Fin 8} {f : List Byte} {fate : RxFate} {y : SafeConn} (hlen : f.length = 32)
  (hfate : (s.safety.conn (.conn c)).judge f s.ownSafeId (s.connPeer (.conn c)) (s.safety.connWd (.conn c)) s.now = fate)
  (hafter : (s.safety.conn (.conn c)).after f s.now fate = y)
include hlen hfate hafter

/-- A frame that leaves the connection in its state changes the connection alone. -/
theorem execSafeFrameRx_stays (hst : y.st = (s.safety.conn (.conn c)).st) : ∃ t, execSafeFrameRx (.conn c) f s = .next t ∧
    t = { s with safety := { s.safety with conns := s.safety.conns.set c t.safety.conns[c] } } ∧ t.safety.conns[c] = y := by
  subst hfate hafter
  refine ⟨_, ?_, onConn_conn_frame s c fun _ => _, onConn_conn_same s (.conn c) _⟩
  simp only [execSafeFrameRx, List.take_of_length_le hlen.le, State.connRx, hst, if_true]

end

/-- A failure of a given order takes the connection from OK to FAULT and raises SAFE_CONN (R520, R540). -/
theorem execSafeFrameRx_faults {s : State} {c : Fin 8} {f : List Byte} {fate : RxFate} {o : Fin 8} (ho : o ≠ 0) (hlen : f.length = 32)
    (hst : (s.safety.conn (.conn c)).st = 2)
    (hfate : (s.safety.conn (.conn c)).judge f s.ownSafeId (s.connPeer (.conn c)) (s.safety.connWd (.conn c)) s.now = fate)
    (hafter : (s.safety.conn (.conn c)).after f s.now fate = ((s.safety.conn (.conn c)).count o 1).go 3 o.val s.now) :
    ∃ t, execSafeFrameRx (.conn c) f s = .next t ∧ (t.safety.conns[c]).st = 3 ∧ (t.safety.conns[c]).lastFail = o.val ∧
      Raised [⟨510, 0x0E10, connData (.conn c) + 2 ^ 8 * 3 + 2 ^ 12 * o.val, s.now⟩] s t := by
  have hord : o.val ≠ 0 := fun h => ho (Fin.ext h)
  have hleft : (3 : Nat) ≠ 2 := by decide
  have hfail : (((s.safety.conn (.conn c)).count o 1).go 3 o.val s.now).lastFail = o.val := if_neg hord
  have hconn := onConn_conn_same s (.conn c) fun _ => ((s.safety.conn (.conn c)).count o 1).go 3 o.val s.now
  refine ⟨(s.onConn (.conn c) fun _ => ((s.safety.conn (.conn c)).count o 1).go 3 o.val s.now).raiseNow 510 0x0E10
    (connData (.conn c) + 2 ^ 8 * 3 + 2 ^ 12 * o.val), ?_, congrArg SafeConn.st hconn, (congrArg SafeConn.lastFail hconn).trans hfail, ?_⟩
  · have hgo : (((s.safety.conn (.conn c)).count o 1).go 3 o.val s.now).st = 3 := rfl
    simp only [execSafeFrameRx, List.take_of_length_le hlen.le, State.connRx, hfate, hafter, hgo, hfail, hst, hleft, if_false, if_true]
  · exact connData_raises (s.onConn (.conn c) _) (.conn c) (by decide) (by omega)

/-- What a good frame leaves of a connection that is OK. -/
theorem SafeConn.after_accepted {x : SafeConn} (hst : x.st = 2) (f : List Byte) (now : Nat) : x.after f now (.accepted 0 true) =
    { (x.count 0 1).count 7 0 with
      bad := 0, lastSeq := some (leGet f 8 2), lastEcho := some (leGet f 16 4), lastStamp := leGet f 12 4, lastAt := now, good := x.good + 1,
      demand := leGet f 20 2, peer := leGet f 24 1 } := by
  simp [SafeConn.after, hst]

/-- The first frame that fails a check of order 1 or 2 is discarded, and the connection stays (R520). -/
theorem SafeConn.after_discarded_first {x : SafeConn} (hbad : x.bad = 0) (f : List Byte) (now : Nat) (o : Fin 8) :
    x.after f now (.discarded o) = { x.count o 1 with bad := 1, good := 0 } := by
  simp [SafeConn.after, hbad]

/-- The second such frame in a row is a fault (R520). -/
theorem SafeConn.after_discarded_again {x : SafeConn} (hbad : 1 ≤ x.bad) (f : List Byte) (now : Nat) (o : Fin 8) :
    x.after f now (.discarded o) = (x.count o 1).go 3 o.val now := by
  simp only [SafeConn.after, hbad, if_true]

/-! Silence and restart (R520, R521). -/

theorem execSafeWatchdog_silent {s : State} {p : SafePort} (hst : (s.safety.conn p).st = 2) (hrun : (s.safety.conn p).lastSeq.isSome = true)
    (hsilent : (s.safety.conn p).lastAt + s.safety.connWd p < s.now) : execSafeWatchdog p s = .next (s.connFail p 6) := by
  simp only [execSafeWatchdog, hst, hrun, hsilent, or_true, and_self, if_true]

theorem execSafeWatchdog_intime {s : State} {p : SafePort} (hintime : s.now ≤ (s.safety.conn p).lastAt + s.safety.connWd p) :
    execSafeWatchdog p s = .next s := by
  simp only [execSafeWatchdog, Nat.not_lt.mpr hintime, and_false, if_false]

theorem execSafeConnRestart_due {s : State} {p : SafePort} (hst : (s.safety.conn p).st = 3) (hdue : (s.safety.conn p).since + 1000 ≤ s.now) :
    execSafeConnRestart p s = .next (s.connGo p 1 0) := by
  simp only [execSafeConnRestart, hst, hdue, and_self, if_true]

theorem execSafeConnStatus_reports {o : Origin} {s : State} (h : Serves o s) (hc : FromCourt o [0, 2]) :
    execSafeConnStatus o s = .next (s.repliedOk o 0x0E12 (((List.replicate 8 ([8, 8, 16] ++ List.replicate 8 32)).flatten) ++ List.replicate 96 8 ++ [96])
      ((s.safety.conns.toList.flatMap fun x => [x.st, x.lastFail, 0] ++ x.counts.toList) ++ (s.safety.bayConns.toList.map (·.st)) ++
        [s.safety.headStop.toNat])) :=
  congrArg Host.Outcome.next (card_report h (by simp [hc]) rfl)

/-- Settles O46: a frame is judged, the connection follows the judgement, and the state follows the connection; what SAFE_CONN carries fits its
width. -/
theorem safeConnections : Obligations.SafeConnections := by
  unfold Obligations.SafeConnections
  refine ⟨fun s c hst hdue => ⟨_, execSafeFrameSend_due hst hdue, ?sent⟩, fun s p hst => execSafeFrameSend_down hst,
    fun s c f q hst hlen hcrc hdemand hstate hpeer hown hlast _ hseq hecho hage hintime => ?good, fun s c f hst hlen hcrc hbad => ?first,
    fun s c f hst hlen hcrc hbad => ?second, fun s c f hst hlen hcrc hdemand hstate hpeer => ?foreign, fun s p hst hrun hsilent => ?silent,
    fun s p _ hintime => execSafeWatchdog_intime hintime, fun s p hst hdue => ?restart, fun o s h hc => execSafeConnStatus_reports h hc⟩
  case sent =>
    have hconn : (s.connForm (.conn c)).safety.conns[c] = _ := onConn_conn_same s (.conn c) _
    exact ⟨onConn_conn_frame .., hconn ▸ ⟨rfl, rfl, rfl⟩⟩
  case good =>
    obtain ⟨t, hrow, hframe, hconn⟩ := execSafeFrameRx_stays hlen
      (SafeConn.judge_follows hst hlen hcrc hdemand hstate hpeer hown hlast hseq hecho hage hintime) (SafeConn.after_accepted hst f s.now) rfl
    exact ⟨t, hrow, hframe, hconn ▸ ⟨hst, congrArg some hseq, rfl, rfl, rfl, rfl⟩⟩
  case first =>
    obtain ⟨t, hrow, hframe, hconn⟩ := execSafeFrameRx_stays hlen (SafeConn.judge_crcWrong hst hcrc) (SafeConn.after_discarded_first hbad f s.now 1) rfl
    exact ⟨t, hrow, hframe, hconn ▸ ⟨hst, rfl, rfl, rfl⟩⟩
  case second =>
    exact execSafeFrameRx_faults (by decide) hlen hst (SafeConn.judge_crcWrong hst hcrc) (SafeConn.after_discarded_again hbad f s.now 1)
  case foreign =>
    obtain ⟨t, hrow, hstate, hfail, -⟩ := execSafeFrameRx_faults (by decide) hlen hst
      (SafeConn.judge_foreign hst hlen hcrc hdemand hstate hpeer) rfl
    exact ⟨t, hrow, hstate, hfail⟩
  case silent =>
    have hconn := connFail_conn_same s p 6
    exact ⟨_, execSafeWatchdog_silent hst hrun hsilent, connFail_frame .., congrArg SafeConn.st hconn, congrArg SafeConn.since hconn,
      congrArg SafeConn.lastFail hconn, connFail_raises s p 6⟩
  case restart =>
    have hconn := connGo_conn_same s p 1 0
    refine ⟨_, execSafeConnRestart_due hst hdue, connGo_frame .., congrArg SafeConn.st hconn, congrArg SafeConn.lastSeq hconn,
      congrArg SafeConn.seq hconn, connGo_raises s p (by decide) (by decide)⟩

end Sys2Proof.Machine

namespace Sys2Proof.Machine

/-! The random source, the fuses and the keys (spec file 20). -/

/-! The TRNG (R556, R557). -/

/-- Nothing differs but the courts and what is answered to the other twin. -/
def AnswersOnly (s t : State) : Prop := ∃ cs r, t = { s with courts := cs, twin := { s.twin with results := r } }

namespace AnswersOnly

theorem refl (s : State) : AnswersOnly s s := ⟨s.courts, s.twin.results, rfl⟩

theorem trans {s t u : State} (h : AnswersOnly s t) (k : AnswersOnly t u) : AnswersOnly s u := by
  obtain ⟨_, _, rfl⟩ := h
  obtain ⟨cs, r, rfl⟩ := k
  exact ⟨cs, r, rfl⟩

theorem answer (s : State) (c : CourtId) (m : MbxId) (st dt : Nat) (bulk : Bool) (fs : List Field) : AnswersOnly s (s.answer c m st dt bulk fs) :=
  answer_eq s c m st dt bulk fs

theorem foldl {α : Type} {f : State → α → State} (hf : ∀ t x, AnswersOnly t (f t x)) (l : List α) (s : State) : AnswersOnly s (l.foldl f s) := by
  induction l generalizing s with
  | nil => exact refl s
  | cons x l ih => exact (hf s x).trans (ih (f s x))

theorem keys_eq {s t : State} (h : AnswersOnly s t) : t.keys = s.keys := by
  obtain ⟨_, _, rfl⟩ := h
  rfl

theorem mem_eq {s t : State} (h : AnswersOnly s t) : t.mem = s.mem := by
  obtain ⟨_, _, rfl⟩ := h
  rfl

theorem bays_eq {s t : State} (h : AnswersOnly s t) : t.bays = s.bays := by
  obtain ⟨_, _, rfl⟩ := h
  rfl

theorem failDrbgWaiters (s : State) : AnswersOnly s s.failDrbgWaiters := by
  refine foldl (fun t c => foldl (fun u m => ?_) _ t) _ s
  cases (u.mbox c m).running with
  | none => exact refl u
  | some r =>
    dsimp only
    split
    · exact answer ..
    · exact refl u

end AnswersOnly

theorem execTrngReady_warming {s : State} (h : s.keys.trng = .warming) : execTrngReady s = .next { (s.setTrng .ready s.keys.retries) with
    keys := { s.keys with trng := .ready, seeded := true, drbgBytes := 0, reseedTick := s.now } } := by
  simp only [execTrngReady, h, BEq.rfl, Bool.true_or, if_true]

theorem execTrngStartupFail_retry {s : State} (h : s.keys.trng = .warming) (hr : s.keys.retries < 3) : execTrngStartupFail s =
    .next ({ s with keys := { s.keys with lastFail := s.now, seeded := false } }.setTrng .retrying (s.keys.retries + 1)) := by
  simp only [execTrngStartupFail, h, BEq.rfl, Bool.true_or, if_true, ge_iff_le, Nat.not_le.mpr hr, if_false]

theorem execTrngStartupFail_latch {s : State} (h : s.keys.trng = .retrying) (hr : 3 ≤ s.keys.retries) : execTrngStartupFail s =
    .next ({ s with keys := { s.keys with lastFail := s.now, seeded := false } }.setTrng .latched s.keys.retries) := by
  simp only [execTrngStartupFail, h, BEq.rfl, Bool.or_true, if_true, ge_iff_le, hr]

theorem execTrngContinuousFail_retry {s : State} (h : s.keys.trng = .ready) (hr : s.keys.retries < 3) : execTrngContinuousFail s =
    .next ({ s with keys := { s.keys with fails := bump 32 s.keys.fails, lastFail := s.now, seeded := false } }.setTrng .retrying
      (s.keys.retries + 1)).failDrbgWaiters := by
  simp only [execTrngContinuousFail, h, BEq.rfl, if_true, ge_iff_le, Nat.not_le.mpr hr, if_false]

theorem execTrngRetryReset_due {s : State} (h : s.keys.trng = .ready) (hdue : s.keys.lastFail + 3600000000 ≤ s.now) :
    execTrngRetryReset s = .next { s with keys := { s.keys with retries := 0 } } := by
  simp only [execTrngRetryReset, h, BEq.rfl, decide_eq_true hdue, Bool.and_self, if_true]

theorem execDrbgReseed_due {s : State} (h : s.keys.trng = .ready) (hdue : 1048576 ≤ s.keys.drbgBytes) :
    execDrbgReseed false s = .next { s with keys := { s.keys with drbgBytes := 0, reseedTick := s.now } } := by
  simp only [execDrbgReseed, h, BEq.rfl, decide_eq_true hdue, Bool.false_or, Bool.true_or, Bool.and_self, if_true]

/-! A burn that ends (R542, R571). -/

/-- The burn of CAL_KEY_HASH changes the field and the queue, and raises FUSE_BURNED. -/
theorem burnOne_calKey (s : State) (h : Nat) (o : Option Origin) (verified : Bool) : ∃ d, s.burnOne ⟨.calKey h, o⟩ verified =
    ({ s with keys := { s.keys with fuses := { s.keys.fuses with calKeyHash := h }, burns := s.keys.burns.drop 1 } }.raiseNow 433 0x0F11 d).drawn := by
  have hheld : (s.keys.unlockHeld && (BurnField.calKey h != .debugDisable)) = s.keys.unlockHeld := by
    rw [show (BurnField.calKey h != .debugDisable) = true from rfl, Bool.and_true]
  simp only [State.burnOne, hheld]
  exact ⟨_, rfl⟩

theorem execFuseBurnDone_calKey {s : State} {h : Nat} {o : Origin} {rest : List Burn} (hb : s.keys.burns = ⟨.calKey h, some o⟩ :: rest) :
    execFuseBurnDone true s = .next ((s.burnOne ⟨.calKey h, some o⟩ true).ok o [8, 24] [0, 0]) := by
  simp only [execFuseBurnDone, hb, if_true, State.burnAnswer]

/-- Settles O48: each row of the TRNG is a change of state, which the answers to the requests in wait leave as it is. -/
theorem randomAndFuses : Obligations.RandomAndFuses := by
  unfold Obligations.RandomAndFuses
  refine ⟨fun s h => ⟨_, execTrngReady_warming h, rfl, rfl, rfl, rfl, _, rfl⟩, fun s h hr => ⟨_, execTrngStartupFail_retry h hr, rfl, rfl, rfl, rfl⟩,
    fun s h hr => ⟨_, execTrngStartupFail_latch h hr, rfl, rfl⟩, fun s h hr => ⟨_, execTrngContinuousFail_retry h hr, ?fails⟩,
    fun s h hdue => execTrngRetryReset_due h hdue, fun s h hdue => execDrbgReseed_due h hdue, fun s => rfl,
    fun s h o rest hb _ => ⟨_, execFuseBurnDone_calKey hb, ?burn⟩⟩
  case fails =>
    rw [(AnswersOnly.failDrbgWaiters _).keys_eq, (AnswersOnly.failDrbgWaiters _).mem_eq, (AnswersOnly.failDrbgWaiters _).bays_eq]
    exact ⟨rfl, rfl, rfl, rfl, rfl, rfl⟩
  case burn =>
    obtain ⟨d, hburn⟩ := burnOne_calKey s h (some o) true
    rw [hburn, State.ok]
    refine ⟨?_, ?_, answer_running .., d % 2 ^ 32, ?_⟩
    · rw [(AnswersOnly.answer ..).keys_eq]
      rfl
    · rw [(AnswersOnly.answer ..).keys_eq]
      exact congrArg (List.drop 1) hb
    · rw [Raised, answer_evt]
      rfl

end Sys2Proof.Machine

namespace Sys2Proof.Machine

/-! The commands of fuses, debug state and site root (spec file 20). -/

/-- A card that answers by itself over a state it changed beside the courts. -/
theorem cardOwn_answers {o : Origin} {s : State} (h : Serves o s) (op : Nat) (lay : List Nat) (chk : State → List Chk) {body : State → State}
    (t : State) {st dt : Nat} {bulk : Bool} {fs : List Field} (hc : firstRefusal (chk (s.take o.court o.mbx op lay)) = none)
    (hb : body (s.take o.court o.mbx op lay) = (t.take o.court o.mbx op lay).answer o.court o.mbx st dt bulk fs)
    (ht : t.canTake o.court o.mbx = true) (ha : t.twin.armAt = none) : cardOwn o op lay chk body s = t.replied o op st dt bulk fs := by
  rw [cardOwn, cardLater_run h op lay chk body hc, hb]
  exact take_answer ht ha o rfl rfl op lay st dt bulk fs

/-- A card whose body changes the state beside the courts, with some values in its answer. -/
theorem card_changes {o : Origin} {s : State} (h : Serves o s) (op : Nat) (lay : List Nat) (chk : State → List Chk)
    (body : State → State × List Nat) {t : State} (hc : firstRefusal (chk (s.take o.court o.mbx op lay)) = none)
    (hb : (body (s.take o.court o.mbx op lay)).1 = t.take o.court o.mbx op lay) (ht : t.canTake o.court o.mbx = true) (ha : t.twin.armAt = none) :
    ∃ vals, card o op lay chk body s = t.repliedOk o op lay vals :=
  ⟨_, card_read h op lay chk body t _ hc (Prod.ext hb rfl) ht ha⟩

/-! What of the keys a card finds on the request it has taken. -/

section

variable (s : State) (c c' : CourtId) (m : MbxId) (op : Nat) (lay : List Nat)

@[simp] theorem now_take : (s.take c m op lay).now = s.now := rfl

@[simp] theorem rngChk_take : (s.take c m op lay).rngChk = s.rngChk := rfl

@[simp] theorem burnSet_take (field : Nat) : (s.take c m op lay).burnSet field = s.burnSet field := rfl

@[simp] theorem nodeUsable_take (keyId : Nat) : (s.take c m op lay).nodeUsable c' keyId = s.nodeUsable c' keyId := rfl

@[simp] theorem nodeAlg_take (keyId : Nat) : (s.take c m op lay).nodeAlg c' keyId = s.nodeAlg c' keyId := rfl

theorem random_take (w : Nat) : (s.take c m op lay).random w = s.random w := rfl

theorem drbg_take (n : Nat) : (s.take c m op lay).drbg n = (s.drbg n).take c m op lay := rfl

theorem holdRoot_take (r : Nat) : (s.take c m op lay).holdRoot r = (s.holdRoot r).take c m op lay := rfl

end

theorem rngChk_ready {s : State} (h : s.keys.trng = .ready) : s.rngChk = none := by
  simp only [State.rngChk, h]

theorem execFuseRead_reports {o : Origin} {s : State} (h : Serves o s) (hc : FromCourt o [0, 1, 2]) :
    execFuseRead o s = .next (s.repliedOk o 0x0F01 [64, 48, 16, 64, 64, 384, 384, 384, 384, 256]
      [s.keys.fuses.serial, s.keys.fuses.macBase, 0, s.keys.fuses.lifecycle.toNat, s.keys.fuses.fwSvn.toNat, s.keys.fuses.kfwHash0,
       s.keys.fuses.kfwHash1, s.keys.fuses.calKeyHash, s.keys.fuses.safeKeyHash,
       (List.finRange 16).foldr (fun c a => s.keys.fuses.courtGen[c].toNat + 2 ^ 16 * a) 0]) :=
  congrArg Host.Outcome.next (card_report h (by simp [hc]) rfl)

theorem execFuseBurn_waits {o : Origin} {s : State} {value : Nat} (h : Serves o s) (hc : FromCourt o [0, 1]) (hvalue : value ≠ 0)
    (hunset : s.keys.fuses.calKeyHash = 0) (hburns : s.keys.burns = []) :
    execFuseBurn o 0 value s = .next { s.take o.court o.mbx 0x0F02 [8, 24] with keys := { s.keys with burns := [⟨.calKey value, some o⟩] } } := by
  have hcourt : o.court.val ≤ 1 := by simpa [Nat.le_one_iff_eq_zero_or_eq_one] using hc
  have hcourts : FromCourt o [0, 1, 2] := by simp at hc ⊢; omega
  have hset : s.burnSet 0 = false := by simp [State.burnSet, hunset, hburns]
  refine congrArg Host.Outcome.next ((cardLater_run h _ _ _ _ (by simp [hcourts, hcourt, hvalue, hset])).trans ?_)
  have hqueue : (s.take o.court o.mbx 0x0F02 [8, 24]).keys.burns = [] := hburns
  rw [State.queueBurn, hqueue]
  rfl

theorem execFuseBurn_set {o : Origin} {s : State} {value : Nat} (h : Serves o s) (hc : FromCourt o [0, 1]) (hvalue : value ≠ 0)
    (hset : s.keys.fuses.calKeyHash ≠ 0) : execFuseBurn o 0 value s = .next (s.repliedNo o 0x0F02 stBAD_STATE 0 [8, 24]) := by
  have hcourt : o.court.val ≤ 1 := by simpa [Nat.le_one_iff_eq_zero_or_eq_one] using hc
  have hpermit : permit o [0, 1, 2] = none := by simp at hc ⊢; omega
  have hset : s.burnSet 0 = true := by simp [State.burnSet, hset]
  exact congrArg Host.Outcome.next (cardLater_refuse h _ _ _ _ (by simp [firstRefusal, hpermit, hcourt, hvalue, hset, need, rng]))

theorem execDebugChallenge_issues {o : Origin} {s : State} (h : Serves o s) (hc : FromCourt o [0]) (hen : s.keys.fuses.debugDisable = false)
    (hready : s.keys.trng = .ready) : execDebugChallenge o 0 s = .next (({ s.drbg 32 with
      keys := { (s.drbg 32).keys with challenges := s.keys.challenges ++ [(s.random 256, s.now)] } }).repliedOk o 0x0F03 [256] [s.random 256]) := by
  exact congrArg Host.Outcome.next (card_read h _ _ _ _ _ _ (by simp [hc, hen, rngChk_ready hready]) rfl h.1 h.2.1)

/-- A good token over the one live challenge is accepted, and the challenge serves once (R550). -/
theorem cardDebugUnlock_accepts {o : Origin} {s : State} {token : List Byte} {c at_ : Nat} (h : Serves o s) (hc : FromCourt o [0])
    (hmin : 1 ≤ token.length) (hmax : token.length ≤ 1024) (hen : s.keys.fuses.debugDisable = false) (hone : s.keys.challenges = [(c, at_)])
    (hlive : s.now < at_ + 600000000) (hok : Config.debugTokenOk token = true) : ∃ d, cardDebugUnlock o token s.keys.fuses.serial c s =
      ({ s with keys := { s.keys with unlockHeld := true, challenges := [] } }.raiseNow 434 0x0F12 d).repliedOk o 0x0F03 [256] [0] := by
  refine ⟨1 + 2 * b2n s.keys.debugState, card_read h _ _ _ _ _ _ (by simp [hc, hmin, hmax, hen, hone, hlive, hok]) ?_ h.1 h.2.1⟩
  have hused : (s.take o.court o.mbx 0x0F03 [256]).keys.challenges.filter (·.1 != c) = [] := by simp [hone]
  dsimp only
  rw [hused]
  rfl

/-- What a site root that was drawn and sealed leaves of the state. -/
theorem drbg_drbg_holdRoot (s : State) (n k r : Nat) : ∃ d, ((s.drbg n).drbg k).holdRoot r = { s with
    keys := { s.keys with drbgBytes := s.keys.drbgBytes + n + k, siteRoot := some r, siteRootFrom := s.now + 1 }
    free := s.free + 1 + 1
    evt := { s.evt with fresh := s.evt.fresh ++ [⟨435, 0x0F13, d, s.now⟩] } } :=
  ⟨(1 + 2 ^ 8 * (rootId r % 2 ^ 24)) % 2 ^ 32, by simp only [State.holdRoot, State.drbg, State.drawn, State.raiseNow, State.raise, State.now]⟩

/-- A site root is generated from one draw and sealed with the next. -/
theorem cardSiteRootGenerate_holds {o : Origin} {s : State} (h : Serves o s) (hc : FromCourt o [0]) (hnone : s.keys.siteRoot = none)
    (hready : s.keys.trng = .ready) : ∃ d vals, cardSiteRootGenerate o 0 0 s = ({ s with
      keys := { s.keys with drbgBytes := s.keys.drbgBytes + 32 + 12, siteRoot := some (s.random 256), siteRootFrom := s.now + 1 }
      free := s.free + 1 + 1
      evt := { s.evt with fresh := s.evt.fresh ++ [⟨435, 0x0F13, d, s.now⟩] } } : State).repliedOk o 0x0F10 [128, 768] vals := by
  obtain ⟨d, hheld⟩ := drbg_drbg_holdRoot s 32 12 (s.random 256)
  refine ⟨d, card_changes h _ _ _ _ (by simp [hc, hnone, rngChk_ready hready]) ?_ h.1 h.2.1⟩
  simp only [drbg_take, random_take, holdRoot_take, hheld]

theorem cardSiteRootLoad_opens {o : Origin} {s : State} {blob : List Byte} {r : Nat} (h : Serves o s) (hc : FromCourt o [0])
    (hnone : s.keys.siteRoot = none) (hopen : s.keys.openBlob blob = .ok r) : cardSiteRootLoad o 0 blob s =
      (s.holdRoot r).replied o 0x0F10 stOK 0 false (withValues [128, 768] [rootId r, 0]) := by
  refine cardOwn_answers h _ _ _ (s.holdRoot r) (by simp [hc, hnone]) ?_ h.1 h.2.1
  have hblob : (s.take o.court o.mbx 0x0F10 [128, 768]).keys.openBlob blob = .ok r := hopen
  simp only [hblob, holdRoot_take]

/-- Without a twin the position is this QN960's own, and it seals the blob itself. -/
theorem execSiteRootExport_seals {o : Origin} {s : State} {r : Nat} (h : Serves o s) (hc : FromCourt o [0]) (hroot : s.keys.siteRoot = some r)
    (halone : s.twin.en = false) (hready : s.keys.trng = .ready) : execSiteRootExport o 0 0 s =
      .next ((s.drbg 12).repliedOk o 0x0F10 [128, 768] [rootId r, leGet (s.keys.blob r (s.random 96)) 0 96]) := by
  have htwin : (s.take o.court o.mbx 0x0F10 [128, 768]).twin.en = false := halone
  have hkeys : (s.take o.court o.mbx 0x0F10 [128, 768]).keys.siteRoot = some r := hroot
  have hown : (s.take o.court o.mbx 0x0F10 [128, 768]).mirrored o = false := by
    have hserver : (s.take o.court o.mbx 0x0F10 [128, 768]).isReturner = false := h.2.2.2.1
    rw [State.mirrored, hserver]
    rfl
  refine congrArg Host.Outcome.next (cardOwn_answers h _ _ _ (s.drbg 12) (by simp [hc, hroot, halone, rngChk_ready hready]) ?_ h.1 h.2.1)
  dsimp only
  simp only [hown, htwin, hkeys, drbg_take, random_take]
  rfl

/-- Settles O49: each card's checks pass, and its body changes keys, events and draws beside its own mailbox. -/
theorem fuseDebugRootCards : Obligations.FuseDebugRootCards := by
  unfold Obligations.FuseDebugRootCards
  refine ⟨fun o s h hc => execFuseRead_reports h hc, fun o s value h hc hvalue hunset hburns => ⟨_, execFuseBurn_waits h hc hvalue hunset hburns, rfl⟩,
    fun o s value h hc hvalue hset => execFuseBurn_set h hc hvalue hset, fun o s h hc hen hready => execDebugChallenge_issues h hc hen hready,
    fun o s token c at_ h hc hmin hmax hen hone hlive => ⟨_, rfl, fun hok => ?unlock⟩, fun o s h hc hnone hready => ⟨_, rfl, ?generate⟩,
    fun o s blob h hc hnone => ⟨_, rfl, fun r hopen => ?load⟩,
    fun o s r h hc hroot halone hready => execSiteRootExport_seals h hc hroot halone hready⟩
  case unlock =>
    obtain ⟨d, hcard⟩ := cardDebugUnlock_accepts h hc hmin hmax hen hone hlive hok
    rw [hcard]
    exact ⟨rfl, _, rfl⟩
  case generate =>
    obtain ⟨d, vals, hcard⟩ := cardSiteRootGenerate_holds h hc hnone hready
    rw [hcard]
    exact ⟨rfl, rfl, rfl, d, rfl⟩
  case load =>
    rw [cardSiteRootLoad_opens h hc hnone hopen]
    exact ⟨rfl, rfl⟩

end Sys2Proof.Machine

namespace Sys2Proof.Machine

/-! The key commands of courts (spec file 20). -/

/-! Purpose generations and key nodes (R549, R564, R565). -/

/-- A higher purpose generation is declared for the next tick, and raised with it. -/
theorem cardKeyPurposeGen_higher {o : Origin} {s : State} {purpose gen : Nat} (h : Serves o s) (hmin : 2 ≤ purpose) (hmax : purpose ≤ 255)
    (hnode : (s.keys.courtNode s.now o.court).isSome = true) (hgen : s.keys.purposeLast o.court purpose < gen)
    (hroom : s.keys.nodesUsed < nodeLimit) : cardKeyPurposeGen o purpose gen s =
      (({ s with keys := { s.keys with purposes := s.keys.purposes ++ [⟨o.court, purpose, gen, s.now + 1⟩] } } : State).raise
        ⟨416 + o.court.val, 0x0F01, (purpose + 2 ^ 8 * (gen % 2 ^ 24)) % 2 ^ 32, s.now + 1⟩).repliedOk o 0x0F11 [32, 64] [gen, s.now + 1] := by
  refine card_read h _ _ _ _ _ _ (by simp [hmin, hmax, hnode, hgen.le, hroom]) ?_ h.1 h.2.1
  have hnew : (gen == (s.take o.court o.mbx 0x0F11 [32, 64]).keys.purposeLast o.court purpose) = false := beq_eq_false_iff_ne.2 hgen.ne'
  simp only [hnew, Bool.false_and, Bool.false_eq_true, if_false]
  rfl

/-- The state with one key node more. -/
def State.withNode (s : State) (n : KeyNode) : State := { s with keys := { s.keys with nodes := s.keys.nodes ++ [n] } }

/-- A node is created where the court holds none of its KEY_ID. -/
theorem cardKeyCreate_new {o : Origin} {s : State} {keyId alg : Nat} (h : Serves o s) (hid : 2 ≤ keyId / 2 ^ 24) (hmin : 1 ≤ alg) (hmax : alg ≤ 10)
    (hnode : (s.keys.courtNode s.now o.court).isSome = true) (hnone : s.keys.node? o.court keyId = none) (hroom : s.keys.nodesUsed + 2 ≤ nodeLimit) :
    cardKeyCreate o keyId alg 1 s = (s.withNode ⟨o.court, keyId, alg, true⟩).replied o 0x0F12 stOK 0 false
      ([(16, pubLen alg), (16, 0)] ++ bytesAsFields ((s.withNode ⟨o.court, keyId, alg, true⟩).pubKey o.court keyId alg)) := by
  have hfree : s.keys.nodesUsed + (if keyId / 2 ^ 24 ∈ s.keys.purposesOf o.court then 1 else 2) ≤ nodeLimit := by split <;> omega
  have hheld : ((s.take o.court o.mbx 0x0F12 [16, 16]).keys.node? o.court keyId).isSome = false := congrArg Option.isSome hnone
  refine cardOwn_answers h _ _ _ (s.withNode ⟨o.court, keyId, alg, true⟩) ?_ ?_ h.1 h.2.1
  · simp [hid, hmin, hmax, hnode, hnone, hfree, -Nat.reducePow]
  · simp only [hheld, Bool.false_eq_true, if_false]
    rfl

/-! Signing, key agreement and sealing (R554, R555, R566 to R568). -/

/-- EdDSA signs without the DRBG. -/
theorem execKeySign_ed25519 {o : Origin} {s : State} {keyId : Nat} {data : List Byte} (h : Serves o s) (hpurpose : keyId / 2 ^ 24 ≠ 1)
    (hmin : 1 ≤ data.length) (hmax : data.length ≤ 4000) (huse : s.nodeUsable o.court keyId = true) (halg : s.nodeAlg o.court keyId = 4) :
    execKeySign o keyId 0 data s = .next (s.drawn.replied o 0x0F20 stOK 0 false
      ([(16, 64), (16, 0)] ++ bytesAsFields (s.signWith o.court keyId 4 data))) := by
  refine congrArg Host.Outcome.next (cardOwn_answers h _ _ _ s.drawn (by simp [hpurpose, hmin, hmax, huse, halg, bitOf, -Nat.reducePow]) ?_ h.1 h.2.1)
  simp only [nodeAlg_take, halg]
  rfl

theorem execKeyEcdh_agrees {o : Origin} {s : State} {keyId m : Nat} {peer : List Byte} (h : Serves o s) (huse : s.nodeUsable o.court keyId = true)
    (halg : s.nodeAlg o.court keyId = 6) (hpoint : pointCode 6 peer = 0) (hkey : s.keys.secret s.now o.court keyId 6 = some m) :
    execKeyEcdh o keyId peer s = .next (s.replied o 0x0F21 stOK 0 false ([(8, 0), (24, 0)] ++ bytesAsFields (leBytes (Config.ecdh 6 m peer) 32))) := by
  refine congrArg Host.Outcome.next (cardOwn_answers h _ _ _ s (by simp [huse, halg]) ?_ h.1 h.2.1)
  simp only [nodeAlg_take, halg, hpoint, State.take_keys, now_take, hkey]
  rfl

/-- Whether a rejected input of a court is raised: the first, and one a second after the last that was (R555). -/
def Keys.rejectDue (k : Keys) (c : CourtId) (now : Nat) : Bool := (k.rejects[c]).1 == 0 || (k.rejects[c]).2.2 + 1000000 ≤ now

/-- The counts of a court after a rejected input. -/
def Keys.rejected (k : Keys) (c : CourtId) (now : Nat) : Keys := { k with
  rejects := k.rejects.set c ((k.rejects[c]).1 + 1, if k.rejectDue c now then 0 else (k.rejects[c]).2.1 + 1,
    if k.rejectDue c now then now else (k.rejects[c]).2.2) }

/-- What a rejected input raises (R571). -/
def Keys.rejectEvents (k : Keys) (c : CourtId) (code now : Nat) : List Ev :=
  if k.rejectDue c now then [⟨416 + c.val, 0x0F02, (code + 2 ^ 16 * min ((k.rejects[c]).2.1 + 1) 0xFFFF) % 2 ^ 32, now⟩] else []

theorem cryptoReject_eq (s : State) (c : CourtId) (code : Nat) : s.cryptoReject c code = { s with
    keys := s.keys.rejected c s.now
    evt := { s.evt with fresh := s.evt.fresh ++ s.keys.rejectEvents c code s.now } } := by
  cases hdue : s.keys.rejectDue c s.now with
  | true =>
    simp only [Keys.rejectEvents, Keys.rejected, hdue]
    simp only [Keys.rejectDue] at hdue
    simp only [State.cryptoReject, hdue, if_true]
    rfl
  | false =>
    simp only [Keys.rejectEvents, Keys.rejected, hdue]
    simp only [Keys.rejectDue] at hdue
    simp only [State.cryptoReject, hdue, Bool.false_eq_true, if_false, List.append_nil]

theorem cryptoReject_take (s : State) (c c' : CourtId) (m : MbxId) (op : Nat) (lay : List Nat) (code : Nat) :
    (s.take c m op lay).cryptoReject c' code = (s.cryptoReject c' code).take c m op lay := by
  rw [cryptoReject_eq, cryptoReject_eq]
  rfl

/-- A bad point is REJECTED_CRYPTO with its code, and counted. -/
theorem cardKeyEcdh_rejects {o : Origin} {s : State} {keyId code : Nat} {peer : List Byte} (h : Serves o s) (huse : s.nodeUsable o.court keyId = true)
    (halg : s.nodeAlg o.court keyId = 6) (hpoint : pointCode 6 peer = code) (hbad : code ≠ 0) :
    cardKeyEcdh o keyId peer s = (s.cryptoReject o.court code).replied o 0x0F21 stREJECTED_CRYPTO code false [(8, code), (24, 0)] := by
  refine cardOwn_answers h _ _ _ (s.cryptoReject o.court code) (by simp [huse, halg]) ?_ (by rw [cryptoReject_eq]; exact h.1)
    (by rw [cryptoReject_eq]; exact h.2.1)
  simp only [nodeAlg_take, halg, hpoint, bne_iff_ne, ne_eq, hbad, not_false_eq_true, if_true, cryptoReject_take]

theorem execKeyAeadSeal_seals {o : Origin} {s : State} {keyId m : Nat} {aad data : List Byte} (h : Serves o s) (haad : aad.length ≤ 256)
    (hmin : 1 ≤ data.length) (hmax : data.length ≤ 400) (huse : s.nodeUsable o.court keyId = true) (halg : s.nodeAlg o.court keyId = 9)
    (hready : s.keys.trng = .ready) (hkey : s.keys.secret s.now o.court keyId 9 = some m) :
    execKeyAeadSeal o keyId 0 aad data s = .next ((s.drbg 12).replied o 0x0F22 stOK 0 false
      ([(8, 0), (8, 0), (16, data.length + 16), (96, s.random 96)] ++
        bytesAsFields ((Config.aeadSeal m (s.random 96) aad data).take (data.length + 16)))) := by
  refine congrArg Host.Outcome.next (cardOwn_answers h _ _ _ (s.drbg 12) (by simp [haad, hmin, hmax, huse, halg, rngChk_ready hready]) ?_ h.1 h.2.1)
  simp only [nodeAlg_take, halg, State.take_keys, now_take, hkey, random_take, drbg_take]

theorem cardKeyAeadOpen_opens {o : Origin} {s : State} {keyId nonce m : Nat} {aad data p : List Byte} (h : Serves o s) (haad : aad.length ≤ 256)
    (hmin : 17 ≤ data.length) (hmax : data.length ≤ 416) (huse : s.nodeUsable o.court keyId = true) (halg : s.nodeAlg o.court keyId = 9)
    (hkey : s.keys.secret s.now o.court keyId 9 = some m) (hopen : Config.aeadOpen m nonce aad data = some p) :
    cardKeyAeadOpen o keyId nonce aad data s = s.replied o 0x0F22 stOK 0 false ([(8, 0), (8, 0), (16, p.length), (96, 0)] ++ bytesAsFields p) := by
  refine cardOwn_answers h _ _ _ s (by simp [haad, hmin, hmax, huse, halg]) ?_ h.1 h.2.1
  simp only [nodeAlg_take, halg, State.take_keys, now_take, hkey, hopen]

/-! Random bytes and the attestation (R569, R570). -/

theorem execRngRead_state {o : Origin} {s : State} {flags : Nat} (h : Serves o s) (hflags : flags < 2) : execRngRead o 0 flags s =
    .next (s.replied o 0x0F30 stOK 0 false (withValues [8, 8, 16, 32] [s.keys.trng.code, s.keys.retries, 0, s.keys.fails])) :=
  congrArg Host.Outcome.next (cardOwn_answers h _ _ _ s (by simp [hflags]) rfl h.1 h.2.1)

theorem execRngRead_bytes {o : Origin} {s : State} {count : Nat} (h : Serves o s) (hmin : 1 ≤ count) (hmax : count ≤ 256)
    (hready : s.keys.trng = .ready) : execRngRead o count 0 s =
      .next ((s.drbg count).replied o 0x0F30 stOK 0 false (withValues [8, 8, 16, 32] [s.keys.trng.code, s.keys.retries, 0, s.keys.fails] ++
        bytesAsFields (leBytes (s.random (8 * count)) count))) := by
  have hsome : (count == 0) = false := beq_eq_false_iff_ne.2 (by omega)
  refine congrArg Host.Outcome.next (cardOwn_answers h _ _ _ (s.drbg count) (by simp [hmax, rngChk_ready hready]) ?_ h.1 h.2.1)
  simp only [hsome, Bool.false_eq_true, if_false, bitOf, random_take]
  rfl

/-- A card that answers by itself is refused by its first check that fails. -/
theorem cardOwn_refuse {o : Origin} {s : State} (h : Serves o s) (op : Nat) (lay : List Nat) (chk : State → List Chk) (body : State → State)
    {st dt : Nat} (hc : firstRefusal (chk (s.take o.court o.mbx op lay)) = some (st, dt)) :
    cardOwn o op lay chk body s = s.repliedNo o op st dt lay := cardLater_refuse h op lay chk body hc

theorem execRngRead_warming {o : Origin} {s : State} (h : Serves o s) (hwarm : s.keys.trng = .warming) :
    execRngRead o 16 0 s = .next (s.repliedNo o 0x0F30 stWARMING 0 [8, 8, 16, 32]) := by
  have hrng : s.rngChk = some (stWARMING, 0) := by simp only [State.rngChk, hwarm]
  exact congrArg Host.Outcome.next (cardOwn_refuse h _ _ _ _ (by simp [firstRefusal, hrng, need, rng]))

/-- A card with a bulk result whose body changes the state: it may open a transfer, which changes the court alone, and answers OK. -/
theorem cardBulk_answers {o : Origin} {s : State} (h : Serves o s) (hfree : s.bulkFree o.court = true) (op : Nat) (lay : List Nat)
    (chk : State → List Chk) (body : State → State × List Nat × List Nat × List Byte) {u : State}
    (hc : firstRefusal (chk (s.take o.court o.mbx op lay)) = none) (hb : (body (s.take o.court o.mbx op lay)).1 = u) :
    ∃ t bulk fs, CourtOnly o.court u t ∧ (t.mbox o.court o.mbx).running = (u.mbox o.court o.mbx).running ∧
      cardBulk o op lay chk body s = t.answer o.court o.mbx stOK 0 bulk fs := by
  have hroom : (s.take o.court o.mbx op lay).bulkFree o.court = true := by
    rw [State.bulkFree, State.take, onMbx_outXfers]
    exact hfree
  have hpass := modeChecks_pass h op lay _ hc
  rw [firstRefusal_cons] at hpass
  have hall : firstRefusal (reserved o :: need ((s.take o.court o.mbx op lay).bulkFree o.court) stNO_RESOURCE 0 ::
      (modeChecks (s.take o.court o.mbx op lay) op ++ chk (s.take o.court o.mbx op lay))) = none := by
    simp only [firstRefusal_cons, need_none, hroom, hpass, and_self]
  simp only [cardBulk, h.1, if_true, hall, hb]
  split
  · exact ⟨u, _, _, ⟨id, by simp [State.onCourt, vmod]⟩, rfl, rfl⟩
  · exact ⟨_, _, _, ⟨_, rfl⟩, sendBulk_running .., rfl⟩

/-- The attestation draws on the DRBG and leaves the request answered. -/
theorem cardAttest_answers {o : Origin} {s : State} {nonceLen : Nat} {nonce : List Byte} (h : Serves o s) (hmax : nonceLen ≤ 32)
    (hlen : nonce.length = nonceLen) (hready : s.keys.trng = .ready) (hfree : s.bulkFree o.court = true) :
    CourtOnly o.court (s.drbg 32) (cardAttest o nonceLen nonce s) ∧ ((cardAttest o nonceLen nonce s).mbox o.court o.mbx).running = none := by
  obtain ⟨r, hr, hvia⟩ := take_running h 0x0F40 [16, 16]
  obtain ⟨t, bulk, fs, hcourt, hrunning, hcard⟩ := cardBulk_answers h hfree 0x0F40 [16, 16]
    (fun t => [rng 1 (nonceLen ≤ 32), rng 3 (nonce.length ≤ 32 && (nonce.drop nonceLen).all (· == 0)), t.rngChk])
    (fun t => (t.drbg 32, [], [], t.attest o (nonce.take nonceLen))) (by simp [← hlen, hlen ▸ hmax, rngChk_ready hready]) rfl
  obtain ⟨f, hans⟩ := answer_own (hrunning.trans hr) hvia stOK 0 bulk fs
  rw [cardAttest, hcard]
  refine ⟨?_, answer_running ..⟩
  rw [drbg_take] at hcourt
  have htake : CourtOnly o.court (s.drbg 32) ((s.drbg 32).take o.court o.mbx 0x0F40 [16, 16]) := ⟨_, rfl⟩
  rw [hans]
  exact (htake.trans hcourt).trans ⟨_, rfl⟩

/-- Settles O50: a card on a usable node passes its checks, and its body answers over what it changed of keys, events and draws. -/
theorem keyCards : Obligations.KeyCards := by
  unfold Obligations.KeyCards
  refine ⟨fun o s purpose gen h hmin hmax hnode hgen hroom => ⟨_, congrArg Host.Outcome.next (cardKeyPurposeGen_higher h hmin hmax hnode hgen hroom),
      rfl, rfl, _, rfl⟩,
    fun o s keyId alg h hid hmin hmax hnode hnone hroom => ⟨_, congrArg Host.Outcome.next (cardKeyCreate_new h hid hmin hmax hnode hnone hroom),
      rfl, rfl, congrArg Mailbox.running (mbox_onMbx ..)⟩,
    fun o s keyId data h hpurpose hmin hmax huse halg => execKeySign_ed25519 h hpurpose hmin hmax huse halg,
    fun o s keyId peer m h huse halg hpoint hkey => execKeyEcdh_agrees h huse halg hpoint hkey,
    fun o s keyId peer h huse halg hpoint => ⟨_, congrArg Host.Outcome.next (cardKeyEcdh_rejects h huse halg hpoint (by decide)), ?reject⟩,
    fun o s keyId aad data m h haad hmin hmax huse halg hready hkey => execKeyAeadSeal_seals h haad hmin hmax huse halg hready hkey,
    fun o s keyId nonce aad data m h haad hmin hmax huse halg hkey =>
      ⟨_, rfl, fun p hopen => cardKeyAeadOpen_opens h haad hmin hmax huse halg hkey hopen⟩,
    fun o s flags h hflags => execRngRead_state h hflags, fun o s count h hmin hmax hready => execRngRead_bytes h hmin hmax hready,
    fun o s h hwarm => execRngRead_warming h hwarm,
    fun o s nonceLen nonce h hmax hlen hready hfree => ⟨_, rfl, ?attest⟩⟩
  case reject =>
    rw [cryptoReject_eq]
    exact ⟨congrArg Prod.fst (Vector.getElem_set_self ..), congrArg Mailbox.out (mbox_onMbx ..)⟩
  case attest =>
    obtain ⟨⟨f, hcourt⟩, hrunning⟩ := cardAttest_answers h hmax hlen hready hfree
    refine ⟨?_, ?_, hrunning⟩
    · rw [hcourt]
      rfl
    · rw [hcourt]
      rfl

end Sys2Proof.Machine

namespace Sys2Proof.Machine

/-! The fault commands (spec file 21). -/

/-! Reports (R598, R599, R600). -/

/-- The words of the regions stand between the first three values and the masks. -/
theorem faultStatus_regions_length (s : State) : (allRegions.flatMap fun r =>
    [(s.regions[r]).spareUsed.toNat, (s.regions[r]).blockFail.toNat,
      b2n (s.regions[r]).regionFail + 2 * b2n (s.faults.degraded.any (·.1 == 96 + r.val)) + 4 * ((s.regions[r]).failCause % 8), 0]).length = 64 := by
  simp only [List.length_flatMap, List.length_cons, List.length_nil, List.map_const', List.sum_replicate]
  rfl

theorem execFaultStatus_reports {o : Origin} {s : State} (h : Serves o s) (hc : FromCourt o [0, 2]) :
    ∃ regs, regs.length = 64 ∧ execFaultStatus o s = .next (s.repliedOk o 0x1001
      ([32, 32, 64] ++ (List.replicate 16 [8, 8, 8, 8]).flatten ++ [96, 96] ++ List.replicate 9 32 ++ [16, 16])
      ([s.faultStat, s.faults.book.next, s.faults.book.freezeTick] ++ regs ++ [s.degradedMask.toNat, s.outMask.toNat] ++ s.faults.counts.toList ++
        [ubits 16 s.faults.tjMax, 0])) :=
  ⟨_, faultStatus_regions_length s, congrArg Host.Outcome.next (card_report h (by simp [hc]) rfl)⟩

theorem maySee_of_court {o : Origin} (hc : FromCourt o [0, 2]) (s : State) (c : Option CellId) : s.maySee o c = true := by
  have hcourt : (o.court.val == 0 || o.court.val == 2) = true := by simpa using hc
  match c with
  | some (.bay b off) => simp only [State.maySee, hcourt, Bool.true_or]
  | some (.site r w) => exact hcourt
  | none => exact hcourt

theorem cellNamed_spare (region block : Nat) : cellNamed region block 8 = none := by
  unfold cellNamed
  split
  · exact if_neg fun h => absurd h.2 (by decide)
  · rfl

theorem execCellStatus_cell {o : Origin} {s : State} {region block slot : Nat} {c : CellId} (h : Serves o s) (hc : FromCourt o [0, 2])
    (hregion : region < 16) (hblock : block < 8) (hslot : slot < 8) (hname : cellNamed region block slot = some c) :
    execCellStatus o region block slot s = .next (s.repliedOk o 0x1002 [8, 8, 8, 8, 32, 32, 32, 32, 32, 64, 64]
      [if s.covered c then 8 else slot, s.cellState c, s.cellTag c, c.bayNo, (s.cellRec c).overruns, (s.cellRec c).poison, (s.cellRec c).lockups,
       (s.cellRec c).traps, (s.cellRec c).corrected, (s.cellRec c).failTick, (s.cellRec c).resumeTick]) := by
  refine congrArg Host.Outcome.next (card_report h (by simp [maySee_of_court hc, hregion, hblock, hslot.le]) ?_)
  rw [hname]
  rfl

theorem execCellStatus_spare {o : Origin} {s : State} {region block : Nat} (h : Serves o s) (hc : FromCourt o [0, 2])
    (hregion : region < 16) (hblock : block < 8) : execCellStatus o region block 8 s =
      .next (s.repliedOk o 0x1002 [8, 8, 8, 8, 32, 32, 32, 32, 32, 64, 64]
        [8, 5 + (s.blockRec (8 * region + block)).spare, 0, 0xFF, 0, 0, 0, 0, 0, 0, 0]) := by
  refine congrArg Host.Outcome.next (card_report h (by simp [maySee_of_court hc, hregion, hblock]) ?_)
  rw [cellNamed_spare]
  rfl

theorem sbRec_bytes_ne_nil (r : SbRec) : r.bytes ≠ [] := by
  simp [← List.length_pos_iff, SbRec.bytes, leBytes_length]

/-- SCOREBOOK_READ of the oldest record, where none has been overwritten, sends it and changes its court alone. -/
theorem cardScorebookRead_oldest {o : Origin} {s : State} (h : Serves o s) (hc : FromCourt o [0, 2]) (hfree : s.bulkFree o.court = true)
    (hfailed : s.faults.book.failed = false) (hrecs : s.faults.book.recs ≠ []) (hnext : s.faults.book.next = s.faults.book.recs.length) :
    CourtOnly o.court s (cardScorebookRead o 0 1 0 s) ∧
      (cardScorebookRead o 0 1 0 s).courts[o.court].outXfers.length = s.courts[o.court].outXfers.length + 1 ∧
      ((cardScorebookRead o 0 1 0 s).mbox o.court o.mbx).running = none := by
  have hpos : 0 < s.faults.book.recs.length := List.length_pos_iff.2 hrecs
  refine cardBulk_sends h hfree _ _ _ (by simp [hc, hfailed, hnext, hpos]) rfl ?_
  obtain ⟨r, rs, hrev⟩ := List.exists_cons_of_ne_nil (List.reverse_ne_nil_iff.2 hrecs)
  simp only [State.take_faults, hnext, hrev, if_true, Nat.sub_self, List.drop_zero, List.take_succ_cons, List.take_zero, List.flatMap_cons,
    List.flatMap_nil, List.append_nil]
  exact sbRec_bytes_ne_nil r

/-! SCOREBOOK_RELEASE and FAULT_INJECT (R595, R601, R602). -/

/-- What SCOREBOOK_RELEASE makes of the scorebook before RELEASED is written. -/
def Scorebook.released (k : Scorebook) : Scorebook := { k with recs := [], next := 0, frozen := false, failed := false, freezeTick := 0, rates := [] }

/-- The first record of a scorebook that was released is the one written. -/
theorem Scorebook.released_write (k : Scorebook) (cell now : Nat) (r : SbRec) : k.released.write cell now r =
    { k.released with rates := [⟨r.code, cell, now, 1, 0⟩], recs := [r], next := 1 } := rfl

theorem execScorebookRelease_released {o : Origin} {s : State} (h : Serves o s) (hc : FromCourt o [0]) : execScorebookRelease o 0 true s =
    .next ({ s with faults := { s.faults with
      book := s.faults.book.released.write 1024 s.now (siteSb s.now 5 0x0502 0 0 s.faults.book.next 0) } }.repliedOk o 0x1011 [8, 24] [0, 0]) :=
  congrArg Host.Outcome.next (card_read h _ _ _ _ _ _ (by simp [hc]) rfl h.1 h.2.1)

theorem execFaultInject_waits {o : Origin} {s : State} {region block slot kind : Nat} {b : BayId} {off : Fin 10} (h : Serves o s)
    (hc : FromCourt o [0]) (hregion : region < 16) (hblock : block < 8) (hslot : slot < 8) (hkind : kind ≤ 1)
    (hname : cellNamed region block slot = some (.bay b off)) (hlegal : s.cellTag (.bay b off) ≠ 1) (hsafety : s.cellTag (.bay b off) ≠ 2)
    (hspare : (s.blockRec (8 * region + block)).spare = 0) (hfatal : s.faults.fatal = false) (hidle : s.bays[b].session.st = .idle) :
    execFaultInject o region block slot kind s = .next ({ s with faults := { s.faults with
      inject := s.faults.inject ++ [(CellId.bay b off, kind, s.now + 1)] } }.repliedOk o 0x1020 [64, 64] [s.now + 1, s.now + 3]) := by
  have htag (op : Nat) (lay : List Nat) : (s.take o.court o.mbx op lay).cellTag (.bay b off) = s.cellTag (.bay b off) := rfl
  have hblk (op : Nat) (lay : List Nat) : ((s.take o.court o.mbx op lay).blockRec (8 * region + block)).spare = 0 := hspare
  have hcourt : o.court.val = 0 := by simpa using hc
  have hst : s.bays[b.val].session.st = .idle := hidle
  refine congrArg Host.Outcome.next (card_read h _ _ _ _ _ _ ?_ ?_ h.1 h.2.1)
  · simp [hname, htag, hlegal, hsafety, hcourt, hregion, hblock, hslot, hkind, hblk, hfatal, hst]
  · rw [hname]
    rfl

/-- Settles O52: the reports read, and the two commands that change the state change the fault state alone. -/
theorem faultCards : Obligations.FaultCards := by
  unfold Obligations.FaultCards
  refine ⟨fun o s h hc => ?status, fun o s region block slot c h hc hregion hblock hslot hname => execCellStatus_cell h hc hregion hblock hslot hname,
    fun o s region block h hc hregion hblock => execCellStatus_spare h hc hregion hblock,
    fun o s h hc hfree hfailed hrecs hnext => ⟨_, rfl, ?read⟩,
    fun o s h hc => ⟨_, execScorebookRelease_released h hc, rfl, rfl, rfl, rfl, rfl, rfl, rfl⟩,
    fun o s region block slot kind b off h hc hregion hblock hslot hkind hname hlegal hsafety hspare hfatal hidle =>
      execFaultInject_waits h hc hregion hblock hslot hkind hname hlegal hsafety hspare hfatal hidle⟩
  case status =>
    obtain ⟨regs, hlen, hrow⟩ := execFaultStatus_reports h hc
    refine ⟨_, hrow, rfl, ?_⟩
    rw [List.append_assoc, List.append_assoc, List.drop_left' (by simp [hlen])]
    simp
  case read =>
    obtain ⟨hcourt, hsent, hrunning⟩ := cardScorebookRead_oldest h hc hfree hfailed hrecs hnext
    exact ⟨hcourt.frame.1, hrunning, hsent⟩

end Sys2Proof.Machine

namespace Sys2Proof.Machine

/-! The safety unit: inputs, functions and encoders (spec file 18). -/

/-! A function goes to a state (R494, R516). -/

/-- A function that goes to another state raises FUNC_STATE, and nothing else differs. -/
theorem fnGo_goes {s : State} {f : Fin 16} {st : Nat} (h : (s.safety.fns[f]).st ≠ st) (cause inp : Nat) : ∃ y d,
    s.fnGo f st cause inp = { s with
      safety := { s.safety with fns := s.safety.fns.set f y }
      evt := { s.evt with fresh := s.evt.fresh ++ [⟨480 + f.val, 0x0E01, d, s.now⟩] } } ∧
    y.st = st ∧ y.cause = cause ∧ y.since = s.safety.us ∧ y.hand = (s.safety.fns[f]).hand := by
  simp only [State.fnGo, h, if_false]
  exact ⟨_, _, rfl, rfl, rfl, rfl, rfl⟩

/-- A demand without CAT1 moves a permitting function to DEMAND, and is counted (R495). -/
theorem fnDemand_goes {s : State} {f : Fin 16} (hflag : s.safety.fnFlag f.val 0 = false) (h : (s.safety.fns[f]).st ≠ 3) (cause : Nat) : ∃ y d,
    s.fnDemand f cause = { s with
      safety := { s.safety with demands := bump 32 s.safety.demands, fns := s.safety.fns.set f y }
      evt := { s.evt with fresh := s.evt.fresh ++ [⟨480 + f.val, 0x0E01, d, s.now⟩] } } ∧
    y.st = 3 ∧ y.cause = cause ∧ y.hand = (s.safety.fns[f]).hand := by
  obtain ⟨y, d, hgo, hst, hcause, -, hhand⟩ := fnGo_goes (s := s.onSafety fun k => { k with demands := bump 32 k.demands }) h cause 0xFF
  refine ⟨y, d, ?_, hst, hcause, hhand⟩
  simp only [State.fnDemand, hflag, Bool.false_eq_true, if_false, hgo]
  rfl

/-- A byte of a function record fits a byte. -/
theorem fnRec_byte_lt (k : Safety) (f off : Nat) : k.fnRec f off 1 < 256 := by
  unfold Safety.fnRec Safety.get
  split
  · simp only [leGet]
    omega
  · decide

/-- The first hand of a TWO_HAND function no longer waits for the second (R498). -/
def State.handGone (s : State) (f : Fin 16) : State := s.onSafety fun k => { k with fns := vmod k.fns f fun x => { x with hand := none } }

theorem handGone_fn (s : State) (f : Fin 16) : (s.handGone f).safety.fns[f] = { s.safety.fns[f] with hand := none } := vmod_same ..

/-! The rows of the functions, where their condition holds. -/

section

variable {s : State} {f : Fin 16} (hrun : s.safety.st = 2)
include hrun

theorem execDiscrepancyTimeout_first {at_ : Nat} (hdiffer : (s.safety.fns[f]).d1.differ = some at_)
    (hlong : at_ + 1000 * s.safety.fnRec f.val 8 2 < s.safety.us) (hfault : (s.safety.fns[f]).d1.fault = false) :
    execDiscrepancyTimeout f false s = .next ((s.onSafety fun k => { k with fns := vmod k.fns f fun x =>
      { x with d1 := { (s.safety.fns[f]).d1 with fault := true, zeroSeen := false, firstOne := none } } }).raiseNow
        504 0x0E03 (s.safety.fnRec f.val 2 1 + 2 ^ 8 * 3 + 2 ^ 10)) := by
  simp only [execDiscrepancyTimeout, Bool.false_eq_true, if_false, hrun, hdiffer, decide_eq_true hlong, hfault, Bool.not_false, and_self, if_true]

theorem execStop1Expire_quiet (hst : (s.safety.fns[f]).st = 2) (hdue : (s.safety.fns[f]).since + 1000 * s.safety.fnRec f.val 10 2 ≤ s.safety.us)
    (hown : s.safety.ownDemand f = none) (hconn : s.safety.connDemand f.val = false) (hauto : s.safety.fnFlag f.val 1 = false) :
    execStop1Expire f s = .next (s.fnGo f 4 0 0xFF) := by
  simp only [execStop1Expire, hrun, hst, hdue, and_self, if_true, hown, hconn, hauto, Bool.false_eq_true, if_false]

theorem execStop1Expire_demand {c : Nat} (hst : (s.safety.fns[f]).st = 2)
    (hdue : (s.safety.fns[f]).since + 1000 * s.safety.fnRec f.val 10 2 ≤ s.safety.us) (hown : s.safety.ownDemand f = some c) :
    execStop1Expire f s = .next (s.fnGo f 3 c 0xFF) := by
  simp only [execStop1Expire, hrun, hst, hdue, and_self, if_true, hown]

theorem execTwoHandWindowExpire_due {at_ : Nat} (hst : (s.safety.fns[f]).st = 6) (hhand : (s.safety.fns[f]).hand = some at_)
    (hdue : at_ + 500000 ≤ s.safety.us) : execTwoHandWindowExpire f s =
      .next ((s.handGone f).fnDemand f 1) := by
  simp only [execTwoHandWindowExpire, hhand, hrun, hst, hdue, and_self, if_true]
  rfl

theorem execMuteLimit_due (hst : (s.safety.fns[f]).st = 7) (hdue : (s.safety.fns[f]).since + 1000000 * s.safety.fnRec f.val 24 4 ≤ s.safety.us) :
    execMuteLimit f s = .next (s.muteEnd f true) := by
  simp only [execMuteLimit, hrun, hst, hdue, and_self, if_true]

end

/-- Muting that ends at its limit with the OSSD pair healthy leaves the function in RUN (R499). -/
theorem muteEnd_healthy {s : State} {f : Fin 16} (hst : (s.safety.fns[f]).st = 7) (h : s.safety.healthy f.val = true) : ∃ y d,
    s.muteEnd f true = { s with
      safety := { s.safety with fns := s.safety.fns.set f y }
      evt := { s.evt with fresh := s.evt.fresh ++ [⟨508, 0x0E07, f.val + 2 ^ 5, s.now⟩, ⟨480 + f.val, 0x0E01, d, s.now⟩] } } ∧
    y.st = 1 ∧ y.cause = 6 := by
  have hne : ((s.raiseNow 508 0x0E07 (f.val + 2 ^ 5)).safety.fns[f]).st ≠ 1 :=
    fun hn => absurd (hst.symm.trans hn) (by decide)
  have hdata : (f.val + 2 ^ 5) % 2 ^ 32 = f.val + 2 ^ 5 := Nat.mod_eq_of_lt (by omega)
  obtain ⟨y, d, hgo, hrun, hcause, -⟩ := fnGo_goes hne 6 0xFF
  refine ⟨y, d, ?_, hrun, hcause⟩
  have hend : s.muteEnd f true = (s.raiseNow 508 0x0E07 (f.val + 2 ^ 5)).fnGo f 1 6 0xFF := if_pos h
  rw [hend, hgo]
  simp only [State.raiseNow, hdata, State.raise, List.append_assoc, List.cons_append, List.nil_append]
  rfl

/-- Muting that ends at its limit with the OSSD pair not healthy is a demand (R499). -/
theorem muteEnd_unhealthy {s : State} {f : Fin 16} (hst : (s.safety.fns[f]).st = 7) (h : s.safety.healthy f.val = false)
    (hflag : s.safety.fnFlag f.val 0 = false) : ((s.muteEnd f true).safety.fns[f]).st = 3 ∧ ((s.muteEnd f true).safety.fns[f]).cause = 6 := by
  have hne : ((s.raiseNow 508 0x0E07 (f.val + 2 ^ 5)).safety.fns[f]).st ≠ 3 :=
    fun hn => absurd (hst.symm.trans hn) (by decide)
  obtain ⟨y, d, hgo, hdemand, hcause, -⟩ := fnDemand_goes (s := s.raiseNow 508 0x0E07 (f.val + 2 ^ 5)) hflag hne 6
  have hend : s.muteEnd f true = (s.raiseNow 508 0x0E07 (f.val + 2 ^ 5)).fnDemand f 6 := if_neg (Bool.eq_false_iff.1 h)
  rw [hend, hgo]
  simp [hdemand, hcause]

/-! Resets (R509 to R511). -/

theorem execResetEdge_none {s : State} {i : Fin 24} (h : (s.safety.ins[i]).edge = false) : execResetEdge i s = .next s := by
  simp only [execResetEdge, h, Bool.not_false, or_true, if_true]

/-- A reset edge at a function whose encoder has been reset: the function follows where its demand and faults are gone (R500, R511). -/
def State.fnCleared (s : State) (f : Fin 16) : State :=
  let k := s.safety
  let x := k.fns[f]
  if x.st = 4 then
    (if k.isFallback f.val ∧ !k.armed f then s.fnGo f 9 0 0xFF
     else if (k.ownDemand f).isSome ∨ k.connDemand f.val ∨ !(k.faults f).isEmpty then s
     else s.fnGo f 1 0 0xFF)
  else if x.st = 5 then (if (k.faults f).isEmpty then s.fnStand f else s)
  else if x.st = 8 then (if (k.faults f).isEmpty then (s.fnStand f).raiseNow 509 0x0E08 f.val else s)
  else s

/-- A reset edge at the encoder of a function (R500). -/
def State.encReset (s : State) (f : Fin 16) : State :=
  match s.safety.encOf f.val with
  | some n =>
    let e := s.safety.encs[n]
    if !e.valid && e.ok then s.onSafety fun k => { k with encs := vmod k.encs n fun e => { e with valid := true, refd := false, bad := 0 } }
    else s
  | none => s

theorem fnReset_eq (s : State) (f : Fin 16) : s.fnReset f = (s.encReset f).fnCleared f := rfl

/-- What a reset edge leaves of the unit while it goes through the functions and the pairs: inputs, fault kinds of the pairs, configuration and
time, and the legal court. -/
structure SafeKept (s t : State) : Prop where
  ins : t.safety.ins = s.safety.ins
  kinds : ∀ p : Fin 8, (t.safety.pairs[p]).kind = (s.safety.pairs[p]).kind
  cfg : t.safety.cfg = s.safety.cfg
  us : t.safety.us = s.safety.us
  legal : t.legal = s.legal

namespace SafeKept

theorem refl (s : State) : SafeKept s s := ⟨rfl, fun _ => rfl, rfl, rfl, rfl⟩

theorem trans {s t u : State} (h : SafeKept s t) (k : SafeKept t u) : SafeKept s u :=
  ⟨k.ins.trans h.ins, fun p => (k.kinds p).trans (h.kinds p), k.cfg.trans h.cfg, k.us.trans h.us, k.legal.trans h.legal⟩

theorem foldl {α : Type} {f : State → α → State} (hf : ∀ t x, SafeKept t (f t x)) (l : List α) (s : State) : SafeKept s (l.foldl f s) := by
  induction l generalizing s with
  | nil => exact refl s
  | cons x l ih => exact (hf s x).trans (ih (f s x))

theorem raiseNow {s t : State} (h : SafeKept s t) (source kind data : Nat) : SafeKept s (t.raiseNow source kind data) :=
  ⟨h.ins, h.kinds, h.cfg, h.us, h.legal⟩

theorem setFns {s t : State} (h : SafeKept s t) (g : Safety → Vector SafeFn 16) : SafeKept s (t.onSafety fun k => { k with fns := g k }) :=
  ⟨h.ins, h.kinds, h.cfg, h.us, h.legal⟩

theorem setEncs {s t : State} (h : SafeKept s t) (g : Safety → Vector SafeEnc 4) : SafeKept s (t.onSafety fun k => { k with encs := g k }) :=
  ⟨h.ins, h.kinds, h.cfg, h.us, h.legal⟩

theorem fnGo {s t : State} (h : SafeKept s t) (f : Fin 16) (st cause inp : Nat) : SafeKept s (t.fnGo f st cause inp) := by
  unfold State.fnGo
  dsimp only
  split
  · exact h
  · exact (h.setFns _).raiseNow ..

theorem fnStand {s t : State} (h : SafeKept s t) (f : Fin 16) : SafeKept s (t.fnStand f) := by
  unfold State.fnStand
  dsimp only
  split
  · split
    · exact h.fnGo ..
    · exact h.fnGo ..
  · split
    · exact h.fnGo ..
    · split
      · exact (h.setFns _).fnGo ..
      · split
        · exact (h.setFns _).fnGo ..
        · exact (h.setFns _).fnGo ..

theorem fnCleared {s t : State} (h : SafeKept s t) (f : Fin 16) : SafeKept s (t.fnCleared f) := by
  unfold State.fnCleared
  dsimp only
  split
  · split
    · exact h.fnGo ..
    · split
      · exact h
      · exact h.fnGo ..
  · split
    · split
      · exact h.fnStand f
      · exact h
    · split
      · split
        · exact (h.fnStand f).raiseNow ..
        · exact h
      · exact h

theorem encReset (s : State) (f : Fin 16) : SafeKept s (s.encReset f) := by
  unfold State.encReset
  split
  · dsimp only
    split
    · exact (refl s).setEncs _
    · exact refl s
  · exact refl s

theorem fnReset (s : State) (f : Fin 16) : SafeKept s (s.fnReset f) := by
  rw [fnReset_eq]
  exact fnCleared (encReset s f) f

/-- The switches of a pair may change, not its fault kind. -/
theorem setPair (s : State) (p : Fin 8) {x : SafePair} (hx : x.kind = (s.safety.pairs[p]).kind) :
    SafeKept s { s with safety := { s.safety with pairs := s.safety.pairs.set p x } } := by
  refine ⟨rfl, fun q => ?_, rfl, rfl, rfl⟩
  by_cases hq : p.val = q.val
  · obtain rfl := Fin.ext hq
    exact (congrArg SafePair.kind (Vector.getElem_set_self ..)).trans hx
  · exact congrArg SafePair.kind (Vector.getElem_set_ne p.isLt q.isLt hq)

theorem pairDrive (s : State) (p : Fin 8) : SafeKept s (s.pairDrive p) := by
  unfold State.pairDrive State.onSafety
  dsimp only
  split
  · exact setPair s p rfl
  · split
    · exact setPair s p rfl
    · exact refl s

theorem onBay (s : State) (b : BayId) (g : Bay → Bay) : SafeKept s (s.onBay b g) := ⟨rfl, fun _ => rfl, rfl, rfl, rfl⟩

theorem stopBus (s : State) : SafeKept s s.stopBus := by
  unfold State.stopBus
  exact foldl (fun t b => onBay t b _) _ s

end SafeKept

/-- A fold in which one element settles something that the others leave settled. -/
theorem foldl_settles {α : Type} {f : State → α → State} {x : α} {I G : State → Prop} (hI : ∀ t y, I t → I (f t y)) (hx : ∀ t, I t → G (f t x))
    (hG : ∀ t y, G t → G (f t y)) {l : List α} (hmem : x ∈ l) {s : State} (hs : I s) : G (l.foldl f s) := by
  induction l generalizing s with
  | nil => cases hmem
  | cons y l ih =>
    rcases List.mem_cons.1 hmem with rfl | hmem
    · exact List.foldlRecOn l f (hx s hs) fun t ht z _ => hG t z ht
    · exact ih hmem (hI s y hs)

/-- One pair at a reset edge of input `i`, read with the configuration `k` (R511). -/
def State.pairReset (k : Safety) (i : Fin 24) (t : State) (p : Fin 8) : State :=
  let x := t.safety.pairs[p]
  if bitOf (k.pairRec p.val 0 1) 0 && k.pairRec p.val 1 1 == i.val && x.kind != 0 && x.passed then
    (t.onSafety fun k => { k with pairs := vmod k.pairs p fun x => { x with kind := 0, passed := false } }).raiseNow (496 + p.val) 0x0E02 x.kind
  else t

/-- The pairs at a reset edge: each stays or has its fault cleared; beside them the events alone differ. -/
theorem pairReset_eq (k : Safety) (i : Fin 24) (t : State) (p : Fin 8) : ∃ v es, t.pairReset k i p = { t with
    safety := { t.safety with pairs := v }
    evt := { t.evt with fresh := t.evt.fresh ++ es } } ∧ ∀ q : Fin 8, v[q] = t.safety.pairs[q] ∨ (v[q]).kind = 0 := by
  unfold State.pairReset
  dsimp only
  split
  · refine ⟨_, [_], rfl, fun q => ?_⟩
    by_cases hq : q = p
    · subst hq
      exact .inr (congrArg SafePair.kind (vmod_same ..))
    · exact .inl (vmod_other _ _ _ _ hq)
  · exact ⟨t.safety.pairs, [], by rw [List.append_nil], fun q => .inl rfl⟩

/-- A pair that names the input, whose fault is left to clear and has passed its test, has none afterwards. -/
theorem pairReset_clears {k : Safety} {i : Fin 24} {t : State} {p : Fin 8} (hen : bitOf (k.pairRec p.val 0 1) 0 = true)
    (hnamed : k.pairRec p.val 1 1 = i.val) (h : (t.safety.pairs[p]).kind = 0 ∨ (t.safety.pairs[p]).passed = true) :
    ((t.pairReset k i p).safety.pairs[p]).kind = 0 := by
  by_cases hkind : (t.safety.pairs[p]).kind = 0
  · simp only [State.pairReset, hkind, bne_self_eq_false, Bool.and_false, Bool.false_and, Bool.false_eq_true, if_false]
  · have hpassed := h.resolve_left hkind
    simp only [State.pairReset, hen, hnamed, BEq.rfl, bne_iff_ne.2 hkind, hpassed, Bool.and_self, if_true]
    exact congrArg SafePair.kind (vmod_same ..)

/-- What the reset edge at the pairs keeps of the unit. -/
structure PairsReset (s t : State) : Prop where
  ins : t.safety.ins = s.safety.ins
  cfg : t.safety.cfg = s.safety.cfg
  us : t.safety.us = s.safety.us
  legal : t.legal = s.legal
  pairs : ∀ p : Fin 8, t.safety.pairs[p] = s.safety.pairs[p] ∨ (t.safety.pairs[p]).kind = 0

theorem PairsReset.pairReset {s t : State} (h : PairsReset s t) (k : Safety) (i : Fin 24) (p : Fin 8) : PairsReset s (t.pairReset k i p) := by
  obtain ⟨v, es, heq, hv⟩ := pairReset_eq k i t p
  rw [heq]
  refine ⟨h.ins, h.cfg, h.us, h.legal, fun q => ?_⟩
  rcases hv q with hq | hq
  · rw [show v[q] = t.safety.pairs[q] from hq]
    exact h.pairs q
  · exact .inr hq

/-- After the reset edge went through the pairs, the pair that names the input and has passed its test has no fault. -/
theorem foldl_pairReset {s t : State} {k : Safety} {i : Fin 24} {p : Fin 8} (hen : bitOf (k.pairRec p.val 0 1) 0 = true)
    (hnamed : k.pairRec p.val 1 1 = i.val) (hpassed : (s.safety.pairs[p]).passed = true) (h : PairsReset s t) :
    PairsReset s ((List.finRange 8).foldl (State.pairReset k i) t) ∧
      (((List.finRange 8).foldl (State.pairReset k i) t).safety.pairs[p]).kind = 0 := by
  refine foldl_settles (x := p) (I := PairsReset s) (G := fun u => PairsReset s u ∧ (u.safety.pairs[p]).kind = 0)
    (fun u q hu => hu.pairReset k i q) (fun u hu => ⟨hu.pairReset k i p, pairReset_clears hen hnamed ?_⟩) (fun u q hu => ⟨hu.1.pairReset k i q, ?_⟩)
    (List.mem_finRange p) h
  · rcases hu.pairs p with hp | hp
    · exact .inr (hp ▸ hpassed)
    · exact .inl hp
  · obtain ⟨v, es, heq, hv⟩ := pairReset_eq k i u q
    rw [heq]
    rcases hv p with hp | hp
    · exact (congrArg SafePair.kind hp).trans hu.2
    · exact hp

/-- The edge of an input is taken. -/
def State.edgeTaken (s : State) (i : Fin 24) : State := s.onSafety fun k => { k with ins := vmod k.ins i fun x => { x with edge := false } }

/-- What follows the pairs at a reset edge: functions, bay stops, the switches and the stop bus. -/
def State.resetRest (s : State) (k : Safety) (i : Fin 24) (free : BitVec 96) : State :=
  (((List.finRange 8).foldl State.pairDrive
    (((List.finRange 16).foldl (fun t f => if k.kind f.val != 0 && k.fnRec f.val 6 1 == i.val then t.fnReset f else t) s).onSafety fun k =>
      { k with headStop := k.headStop &&& ~~~free })).pairsOut).stopBus

theorem resetRest_kept (s : State) (k : Safety) (i : Fin 24) (free : BitVec 96) : SafeKept s (s.resetRest k i free) := by
  have hfns : SafeKept s ((List.finRange 16).foldl (fun t f => if k.kind f.val != 0 && k.fnRec f.val 6 1 == i.val then t.fnReset f else t) s) := by
    refine SafeKept.foldl (fun t f => ?_) _ s
    split
    · exact SafeKept.fnReset t f
    · exact SafeKept.refl t
  have hhead (t : State) : SafeKept t (t.onSafety fun k => { k with headStop := k.headStop &&& ~~~free }) := ⟨rfl, fun _ => rfl, rfl, rfl, rfl⟩
  have hout (t : State) : SafeKept t t.pairsOut := ⟨rfl, fun _ => rfl, rfl, rfl, rfl⟩
  exact (((hfns.trans (hhead _)).trans (SafeKept.foldl SafeKept.pairDrive _ _)).trans (hout _)).trans (SafeKept.stopBus _)

theorem execResetEdge_edge {s : State} {i : Fin 24} (hrun : s.safety.st = 2) (hedge : (s.safety.ins[i]).edge = true) :
    ∃ free, execResetEdge i s = .next (((List.finRange 8).foldl (State.pairReset s.safety i) (s.edgeTaken i)).resetRest s.safety i free) := by
  simp only [execResetEdge, hrun, hedge, ne_eq, not_true_eq_false, Bool.not_true, Bool.false_eq_true, or_self, if_false]
  exact ⟨_, rfl⟩

/-- A reset pulse clears the pair that names the input and has passed its test, and takes its edge. -/
theorem execResetEdge_clears {s : State} {i : Fin 24} {p : Fin 8} (hrun : s.safety.st = 2) (hedge : (s.safety.ins[i]).edge = true)
    (hen : bitOf (s.safety.pairRec p.val 0 1) 0 = true) (hnamed : s.safety.pairRec p.val 1 1 = i.val)
    (hpassed : (s.safety.pairs[p]).passed = true) : ∃ t, execResetEdge i s = .next t ∧ (t.safety.ins[i]).edge = false ∧
      (t.safety.pairs[p]).kind = 0 ∧ t.safety.cfg = s.safety.cfg ∧ t.safety.us = s.safety.us ∧ t.legal = s.legal := by
  obtain ⟨free, hrow⟩ := execResetEdge_edge hrun hedge
  have hstart : PairsReset (s.edgeTaken i) (s.edgeTaken i) := ⟨rfl, rfl, rfl, rfl, fun _ => .inl rfl⟩
  obtain ⟨hpairs, hkind⟩ := foldl_pairReset (s := s.edgeTaken i) hen hnamed hpassed hstart
  have hrest := resetRest_kept ((List.finRange 8).foldl (State.pairReset s.safety i) (s.edgeTaken i)) s.safety i free
  have htaken : ((s.edgeTaken i).safety.ins[i]).edge = false := congrArg SafeIn.edge (vmod_same ..)
  refine ⟨_, hrow, ?_, (hrest.kinds p).trans hkind, hrest.cfg.trans hpairs.cfg, hrest.us.trans hpairs.us, hrest.legal.trans hpairs.legal⟩
  rw [hrest.ins, hpairs.ins]
  exact htaken

/-- A reset input of a function that stays 1 for 3 s is stuck (R510). -/
theorem execResetStuck_function {s : State} {i : Fin 24} {f : Fin 16} {at_ : Nat} (hrun : s.safety.st = 2) (hkind : s.safety.kind f.val ≠ 0)
    (hnamed : s.safety.fnRec f.val 6 1 = i.val) (hrose : (s.safety.ins[i]).roseAt = some at_) (hfilt : (s.safety.ins[i]).filt = true)
    (hstuck : (s.safety.ins[i]).stuck = false) (hdue : at_ + 3000000 ≤ s.safety.us) : execResetStuck i s =
      .next ((s.onSafety fun k => { k with ins := vmod k.ins i fun x => { x with stuck := true } }).raiseNow 506 0x0E05 i.val) := by
  have hresets : (List.range 16).any (fun f => s.safety.kind f != 0 && s.safety.fnRec f 6 1 == i.val) = true :=
    List.any_eq_true.2 ⟨f.val, List.mem_range.2 f.isLt, by simp [hkind, hnamed]⟩
  simp only [execResetStuck, hrose, hrun, hresets, Bool.true_or, hfilt, hstuck, Bool.not_false, hdue, and_self, if_true]

/-! Encoders and reports (R501, R502, R514, R515). -/

theorem execEncFault_bad {s : State} {n : Fin 4} (h : (s.safety.encs[n]).bad ≠ 0) : execEncFault n s =
    .next ((s.onSafety fun k => { k with encs := vmod k.encs n fun e => { e with bad := 0 } }).raiseNow 505 0x0E04
      (n.val + 2 ^ 2 * (s.safety.encs[n]).bad +
        2 ^ 16 * satN 16 ((s.safety.encs[n]).stamps.filter fun x => s.safety.us < x + 1000000).length)) := by
  simp only [execEncFault, h, if_false]

/-- The unit after a reference edge that moves the position of a channel, and what is measured from it (R502). -/
def Safety.referenced (k : Safety) (n : Fin 4) (i : Fin 24) (d : Int) : Safety :=
  let k1 : Safety := { k with ins := vmod k.ins i fun x => { x with rise := false } }
  { k1 with
    encs := vmod k1.encs n fun e => { e with pos := e.pos + d, refd := true, hist := e.hist.map (· + d) }
    fns := Vector.ofFn fun f => if k1.encOf f.val = some n then { k1.fns[f] with far := (k1.fns[f]).far + d } else k1.fns[f] }

theorem Safety.referenced_enc (k : Safety) (n : Fin 4) (i : Fin 24) (d : Int) :
    ((k.referenced n i d).encs[n]).pos = (k.encs[n]).pos + d ∧ ((k.referenced n i d).encs[n]).refd = true := by
  have henc : (k.referenced n i d).encs[n] = { k.encs[n] with pos := (k.encs[n]).pos + d, refd := true, hist := (k.encs[n]).hist.map (· + d) } :=
    vmod_same ..
  rw [henc]
  exact ⟨rfl, rfl⟩

theorem Safety.referenced_in (k : Safety) (n : Fin 4) (i : Fin 24) (d : Int) : ((k.referenced n i d).ins[i]).rise = false :=
  congrArg SafeIn.rise (vmod_same ..)

/-- A reference edge sets the position of a VALID channel, and takes the rise of its input. -/
theorem execEncReference_valid {s : State} {n : Fin 4} {i : Fin 24} (hrun : s.safety.st = 2) (hnamed : s.safety.encRec n.val 1 1 = i.val)
    (hrise : (s.safety.ins[i]).rise = true) (hen : bitOf (s.safety.encRec n.val 0 1) 0 = true) (hvalid : (s.safety.encs[n]).valid = true) :
    execEncReference n s =
      .next (s.onSafety fun k => k.referenced n i (sval 32 (s.safety.encRec n.val 4 4) - (s.safety.encs[n]).pos)) := by
  simp only [execEncReference, hrun, hnamed, i.isLt, dif_pos, Fin.eta, hrise, hen, and_self, if_true, hvalid, Bool.not_true, Bool.false_eq_true,
    if_false]
  rfl

theorem execSafetyStatus_reports {o : Origin} {s : State} (h : Serves o s) (hc : FromCourt o [0, 2]) :
    ∃ vals, execSafetyStatus o s = .next (s.repliedOk o 0x0E01
      ([8, 8, 16] ++ List.replicate 32 8 ++ List.replicate 16 8 ++ [24, 24, 24, 24, 8, 8, 8, 8, 8, 96, 16, 16, 32, 32, 32, 32])
      ([s.safety.st, s.safety.mon] ++ vals)) :=
  ⟨_, congrArg Host.Outcome.next (card_report h (by simp [hc]) rfl)⟩

theorem execEncRead_reports {o : Origin} {s : State} (h : Serves o s) (hc : FromCourt o [0, 2]) :
    execEncRead o s = .next (s.repliedOk o 0x0E02 ((List.replicate 4 [8, 24, 32, 32, 32, 64]).flatten) ((List.finRange 4).flatMap fun n =>
      [s.safety.encState n, 0, ubits 32 (s.safety.encs[n]).pos, ubits 32 (satI 32 (s.safety.speed n)), (s.safety.encs[n]).illegal,
       (s.safety.encs[n]).lastIllegal])) :=
  congrArg Host.Outcome.next (card_report h (by simp [hc]) rfl)

/-- The function of a state that a function's move left. -/
theorem fns_set_same {s : State} {f : Fin 16} {y : SafeFn} {e : EvtCtl} :
    ({ s with safety := { s.safety with fns := s.safety.fns.set f y }, evt := e } : State).safety.fns[f] = y := Vector.getElem_set_self ..

/-- Settles O45: a row of a function is one move of it (`fnGo_goes`), and a reset edge goes through the pairs before all that leaves them their
fault kinds (`resetRest_kept`). -/
theorem safetyFunctions : Obligations.SafetyFunctions := by
  unfold Obligations.SafetyFunctions
  refine ⟨fun s f at_ hrun hdiffer hlong hfault => ⟨_, execDiscrepancyTimeout_first hrun hdiffer hlong hfault, rfl, rfl, ?discrepancy⟩,
    fun s f hrun hst hdue hown hconn hauto => ⟨_, execStop1Expire_quiet hrun hst hdue hown hconn hauto, ?stopped⟩,
    fun s f c hrun hst hdue hown => ⟨_, execStop1Expire_demand hrun hst hdue hown, ?demanded⟩,
    fun s f at_ hrun hst hhand hdue hflag => ⟨_, execTwoHandWindowExpire_due hrun hst hhand hdue, ?hand⟩,
    fun s f hrun hst hdue hhealthy => ⟨_, execMuteLimit_due hrun hst hdue, ?muted⟩,
    fun s f hrun hst hdue hhealthy hflag => ⟨_, execMuteLimit_due hrun hst hdue, muteEnd_unhealthy hst hhealthy hflag⟩,
    fun s i p hrun hedge hen hnamed _ hpassed => execResetEdge_clears hrun hedge hen hnamed hpassed, fun s i hedge => execResetEdge_none hedge,
    fun s i f at_ hrun hkind hnamed hrose hfilt hstuck hdue => ⟨_, execResetStuck_function hrun hkind hnamed hrose hfilt hstuck hdue, rfl, rfl, ?stuck⟩,
    fun s n hbad => ⟨_, execEncFault_bad hbad, rfl, rfl, _, rfl⟩,
    fun s n i hrun hnamed hrise hen hvalid => ⟨_, execEncReference_valid hrun hnamed hrise hen hvalid, rfl, ?reference⟩,
    fun o s h hc => ?status, fun o s h hc => execEncRead_reports h hc⟩
  case discrepancy =>
    have hdata := Nat.mod_eq_of_lt (show s.safety.fnRec f.val 2 1 + 2 ^ 8 * 3 + 2 ^ 10 < 2 ^ 32 by have := fnRec_byte_lt s.safety f.val 2; omega)
    rw [State.raiseNow, hdata]
    rfl
  case stopped =>
    obtain ⟨y, d, hgo, hy, -, hsince, -⟩ := fnGo_goes (show (s.safety.fns[f]).st ≠ 4 by rw [hst]; decide) 0 0xFF
    rw [hgo, fns_set_same]
    exact ⟨rfl, hy, hsince, d, rfl⟩
  case demanded =>
    obtain ⟨y, d, hgo, hy, hcause, -⟩ := fnGo_goes (show (s.safety.fns[f]).st ≠ 3 by rw [hst]; decide) c 0xFF
    rw [hgo, fns_set_same]
    exact ⟨rfl, hy, hcause⟩
  case hand =>
    obtain ⟨y, d, hgo, hy, hcause, hyhand⟩ := fnDemand_goes (s := s.handGone f) hflag (by rw [handGone_fn, hst]; decide) 1
    rw [handGone_fn] at hyhand
    have hsame : ((s.handGone f).safety.fns.set f y)[f] = y := Vector.getElem_set_self ..
    rw [hgo]
    exact ⟨rfl, (congrArg SafeFn.st hsame).trans hy, (congrArg SafeFn.cause hsame).trans hcause, (congrArg SafeFn.hand hsame).trans hyhand, rfl⟩
  case muted =>
    obtain ⟨y, d, hend, hy, hcause⟩ := muteEnd_healthy hst hhealthy
    rw [hend, fns_set_same]
    exact ⟨rfl, hy, hcause, d, rfl⟩
  case stuck =>
    have hdata := Nat.mod_eq_of_lt (show i.val < 2 ^ 32 by omega)
    rw [State.raiseNow, hdata]
    rfl
  case reference =>
    obtain ⟨hpos, hrefd⟩ := Safety.referenced_enc s.safety n i (sval 32 (s.safety.encRec n.val 4 4) - (s.safety.encs[n]).pos)
    exact ⟨hpos.trans (by omega), hrefd, Safety.referenced_in ..⟩
  case status =>
    obtain ⟨vals, hrow⟩ := execSafetyStatus_reports h hc
    exact ⟨_, hrow, rfl⟩

end Sys2Proof.Machine

namespace Sys2Proof.Machine

/-! The twin link and the serve (spec file 22). -/

/-! The rules of the operations on the twin: what each leaves of the state. -/

/-- The pair state changes, and TWIN_STATE may be raised (R614). -/
theorem pairGo_eq (s : State) (st : PairState) (reason : Nat) : ∃ es, s.pairGo st reason =
    { s with twin := { s.twin with st := st }, evt := { s.evt with fresh := s.evt.fresh ++ es } } := by
  unfold State.pairGo
  split
  · next h =>
    subst h
    exact ⟨[], by rw [List.append_nil]⟩
  · exact ⟨[_], rfl⟩

/-- The twin differs in what is answered to the other one at most. -/
def TwinKept (s t : State) : Prop := ∃ r, t.twin = { s.twin with results := r }

namespace TwinKept

theorem of_eq {s t : State} (h : t.twin = s.twin) : TwinKept s t := ⟨s.twin.results, h⟩

theorem trans {s t u : State} (h : TwinKept s t) (k : TwinKept t u) : TwinKept s u := by
  obtain ⟨_, h⟩ := h
  obtain ⟨r, k⟩ := k
  exact ⟨r, by rw [k, h]⟩

theorem foldl {α : Type} {f : State → α → State} (hf : ∀ t x, TwinKept t (f t x)) (l : List α) (s : State) : TwinKept s (l.foldl f s) := by
  induction l generalizing s with
  | nil => exact of_eq rfl
  | cons x l ih => exact (hf s x).trans (ih (f s x))

end TwinKept

theorem laneTouch_twin {b : BayId} {k : Link} {s t : State} (h : LaneTouch b k s t) : t.twin = s.twin := by
  rw [h.frame.1]

theorem meterRefresh_twin (s : State) (b : BayId) : (s.meterRefresh b).twin = s.twin := laneTouch_twin (meterRefresh_laneTouch s b)

theorem fwEnd_twinKept (s : State) (b : BayId) (fail : Option Nat) : TwinKept s (s.fwEnd b fail) := by
  unfold State.fwEnd
  split
  · exact .of_eq rfl
  · split
    · dsimp only
      split
      · obtain ⟨cs, r, h⟩ := answer_eq (({ s.onLink b (fun k => { k with fw := none }) with fwLoad := none } : State).consumeXfer _ _) _ _ _ 0 false _
        rw [h]
        exact ⟨r, rfl⟩
      · exact .of_eq rfl
    · exact .of_eq rfl

theorem laneDown_twinKept (s : State) (b : BayId) : TwinKept s (s.laneDown b) := by
  have hrefresh : TwinKept s ((s.onLink b (·.toDown s.now)).meterRefresh b) := .of_eq (meterRefresh_twin _ b)
  have hdown : ∀ broken, TwinKept s (cond broken (((s.onLink b (·.toDown s.now)).meterRefresh b).fwEnd b (some stFAIL))
      ((s.onLink b (·.toDown s.now)).meterRefresh b))
    | true => hrefresh.trans (fwEnd_twinKept _ b _)
    | false => hrefresh
  exact hdown _

theorem linkService_twin (s : State) (b : BayId) : (s.linkService b).twin = s.twin := by
  unfold State.linkService
  dsimp only
  split
  · exact meterRefresh_twin _ b
  · split
    · exact meterRefresh_twin _ b
    · rfl

theorem foldl_twin {α : Type} {f : State → α → State} (hf : ∀ t x, (f t x).twin = t.twin) (l : List α) (s : State) : (l.foldl f s).twin = s.twin := by
  induction l generalizing s with
  | nil => rfl
  | cons x l ih => exact (ih (f s x)).trans (hf s x)

/-- Lanes brought in line with the serve leave the twin (R618). -/
theorem lanesServe_twin (s : State) : s.lanesServe.twin = s.twin := by
  unfold State.lanesServe
  exact foldl_twin linkService_twin _ s

theorem lanesDown_twinKept (s : State) : TwinKept s s.lanesDown := by
  unfold State.lanesDown
  exact .foldl laneDown_twinKept _ s

/-- What a twin that yields discards is no part of the twin (R615). -/
theorem dropRunning_twinKept (s : State) : TwinKept s s.dropRunning := by
  obtain ⟨r, h⟩ := lanesDown_twinKept s
  exact ⟨r, by simp only [State.dropRunning, State.dropSettings, h]⟩

/-- Taking the serve (R615, R616, R620 to R622). -/
theorem takeServe_twin (s : State) (how epoch : Nat) (st : PairState) : (s.takeServe how epoch st).twin = { s.twin with
    server := true, epoch := epoch % 2 ^ 32, epochNext := 0, yieldSet := false, missBlocks := 0, missTwhb := 0, st := st } := by
  obtain ⟨es, h⟩ := pairGo_eq (s.onTwin fun w =>
    { w with server := true, epoch := epoch % 2 ^ 32, epochNext := 0, yieldSet := false, missBlocks := 0, missTwhb := 0 }) st 0
  rw [State.takeServe, lanesServe_twin, h]
  rfl

/-- Yielding the serve (R615). -/
theorem yieldServe_twin (s : State) (how : Nat) : ∃ r, (s.yieldServe how).twin = { s.twin with
    server := false, mirrors := [], xfers := [], todo := [], st := .paired, results := r } := by
  obtain ⟨r, hdrop⟩ := dropRunning_twinKept (s.onTwin fun w => { w with server := false, mirrors := [], xfers := [], todo := [] })
  obtain ⟨es, h⟩ := pairGo_eq (s.onTwin fun w => { w with server := false, mirrors := [], xfers := [], todo := [] }).dropRunning .paired 0
  refine ⟨r, ?_⟩
  rw [State.yieldServe, h, State.raiseNow, State.raise, hdrop]
  rfl

/-! Training and the link (R605, R613, R615). -/

theorem execTwinTrainingAnswer_last {s : State} {roundTrip turnPs : Nat} (hen : s.twin.en = true) (hdown : s.twin.linkUp = false)
    (hlast : s.twin.training = 15) {d : Nat} (hd : (s.twin.delaySum + (roundTrip - turnPs)) / 32 = d) :
    execTwinTrainingAnswer roundTrip turnPs true s = .next (
      let t := s.onTwin fun w => { w with
        training := 16, delaySum := s.twin.delaySum + (roundTrip - turnPs), delayPs := d % 2 ^ 32, linkBarred := decide (60000 < d) }
      if 60000 < d then t.twinLinkEvent false false true else t) := by
  subst hd
  simp only [execTwinTrainingAnswer, hen, hdown, hlast, State.onTwin]
  rfl

/-- The link is up, with what the peer tells of itself. -/
def State.linked (s : State) (p : PeerInfo) : State :=
  (s.onTwin fun w => { w with linkUp := true, peer := some p, missBlocks := 0, missTwhb := 0 }).twinLinkEvent true false false

theorem execTwinLinkUp_first {s : State} {p : PeerInfo} (hen : s.twin.en = true) (hdown : s.twin.linkUp = false)
    (hbar : s.twin.linkBarred = false) (hready : s.host.ready = true) (hpeer : p.ready = true) : execTwinLinkUp p s =
      .next ((((s.linked p).settleRoles p.server p.epoch).pairGo .paired 0).onTwin fun w => { w with holdLanes := false }) := by
  simp only [execTwinLinkUp, hen, hdown, hbar, hready, hpeer, Bool.not_false, Bool.and_self, if_true]
  rfl

theorem settleRoles_server {s : State} (hserver : s.twin.server = true) (peerEpoch : Nat) : s.settleRoles false peerEpoch = s := by
  simp only [State.settleRoles, hserver, Bool.and_false, Bool.not_true, Bool.false_and, Bool.false_eq_true, if_false]

theorem settleRoles_lower {s : State} {peerEpoch : Nat} (hserver : s.twin.server = true) (hlower : s.twin.epoch < peerEpoch) :
    s.settleRoles true peerEpoch = s.yieldServe 3 := by
  simp only [State.settleRoles, hserver, Bool.and_self, if_true, decide_eq_true hlower, Bool.true_or]

theorem execTwinResendTimeout_again {s : State} {cls seq : Nat} {x : TwinXfer} (hx : s.twin.xfers.find? (fun y => y.cls == cls && y.seq == seq) = some x)
    (hdue : x.sentAt + 8 ≤ s.now) (htries : x.tries < 3) : execTwinResendTimeout cls seq s = .next (s.onTwin fun w => { w with
      resends := bump 32 w.resends,
      xfers := w.xfers.map fun y => if y.cls = cls ∧ y.seq = seq then { y with tries := y.tries + 1, sentAt := s.now } else y }) := by
  simp only [execTwinResendTimeout, hx, hdue, htries, if_true]

/-! What a returner takes of its server (R607, R611, R619). -/

theorem paired_not_mirroring {s : State} (h : s.twin.st = .paired) : s.mirroring = false := by
  simp only [State.mirroring, h, show (PairState.paired == .joining) = false from rfl, show (PairState.paired == .inStep) = false from rfl,
    Bool.or_self, Bool.and_false]

theorem paired_not_inStep {s : State} (h : s.twin.st = .paired) : s.inStep = false := by
  simp only [State.inStep, h, show (PairState.paired == .inStep) = false from rfl]

/-- A returner that is paired takes note of its server's block and does no more. -/
theorem returnerBlock_paired {s : State} {k : Tcb} (h : s.twin.st = .paired) (hstate : k.state = 2) (wasIn : Nat) : s.returnerBlock k wasIn = s := by
  simp only [State.returnerBlock, h, hstate, show (2 : Nat) ≠ 3 by decide, and_false, if_false, paired_not_mirroring h, paired_not_inStep h,
    Bool.false_eq_true, false_and, reduceCtorEq]

theorem execTickControlBlock_paired {s : State} {k : Tcb} (acks : List (Nat × Nat)) (hen : s.twin.en = true) (hup : s.twin.linkUp = true)
    (hserver : s.twin.server = false) (hst : s.twin.st = .paired) (hcrc : k.crcOk = true) (hcycle : k.cycle ≤ 90) (hpeer : k.server = true)
    (hstate : k.state = 2) : execTickControlBlock k acks s = .next (s.blockNoted k acks) := by
  have hmasked : s.maskedIntake = false := by
    simp only [State.maskedIntake, paired_not_inStep hst, hst, show (PairState.paired == .joining) = false from rfl, Bool.false_and, Bool.or_self]
  have hvalid : s.blockValid k = true := by
    simp only [State.blockValid, hcrc, decide_eq_true hcycle, hmasked, Bool.not_false, Bool.true_or, Bool.and_self]
  have hnoted : (s.blockNoted k acks).twin.server = false := hserver
  simp only [execTickControlBlock, hen, hup, hvalid, hnoted, hpeer, Bool.and_self, if_true, Bool.false_and, Bool.false_eq_true, if_false,
    returnerBlock_paired (s := s.blockNoted k acks) hst hstate]

theorem execMirrorMessage_next {s : State} (hret : s.isReturner = true) (hst : s.inStep = true) (hup : s.twin.linkUp = true)
    (hseq : s.twin.mirrorSeq + 1 < 2 ^ 32) (tick : Nat) (input : MirrorInput) : execMirrorMessage (s.twin.mirrorSeq + 1) tick input s =
      .next (s.onTwin fun w => { w with
        mirrorSeq := s.twin.mirrorSeq + 1, mirrors := w.mirrors ++ [⟨s.twin.mirrorSeq + 1, tick, input, true, s.now⟩] }) := by
  have hen : s.twin.en = true := (Bool.and_eq_true_iff.1 hret).1
  have hmirror : s.mirroring = true := by rw [State.mirroring, hen, show (s.twin.st == .inStep) = true from hst, Bool.or_true, Bool.and_self]
  simp only [execMirrorMessage, hret, hmirror, hup, Nat.mod_eq_of_lt hseq, BEq.rfl, Bool.true_or, Bool.and_self, if_true]

/-- A first or second heartbeat that is missing in both ways is counted (R619). -/
theorem execHeartbeatCheck_missed {s : State} (hen : s.twin.en = true) (hserver : s.twin.server = false) (hst : s.twin.st = .inStep)
    (hblock : s.blockNow = none) : execHeartbeatCheck false s = .next (s.onTwin fun w => { w with
      missBlocks := s.twin.missBlocks + 1, missTwhb := s.twin.missTwhb + 1, missAt := s.now + 1, hbMissed := bump 32 w.hbMissed }) := by
  have hstep : (s.twin.en && !s.twin.server && s.twin.st != .alone && s.twin.st != .unpaired) = true := by
    rw [hen, hserver, hst]
    rfl
  simp only [execHeartbeatCheck, hstep, if_true, hblock, Option.isSome_none, Bool.false_eq_true, and_false, if_false]

/-! How the serve is taken and given (R620 to R622). -/

theorem execTakeover_third {s : State} (hen : s.twin.en = true) (hserver : s.twin.server = false) (hst : s.twin.st = .inStep)
    (hbar : s.twin.barred = false) (hblocks : 3 ≤ s.twin.missBlocks) (htwhb : 3 ≤ s.twin.missTwhb) : execTakeover s =
      .next ((s.takeServe 1 (s.twin.twinEpoch + 1) .alone).onTwin fun w => { w with
        linkUp := false, block := none, takeovers := bump 32 w.takeovers, lastTakeoverTick := s.now }) := by
  simp only [execTakeover, State.inStep, hen, hserver, hst, hbar, decide_eq_true hblocks, decide_eq_true htwhb, BEq.rfl, Bool.not_false,
    Bool.and_self, if_true]

section

variable {s : State} {apply : Nat} {o : Option Origin} (hset : s.twin.handover = some (apply, o)) (hdue : apply ≤ s.now) (hst : s.twin.st = .inStep)
include hset hdue hst

theorem execHandoverApply_server (hserver : s.twin.server = true) : execHandoverApply s =
    .next (((s.onTwin fun w => { w with handover := none }).onTwin fun w => { w with server := false, twinEpoch := (w.epoch + 1) % 2 ^ 32 }).raiseNow
      456 0x1102 (2 * 2 + 2 ^ 8 * (s.twin.epoch % 2 ^ 24))) := by
  simp only [execHandoverApply, hset, hdue, State.inStep, hst, BEq.rfl, and_self, if_true, hserver]

theorem execHandoverApply_returner (hserver : s.twin.server = false) : execHandoverApply s =
    .next ((s.onTwin fun w => { w with handover := none }).takeServe 2 (s.twin.twinEpoch + 1) .inStep) := by
  simp only [execHandoverApply, hset, hdue, State.inStep, hst, BEq.rfl, and_self, if_true, hserver, Bool.false_eq_true, if_false]

end

theorem execYieldTake_due {s : State} {k : Tcb} (hblock : s.twin.block = some k) (hen : s.twin.en = true) (hserver : s.twin.server = false)
    (hst : s.twin.st = .inStep) (hyields : k.yields = true) (hbar : s.twin.barred = false) (hdue : s.twin.blockTick ≤ s.now) :
    execYieldTake s = .next (s.takeServe 4 (k.epoch + 1) .paired) := by
  simp only [execYieldTake, hblock, State.inStep, hen, hserver, hst, hyields, hbar, decide_eq_true hdue, BEq.rfl, Bool.not_false, Bool.and_self,
    if_true]

/-! Step is left (R627). -/

/-- A server that leaves step, with the link up and no JOIN to answer, is PAIRED. -/
theorem leaveStep_server {s : State} (hmirror : s.mirroring = true) (hserver : s.twin.server = true) (hup : s.twin.linkUp = true)
    (hjoin : s.twin.joinOrigin = none) (reason : Nat) : s.leaveStep reason = (s.onTwin fun w => { w with
      lastReason := reason, leftAt := some s.now, joinPhase := 0, cuts := [], cutDone := [], recut := [] }).pairGo .paired reason := by
  have hret : s.isReturner = false := by rw [State.isReturner, hserver, Bool.not_true, Bool.and_false]
  simp only [State.leaveStep, hmirror, hret, hup, hjoin, Bool.false_eq_true, if_false, if_true]

theorem execMirrorAckTimeout_due {s : State} {m : Mirror} (hserver : s.twin.server = true) (hmirror : s.mirroring = true) (hm : m ∈ s.twin.mirrors)
    (hack : m.acked = false) (hdue : m.sentAt + 1000 ≤ s.now) : execMirrorAckTimeout s = .next (s.leaveStep 1) := by
  have hlate : s.twin.mirrors.any (fun x => !x.acked && x.sentAt + 1000 ≤ s.now) = true := List.any_eq_true.2 ⟨m, hm, by simp [hack, hdue]⟩
  simp only [execMirrorAckTimeout, hserver, hmirror, hlate, Bool.and_self, if_true]

/-- Settles O54: each row of the twin is a change of the twin's own state, and what it does to lanes, settings and answers leaves that state
(`takeServe_twin`, `yieldServe_twin`, `leaveStep_server`). -/
theorem twinLinkAndServe : Obligations.TwinLinkAndServe := by
  unfold Obligations.TwinLinkAndServe
  refine ⟨fun s roundTrip turnPs hen hdown hlast hsum => ⟨_, execTwinTrainingAnswer_last hen hdown hlast rfl, ?trained⟩,
    fun s roundTrip turnPs hen hdown hlast hsum => ⟨_, execTwinTrainingAnswer_last hen hdown hlast rfl, ?barred⟩,
    fun s p hen hdown hbar hready hpeer hserver hother => ⟨_, execTwinLinkUp_first hen hdown hbar hready hpeer, ?linked⟩,
    fun s p hen hdown hbar hready hpeer hserver hother hepoch => ⟨_, execTwinLinkUp_first hen hdown hbar hready hpeer, ?yielded⟩,
    fun s cls seq x hx hdue htries => ⟨_, execTwinResendTimeout_again hx hdue htries, rfl, rfl, rfl⟩,
    fun s k acks hen hup hserver hst hcrc hcycle hpeer hstate => ⟨_, execTickControlBlock_paired acks hen hup hserver hst hcrc hcycle hpeer hstate,
      rfl, if_pos hpeer, rfl, rfl, rfl⟩,
    fun s tick input hret hst hup hseq => ⟨_, execMirrorMessage_next hret hst hup hseq tick input, rfl, rfl, rfl⟩,
    fun s hen hserver hst hblock _ => ⟨_, execHeartbeatCheck_missed hen hserver hst hblock, rfl, rfl, rfl, rfl, rfl⟩,
    fun s hen hserver hst hbar hblocks htwhb => ⟨_, execTakeover_third hen hserver hst hbar hblocks htwhb, ?takeover⟩,
    fun s apply o hset hdue hst hserver => ⟨_, execHandoverApply_server hset hdue hst hserver, rfl, rfl, hst, rfl, _, rfl⟩,
    fun s apply o hset hdue hst hserver => ⟨_, execHandoverApply_returner hset hdue hst hserver, ?handover⟩,
    fun s k hblock hen hserver hst hyields hbar hdue => ⟨_, execYieldTake_due hblock hen hserver hst hyields hbar hdue, ?yieldTake⟩,
    fun s m hen hserver hst hm hack hdue hjoin hup => ?unacked⟩
  case trained =>
    have hshort : ¬ 60000 < (s.twin.delaySum + (roundTrip - turnPs)) / 32 := by omega
    dsimp only
    rw [if_neg hshort]
    exact ⟨rfl, rfl, Nat.mod_eq_of_lt (by omega), decide_eq_false hshort⟩
  case barred =>
    have hlong : 60000 < (s.twin.delaySum + (roundTrip - turnPs)) / 32 := by omega
    dsimp only
    rw [if_pos hlong]
    exact ⟨decide_eq_true hlong, _, rfl⟩
  case linked =>
    obtain ⟨es, hgo⟩ := pairGo_eq (s.linked p) .paired 0
    rw [hother, settleRoles_server (s := s.linked p) hserver, hgo]
    exact ⟨rfl, rfl, rfl, hserver, rfl, rfl⟩
  case yielded =>
    obtain ⟨r, hyield⟩ := yieldServe_twin (s.linked p) 3
    obtain ⟨es, hgo⟩ := pairGo_eq ((s.linked p).yieldServe 3) .paired 0
    rw [hother, settleRoles_lower (s := s.linked p) hserver hepoch]
    simp only [State.onTwin, hgo, hyield, and_true]
    rfl
  case takeover =>
    simp only [State.onTwin, takeServe_twin, and_self]
  case handover =>
    rw [takeServe_twin]
    exact ⟨rfl, rfl, rfl⟩
  case yieldTake =>
    rw [takeServe_twin]
    exact ⟨rfl, rfl⟩
  case unacked =>
    have hmirror : s.mirroring = true := by
      rw [State.mirroring, hen, hst]
      rfl
    obtain ⟨es, hgo⟩ := pairGo_eq (s.onTwin fun w => { w with
      lastReason := 1, leftAt := some s.now, joinPhase := 0, cuts := [], cutDone := [], recut := [] }) .paired 1
    refine ⟨_, execMirrorAckTimeout_due hserver hmirror hm hack hdue, ?_⟩
    rw [leaveStep_server hmirror hserver hup hjoin, hgo]
    exact ⟨rfl, rfl, rfl, hserver⟩

end Sys2Proof.Machine

namespace Sys2Proof.Machine

/-! Joining and forwarded commands (spec files 22 and 23). -/

/-! Joining (R624, R625, R627). -/

theorem execJoinPhaseDone_server {s : State} (items : List JoinItem) (hst : s.twin.st = .joining) (hphase : s.twin.joinPhase = 1)
    (hret : s.isReturner = false) : execJoinPhaseDone items s = .next { s with twin := { s.twin with joinPhase := 2 } } := by
  simp only [execJoinPhaseDone, hst, hphase, hret, le_refl, Nat.reduceLeDiff, and_self, if_true, Bool.false_eq_true, if_false, State.onTwin]

theorem execJoinPhaseDone_returner {s : State} (items : List JoinItem) (hst : s.twin.st = .joining) (hphase : s.twin.joinPhase = 2)
    (hret : s.isReturner = true) : execJoinPhaseDone items s =
      .next ((items.foldl State.joinItem s).onTwin fun w => { w with joinPhase := w.joinPhase + 1 }) := by
  simp only [execJoinPhaseDone, hst, hphase, hret, Nat.reduceLeDiff, and_self, if_true]

theorem execCutIn_due {s : State} {u : CutUnit} (hst : s.twin.st = .joining) (hphase : s.twin.joinPhase = 4)
    (hturn : s.twin.cutDone.length = unitKey u) (hgap : ∀ c ∈ s.twin.cuts, c.2 + 8 ≤ s.now) : execCutIn u s = .next (s.onTwin fun w => { w with
      cuts := (u, s.now) :: w.cuts.filter fun c => s.now < c.2 + 2, cutDone := if w.cutDone.contains u then w.cutDone else u :: w.cutDone,
      recut := w.recut.filter fun r => !((unitsOf r).getLast? == some u) }) := by
  have hall : s.twin.cuts.all (fun c => c.2 + 8 ≤ s.now) = true := List.all_eq_true.2 fun c hc => decide_eq_true (hgap c hc)
  simp only [execCutIn, hall, hst, hphase, hturn, BEq.rfl, Bool.and_self, if_true]

/-- A unit whose cut-in has begun is noted once. -/
theorem mem_cutDone (l : List CutUnit) (u : CutUnit) : u ∈ if l.contains u then l else u :: l := by
  split
  next h => exact List.contains_iff_mem.1 h
  · exact List.mem_cons_self

theorem execJoinTimeout_due {s : State} (hst : s.twin.st = .joining) (hdue : s.twin.joinStart + 500000 ≤ s.now) :
    execJoinTimeout s = .next (s.leaveStep 7) := by
  simp only [execJoinTimeout, hst, hdue, and_self, if_true]

theorem joinBurns_twin (s : State) : s.joinBurns.twin = s.twin := by
  have hburn (c : CourtId) (l : List Nat) (t : State) : (l.foldl (fun u _ => u.queueBurn (.joinGen c) none) t).twin = t.twin :=
    foldl_twin (f := fun u _ => u.queueBurn (.joinGen c) none) (fun _ _ => rfl) l t
  unfold State.joinBurns
  split
  · rfl
  · exact foldl_twin (fun t c => hburn c _ t) _ s

theorem execAutoRejoin_due {s : State} {at_ : Nat} (hleft : s.twin.leftAt = some at_) (hserver : s.twin.server = true) (hdue : at_ + 1000000 ≤ s.now)
    (hregion : s.twin.lastReason ≠ 5) (hleave : s.twin.lastReason ≠ 6) (hjoin : s.joinFails = none) :
    execAutoRejoin s = .next ((s.onTwin fun w => { w with leftAt := none }).joinStart none) := by
  have hholds : (s.onTwin fun w => { w with leftAt := none }).joinFails = none := hjoin
  simp only [execAutoRejoin, hleft, hserver, decide_eq_true hdue, bne_iff_ne.2 hregion, bne_iff_ne.2 hleave, Bool.and_self, if_true, hholds,
    Option.isNone_none]

/-- A join begins in the SETTINGS phase. -/
theorem joinStart_twin (s : State) (o : Option Origin) : (s.joinStart o).twin = { s.twin with
    joinPhase := 1, joinStart := s.now, joinOrigin := o, cuts := [], cutDone := [], recut := [], st := .joining } := by
  obtain ⟨es, hgo⟩ := pairGo_eq (s.joinBurns.onTwin fun w => { w with
    joinPhase := 1, joinStart := s.now, joinOrigin := o, cuts := [], cutDone := [], recut := [] }) .joining 0
  rw [State.joinStart, hgo]
  simp only [State.onTwin, joinBurns_twin]

/-! Forwarded commands (R656). -/

/-- The request of a forwarded command: at mailbox 2 of court 0, which no port reaches. -/
def forwardOrigin : Origin := { court := 0, mbx := 2, rsv := 0, late := false, badLen := false, hdr := 0 }

/-- A returner that carries out a forwarded command arms what it does for the next tick. -/
def State.forwardArmed (s : State) : State := s.onTwin fun w => { w with armAt := some (s.now + 1) }

/-- The fields of BOOT_STATUS, the position and the reserved bytes after it, as the payload brings them. -/
theorem runRequest_bootStatus {pos : Nat} (hpos : pos ≤ 1) (s : State) :
    runRequest forwardOrigin 0x1202 (leBytes pos 4) [] s = cardBootStatus forwardOrigin pos s := by
  interval_cases pos
  · rfl
  · rfl

/-- A card whose answer comes later, where its request is taken and passes. -/
theorem cardLater_pass {o : Origin} {s : State} {op : Nat} {lay : List Nat} {chk : State → List Chk} (body : State → State)
    (htake : s.canTake o.court o.mbx = true)
    (hpass : firstRefusal (reserved o :: (modeChecks (s.take o.court o.mbx op lay) op ++ chk (s.take o.court o.mbx op lay))) = none) :
    cardLater o op lay chk body s = body (s.take o.court o.mbx op lay) := by
  simp only [cardLater, htake, if_true, hpass]

/-- BOOT_STATUS of a returner that names itself, forwarded: it answers for itself. -/
theorem cardBootStatus_forwarded {s : State} (hret : s.isReturner = true) (harm : s.twin.armAt.isSome = true) (hpos : s.twin.pos ≤ 1)
    (hloader : s.inLoader = false) (hactive : s.courts[(0 : CourtId)].state = .active) (hidle : (s.mbox 0 2).running = none) :
    ∃ fs, cardBootStatus forwardOrigin s.twin.pos s = (s.take 0 2 0x1202 bootLayout).answer 0 2 stOK 0 false fs := by
  have htake : s.canTake 0 2 = true := by
    have hcourt : (s.courts[(0 : CourtId)].state == .active) = true := beq_iff_eq.2 hactive
    rw [State.canTake, if_pos harm, hcourt, hidle]
    rfl
  have hother (op : Nat) (lay : List Nat) : (s.take 0 2 op lay).namesOther s.twin.pos = false := by simp [State.namesOther]
  have hown (op : Nat) (lay : List Nat) : (s.take 0 2 op lay).mirrored forwardOrigin = false := by simp [State.mirrored, forwardOrigin]
  have hret' : (s.take 0 2 0x1202 bootLayout).isReturner = true := hret
  have hen : s.twin.en = true := (Bool.and_eq_true_iff.1 hret).1
  have hloader' : (s.take 0 2 0x1202 bootLayout).inLoader = false := hloader
  have hpass : firstRefusal (reserved forwardOrigin :: (modeChecks (s.take 0 2 0x1202 bootLayout) 0x1202 ++
      (permit forwardOrigin [0, 2] :: posChk s.twin.pos (s.take 0 2 0x1202 bootLayout) ::
        (if (s.take 0 2 0x1202 bootLayout).namesOther s.twin.pos then [] else [])))) = none := by
    simp [modeChecks, posChk, hret', hloader', harm, hen, hpos, forwardOrigin, reserved]
  refine ⟨withValues bootLayout (s.take 0 2 0x1202 bootLayout).bootValues, ?_⟩
  unfold cardBootStatus cardPos
  refine (cardLater_pass _ htake ?_).trans ?_
  · exact hpass
  · dsimp only [forwardOrigin] at *
    simp only [hown, hother, Bool.false_eq_true, if_false]
    rfl

/-- The answer to a forwarded command goes to the other twin. -/
theorem answer_forwarded (s : State) (op : Nat) (lay : List Nat) (st dt : Nat) (bulk : Bool) (fs : List Field) : ∃ msg,
    ((s.take 0 2 op lay).answer 0 2 st dt bulk fs).twin = { s.twin with results := s.twin.results ++ [msg] } ∧ msg.opcode = op := by
  have hrun : ((s.take 0 2 op lay).mbox 0 2).running = some ⟨op, (s.mbox 0 2).expectSeq, s.now, lay, 2⟩ := congrArg Mailbox.running (mbox_onMbx s 0 2 _)
  simp only [State.answer, hrun, if_true]
  exact ⟨_, rfl, rfl⟩

theorem execTwinForwardedCommand_bootStatus {s : State} (hret : s.isReturner = true) (hup : s.twin.linkUp = true) (hpos : s.twin.pos ≤ 1)
    (hloader : s.inLoader = false) (hactive : s.courts[(0 : CourtId)].state = .active) (hidle : (s.mbox 0 2).running = none) :
    ∃ fs, execTwinForwardedCommand 0x1202 (leBytes s.twin.pos 4) none s =
      .next (((s.forwardArmed.take 0 2 0x1202 bootLayout).answer 0 2 stOK 0 false fs).onTwin fun w => { w with armAt := none }) := by
  have hgroup : forwardable 0x1202 = true := rfl
  obtain ⟨fs, hcard⟩ := cardBootStatus_forwarded (s := s.forwardArmed) hret rfl hpos hloader hactive hidle
  refine ⟨fs, ?_⟩
  simp only [execTwinForwardedCommand, hret, hup, hgroup, Bool.and_self, if_true]
  rw [← forwardOrigin, runRequest_bootStatus hpos]
  exact congrArg (fun t => Host.Outcome.next (State.onTwin t fun w => { w with armAt := none })) hcard

/-- The answer to a request that came in through a port of this QN960 waits behind what its mailbox holds, and leaves the twin. -/
theorem answer_own_message {s : State} {c : CourtId} {m : MbxId} {r : Running} (hr : (s.mbox c m).running = some r) (hvia : r.via = 0)
    (st dt : Nat) (bulk : Bool) (fs : List Field) : (s.answer c m st dt bulk fs).twin = s.twin ∧
      ((s.answer c m st dt bulk fs).mbox c m).out = (s.mbox c m).out ++ [responseMsg r.opcode r.seq st dt bulk fs s.now] := by
  simp only [State.answer, hr, hvia]
  exact ⟨rfl, congrArg Mailbox.out (mbox_onMbx ..)⟩

theorem execTwinForwardResult_found {s : State} {opcode : Nat} {f : Forward} (hserver : s.twin.server = true) (hup : s.twin.linkUp = true)
    (hop : opcode ≠ 0x0E10) (hf : s.twin.forwards.find? (fun x => x.opcode == opcode) = some f) (st dt : Nat) (vals : List Nat) :
    execTwinForwardResult opcode st dt vals s = .next ((s.onTwin fun w => { w with forwards := w.forwards.erase f }).answer f.origin.court f.origin.mbx
      st dt false (withValues f.layout (vals ++ List.replicate f.layout.length 0))) := by
  simp only [execTwinForwardResult, hserver, hup, Bool.and_self, if_true, hop, if_false, hf]

theorem execTwinForwardTimeout_due {s : State} {f : Forward} (hf : s.twin.forwards.find? (fun x => x.sentAt + x.limit + 100000 ≤ s.now) = some f) :
    execTwinForwardTimeout s =
      .next ((s.onTwin fun w => { w with forwards := w.forwards.erase f }).refuse f.origin stTIMEOUT 0 f.layout) := by
  simp only [execTwinForwardTimeout, hf]

/-- Settles O55: a join changes the twin's own state, and a forwarded command is a card at mailbox 2 of court 0, whose answer is a result. -/
theorem twinJoin : Obligations.TwinJoin := by
  unfold Obligations.TwinJoin
  refine ⟨fun s items hst hphase hret => ⟨_, execJoinPhaseDone_server items hst hphase hret, rfl⟩,
    fun s n hst hphase hret => ⟨_, execJoinPhaseDone_returner [.tick n] hst hphase hret, rfl, congrArg (· + 1) hphase⟩,
    fun s u hst hphase hturn hgap => ⟨_, execCutIn_due hst hphase hturn hgap, rfl, List.mem_cons_self, mem_cutDone _ u⟩,
    fun s hst hen hdue hserver hjoin hup => ⟨_, execJoinTimeout_due hst hdue, ?timeout⟩,
    fun s at_ hleft hserver hdue hregion hleave hjoin => ⟨_, execAutoRejoin_due hleft hserver hdue hregion hleave hjoin, ?rejoin⟩,
    fun s hret hup hpos hloader hactive hidle => ?forwarded,
    fun s opcode st dt vals f r hserver hup hop hf hr hvia => ⟨_, execTwinForwardResult_found hserver hup hop hf st dt vals, ?result⟩,
    fun s f r hf hr hvia => ⟨_, execTwinForwardTimeout_due hf, ?late⟩⟩
  case timeout =>
    have hmirror : s.mirroring = true := by
      rw [State.mirroring, hen, hst]
      rfl
    obtain ⟨es, hgo⟩ := pairGo_eq (s.onTwin fun w => { w with
      lastReason := 7, leftAt := some s.now, joinPhase := 0, cuts := [], cutDone := [], recut := [] }) .paired 7
    rw [leaveStep_server hmirror hserver hup hjoin, hgo]
    exact ⟨rfl, rfl, rfl⟩
  case rejoin =>
    rw [joinStart_twin]
    exact ⟨rfl, rfl, rfl, rfl⟩
  case forwarded =>
    obtain ⟨fs, hrow⟩ := execTwinForwardedCommand_bootStatus hret hup hpos hloader hactive hidle
    obtain ⟨msg, hresult, hop⟩ := answer_forwarded s.forwardArmed 0x1202 bootLayout stOK 0 false fs
    exact ⟨_, msg, hrow, rfl, congrArg Twin.results hresult, hop, answer_running ..⟩
  case result =>
    obtain ⟨htwin, hout⟩ := answer_own_message (s := s.onTwin fun w => { w with forwards := w.forwards.erase f }) hr hvia st dt false
      (withValues f.layout (vals ++ List.replicate f.layout.length 0))
    exact ⟨congrArg Twin.forwards htwin, hout⟩
  case late =>
    obtain ⟨htwin, hout⟩ := answer_own_message (s := s.onTwin fun w => { w with forwards := w.forwards.erase f }) hr hvia stTIMEOUT 0 false
      (zeroFields f.layout)
    exact ⟨congrArg Twin.forwards htwin, hout⟩

end Sys2Proof.Machine

namespace Sys2Proof.Machine

/-! The boot and update commands (spec file 23). -/

/-! The boot record (R641). -/

theorem not_seqAfter_succ (x : Nat) : seqAfter x ((x + 1) % 2 ^ 32) = false := by
  simp only [seqAfter, Bool.and_eq_false_iff, bne_eq_false_iff_eq, decide_eq_false_iff_not]
  omega

theorem seqAfter_succ (x : Nat) : seqAfter ((x + 1) % 2 ^ 32) x = true := by
  simp only [seqAfter, Bool.and_eq_true, bne_iff_ne, ne_eq, decide_eq_true_eq]
  omega

/-- A boot record in force is what was written into the other copy with the next SEQ, whatever the copies held before. -/
theorem record_putRecord {k k' : Boot} {f : BootRec → BootRec} (hseq : ∀ r, (f r).seq = r.seq) (hcopies : k'.copies = (k.putRecord f).copies) :
    k'.record = { f k.record with seq := (k.record.seq + 1) % 2 ^ 32 } := by
  cases h0 : k.copies[(0 : Fin 2)] with
  | none => cases h1 : k.copies[(1 : Fin 2)] with
    | none =>
      have hrec : k.record? = none := by simp only [Boot.record?, h0, h1]
      simp_all [Boot.record, Boot.putRecord, Boot.record?, -Nat.reducePow]
    | some b =>
      have hrec : k.record? = some (1, b) := by simp only [Boot.record?, h0, h1]
      have hold := not_seqAfter_succ b.seq
      simp_all [Boot.record, Boot.putRecord, Boot.record?, -Nat.reducePow]
  | some a => cases h1 : k.copies[(1 : Fin 2)] with
    | none =>
      have hrec : k.record? = some (0, a) := by simp only [Boot.record?, h0, h1]
      have hnew := seqAfter_succ a.seq
      simp_all [Boot.record, Boot.putRecord, Boot.record?, -Nat.reducePow]
    | some b =>
      cases hlate : seqAfter b.seq a.seq with
      | true =>
        have hrec : k.record? = some (1, b) := by simp [Boot.record?, h0, h1, hlate]
        have hold := not_seqAfter_succ b.seq
        simp_all [Boot.record, Boot.putRecord, Boot.record?, -Nat.reducePow]
      | false =>
        have hrec : k.record? = some (0, a) := by simp [Boot.record?, h0, h1, hlate]
        have hnew := seqAfter_succ a.seq
        simp_all [Boot.record, Boot.putRecord, Boot.record?, -Nat.reducePow]

/-- What the record says of a slot once that was changed. -/
theorem slot_putSlot {k k' : Boot} {j : Fin 3} {f : SlotRec → SlotRec} (hcopies : k'.copies = (k.putSlot j f).copies) :
    k'.record.slots[j] = f k.record.slots[j] := by
  rw [record_putRecord (f := fun r => { r with slots := vmod r.slots j f }) (fun _ => rfl) hcopies]
  exact vmod_same ..

/-! The end of every session (R638): the boot state and the memory stay. -/

/-- The boot state and the memory. -/
def State.bootMem (s : State) : Boot × MemState := (s.boot, s.mem)

/-- A loop keeps what each of its steps keeps. -/
theorem foldl_keeps {α β : Type} {g : State → β} {f : State → α → State} (hf : ∀ t x, g (f t x) = g t) (l : List α) (s : State) :
    g (l.foldl f s) = g s := by
  induction l generalizing s with
  | nil => rfl
  | cons x l ih => exact (ih (f s x)).trans (hf s x)

theorem SessTouch.bootMem {b : BayId} {s t : State} (h : SessTouch b s t) : t.bootMem = s.bootMem := by
  obtain ⟨y, sl, l, rfl⟩ := h
  rfl

theorem sessTo_touch (s : State) (b : BayId) (st : SessSt) : SessTouch b s (s.sessTo b st) := by
  unfold State.sessTo
  extract_lets y x begins keep start s1 opened s2 s3
  have h1 : SessTouch b s s1 := .onBay ..
  have h2 : SessTouch b s s2 := by
    unfold s2
    cases opened
    · exact h1
    · exact (h1.trans (.onBay ..)).trans (.onBay ..)
  have h3 : SessTouch b s s3 := h2.trans (.onBay ..)
  split
  · exact .refl b s
  · split
    · split
      · exact h3
      · exact h3.trans (.onLegal ..)
    · exact h3.trans (sessOver_kept s3 b).1.touch
    · exact h3.trans (sessOver_kept s3 b).1.touch
    · exact h3.trans (.onBay ..)
    · exact h3

theorem sessEnd_touch (s : State) (b : BayId) (reason : Nat) : SessTouch b s (s.sessEnd b reason) := by
  unfold State.sessEnd
  extract_lets y x known s0 first replace s1
  have h0 : SessTouch b s s0 := .onBay ..
  have h1 : SessTouch b s s1 := h0.trans (.onBay ..)
  split
  · exact .refl b s
  · split
    · split
      · exact h0.trans (.onBay ..)
      · exact .refl b s
    · split
      · exact h1.trans (sessTo_touch ..)
      · split
        · exact h1.trans (sessTo_touch ..)
        · exact h1

theorem endSessions_bootMem (s : State) : s.endSessions.bootMem = s.bootMem := by
  unfold State.endSessions
  refine foldl_keeps (g := State.bootMem) (fun t b => ?_) _ s
  dsimp only
  split
  · rfl
  · exact ((sessEnd_touch t b 0x0E).trans (.onBay ..)).bootMem

/-- A server or an unpaired QN960 prepares a SOFT reset: its sessions end. -/
theorem softStart_bootMem {s : State} (hret : s.isReturner = false) (o : Option Origin) (trial : Bool) : (s.softStart o trial).bootMem =
    ({ s.boot with softWait := some ⟨s.now, trial, o, none⟩ }, s.mem) := by
  obtain ⟨hboot, hmem⟩ : s.endSessions.boot = s.boot ∧ s.endSessions.mem = s.mem := Prod.mk.inj (endSessions_bootMem s)
  simp only [State.softStart, hret, Bool.false_eq_true, if_false, State.bootMem, State.onBoot, hboot, hmem]

/-! A start of Myavat leaves what the host's bundle is, and its version (R645, R647). -/

/-- Whether a bundle from the host runs, its bytes and its major version. -/
def State.hostRun (s : State) : Bool × List Byte × Nat := (s.boot.fromHost, s.boot.hostImage, s.host.myMajor)

/-- Both branches keep it. -/
theorem ite_hostRun {c : Prop} [Decidable c] {s t u : State} (ht : t.hostRun = s.hostRun) (hu : u.hostRun = s.hostRun) :
    (if c then t else u).hostRun = s.hostRun := by
  split
  · exact ht
  · exact hu

section

variable (s : State)

@[simp] theorem raiseNow_hostRun (n code d : Nat) : (s.raiseNow n code d).hostRun = s.hostRun := rfl

@[simp] theorem raise_hostRun (e : Ev) : (s.raise e).hostRun = s.hostRun := rfl

@[simp] theorem onTwin_hostRun (f : Twin → Twin) : (s.onTwin f).hostRun = s.hostRun := rfl

@[simp] theorem twinLater_hostRun (d : TwinDo) (o : Option Origin) : (s.twinLater d o).hostRun = s.hostRun := rfl

@[simp] theorem onFaults_hostRun (f : Faults → Faults) : (s.onFaults f).hostRun = s.hostRun := rfl

@[simp] theorem onCell_hostRun (c : CellId) (f : CellRec → CellRec) : (s.onCell c f).hostRun = s.hostRun := rfl

@[simp] theorem onBlock_hostRun (n : Nat) (f : BlockRec → BlockRec) : (s.onBlock n f).hostRun = s.hostRun := rfl

@[simp] theorem onRegion_hostRun (r : RegionId) (f : Region → Region) : (s.onRegion r f).hostRun = s.hostRun := rfl

@[simp] theorem onBay_hostRun (b : BayId) (f : Bay → Bay) : (s.onBay b f).hostRun = s.hostRun := rfl

@[simp] theorem sbNote_hostRun (r : SbRec) : (s.sbNote r).hostRun = s.hostRun := rfl

@[simp] theorem sbCell_hostRun (c : CellId) (tick code d0 d1 : Nat) : (s.sbCell c tick code d0 d1).hostRun = s.hostRun := rfl

@[simp] theorem cellFault_hostRun (c : CellId) (tick phys cause : Nat) (cov : Bool) : (s.cellFault c tick phys cause cov).hostRun = s.hostRun := rfl

@[simp] theorem faultCount_hostRun (i : Fin 9) : (s.faultCount i).hostRun = s.hostRun := rfl

end

theorem LegalTouch.hostRun {s t : State} (h : LegalTouch s t) : t.hostRun = s.hostRun := by
  obtain ⟨l, es, rfl⟩ := h
  rfl

theorem meterRefresh_hostRun (s : State) (b : BayId) : (s.meterRefresh b).hostRun = s.hostRun := by
  rw [(meterRefresh_laneTouch s b).frame.1]
  rfl

theorem answer_hostRun (s : State) (c : CourtId) (m : MbxId) (st dt : Nat) (bulk : Bool) (fs : List Field) :
    (s.answer c m st dt bulk fs).hostRun = s.hostRun := by
  obtain ⟨cs, r, h⟩ := answer_eq s c m st dt bulk fs
  rw [h]
  rfl

theorem fwEnd_hostRun (s : State) (b : BayId) (fail : Option Nat) : (s.fwEnd b fail).hostRun = s.hostRun := by
  unfold State.fwEnd
  split
  · rfl
  · split
    · dsimp only
      split
      · exact answer_hostRun ..
      · rfl
    · rfl

theorem laneDown_hostRun (s : State) (b : BayId) : (s.laneDown b).hostRun = s.hostRun := by
  have hrefresh : ((s.onLink b (·.toDown s.now)).meterRefresh b).hostRun = s.hostRun := meterRefresh_hostRun ..
  have hdown : ∀ broken, (cond broken (((s.onLink b (·.toDown s.now)).meterRefresh b).fwEnd b (some stFAIL))
      ((s.onLink b (·.toDown s.now)).meterRefresh b)).hostRun = s.hostRun
    | true => (fwEnd_hostRun ..).trans hrefresh
    | false => hrefresh
  exact hdown _

theorem pairGo_hostRun (s : State) (st : PairState) (reason : Nat) : (s.pairGo st reason).hostRun = s.hostRun := by
  obtain ⟨es, h⟩ := pairGo_eq s st reason
  rw [h]
  rfl

theorem lanesDown_hostRun (s : State) : s.lanesDown.hostRun = s.hostRun := by
  unfold State.lanesDown
  exact foldl_keeps (g := State.hostRun) laneDown_hostRun _ s

theorem leaveStep_hostRun (s : State) (reason : Nat) : (s.leaveStep reason).hostRun = s.hostRun := by
  unfold State.leaveStep
  extract_lets s1 s2 s3
  have h1 : s1.hostRun = s.hostRun := ite_hostRun (lanesDown_hostRun s) rfl
  have h3 : s3.hostRun = s.hostRun := (pairGo_hostRun ..).trans h1
  refine ite_hostRun ?_ rfl
  split
  · exact (answer_hostRun ..).trans h3
  · exact h3

theorem fatal_hostRun (s : State) (r : SbRec) : (s.fatal r).hostRun = s.hostRun := by
  unfold State.fatal
  exact ite_hostRun (by simp) (by simp)

@[simp] theorem closeLegal_hostRun (s : State) (b : BayId) (tick : Nat) : (s.closeLegal b tick).hostRun = s.hostRun := ite_hostRun rfl rfl

theorem regionFault_hostRun (s : State) (r : RegionId) (cause : Nat) : (s.regionFault r cause).hostRun = s.hostRun := by
  unfold State.regionFault
  extract_lets root s1 s2 _ s3 s4 s5 s6
  have h2 : s2.hostRun = s.hostRun := by simp [s2, s1, fatal_hostRun]
  have h3 : s3.hostRun = s.hostRun := h2
  have h4 : s4.hostRun = s.hostRun := ite_hostRun h3 (by simpa using h3)
  have h5 : s5.hostRun = s.hostRun := by
    refine (foldl_keeps (g := State.hostRun) (fun t b => ?_) _ s4).trans h4
    exact (closeLegal_hostRun ..).trans (meterRefresh_hostRun ..)
  have h6 : s6.hostRun = s.hostRun := (foldl_keeps (g := State.hostRun) laneDown_hostRun _ s5).trans h5
  exact ite_hostRun rfl (ite_hostRun (ite_hostRun (by simpa using h6) ((leaveStep_hostRun ..).trans h6)) h5)

theorem uncover_hostRun (s : State) (c : CellId) (tick cause why : Nat) : (s.uncover c tick cause why).hostRun = s.hostRun := by
  unfold State.uncover
  extract_lets phys s1 s2
  have h2 : s2.hostRun = s.hostRun := by simp [s2, s1]
  refine ite_hostRun rfl ?_
  cases c with
  | bay b off =>
    dsimp only
    exact ite_hostRun (by simp [h2]) (by simp [h2])
  | site r i => exact (regionFault_hostRun ..).trans h2

theorem retire_hostRun (s : State) (n : Nat) (places : List Nat) : (s.retire n places).hostRun = s.hostRun := by
  unfold State.retire
  extract_lets s0 r
  have h0 : s0.hostRun = s.hostRun := ite_hostRun rfl rfl
  refine (foldl_keeps (g := State.hostRun) (fun t q => ?_) _ s0).trans h0
  split
  · rfl
  · exact ite_hostRun rfl (uncover_hostRun ..)

theorem retireAll_hostRun (s : State) : s.retireAll.hostRun = s.hostRun := by
  unfold State.retireAll
  exact foldl_keeps (g := State.hostRun) (fun t n => ite_hostRun rfl (retire_hostRun ..)) _ (s.onBoot fun k => { k with loader := [] })

theorem startMasks_hostRun (s : State) : s.startMasks.hostRun = s.hostRun := by
  unfold State.startMasks
  refine foldl_keeps (g := State.hostRun) (fun t c => ?_) _ s
  rfl

theorem initLegal_legalTouch (s : State) : LegalTouch s s.initLegal := by
  unfold State.initLegal
  extract_lets l _ _ s1 s2
  have h1 : LegalTouch s s1 := (LegalTouch.refl s).onLegal _
  have h2 : LegalTouch s s2 := .ite (h1.tamper ..) h1
  exact ((h2.log ..).tamper ..).raise _

theorem startLegal_legalTouch (s : State) (keep : Mirrored) : LegalTouch s (s.startLegal keep) := by
  unfold State.startLegal
  extract_lets _ s0 a b s1
  have h0 : LegalTouch s s0 := (LegalTouch.refl s).setLegal _
  have h1 : LegalTouch s s1 := .ite (((h0.onLegal _).tamper ..).log ..) (h0.trans (initLegal_legalTouch s0))
  exact .ite (h1.tamper ..) h1

theorem islandStart_hostRun (s : State) : s.islandStart.hostRun = s.hostRun := by
  unfold State.islandStart
  extract_lets isl keep s1 s2 s3
  have h1 : s1.hostRun = s.hostRun := (startLegal_legalTouch ..).hostRun
  have h2 : s2.hostRun = s.hostRun :=
    (foldl_keeps (g := State.hostRun) (fun t x => ((LegalTouch.refl t).tamper ..).hostRun) _ s1).trans h1
  exact ite_hostRun h2 (((LegalTouch.refl s2).tamper ..).hostRun.trans h2)

theorem myavatStart_hostRun (s : State) : s.myavatStart.hostRun = s.hostRun := by
  unfold State.myavatStart
  extract_lets cause q s1 r s2 s3 s4 s5 s6
  have h1 : s1.hostRun = s.hostRun := ((islandStart_hostRun _).trans (retireAll_hostRun _)).trans (startMasks_hostRun s)
  have h3 : s3.hostRun = s.hostRun := by simpa [s3, s2] using h1
  have h4 : s4.hostRun = s.hostRun := ite_hostRun (by simpa using h3) h3
  have h5 : s5.hostRun = s.hostRun := by
    refine (foldl_keeps (g := State.hostRun) (fun t x => ?_) _ s4).trans h4
    rfl
  have h6 : s6.hostRun = s.hostRun := ite_hostRun (by simpa using h5) h5
  exact h6

/-! What the cards change of the state. -/

/-- The state of an activated slot: it is on trial with one attempt (R653). -/
def State.onTrial (s : State) (j : Fin 3) (trialS : Nat) : State :=
  (s.onBoot fun k => k.putSlot j fun x => { x with st := .trial, attempts := 1, trialS := trialS }).updateState j 0 0

/-- The state of a trial that is confirmed, before the raises that follow (R654). -/
def State.confirmed (s : State) (j : Fin 3) : State := (s.onBoot fun k => { (k.putRecord fun r => { r with
  active := j.val, slots := vmod r.slots j fun x => { x with st := .confirmed } }) with trialEnd := none, trialRun := false }).updateState j 0 0

theorem fuseRaises_keys (s : State) (o : Option Origin) : ∃ k, s.fuseRaises o = { s with keys := k } := by
  have hraise (c : Prop) [Decidable c] (t : State) (f : BurnField) : ∃ k, (if c then t.queueBurn f o else t) = { t with keys := k } := by
    split
    · exact ⟨_, rfl⟩
    · exact ⟨_, rfl⟩
  unfold State.fuseRaises
  split
  · exact ⟨_, rfl⟩
  · extract_lets m g n f s1
    obtain ⟨k1, h1⟩ : ∃ k, s1 = { s with keys := k } := hraise ..
    simp only [List.foldl_cons, List.foldl_nil]
    obtain ⟨k2, h2⟩ := hraise (bitOf (leGet m 10 1) 0 ∧ leGet g 2 1 ≠ 0 ∧ leGet m 2 1 ≠ 0 ∧ !f.revoked 0) s1 (.kfwRevoke 0)
    obtain ⟨k3, h3⟩ := hraise (bitOf (leGet m 10 1) 1 ∧ leGet g 2 1 ≠ 1 ∧ leGet m 2 1 ≠ 1 ∧ !f.revoked 1) { s1 with keys := k2 } (.kfwRevoke 1)
    rw [h2, h3, h1]
    exact ⟨k3, rfl⟩

/-- The transfer whose bytes were discarded is not held. -/
theorem xfer?_consumeXfer (s : State) (c : CourtId) (x : Nat) : (s.consumeXfer c x).xfer? c x = none := by
  have hcourt : (s.consumeXfer c x).courts[c].inXfers = s.courts[c].inXfers.filter (·.number != x) := by
    simp [State.consumeXfer, State.onCourt]
  rw [State.xfer?, hcourt, List.find?_eq_none]
  intro d hd
  have hne := (List.mem_filter.1 hd).2
  simp_all

theorem beginWrite_xfer? (s : State) (o : Option Origin) (j : Fin 3) (img : List Byte) (fwd golden : Bool) (c : CourtId) (x : Nat) :
    (s.beginWrite o j img fwd golden).xfer? c x = s.xfer? c x := rfl

/-- A slot being written is EMPTY (R651). -/
theorem beginWrite_slot (s : State) (o : Option Origin) (j : Fin 3) (img : List Byte) (fwd : Bool) :
    (s.beginWrite o j img fwd false).boot.record.slots[j] = .empty := slot_putSlot (k := s.boot) (f := fun _ => .empty) rfl

/-! The cards of an unpaired QN960, whose POS is 0 (R656). -/

section

variable {o : Origin} {s : State} (h : Serves o s) (hen : s.twin.en = false)
include hen

theorem posChk_unpaired (op : Nat) (lay : List Nat) : posChk 0 (s.take o.court o.mbx op lay) = none := by
  have htwin : (s.take o.court o.mbx op lay).twin.en = false := hen
  simp only [posChk, htwin]
  rfl

theorem namesOther_unpaired (op : Nat) (lay : List Nat) : (s.take o.court o.mbx op lay).namesOther 0 = false := by
  have htwin : (s.take o.court o.mbx op lay).twin.en = false := hen
  rw [State.namesOther, htwin, Bool.false_and]

theorem isReturner_unpaired : s.isReturner = false := by
  rw [State.isReturner, hen, Bool.false_and]

theorem mirrored_unpaired (op : Nat) (lay : List Nat) : (s.take o.court o.mbx op lay).mirrored o = false := by
  have hret : (s.take o.court o.mbx op lay).isReturner = false := isReturner_unpaired hen
  rw [State.mirrored, hret, Bool.false_and, Bool.false_and]

include h

theorem cardPos_run {op : Nat} {lay : List Nat} (limit : Nat) {checks : State → List Chk} (body : State → State)
    (hcourt : FromCourt o (if op = 0x1202 then [0, 2] else [0])) (hpass : firstRefusal (checks (s.take o.court o.mbx op lay)) = none) :
    cardPos o op limit 0 lay checks body s = body (s.take o.court o.mbx op lay) := by
  unfold cardPos
  refine (cardLater_run h op lay _ _ ?_).trans ?_
  · rw [firstRefusal_cons, firstRefusal_cons, namesOther_unpaired hen]
    exact ⟨(permit_none ..).2 hcourt, posChk_unpaired hen op lay, hpass⟩
  · simp only [mirrored_unpaired hen, namesOther_unpaired hen, Bool.false_eq_true, if_false]

theorem execSysReset_waits (hc : FromCourt o [0]) : ∃ t, execSysReset o 0 s = .next t ∧
    t.bootMem = ({ s.boot with softWait := some ⟨s.now, false, some o, none⟩ }, s.mem) := by
  refine ⟨_, congrArg Host.Outcome.next (cardPos_run h hen 3000000 _ hc rfl), ?_⟩
  exact softStart_bootMem (s := s.take o.court o.mbx 0x1201 [64]) (isReturner_unpaired hen) (some o) false

theorem execBootStatus_reports (hc : FromCourt o [0, 2]) : execBootStatus o 0 s = .next (s.repliedOk o 0x1202 bootLayout s.bootValues) := by
  refine congrArg Host.Outcome.next ((cardPos_run h hen (op := 0x1202) 10000 _ hc rfl).trans ?_)
  exact take_answer h.1 h.2.1 o rfl rfl 0x1202 bootLayout stOK 0 false (withValues bootLayout s.bootValues)

/-- A verified bundle of an inbound transfer is written into the target slot, and its bytes are discarded (R651, R662). -/
theorem cardBundleWrite_begins {flags transfer : Nat} (hc : FromCourt o [0]) (hflags : flags < 2) (hbar : s.writeBarred = false)
    (hx : (s.xfer? o.court transfer).isSome = true) (hcode : s.bundleCode true (s.xferData o.court transfer) = 0) :
    cardBundleWrite o 0 0 flags transfer s = ((s.take o.court o.mbx 0x1210 bundleLayout).consumeXfer o.court transfer).beginWrite (some o)
      s.boot.target (s.xferData o.court transfer) (bitOf flags 0) false := by
  have hdata : (s.take o.court o.mbx 0x1210 bundleLayout).xferData o.court transfer = s.xferData o.court transfer := by
    rw [State.xferData, take_xfer?, State.xferData]
  have hbar' : (s.take o.court o.mbx 0x1210 bundleLayout).writeBarred = false := hbar
  have hcode' : (s.take o.court o.mbx 0x1210 bundleLayout).bundleCode true (s.xferData o.court transfer) = 0 := hcode
  refine (cardPos_run h hen (op := 0x1210) 60000000 _ hc (by simp [hflags, hbar', take_xfer?, hx])).trans ?_
  simp only [hdata, hcode', ne_eq, not_true_eq_false, if_false]
  rfl

/-- The running slot, ACTIVE and CONFIRMED, is copied to golden, whose record stays as it is until the copy is done (R651). -/
theorem cardBundleGoldenCopy_begins {flags : Nat} {j : Fin 3} (hc : FromCourt o [0]) (hflags : flags < 2) (hbar : s.writeBarred = false)
    (hrun : s.boot.runSlot = some j) (hactive : j = s.boot.record.activeSlot) (hconf : s.boot.record.slots[j].st = .confirmed)
    (hcode : s.bundleCode true s.boot.images[j] = 0) : cardBundleGoldenCopy o 0 flags 0 s =
      (s.take o.court o.mbx 0x1210 bundleLayout).beginWrite (some o) 0 s.boot.images[j] (bitOf flags 0) true := by
  have hbar' : (s.take o.court o.mbx 0x1210 bundleLayout).writeBarred = false := hbar
  have hboot : (s.take o.court o.mbx 0x1210 bundleLayout).boot = s.boot := rfl
  have hcode' : (s.take o.court o.mbx 0x1210 bundleLayout).bundleCode true s.boot.images[j] = 0 := hcode
  have hslot : (j == s.boot.record.activeSlot && s.boot.record.slots[j].st == .confirmed) = true := by rw [← hactive, hconf, BEq.rfl]; rfl
  refine (cardPos_run h hen (op := 0x1210) 60000000 _ hc ?_).trans ?_
  · simp only [hflags, hbar', hboot, hrun, hslot, firstRefusal_cons, rng_none, need_none, firstRefusal_nil]
    decide
  · simp only [hboot, hrun, hcode', ne_eq, not_true_eq_false, if_false]

theorem execUpdateActivate_starts {trialS : Nat} (hc : FromCourt o [0]) (hmin : 60 ≤ trialS) (hmax : trialS ≤ 86400)
    (hstaged : s.boot.record.slots[(2 : Fin 3)].st = .staged) :
    execUpdateActivate o 0 2 trialS s = .next (((s.take o.court o.mbx 0x1211 [64]).onTrial 2 trialS).softStart (some o) true) := by
  have hstaged' : ((s.take o.court o.mbx 0x1211 [64]).boot.record.slots[(2 : Fin 3)].st == .staged) = true := beq_iff_eq.2 hstaged
  have hzero : ¬ trialS = 0 := by omega
  refine congrArg Host.Outcome.next ((cardLater_run h 0x1211 [64] _ _ ?_).trans ?_)
  · simp only [firstRefusal_cons, posChk_unpaired hen, namesOther_unpaired hen, need_none, rng_none, permit_none, hc, hmin, hmax, firstRefusal_nil,
      Bool.false_or, and_true, true_and]
    exact ⟨rfl, by simp, rfl, hstaged'⟩
  · simp only [mirrored_unpaired hen, namesOther_unpaired hen, Bool.false_eq_true, if_false, hzero]
    rfl

theorem execUpdateConfirm_confirms {hash : Nat} {j : Fin 3} (hc : FromCourt o [0]) (hrun : s.boot.runSlot = some j)
    (hhash : s.boot.record.slots[j].hash = hash) (htrial : s.boot.record.slots[j].st = .trial) (hcheck : s.boot.selfCheck = 1) :
    ∃ t, execUpdateConfirm o 0 hash s = .next t ∧ ∃ cs w k, t = { (s.take o.court o.mbx 0x1212 confirmLayout).confirmed j with
      courts := cs, twin := w, keys := k } := by
  have hboot : (s.take o.court o.mbx 0x1212 confirmLayout).boot = s.boot := rfl
  obtain ⟨k, hraise⟩ := fuseRaises_keys ((s.take o.court o.mbx 0x1212 confirmLayout).confirmed j) (some o)
  refine ⟨_, congrArg Host.Outcome.next (cardPos_run h hen (op := 0x1212) 100000 _ hc ?_), ?_⟩
  · simpa [hrun, hcheck] using ⟨hhash, htrial⟩
  · rw [State.confirmed] at hraise
    simp only [hboot, hrun, hraise]
    split
    · exact ⟨_, _, k, rfl⟩
    · obtain ⟨cs, r, hok⟩ := answer_eq ({ (s.take o.court o.mbx 0x1212 confirmLayout).confirmed j with keys := k }) o.court o.mbx stOK 0 false
        (withValues confirmLayout [thermometer k.fuses.fwSvn, 0])
      exact ⟨cs, _, k, hok⟩

end

/-- Myavat started with a bundle from the host runs that bundle. -/
theorem runBundle_myavatStart (s : State) (img : List Byte) :
    (s.runBundle img 0 true).myavatStart.hostRun = (true, img, leGet (bundleManifest img) 4 1) := myavatStart_hostRun _

/-- The loader takes a verified bundle from the host and starts it (R645, R661). -/
theorem cardBootHost_starts {o : Origin} {s : State} {transfer : Nat} (htake : s.canTake o.court o.mbx = true) (hheader : reserved o = none)
    (hret : s.isReturner = false) (hloader : s.inLoader = true) (hc : FromCourt o [0]) (hx : (s.xfer? o.court transfer).isSome = true)
    (hcode : s.bundleCode true (s.xferData o.court transfer) = 0) : cardBootHost o transfer s =
      ((((s.take o.court o.mbx 0x1203 [8, 24]).consumeXfer o.court transfer).ok o [8, 24] [0, 0]).runBundle
        (s.xferData o.court transfer) 0 true).myavatStart := by
  have hdata : (s.take o.court o.mbx 0x1203 [8, 24]).xferData o.court transfer = s.xferData o.court transfer := by
    rw [State.xferData, take_xfer?, State.xferData]
  have hret' : (s.take o.court o.mbx 0x1203 [8, 24]).isReturner = false := hret
  have hloader' : (s.take o.court o.mbx 0x1203 [8, 24]).inLoader = true := hloader
  have hcode' : (s.take o.court o.mbx 0x1203 [8, 24]).bundleCode true (s.xferData o.court transfer) = 0 := hcode
  refine (cardLater_pass (op := 0x1203) (lay := [8, 24]) _ htake ?_).trans ?_
  · simp [modeChecks, hheader, hret', hloader', hc, take_xfer?, hx]
  · simp only [hdata, hcode', ne_eq, not_true_eq_false, if_false]

theorem execUpdateSwap_waits {o : Origin} {s : State} {apply : Nat} (h : Serves o s) (hc : FromCourt o [0]) (happly : s.now + 1000 ≤ apply)
    (hfails : s.swapFails = none) (hnone : s.twin.swapAt = none) : execUpdateSwap o apply s =
      .next { s.take o.court o.mbx 0x1213 [64, 32] with twin := { s.twin with swapAt := some (apply, o) } } := by
  have hfails' : (s.take o.court o.mbx 0x1213 [64, 32]).swapFails = none := hfails
  exact congrArg Host.Outcome.next (cardLater_run h 0x1213 [64, 32] _ _ (by simp [hc, happly, hfails', hnone]))

/-- Settles O58: each card's checks pass; what its body writes into the boot record stands in the newest copy (`record_putRecord`), and ending
the sessions or starting Myavat leaves it. -/
theorem bootCards : Obligations.BootCards := by
  unfold Obligations.BootCards
  refine ⟨fun o s h hc hen => ?reset, fun o s h hc hen => execBootStatus_reports h hen hc,
    fun o s transfer htake _ hheader hret hloader hc hx => ⟨_, rfl, fun hcode => ?host⟩,
    fun o s flags transfer h hc hen hflags hbar hx => ⟨_, rfl, fun hcode => ?write⟩,
    fun o s flags j h hc hen hflags hbar hrun hactive hconf => ⟨_, rfl, fun hcode => ?golden⟩,
    fun o s trialS h hc hen hmin hmax hstaged => ?activate, fun o s hash j h hc hen hrun hhash htrial hcheck => ?confirm,
    fun o s apply h hc happly hfails hnone => ⟨_, execUpdateSwap_waits h hc happly hfails hnone, rfl⟩⟩
  case reset =>
    obtain ⟨t, hcard, hwait⟩ := execSysReset_waits h hen hc
    obtain ⟨hboot, hmem⟩ : t.boot = _ ∧ t.mem = s.mem := Prod.mk.inj hwait
    exact ⟨t, _, hcard, congrArg Boot.softWait hboot, rfl, rfl, rfl, rfl, hmem⟩
  case host =>
    rw [cardBootHost_starts htake hheader hret hloader hc hx hcode]
    obtain ⟨hfrom, hrest⟩ := Prod.mk.inj (runBundle_myavatStart (((s.take o.court o.mbx 0x1203 [8, 24]).consumeXfer o.court transfer).ok o [8, 24]
      [0, 0]) (s.xferData o.court transfer))
    exact ⟨hfrom, Prod.mk.inj hrest⟩
  case write =>
    rw [cardBundleWrite_begins h hen hc hflags hbar hx hcode]
    exact ⟨rfl, congrArg SlotRec.st (beginWrite_slot ..), (beginWrite_xfer? ..).trans (xfer?_consumeXfer ..), rfl, rfl⟩
  case golden =>
    rw [cardBundleGoldenCopy_begins h hen hc hflags hbar hrun hactive hconf hcode]
    exact ⟨rfl, rfl⟩
  case activate =>
    obtain ⟨hboot, -⟩ := Prod.mk.inj (softStart_bootMem (s := (s.take o.court o.mbx 0x1211 [64]).onTrial 2 trialS) (isReturner_unpaired hen) (some o) true)
    have hslot := slot_putSlot (k := s.boot) (j := 2) (f := fun x => { x with st := .trial, attempts := 1, trialS := trialS })
      ((congrArg Boot.copies hboot).trans rfl)
    exact ⟨_, _, execUpdateActivate_starts h hen hc hmin hmax hstaged, congrArg SlotRec.st hslot, congrArg SlotRec.attempts hslot,
      congrArg SlotRec.trialS hslot, congrArg Boot.softWait hboot, rfl, rfl⟩
  case confirm =>
    obtain ⟨t, hcard, cs, w, k, rfl⟩ := execUpdateConfirm_confirms h hen hc hrun hhash htrial hcheck
    have hrecord := record_putRecord (k := s.boot) (k' := (s.confirmed j).boot)
      (f := fun r => { r with active := j.val, slots := vmod r.slots j fun x => { x with st := .confirmed } }) (fun _ => rfl) rfl
    refine ⟨_, hcard, ?_, congrArg BootRec.active hrecord, rfl, rfl, rfl⟩
    have hslot : (s.confirmed j).boot.record.slots[j] = { s.boot.record.slots[j] with st := .confirmed } := by
      rw [hrecord]
      exact vmod_same ..
    exact congrArg SlotRec.st hslot

end Sys2Proof.Machine
